-- ==== Sys2Proof/Word.lean ====
section
/-! DEFINITION. The word types: a register word, a byte, a 64-byte host-memory unit. -/

namespace Sys2Proof

/-- A 32-bit register word (every register of the manual is 32 bits wide). -/
abbrev Word := BitVec 32

/-- A byte of a memory. -/
abbrev Byte := BitVec 8

/-- 64 bytes of host memory, little-endian: a command descriptor (R166) or a submission entry
(R188).  Byte `k` is bits `8k+7 .. 8k`. -/
abbrev Unit64 := BitVec 512

/-- A table by key: pairs in strictly rising key order, no entry equal to what an unlisted key
reads as (the canonical form; `Host.Cell` lists are the case of a byte memory). -/
abbrev SMap (α : Type) := List (Nat × α)

end Sys2Proof
end

