-- ==== Sys2Proof/Syntax.lean ====
section
/-! DEFINITION. The commands: one constructor of `Instr` per row of spec/opcode_table.json, with
the operands this model gives it (the table gives none): which unit, which path, and what the
outside world supplies with the step (a measurement, a host-memory unit, a flit's fields, the
outcome of a check whose keys or bitstreams the model does not compute). -/

namespace Sys2Proof

abbrev Part := Fin 16
abbrev Cluster := Fin 100
abbrev CoreIx := Fin 17
abbrev LinkIx := Fin 10
abbrev Node := Fin 16
abbrev BindIx := Fin 16
abbrev CtxIx := Fin 40960
abbrev SpoolIx := Fin 1024
abbrev EngineIx := Fin 32
abbrev BoltIx := Fin 256
abbrev HomeGroup := Fin 16
abbrev BankGroup := Fin 128

/-- A physical core: partition, cluster, core 0-16 (02_core_array). -/
structure CoreId where
  part : Part
  cluster : Cluster
  core : CoreIx
  deriving DecidableEq, Repr

/-- The access paths (R9). -/
inductive Path where
  | host | bar2 | smbus | horizon | firmware
  deriving DecidableEq, Repr

/-- The device's registers, by the manual's names (the register tables of the chapters; the
select registers of R8).  A LO/HI pair is two names; a run of numbered registers is one name. -/
inductive Reg where
  | PART_SEL | CTX_SEL | SPOOL_SEL | LINK_SEL | PART_STATE | PART_LEASE_OWNER | PART_CLUSTERS_OK
  | PART_GEN | PART_FAULT_CTX | PART_CAP_FRACTION | PART_THROTTLE | PART_ENERGY_LO
  | PART_ENERGY_HI | PART_CTRL | PART_SWEEP_STATUS | PART_REPAIR | PART_CL_INDEX | PART_CL_DATA
  | PART_CL_RETIRED | PART_CL_PENDING | PART_ARITH_STATUS | PART_ARITH_CTRL | BEAM_SUMMARY
  | BEAM_ECC | BEAM_SPARES | BEAM_BOLT_INDEX | BEAM_BOLT_DATA | BEAM_LEASE_VIOL | HDM_CFG
  | HDM_STATUS | HBM_GRP_EXTENTS | HBM_GRP_KEYS | HBM_GRP_ECC | HBM_GRP_REPAIR | HBM_GRP_STATE
  | HBM_EXT_INDEX | HBM_EXT_DATA | CTX_DELTA_POLICY | CTX_REFRESH_EVERY | CTX_DELTA_STATUS
  | CTX_DELTA_SEQ | CTX_DELTA_TILES_LO | CTX_DELTA_TILES_HI | CTX_DELTA_SKIPPED_LO
  | CTX_DELTA_SKIPPED_HI | CMD_ADDR_LO | CMD_ADDR_HI | CMD_GO | CMD_STATUS | CMD_MISSING0
  | CMD_MISSING1 | CMD_RESULT | CTX_STATE | CTX_BUNDLE | CTX_SPOOL | CTX_DEADLINE_US
  | CTX_FRAMES_DONE | CTX_FRAMES_LATE | CTX_FRAMES_FAILED | CTX_SHADOW | CTX_LAST_AGE | CTX_SPILL
  | SPOOL_BASE_LO | SPOOL_BASE_HI | SPOOL_CQ_BASE_LO | SPOOL_CQ_BASE_HI | SPOOL_SIZE | SPOOL_HEAD
  | SPOOL_TAIL | SPOOL_CQ_HEAD | SPOOL_CQ_TAIL | SPOOL_OWNER | SPOOL_ENERGY_LO | SPOOL_ENERGY_HI
  | SPOOL_STATUS | DEC_FREE | DEC_JPEG_FREE | DEC_INDEX | DEC_DATA | CTX_DECODE | CTX_INPUT
  | WEFT_CFG | WEFT_LINK_STATE | WEFT_LINK_ERR | WEFT_LINK_UNITS | WEFT_ROUTE_INDEX
  | WEFT_ROUTE_DATA | WEFT_BIND_INDEX | WEFT_JOB_STATE | WEFT_JOB_PEERS | WEFT_ACCEPT | WEFT_VIOL
  | CTX_SHADOW_STATUS | HOST_LINK | HOST_ERR | HOST_EVQ_BASE_LO | HOST_EVQ_BASE_HI
  | HOST_EVQ_SIZE | HOST_BIAS_INDEX | HOST_BIAS_DATA | SPOOL_IRQ | HOST_STATUS | HOST_EVQ_HEAD
  | HOST_EVQ_TAIL | FW_STATE | FW_IDENT_VER | FW_LOAD_ADDR_LO | FW_LOAD_ADDR_HI | FW_LOAD_LEN
  | FW_LOAD | FW_STAGE | FW_ACTIVATE | FW_RESULT | FW_RESTARTS | FW_LOG_BASE_LO | FW_LOG_BASE_HI
  | FW_LOG_SIZE | FW_LOG_HEAD | FW_LOG_TAIL | FW_TRACE_EN | FW_IDENT_DIGEST | SEC_STATUS
  | SEC_AUTH | PRES_CMD | PRES_STATUS | PRES_GRANT | PRES_DATA | PRES_RESULT | STW_STATUS
  | STW_CONFLICTS | DRAFT_STG_ADDR | DRAFT_STG_DATA | DRAFT_CTRL | HZN_STATUS | HZN_RQ_CTRL
  | HZN_RQ_STATUS | HZN_RQ_BUF | TH_SUMMARY | TH_NODE_STATUS | TH_NODE_THERMAL | TH_NODE_POWER
  | MBX_CTRL | MBX_STATUS | MBX_DATA | SMB_STATUS | HSW_SEL | HSW_STATE | HSW_MEAS | HSW_TRIPS
  | HSW_CTRL | PWR_INPUT | PWR_FET | PWR_FRONT | PWR_VCH_INDEX | PWR_VCH_DATA | PWR_RAIL_INDEX
  | PWR_RAIL_DATA | PWR_RAIL_IOUT | PWR_SEQ | PWR_CAP | PWR_CAP_STATUS | PWR_PKG | PWR_ENERGY_LO
  | PWR_ENERGY_HI | PWR_CORR | THM_STATUS | ZONE_SEL | THM_ZONE_TEMP | THM_ZONE_LIMITS
  | SENSOR_SEL | THM_SENSOR_DATA | PART_POWER | PART_GUST | FAN_SEL | FAN_STATUS | COOL_OVR
  | COOL_STATUS | PUMP_SEL | PUMP_STATUS | PUMP_FLOW | LEAK_STATUS | LEAK_OHM | FAULT_STATUS0
  | FAULT_STATUS1 | FAULT_STATUS2 | FAULT_STATUS3 | FAULT_FIRST_SRC | FAULT_OVF | FAULT_CLASSC
  | FAULT_ESC | PART_RECOVERY | LOG_INDEX | LOG_STATUS | LOG_PERM | LOG_SEQ | LOG_TIME
  | LOG_CYCLES | LOG_DATA | MSIX_TABLE
  | MSIX_PBA
  deriving DecidableEq, Repr

/-- What the ECC of a read found (R35, R102, R111). -/
inductive Ecc where
  | clean | corrected | uncorrectable
  deriving DecidableEq, Repr

/-- The matrix engine's and vector unit's element formats (R70, R77, R85). -/
inductive Fmt where
  | fp32 | bf16 | e4m3 | e5m2 | e2m1 | int8 | mxint8 | dq4 | ds24
  deriving DecidableEq, Repr

/-- A weight operand: its element format and whether it carries block scales (R69, R72). -/
structure OperandFmt where
  fmt : Fmt
  block : Bool
  deriving DecidableEq, Repr

/-- The two 8-bit floating-point element formats. -/
inductive Fp8 where
  | e4m3 | e5m2
  deriving DecidableEq, Repr

/-- The weight operands of a DQ4 pass (R69). -/
inductive DqWeight where
  | plain (w : Fp8) | mxfp8 (w : Fp8) | mxfp4
  deriving DecidableEq, Repr

/-- The operand pairs of the matrix engine: those of R69 and no others. -/
inductive PassPair where
  | fp8 (act w : Fp8) | mxfp8 (act w : Fp8) | mxfp8mxfp4 (act : Fp8) | mxfp4 | int8 | mxint8
  | dq4 (w : DqWeight) | bf16
  deriving DecidableEq, Repr

/-- One vector of a pass: element codes along K, and the E8M0 scale of its block (not looked at for
an operand without block scales). -/
structure PassVec where
  codes : List Nat
  scale : Nat
  deriving DecidableEq, Repr

/-- One pass (R69, R81): the activation vector and the weight columns, one per accumulator entry
from `entry` on. -/
structure Pass where
  pair : PassPair
  entry : Fin 1024
  act : PassVec
  cols : List PassVec
  deriving DecidableEq, Repr

/-- The element formats of an MX block (R75). -/
inductive MxFmt where
  | e4m3 | e5m2 | e2m1 | mxint8
  deriving DecidableEq, Repr

/-- Conversion instructions of R89 that are not block encodes and not DS24 writebacks; `scale` is
the block scale of a source with block scales (127, the scale of value 1, for the others). -/
inductive Conv where
  | toBf16 | toE4m3 | toE5m2 | toInt8 | ia32ToFp32 | toFp32 (src : Fmt) (scale : Nat)
  deriving DecidableEq, Repr

/-- Comparisons of the vector unit (R90). -/
inductive CmpOp where
  | lt | le | eq
  deriving DecidableEq, Repr

/-- The functions of R90 with an accuracy of 4 ulp. -/
inductive FnOp where
  | sigmoid | tanh | silu | gelu
  deriving DecidableEq, Repr

/-- Vector operations of R90. -/
inductive VOp where
  | add | sub | mul | fma | compare (op : CmpOp) | min | max | recip | rsqrt | div | sqrt
  | exp2 | log2 | fn (op : FnOp)
  deriving DecidableEq, Repr

/-- Who asks for a Beam access (R99, R101). -/
inductive Requester where
  | part (p : Part) | decoder (q : Fin 4) | io (q : Fin 4) | dma (q : Fin 4) | control
  deriving DecidableEq, Repr

/-- One Beam access: a 64 B line of a bolt, read or written (R101); `owner` is for whom an engine of
the device acts, a partition's is its lease owner; `ctx` is the context that queued a transfer; `ecc`
is what a read finds. -/
structure BeamReq where
  who : Requester
  owner : Nat
  bolt : BoltIx
  line : Fin 16384
  write : Option (List Byte)
  ecc : Ecc
  ctx : Option CtxIx
  deriving DecidableEq, Repr

/-- A bank of a channel of a home group, and a row of it (R113, R360). -/
structure HbmRow where
  chan : Fin 16
  bank : Fin 256
  row : Nat
  deriving DecidableEq, Repr

/-- A bank whose error level decays: a Beam bank, or a bank of an HBM channel (R103, R113). -/
inductive BankId where
  | beam (g : BankGroup) (bank : Fin 33)
  | hbm (g : HomeGroup) (chan : Fin 16) (bank : Fin 256)
  deriving DecidableEq, Repr

/-- Kinds of operations of a delta plan's chain (R133, R134). -/
inductive DeltaOpKind where
  | conv | depthwise | transposed | fullyConnected | bias | elementwise | averagePool | sum
  | concat | maxPool | softmax | normalisation | activationProduct | dataResample | topK
  deriving DecidableEq, Repr

/-- The element-wise function that follows a checkpoint layer (R133, R145). -/
inductive Activation where
  | none | relu | fn (op : FnOp)
  deriving DecidableEq, Repr

/-- One output element of a checkpoint layer: its terms (input element, weight code, E8M0 scale of the
weight's block), in the order in which passes of 32 take them, and the output tile it lies in. -/
structure OutElem where
  terms : List (Nat × Nat × Nat)
  tile : Nat
  deriving DecidableEq, Repr

/-- What a checkpoint layer reads: the input of a chain, or what an earlier layer of the plan gives. -/
inductive LayerInput where
  | chain (k : Nat) | layer (k : Nat)
  deriving DecidableEq, Repr

/-- A checkpoint layer of a delta plan (R133, R139-R145).  `tiles` lists the change tiles of its input,
each as DQ4 blocks of at most 32 input elements along the channels; `tau` is the plan's threshold
(FP32). -/
structure DeltaLayer where
  kind : DeltaOpKind
  weights : OperandFmt
  input : LayerInput
  tiles : List (List (List Nat))
  outs : List OutElem
  act : Activation
  tau : Word
  deriving DecidableEq, Repr

/-- A bundle's delta plan (R133-R136): the operations of its chains, its checkpoint layers, the number
of chains, the size of its regions in bytes, and the defaults that R159 takes. -/
structure DeltaPlan where
  ops : List DeltaOpKind
  layers : List DeltaLayer
  chains : Nat
  regionBytes : Nat
  enable : Bool
  stagger : Bool
  refreshOnTakeover : Bool
  threshScale : Nat
  peakFactor : Nat
  sceneCut : Nat
  refreshEvery : Option Nat
  deriving DecidableEq, Repr

/-- One level of a spill plan (R176). -/
structure SpillLevel where
  bolts : Nat
  extents : Nat
  slowdown : Nat
  deriving DecidableEq, Repr

/-- The job map of a bundle that spans packages (08, before R236). -/
structure JobMap where
  ident : BitVec 64
  nodes : List Node
  self : Nat
  stepTimeoutMs : Nat
  deriving DecidableEq, Repr

inductive Codec where
  | hevc | avc | av1 | jpeg | raw
  deriving DecidableEq, Repr

inductive Layout where
  | nv12 | p010 | rgb24
  deriving DecidableEq, Repr

/-- A bundle after unsealing: what its header states (06, before R169; R206, R211, R485). -/
structure BundleHdr where
  partitions : Nat
  bolts : Nat
  stateBytes : Nat
  storeBytes : Nat
  width : Nat
  height : Nat
  layout : Layout
  codec : Codec
  tenBit : Bool
  refPictures : Nat
  intakeBytes : Nat
  deadline : Nat
  variants : List (Nat × Nat)
  plan : Option DeltaPlan
  spill : List SpillLevel
  stepping : Nat
  job : Option JobMap
  measurement : BitVec 512
  deriving DecidableEq, Repr

/-- The sealed bundle that a `BUNDLE_LOAD` reads: whether its tag verifies under the owner's bundle
key, and what unsealing gives. -/
structure SealedBundle where
  tagOk : Bool
  hdr : BundleHdr
  deriving DecidableEq, Repr

/-- A payload as read from the host (R213, R328): the GCM check's outcome and the plaintext. -/
structure Payload where
  tagOk : Bool
  plain : List Byte
  randomAccess : Bool
  deriving DecidableEq, Repr

/-- The chroma format of a decoded picture (R203). -/
inductive Chroma where
  | c420 | c422 | c444 | c400
  deriving DecidableEq, Repr

/-- A decoded picture: its cropped size (R205), bit depth, chroma format, what the stream signals
(matrix coefficients 5 or 6, full range), and its planes row by row. -/
structure Picture where
  width : Nat
  height : Nat
  tenBit : Bool
  chroma : Chroma
  bt601 : Bool
  fullRange : Bool
  y : List Nat
  cb : List Nat
  cr : List Nat
  deriving DecidableEq, Repr

/-- What a decode engine made of a payload (R204, R205, R216).  The bitstream itself is not parsed by
the model: `discarded`: data was discarded by R204; `rasl`: an HEVC RASL picture that follows the CRA
at which decoding started; `failed` carries the cause code of R216. -/
inductive DecodeResult where
  | picture (pic : Picture) (discarded rasl : Bool)
  | failed (cause : Fin 13)
  deriving DecidableEq, Repr

/-- What the bundle's own schedule produced in a frame (the schedule's instructions are rows of their
own): the sealed results with their tag (R329), the carried tensors (R136), the chain inputs (FP32), and
for each checkpoint layer, computed dense, its input and its FA32 sums (R147). -/
structure FrameResult where
  cipher : List Byte
  carried : List Byte
  inputs : List (List Word)
  dense : List (List Word × List Word)
  deriving DecidableEq, Repr

/-- The header fields of a flit that carries job traffic (R228). -/
structure JobHdr where
  src : Node
  job : BitVec 12
  epoch : BitVec 4
  gen : BitVec 6
  deriving DecidableEq, Repr

/-- A `JOIN` flit (R229). -/
structure Join where
  hdr : JobHdr
  ident : BitVec 64
  participant : Nat
  count : Nat
  tags : List Nat
  deriving DecidableEq, Repr

/-- A job data message as assembled (R229, R239). -/
structure JobMsg where
  hdr : JobHdr
  tagOk : Bool
  binding : BindIx
  bolt : BoltIx
  line : Fin 16384
  data : List Byte
  deriving DecidableEq, Repr

/-- A relayed flit's header (R228, R233). -/
structure RelayFlit where
  src : Node
  dst : Node
  hops : Fin 4
  dseq : BitVec 16
  deriving DecidableEq, Repr

/-- A shadow update or fetch reply: the state it carries (R247, R158). -/
structure ShadowState where
  seq : BitVec 32
  countdown : Nat
  valid : Bool
  carried : List Byte
  accs : List (Nat × Nat)
  refs : List (Nat × Nat)
  decodeBroken : Bool
  policy : Word
  refreshEvery : Nat
  deadline : Nat
  deriving DecidableEq, Repr

/-- A firmware image as the verifier reads it (R292-R294): the header fields, the outcome of the
two signature checks, and its measurement. -/
structure FwImage where
  magicFormatOk : Bool
  stepping : Nat
  version : BitVec 32
  secVersion : Nat
  ledgerWrites : Nat
  ledgerReadsMin : Nat
  bodyLen : Nat
  vendorSigOk : Bool
  ownerSigOk : Bool
  measurement : BitVec 512
  deriving DecidableEq, Repr

inductive CrashCause where
  | watchdog | exception | sramUe | panic
  deriving DecidableEq, Repr

/-- A host request that breaks the protocol (R257, R279, R282). -/
inductive BadRequest where
  | unsupportedNonPosted | unsupportedPosted | poisonedWrite | unadvertised | doeError (inst : Fin 2)
  deriving DecidableEq, Repr

/-- How a read of host memory failed (R282, R283); `protocol`: a CXL.cache response that violates the
protocol. -/
inductive ReadFail where
  | error | poison | timeout | protocol
  deriving DecidableEq, Repr

/-- What a failed host read was for (R283); the bundle of a `BUNDLE_LOAD` has the command's descriptor. -/
inductive HostReadFor where
  | payload (ctx : CtxIx) | bundle (desc : Unit64) (tagOk : Bool) | descriptor | entry (sp : SpoolIx)
  | fwImage
  deriving DecidableEq, Repr

/-- A resume or reset seen at the port (R261). -/
inductive HostResetKind where
  | hotReset | secondaryBusReset | linkDisable | d3hotReturn
  deriving DecidableEq, Repr

/-- One reading of a sensor, in 1/64 degC (R435); none: no reading this sample. -/
abbrev Reading := Option Int

/-- An attestation request (R321). -/
structure ReportReq where
  nonce : BitVec 256
  scope : Nat
  owner : Nat
  first : Nat
  seq : BitVec 64
  tagOk : Bool
  deriving DecidableEq, Repr

/-- An open-owner request (R325): whether the tenant's signature verifies, the tenant's key
fingerprint, and the 64 bytes *K* that the exchange gives (not computed by the model). -/
structure OwnerReq where
  sigOk : Bool
  tenantFp : BitVec 256
  secret : BitVec 512
  deriving DecidableEq, Repr

/-- Where a vendor message came from (R324). -/
inductive MsgPath where
  | doe | smbus | horizon
  deriving DecidableEq, Repr

/-- A vendor-protocol message (R281). -/
inductive VendorMsg where
  | getIdentity | getReport (r : ReportReq) | getBootKey | openOwner (r : OwnerReq)
  | closeOwner (owner : Nat)
  deriving DecidableEq, Repr

/-- A host access to the CXL.mem window (R275, R276): a 64 B line. -/
structure MemReq where
  offset : Nat
  data : List Byte
  poison : Bool
  deriving DecidableEq, Repr

/-- What a recovery level acts on (R483). -/
inductive RecTarget where
  | contextAbort (b : BindIx) | clusterReset (p : Part) (c : Cluster) | dmaReset (g : HomeGroup)
  | decodeReset (e : EngineIx) | weftReset (k : LinkIx) | partReset (p : Part) | chipReset
  deriving DecidableEq, Repr

/-- A retirement entry of record 0x0A (R360). -/
inductive Retirement where
  | core (p : Part) (c : Cluster) (k : CoreIx)
  | cluster (p : Part) (c : Cluster)
  | bank (q : Fin 4) (g : Fin 32) (b : Fin 33)
  | bolt (b : BoltIx) (exchangedFor : Option BoltIx)
  | row (g : HomeGroup) (chan : Fin 16) (bank row : Nat)
  | extent (e : Fin 10240)
  deriving DecidableEq, Repr

/-- What ends a spin-up (R458). -/
inductive Channel where
  | fan (k : Fin 6) | pump (k : Fin 2)
  deriving DecidableEq, Repr

/-- A tach or flow input (R453, R464, R465). -/
inductive TachInput where
  | fan (k : Fin 6) | pump (k : Fin 2) | flow (k : Fin 2)
  deriving DecidableEq, Repr

/-- A flash operation's outcome (R350, R359). -/
inductive FlashStatus where
  | ok | failed
  deriving DecidableEq, Repr

/-- The packet error code of an SMBus write (R381, R383): missing, right or wrong. -/
inductive SmbPec where
  | none | good | bad
  deriving DecidableEq, Repr

/-- What the Draft read finds (R348, R350, R331): the flash is usable, it declares suspend (R508), what
`TRAY_SLOT[2:0]` reads, and whether the jumper is fitted. -/
structure DraftIn where
  flashOk : Bool
  suspend : Bool
  slot : Fin 8
  jumper : Bool
  deriving DecidableEq, Repr

/-- What one breaker sample reads (R389, R390): factory-calibrated voltages in mV (`vgs`: gate less
`HSW_VOUT`), the main-channel current in mA, whether `PSU_WARN_N` is low, and the energy of `AUX_3V3`
since the last sample in 0.1 µJ (R431). -/
structure BreakerIn where
  vin : Nat
  vout : Nat
  vgs : Nat
  aux33 : Nat
  iout : Nat
  psuWarn : Bool
  auxEnergy : Nat
  deriving DecidableEq, Repr

/-- A rail, by `PWR_RAIL_INDEX` (R409). -/
abbrev Rail := Fin 7

/-- What `STATUS_WORD` of a regulator shows (R413): nothing, a warning bit, or one of the faults that are
rail failures; or the regulator has not answered. -/
inductive RailStatus where
  | clear | warning | fault | silent
  deriving DecidableEq, Repr

/-- A regulator's answer: transactions that it did not acknowledge or answered with a bad PEC before it
(at most two repeats; R413), and what it shows. -/
structure RailAnswer where
  rail : Rail
  fails : Fin 4
  status : RailStatus
  deriving DecidableEq, Repr

/-- A regulator's telemetry (R412): `READ_VOUT` in mV and `READ_IOUT` in 0.1 A, or no answer. -/
structure RailReading where
  rail : Rail
  fails : Fin 4
  reading : Option (Nat × Nat)
  deriving DecidableEq, Repr

/-- A hardware comparator of the thermal trip (R441). -/
inductive Comparator where
  | die (k : Fin 78) | stack (k : Fin 8)
  deriving DecidableEq, Repr

/-- What the gust limiter meets in a partition (R428): the issue fraction asked for, in 1/256, and the
estimated current of one unit, in µA. -/
structure GustIn where
  demand : Fin 257
  unit : Nat
  deriving DecidableEq, Repr

/-- The commands: the rows of spec/opcode_table.json in its order. -/
inductive Instr where
  /-- `REGISTER_WRITE` (R4): A write to a register field that has no row of its own takes effect
  according to the field's access code. -/
  | registerWrite (p : Path) (r : Reg) (n : Nat) (v : Word)
  /-- `SELECT_WRITE` (R10): A write to a select or index register changes the path's selection
  and invalidates that path's LO/HI latches for the selected pair. -/
  | selectWrite (p : Path) (r : Reg) (v : Word)
  /-- `LO_READ` (R7): A read of the LO half of a 64-bit pair returns LO and latches the HI half
  for that path. -/
  | loRead (p : Path) (r : Reg)
  /-- `HI_READ` (R7): A read of the HI half returns the latched half and invalidates the latch,
  or returns the current HI when no latch is valid. -/
  | hiRead (p : Path) (r : Reg)
  /-- `SCRATCH_CE` (R35): A single-bit scratch error is corrected on read and raises the core's
  correctable-error level. -/
  | scratchCe (c : CoreId)
  /-- `CE_LEVEL_DECAY` (R51): Every 60 s of the partition reference counter the core's
  correctable-error level falls by 1. -/
  | ceLevelDecay (c : CoreId)
  /-- `SCRATCH_UE` (R35): Consumption of poisoned scratch data is an uncorrectable fault that
  fails the frame and makes the core pending. -/
  | scratchUe (c : CoreId) (line : Fin 384)
  /-- `RESIDUE_MISMATCH` (R36): A matrix-engine residue check mismatch fails the frame and makes
  the core pending. -/
  | residueMismatch (c : CoreId)
  /-- `INSTR_PARITY_ERROR` (R39): An instruction line with a parity error is discarded and
  refetched; a second error on the line in one frame is an uncorrectable core fault. -/
  | instrParityError (c : CoreId) (line : Fin 128)
  /-- `CONTEXT_ABORT_DONE` (R488): Outstanding requests of an aborted frame complete or are
  errored after 100 µs, and the scheduler admits the next frame. -/
  | contextAbortDone (b : BindIx)
  /-- `REPAIR_REBIND` (R53): After the context abort of a repeat fault of a pending core, the
  partition is unbound and rebound to the same bundle with the new repair map. -/
  | repairRebind (p : Part)
  /-- `PART_CTRL_WRITE` (R67): A write to PART_CTRL sets sweep-next and auto-repair to take
  effect at the next bind or mid-frame fault. -/
  | partCtrlWrite (path : Path) (v : Word)
  /-- `MATRIX_PASS` (R81): The matrix engine forms a pass's products and adds them into FA32 or
  IA32 accumulator entries with one rounding. -/
  | matrixPass (c : CoreId) (x : Pass)
  /-- `MX_ENCODE` (R75): The vector unit encodes 32 FP32 values into an MX block with a shared
  scale and saturating elements. -/
  | mxEncode (c : CoreId) (fmt : MxFmt) (x : List Word) (dst sdst : Nat)
  /-- `DQ4_ENCODE` (R79): The vector unit encodes 32 FP32 deltas into a DQ4 block. -/
  | dq4Encode (c : CoreId) (x : List Word) (dst sdst : Nat)
  /-- `VECTOR_CONVERT` (R89): A vector conversion instruction converts between formats under its
  saturation mode and counts saturations and NaNs. -/
  | vectorConvert (c : CoreId) (k : Conv) (sat : Bool) (x : List Word) (dst : Nat)
  /-- `VECTOR_OP` (R90): The vector unit computes an arithmetic or transcendental operation at
  FP32 to its stated accuracy. -/
  | vectorOp (c : CoreId) (op : VOp) (bf16 : Bool) (x y z : List Word) (dst : Nat)
  /-- `DS24_WRITEBACK` (R87): An FA32 value is written back to DS24 with stochastic rounding from
  the lane's xorshift generator. -/
  | ds24Writeback (c : CoreId) (lane : Fin 16) (x : Word) (dst : Nat)
  /-- `TOP_K` (R33): The vector units select the K largest of a candidate set, ties to lowest
  indices. -/
  | topK (c : CoreId) (k : Fin 257) (x : List Word) (dst : Nat)
  /-- `COMPACTION` (R33): The vector units keep the elements of a tensor that satisfy a mask. -/
  | compaction (c : CoreId) (x : List Word) (mask : List Bool) (dst : Nat)
  /-- `BARRIER_ARRIVE` (R238): A partition reaches a barrier instruction, sends its tokens and
  starts its step timer when the barrier spans packages. -/
  | barrierArrive (p : Part) (step : Nat) (spans : Bool)
  /-- `HEAVY_AHEAD` (R430): A HEAVY_AHEAD hint schedules a pre-ramp of the issue fraction and
  requests the voltage guard-band. -/
  | heavyAhead (p : Part) (lead target : Nat)
  /-- `HINT_TIMEOUT` (R430): When a hinted phase has not started 50 µs after its expected start,
  the limiter lowers the fraction and withdraws the guard-band. -/
  | hintTimeout (p : Part)
  /-- `BEAM_ACCESS` (R101): An access to a Beam bolt is checked against bolt state and owner and
  then granted by the bank arbiter or refused. -/
  | beamAccess (r : BeamReq)
  /-- `BANK_SPARE_SWITCH` (R103): When the copy to the spare ends, accesses switch to the spare
  bank and the bank is queued for record 0x0A. -/
  | bankSpareSwitch (g : BankGroup)
  /-- `BANK_CE_DECAY` (R103): Every 60 s of the quadrant reference counter a bank's error level
  falls by 1. -/
  | bankCeDecay (b : BankId)
  /-- `BEAM_SCRUB` (R106): A maintenance cycle scrubs one Beam line, writing back the corrected
  value if no write intervened. -/
  | beamScrub (g : BankGroup) (bank : Fin 33) (line : Fin 1024) (ecc : Ecc) (intervened : Bool)
  /-- `HBM_SCRUB` (R112): The patrol scrubber reads an HBM line and writes back a correction if
  no write intervened. -/
  | hbmScrub (g : HomeGroup) (line : Nat) (loc : HbmRow) (ecc : Ecc) (intervened : Bool)
  /-- `HBM_DMA_BURST` (R110): A home group's DMA engine serves the next non-empty queue with a
  256 B burst round-robin. -/
  | hbmDmaBurst (g : HomeGroup) (loc : HbmRow) (ecc : Ecc)
  /-- `BOLT_DRAIN_DONE` (R118): Once granted accesses complete, DMA transfers on the bolts are
  stopped and the bolts become ZEROING. -/
  | boltDrainDone (bolt : BoltIx)
  /-- `BOLT_ZERO_DONE` (R118): When every line reads zero the bolts become FREE or RETIRED. -/
  | boltZeroDone (bolt : BoltIx)
  /-- `HBM_LEASE_DRAIN_END` (R121): At the end of the 100 µs drain, outstanding requests are
  errored and the key slot is overwritten, freeing slot and extents. -/
  | hbmLeaseDrainEnd (lease : Nat)
  /-- `BUNDLE_COPY_REBUILT` (R125): The rebuild of a lost bundle-store copy from the other copy
  completes and the copy serves again. -/
  | bundleCopyRebuilt (h : Nat)
  /-- `HDM_APPLY` (R128): A write of 1 to HDM_CFG.APPLY resizes the HDM window or refuses with
  ERR. -/
  | hdmApply (v : Word)
  /-- `CTX_FORCE_REFRESH` (R148): A write of 1 to FORCE_REFRESH makes the context's next frame a
  refresh frame of cause 8. -/
  | ctxForceRefresh (path : Path)
  /-- `TWIN_FETCH_REPLY` (R158): A fetch reply from the twin restores carried tensors and the
  decode region before the refresh frame computes. -/
  | twinFetchReply (c : CtxIx) (st : ShadowState)
  /-- `TWIN_FETCH_TIMEOUT` (R158): When the twin does not answer a fetch within the step timeout,
  carried tensors are set to initial values and CARRIED_INIT is set. -/
  | twinFetchTimeout (c : CtxIx)
  /-- `CMD_GO` (R164): A write of 1 to CMD_GO sets BUSY and starts the descriptor read, or is
  ignored while a command is busy. -/
  | cmdGo (path : Path)
  /-- `CMD_DEFERRED_START` (R168): A command registered during a crash restart or handoff starts
  executing once firmware serves again. -/
  | cmdDeferredStart
  /-- `CMD_UNKNOWN_OPCODE` (R167): A descriptor with an unknown opcode is refused with
  BAD_DESCRIPTOR. -/
  | cmdUnknownOpcode (desc : Unit64) (tagOk : Bool)
  /-- `BUNDLE_LOAD` (R169): BUNDLE_LOAD reads, unseals, measures and checks a bundle and stores
  two copies in HBM leases under a new handle. -/
  | bundleLoad (desc : Unit64) (tagOk : Bool) (b : SealedBundle)
  /-- `BUNDLE_DROP` (R170): BUNDLE_DROP ends both store leases of a bundle without bindings. -/
  | bundleDrop (desc : Unit64) (tagOk : Bool)
  /-- `BIND` (R173): BIND decides all leases in one tick and then sweeps, selects variants and
  loads the schedule on the partitions. -/
  | bind (desc : Unit64) (tagOk : Bool)
  /-- `SWEEP_COMPLETE` (R59): The first-bind sweep ends, the repair decision is made and the
  partition goes BINDING or UNBINDABLE. -/
  | sweepComplete (p : Part) (fault : Bool) (failed : List (Cluster × CoreIx)) (dur : Nat)
  /-- `BIND_FIRST_INSTRUCTION` (R180): The bind's first instruction issues, the partition goes
  BOUND and CMD_STATUS.DONE is set. -/
  | bindFirstInstruction (b : BindIx)
  /-- `UNBIND` (R178): UNBIND stops admission to a binding, fails or drains its frames, and
  releases its leases. -/
  | unbind (desc : Unit64) (tagOk : Bool)
  /-- `UNBIND_RELEASE` (R179): After the sequencers halt, the binding's leases and shares are
  released, array state is cleared and contexts become FREE. -/
  | unbindRelease (b : BindIx)
  /-- `REBIND` (R179): REBIND unbinds a binding and binds a new bundle on the same partitions
  with the array kept on. -/
  | rebind (desc : Unit64) (tagOk : Bool)
  /-- `SPOOL_OPEN` (R167): SPOOL_OPEN gives a closed spool to an owner and resets its indexes. -/
  | spoolOpen (desc : Unit64) (tagOk : Bool)
  /-- `SPOOL_CLOSE` (R167): SPOOL_CLOSE closes an owner's spool that has no open contexts. -/
  | spoolClose (desc : Unit64) (tagOk : Bool)
  /-- `CTX_OPEN` (R183): CTX_OPEN opens a context slot on a binding and spool with its deadline
  and delta defaults. -/
  | ctxOpen (desc : Unit64) (tagOk : Bool)
  /-- `CTX_CLOSE` (R184): CTX_CLOSE stops admission, lets a running frame end, answers waiting
  frames UNBOUND and frees the slot. -/
  | ctxClose (desc : Unit64) (tagOk : Bool)
  /-- `CTX_MOVE` (R185): CTX_MOVE copies a context's state to another binding of the same bundle
  between two frames. -/
  | ctxMove (desc : Unit64) (tagOk : Bool)
  /-- `CTX_RESUME` (R186): CTX_RESUME returns a context held for a lost peer to READY. -/
  | ctxResume (desc : Unit64) (tagOk : Bool)
  /-- `SUBMISSION_DOORBELL` (R187): A write to a spool's submission doorbell advances its tail
  and starts the age of each new entry. -/
  | submissionDoorbell (sp : SpoolIx) (v : Word)
  /-- `COMPLETION_DOORBELL` (R187): A write to a spool's completion doorbell reports the host's
  completion-ring head. -/
  | completionDoorbell (sp : SpoolIx) (v : Word)
  /-- `SUBMISSION_ENTRY` (R189): The spool engine takes a fetched submission entry, reserves a
  completion entry and checks its context and opcode. -/
  | submissionEntry (sp : SpoolIx) (entry : Unit64)
  /-- `SPOOL_RESUME` (R212): A spool stalled for completion-ring or intake-buffer room resumes
  taking entries when room appears. -/
  | spoolResume (sp : SpoolIx)
  /-- `ENTRY_READ_RETRY` (R283): A failed submission entry read is retried after 100 µs; after
  the third failure the spool stops and event type 8 is written. -/
  | entryReadRetry (sp : SpoolIx) (failed : Option ReadFail)
  /-- `PAYLOAD_ARRIVAL` (R537): A payload read from the host is decrypted, its tag and SEAL_SEQ
  checked, and the plaintext written to the intake buffer. -/
  | payloadArrival (c : CtxIx) (x : Payload)
  /-- `DECODE_START` (R210): A free decode engine chooses its next payload by share tier and
  deadline and starts decoding it. -/
  | decodeStart (e : EngineIx)
  /-- `DECODE_COMPLETE` (R216): A decode ends with a picture in the intake buffer or a
  DECODE_FAIL with its cause. -/
  | decodeComplete (e : EngineIx) (x : DecodeResult)
  /-- `DECODE_TIME_LIMIT` (R216): A decode that reaches its charge plus 2 ms ends with
  DECODE_FAIL, cause TIME. -/
  | decodeTimeLimit (e : EngineIx)
  /-- `DECODE_SHARE_WINDOW` (R210): At the end of each 100 ms window of a decode engine the share
  accounting restarts. -/
  | decodeShareWindow (e : EngineIx)
  /-- `RAW_CONVERT` (R214): A raw payload's header is checked and its picture converted into the
  bundle's layout. -/
  | rawConvert (c : CtxIx)
  /-- `CTX_INPUT_WRITE` (R217): A write to CTX_INPUT.CODEC changes the context's codec from the
  next payload and breaks its decode state. -/
  | ctxInputWrite (path : Path) (v : Word)
  /-- `FRAME_ADMIT` (R198): The partition scheduler admits the ready frame with least remaining
  time, deciding refresh causes and the late policy. -/
  | frameAdmit (b : BindIx)
  /-- `FRAME_COMPLETE` (R23): A frame's last instruction retires and all checks report, its
  results are sealed and written, and its state header is written. -/
  | frameComplete (b : BindIx) (x : FrameResult)
  /-- `SPOOL_IRQ_TIMER` (R271): When TIME_US passes after the first unsignalled completion entry,
  the spool's vector is sent. -/
  | spoolIrqTimer (sp : SpoolIx)
  /-- `FRAME_BUDGET_EXPIRE` (R485): A frame that exceeds its frame cycle budget causes a context
  abort with detail 1. -/
  | frameBudgetExpire (b : BindIx)
  /-- `LINK_TRAIN_START` (R225): A weft link starts training when PD_WEFTIO powers up or a far
  end that has just powered up starts training. -/
  | linkTrainStart (k : LinkIx) (farEnd : Bool)
  /-- `LINK_TRAINED` (R225): A weft link completes training, identification and pair-key
  agreement and goes UP. -/
  | linkTrained (k : LinkIx)
  /-- `IDENT_FLIT` (R223): An IDENT flit received during training is compared with the expected
  partner and configuration. -/
  | identFlit (k : LinkIx) (node : Node) (config : Fin 4)
  /-- `KEY_FLIT` (R231): A KEY flit carries the far end's signed X448 value, from which the pair
  key is derived. -/
  | keyFlit (k : LinkIx) (sigOk : Bool) (value : BitVec 448)
  /-- `FEC_SECOND_CHECK` (R226): Each second the corrected FEC symbols of each lane are compared
  with the lane-swap threshold. -/
  | fecSecondCheck (k : LinkIx) (counts : List Nat)
  /-- `LANE_BLOCK_LOCK_LOSS` (R226): A lane that loses block lock is failing and is replaced by
  the spare lane, or the link goes DOWN. -/
  | laneBlockLockLoss (k : LinkIx) (lane : Fin 5)
  /-- `LANE_SWAP_FLIT` (R226): A LANE_SWAP flit switches both ends from the failing lane to lane
  4. -/
  | laneSwapFlit (k : LinkIx) (lane : Fin 5)
  /-- `LINK_RX_TIMEOUT` (R227): When no valid flit arrives for 100 µs the link goes DOWN, a class
  B fault. -/
  | linkRxTimeout (k : LinkIx)
  /-- `FLIT_CRC_ERROR` (R230): A flit with a CRC failure or sequence gap makes the receiver send
  NAK and discard until replay. -/
  | flitCrcError (k : LinkIx) (crc : Bool)
  /-- `NAK_FLIT` (R230): A received NAK makes the sender replay from the flit after the NAK
  value; 16 failed retries take the link DOWN. -/
  | nakFlit (k : LinkIx) (value : BitVec 16)
  /-- `IDLE_FLIT` (R230): An IDLE flit's LACK frees acknowledged flits from the replay buffer. -/
  | idleFlit (k : LinkIx) (lack : BitVec 16)
  /-- `FLIT_INVALID` (R229): A flit of unknown type or out-of-range field is discarded and
  counted as a partner violation. -/
  | flitInvalid (k : LinkIx)
  /-- `FLIT_RELAY` (R233): A flit for another node is forwarded by the routing table, or
  discarded beyond 3 hops or without route. -/
  | flitRelay (k : LinkIx) (f : RelayFlit)
  /-- `ROUTE_RECOMPUTE` (R232): Firmware recomputes the tray routing table after a link changes
  state. -/
  | routeRecompute (up : List (Node × Nat))
  /-- `JOB_DATA_MSG` (R239): A job data message is taken whole, checked against generation and
  epoch, and moved into leased bolts or dropped. -/
  | jobDataMsg (m : JobMsg)
  /-- `JOIN_FLIT` (R236): A JOIN flit registers a participant's identifier, count, epoch and tags
  for the job. -/
  | joinFlit (j : Join)
  /-- `JOIN_SEND_TICK` (R236): Every 1 ms a FORMING or BROKEN participant sends JOIN to every
  other participant. -/
  | joinSendTick (b : BindIx)
  /-- `JOIN_WINDOW_EXPIRE` (R236): When the join window expires before the job forms, the bind
  ends NO_WEFT and its leases are released. -/
  | joinWindowExpire (b : BindIx)
  /-- `BARRIER_FLIT` (R238): A BARRIER token for a step is registered, and the participant passes
  the barrier when all tokens are in. -/
  | barrierFlit (h : JobHdr) (step participant : Nat)
  /-- `FRAME_START_FLIT` (R237): A FRAME_START flit makes a follower admit that frame next with
  the carried age. -/
  | frameStartFlit (h : JobHdr) (c : CtxIx) (age frame : Nat)
  /-- `STEP_TIMEOUT` (R238): A step timer that reaches the stretched step timeout declares peer
  lost. -/
  | stepTimeout (b : BindIx)
  /-- `THROTTLE_NOTICE` (R242): Every 10 ms each steward announces its job partitions' highest
  throttle and up to four job handles. -/
  | throttleNotice
  /-- `THROTTLE_NOTICE_LAPSE` (R242): After 50 ms without a notice naming a job, that node's
  throttle for the job is taken as 0. -/
  | throttleNoticeLapse (node : Node) (job : BitVec 12)
  /-- `SYMPATHY_LIFT` (R244): The lead lifts a sympathetic throttle command no later than 20 ms
  after a lower notice or a lapse. -/
  | sympathyLift (job : BitVec 12)
  /-- `CTX_SHADOW_ENABLE` (R246): A write of 1 to CTX_SHADOW.EN sends a shadow request to the
  twin. -/
  | ctxShadowEnable (path : Path)
  /-- `WEFT_ACCEPT_WRITE` (R246): A write to WEFT_ACCEPT enables acceptance of copies onto a
  binding when its spool is open. -/
  | weftAcceptWrite (path : Path) (v : Word)
  /-- `SHADOW_REQUEST_MSG` (R246): The twin accepts or refuses a shadow request and takes a FREE
  slot into SHADOW. -/
  | shadowRequestMsg (node : Node) (c : CtxIx) (measurement : BitVec 512) (fp : BitVec 256)
  /-- `SHADOW_REPLY_MSG` (R246): The primary records the twin's slot or the refusal cause of its
  shadow request. -/
  | shadowReplyMsg (c : CtxIx) (cause : Fin 16) (slot : CtxIx)
  /-- `SHADOW_UPDATE_MSG` (R247): A shadow update is written into the journal and, when its tag
  verifies, committed and acknowledged. -/
  | shadowUpdateMsg (slot : CtxIx) (tagOk : Bool) (st : ShadowState)
  /-- `SHADOW_ACK_FLIT` (R247): A SHADOW_ACK releases the primary's held next frame of the
  context. -/
  | shadowAckFlit (c : CtxIx) (seq : BitVec 32)
  /-- `SHADOW_ACK_TIMEOUT` (R248): Without an acknowledgement within the step timeout, shadowing
  lapses and a lapse notice is sent. -/
  | shadowAckTimeout (c : CtxIx)
  /-- `SHADOW_RESYNC` (R248): When a route to the twin exists again the primary sends a
  whole-state update between two frames. -/
  | shadowResync (c : CtxIx)
  /-- `SHADOW_ROUTE_LOST` (R248): A twin without a route to the primary for the step timeout
  marks its copies COPY_STALE. -/
  | shadowRouteLost (node : Node)
  /-- `FETCH_REQUEST_MSG` (R158): The twin answers a fetch request with carried tensors and the
  decode region of its copy. -/
  | fetchRequestMsg (slot : CtxIx)
  /-- `LAPSE_NOTICE_MSG` (R248): A lapse notice marks copies COPY_STALE (reason 1) or makes the
  twin take them over (reason 2). -/
  | lapseNoticeMsg (reason : Fin 3) (slot : CtxIx)
  /-- `TWIN_TAKEOVER` (R249): When the primary is lost on Horizon and silent on weft for 300 ms,
  the twin's copies become READY contexts. -/
  | twinTakeover (node : Node)
  /-- `HOST_LINK_TRAINED` (R258): The CXL link trains to a width and rate, reporting degradation
  or PCIe-only mode. -/
  | hostLinkTrained (pcie : Bool) (narrow slow : Fin 3)
  /-- `HOST_LINK_DOWN` (R260): The host link leaves L0 without a reset and the device holds its
  outbound requests. -/
  | hostLinkDown
  /-- `HOST_LINK_UP` (R260): The host link returns to L0 within 1 s and the held requests are
  sent in order. -/
  | hostLinkUp
  /-- `HOST_LINK_DOWN_TIMEOUT` (R260): A host link down for more than 1 s causes a chip reset. -/
  | hostLinkDownTimeout
  /-- `HOST_RESET` (R261): A hot reset, secondary bus reset, link disable or D3hot return causes
  a chip reset. -/
  | hostReset (k : HostResetKind)
  /-- `PERST_ASSERT` (R415): Assertion of PERST_N while the compute die runs is a chip reset. -/
  | perstAssert
  /-- `BAR0_WRITE` (R265): A BAR0 write is registered into the write queue, or dropped when the
  queue is full. -/
  | bar0Write (r : Reg) (n : Nat) (v : Word)
  /-- `BAR0_WRITE_APPLY` (R265): Firmware, or hardware for the firmware window, applies the write
  at the head of the queue. -/
  | bar0WriteApply
  /-- `BAR0_READ` (R266): A read of a firmware-held window completes after earlier writes are
  applied, or returns all ones while firmware is down. -/
  | bar0Read (r : Reg) (n : Nat)
  /-- `BAR0_READ_TIMEOUT` (R289): A firmware-held read unanswered after 100 µs is answered
  0xFFFF_FFFF and counted. -/
  | bar0ReadTimeout
  /-- `BAR_BAD_ACCESS` (R263): A BAR0 or BAR2 access of wrong size or alignment completes with
  abort or is dropped. -/
  | barBadAccess (write : Bool)
  /-- `HOST_BAD_REQUEST` (R282): A host request that breaks the protocol is answered as
  unsupported, aborted or dropped. -/
  | hostBadRequest (k : BadRequest)
  /-- `HOST_READ_FAIL` (R283): A device read of host memory that errors, returns poison or times
  out after 50 ms fails its frame, load, command or entry. -/
  | hostReadFail (how : ReadFail) (k : HostReadFor)
  /-- `BUS_MASTER_ENABLE` (R284): A change of Bus Master Enable stops or resumes all device
  requests to the host. -/
  | busMasterEnable (on : Bool)
  /-- `EVQ_ENABLE` (R286): A write of HOST_EVQ_SIZE.EN enables the event queue and sets head and
  tail to 0. -/
  | evqEnable (v : Word)
  /-- `EVQ_HEAD_WRITE` (R274): A write to HOST_EVQ_HEAD reports the host's event-queue head,
  ignored if it moves backwards or beyond the tail. -/
  | evqHeadWrite (v : Word)
  /-- `HDM_DECODER_COMMIT` (R275): A commit of the HDM decoder succeeds only when its size equals
  the window in place. -/
  | hdmDecoderCommit (bytes : Nat)
  /-- `CXL_MEM_READ` (R276): A host CXL.mem read of the window is served, flipping a device-bias
  unit to host bias. -/
  | cxlMemRead (offset : Nat) (loc : HbmRow) (ecc : Ecc)
  /-- `CXL_MEM_WRITE` (R276): A host CXL.mem write to the window is served or dropped, flipping a
  device-bias unit to host bias. -/
  | cxlMemWrite (x : MemReq)
  /-- `BIAS_SET` (R277): A write to HOST_BIAS_DATA.DEVICE moves a bias unit to device or host
  bias. -/
  | biasSet (path : Path) (v : Word)
  /-- `DOE_DISCOVERY` (R279): A DOE discovery request returns the instance's supported protocols.
  -/
  | doeDiscovery (inst : Fin 2) (index : Fin 256)
  /-- `CDAT_READ` (R280): A CDAT table access returns the whole table from before or after any
  resize. -/
  | cdatRead
  /-- `DOE_ABORT` (R281): A DOE abort discards a pending response and its effect. -/
  | doeAbort (inst : Fin 2)
  /-- `GET_IDENTITY` (R281): The get-identity message returns the identity public key,
  fingerprint and certificate. -/
  | getIdentity (path : MsgPath) (id : BitVec 32)
  /-- `GET_ATTESTATION_REPORT` (R322): The get-attestation-report message returns a signed report
  with the requester's nonce. -/
  | getAttestationReport (path : MsgPath) (id : BitVec 32) (r : ReportReq)
  /-- `GET_PER_BOOT_KEY` (R320): The get-per-boot-key message returns the signed per-boot
  statement. -/
  | getPerBootKey (path : MsgPath) (id : BitVec 32)
  /-- `OPEN_OWNER` (R325): The open-owner message performs the X448 exchange and opens an owner
  with a new owner number. -/
  | openOwner (path : MsgPath) (id : BitVec 32) (r : OwnerReq)
  /-- `CLOSE_OWNER` (R163): The close-owner message unbinds, closes and drops everything of the
  owner and frees its number. -/
  | closeOwner (path : MsgPath) (id : BitVec 32) (owner : Nat)
  /-- `FW_LOAD` (R297): A write of 1 to FW_LOAD checks the length and starts reading the image
  into slot A. -/
  | fwLoad
  /-- `FW_IMAGE_RECEIVED` (R294): The verifier checks the read image and measures it, refusing or
  copying it into SRAM. -/
  | fwImageReceived (img : FwImage)
  /-- `FW_SERVING` (R297): The started firmware reaches SERVING, FW_UP becomes 1 and held BAR0
  writes are applied. -/
  | fwServing
  /-- `FW_STAGE` (R308): A write of 1 to FW_STAGE reads and verifies a new image into the
  non-resident slot. -/
  | fwStage
  /-- `FW_ACTIVATE` (R309): A write of 1 to FW_ACTIVATE.ACTIVATE makes an activation pending, or
  refuses NOT_STAGED. -/
  | fwActivate
  /-- `FW_ACTIVATE_CANCEL` (R309): A write of 1 to FW_ACTIVATE.CANCEL clears a pending activation
  before its handoff starts. -/
  | fwActivateCancel
  /-- `HANDOFF_START` (R309): The handoff starts when no command is busy and no emergency has
  held for 5 s. -/
  | handoffStart
  /-- `HANDOFF_COMPLETE` (R310): The new image has read the ledger, its slot becomes resident and
  admission resumes. -/
  | handoffComplete
  /-- `WATCHDOG_EXPIRE` (R303): A core watchdog not serviced for 100 ms expires and the firmware
  crashes. -/
  | watchdogExpire (core : Fin 4)
  /-- `FW_CRASH` (R304): A fatal exception, SRAM uncorrectable error or panic halts all control
  cores and starts a crash restart or chip reset. -/
  | fwCrash (cause : CrashCause)
  /-- `FW_RESTART_COMPLETE` (R304): The restarted firmware reads the ledger, ends in-progress
  commands and resumes serving. -/
  | fwRestartComplete (intact : Bool)
  /-- `LEDGER_CHECKPOINT` (R302): Firmware writes and commits a ledger checkpoint at least every
  10 ms. -/
  | ledgerCheckpoint
  /-- `LOG_ENTRY` (R299): An enabled trace point writes an entry to the log ring or counts it
  lost. -/
  | logEntry (trace : Fin 4096) (level core : Fin 4) (args : List Word)
  /-- `FW_LOG_ENABLE` (R314): A write of FW_LOG_SIZE.EN enables the log ring, setting head and
  tail to 0 and clearing LOST. -/
  | fwLogEnable (v : Word)
  /-- `FW_LOG_HEAD_WRITE` (R314): A write to FW_LOG_HEAD reports the host's log-ring head. -/
  | fwLogHeadWrite (v : Word)
  /-- `PRESENCE_PRESS` (R336): A registered press of PRESENCE_N completes or refuses the armed
  presence command. -/
  | presencePress
  /-- `SEAL_OPENING` (R333): An opening of the tamper loop while seal-ready is written to a seal
  slot and starts a seal grant. -/
  | sealOpening
  /-- `SEAL_READY` (R332): After the loop stays closed for 10 s the steward becomes seal-ready.
  -/
  | sealReady
  /-- `GRANT_EXPIRE` (R331): A jumper or seal grant ends 10 minutes after it began. -/
  | grantExpire (ofSeal : Bool)
  /-- `PRES_CLEAR_EVENT_LOG` (R338): Presence command 0x01 is armed to clear the circulating
  event area. -/
  | presClearEventLog (path : Path)
  /-- `PRES_ENROL_OWNER_KEY` (R338): Presence command 0x02 is armed to write a new owner key into
  record 0x08. -/
  | presEnrolOwnerKey (path : Path) (keyOk : Bool)
  /-- `PRES_REMOVE_OWNER` (R338): Presence command 0x03 is armed to empty record 0x08 and set the
  acceptance policy to 0. -/
  | presRemoveOwner (path : Path)
  /-- `PRES_REWRITE_PROTECTED` (R362): Presence command 0x04 authorises the commit of a staged
  bank whose protected records differ. -/
  | presRewriteProtected (path : Path)
  /-- `PRES_READ_IDENTITY` (R338): Presence command 0x05 puts the identity fingerprint into
  PRES_RESULT and an event record. -/
  | presReadIdentity (path : Path)
  /-- `PRES_BAD_OPCODE` (R344): A write of an unknown opcode to PRES_CMD is refused with
  BAD_OPCODE. -/
  | presBadOpcode (path : Path) (op : BitVec 8)
  /-- `PRES_CANCEL` (R344): A write of PRES_CMD.CANCEL cancels the command armed by this path. -/
  | presCancel (path : Path)
  /-- `PRES_ARM_EXPIRE` (R336): An armed command without a press within 60 s ends EXPIRED. -/
  | presArmExpire
  /-- `PRES_WRITE_DONE` (R337): The flash write of a completed presence command ends and an event
  is recorded. -/
  | presWriteDone (st : FlashStatus)
  /-- `DRBG_HEALTH_FAIL` (R341): A failed entropy health test stops the DRBG and makes
  random-value operations wait. -/
  | drbgHealthFail (selvage : Bool)
  /-- `DRBG_RESEED` (R341): When the source passes its tests again the DRBG reseeds and waiting
  operations continue. -/
  | drbgReseed (selvage : Bool)
  /-- `DRBG_STOP_TIMEOUT` (R341): A DRBG stopped for 1 s raises a class B fault and a chip reset.
  -/
  | drbgStopTimeout
  /-- `AUX_POWER_UP` (R348): Release of the Selvage power-on reset starts the steward on bare
  defaults. -/
  | auxPowerUp (idOk : Bool)
  /-- `DRAFT_IN_FORCE` (R355): The Draft read ends, a bank is chosen and checked, and its
  settings take force or bare defaults stay. -/
  | draftInForce (x : DraftIn)
  /-- `AUX_POWER_LOSS` (R522): AUX_3V3 falling below 2.90 V asserts power-on reset and releases
  the pass FET and all steward outputs. -/
  | auxPowerLoss (torn : Bool)
  /-- `CRYSTAL_SWITCH` (R345): After good crystal operation the steward switches its always-on
  clock to the crystal. -/
  | crystalSwitch
  /-- `CRYSTAL_FAIL` (R345): A crystal with no edges or excessive deviation makes the steward
  return to the RC oscillator. -/
  | crystalFail
  /-- `FLASH_OP_COMPLETE` (R359): A flash operation ends and the next waiting flash write starts.
  -/
  | flashOpComplete (st : FlashStatus)
  /-- `FLASH_OP_TIMEOUT` (R350): A flash operation that runs past its declared maximum is a flash
  error. -/
  | flashOpTimeout
  /-- `RETIREMENT_APPEND` (R360): The steward appends a retirement to record 0x0A, or keeps it in
  the overflow list when full. -/
  | retirementAppend
  /-- `DRAFT_BEGIN` (R361): A write of DRAFT_CTRL.BEGIN erases the unused bank and starts staging
  for the path. -/
  | draftBegin (path : Path)
  /-- `DRAFT_ERASE_DONE` (R361): The erase of the staging bank ends and staging writes are
  accepted. -/
  | draftEraseDone (st : FlashStatus)
  /-- `DRAFT_STG_DATA_WRITE` (R361): A write to DRAFT_STG_DATA programs the word at
  DRAFT_STG_ADDR and advances the address. -/
  | draftStgDataWrite (path : Path) (v : Word)
  /-- `DRAFT_COMMIT` (R362): A write of DRAFT_CTRL.COMMIT checks the staged bank and commits it
  or waits for presence. -/
  | draftCommit (path : Path)
  /-- `DRAFT_ABORT` (R361): A write of DRAFT_CTRL.ABORT ends staging. -/
  | draftAbort (path : Path)
  /-- `HZN_ROUND_START` (R372): The opener starts a Horizon round 10 ms after its previous one.
  -/
  | hznRoundStart
  /-- `HZN_TURN` (R372): A node's turn arrives and it sends its heartbeat frame with any
  attachment. -/
  | hznTurn
  /-- `HZN_FRAME_RX` (R376): A Horizon frame is checked and its heartbeat registered, or it is
  discarded and counted against the node. -/
  | hznFrameRx (turn : Node) (inTurn : Bool) (bytes : List Byte)
  /-- `QUARANTINE_END` (R376): After 10 s a quarantined node's frames are taken again. -/
  | quarantineEnd (node : Node)
  /-- `HZN_REGISTER_REQUEST` (R375): A register request attachment is answered in a later turn of
  the destination node. -/
  | hznRegisterRequest (source : Node) (attachment : List Byte)
  /-- `HZN_REGISTER_RESPONSE` (R375): A register response attachment ends the requesting node's
  pending request. -/
  | hznRegisterResponse (source : Node) (attachment : List Byte)
  /-- `HZN_RQ_SEND` (R387): A write of HZN_RQ_CTRL.GO sends a register request in the next turn.
  -/
  | hznRqSend
  /-- `HZN_RQ_TIMEOUT` (R387): A Horizon request without a response 300 ms after sending ends
  TIMEOUT. -/
  | hznRqTimeout
  /-- `ROLE_DECIDE` (R377): Each steward tick the steward decides lead, standby and its own role
  on its side. -/
  | roleDecide
  /-- `SMB_SET_POINTER` (R382): SMBus command 0x01 sets the 16-bit register pointer. -/
  | smbSetPointer (ptr : BitVec 16) (pec : SmbPec) (whole : Bool)
  /-- `SMB_BLOCK_WRITE` (R382): SMBus command 0x02 writes consecutive registers from the pointer,
  or is discarded. -/
  | smbBlockWrite (count : Nat) (bytes : List Byte) (pec : SmbPec) (whole : Bool)
  /-- `SMB_BLOCK_READ` (R382): SMBus command 0x03 returns the register at the pointer. -/
  | smbBlockRead
  /-- `SMB_BLOCK_READ8` (R382): SMBus command 0x04 returns eight registers from the pointer. -/
  | smbBlockRead8
  /-- `SMB_CLOCK_TIMEOUT` (R381): A clock held low for 30 ms resets the SMBus transaction state.
  -/
  | smbClockTimeout
  /-- `BREAKER_SAMPLE` (R389): Every 10 µs the steward samples current and voltages and updates
  the window, band timers, FET temperature and PG_OUT. -/
  | breakerSample (x : BreakerIn)
  /-- `INSERTION_DELAY_END` (R394): After INSERT of continuous window the inrush begins. -/
  | insertionDelayEnd
  /-- `INRUSH_WINDOW_END` (R396): At the end of the inrush window a low output trips the channel
  as short or inrush timeout. -/
  | inrushWindowEnd
  /-- `MAIN_ENHANCE_TIMEOUT` (R407): A gate-to-source voltage below 8 V 2 ms after full
  enhancement marks the main channel damaged and latches it. -/
  | mainEnhanceTimeout
  /-- `FAST_TRIP` (R399): Current reaching FAST pulls the gate down within 1 µs. -/
  | fastTrip
  /-- `BAND_TRIP` (R400): A breaker band timer reaching its limit trips the channel. -/
  | bandTrip
  /-- `BACKOFF_END` (R402): After a trip's back-off a new inrush starts when VIN is in window. -/
  | backoffEnd
  /-- `LATCH_CLR` (R403): A write of HSW_CTRL.LATCH_CLR clears the latch, retry count and breaker
  status bit. -/
  | latchClr (path : Path)
  /-- `RETRY_COUNT_RESET` (R404): After PG_OUT has been asserted 60 s without a trip the retry
  count returns to 0. -/
  | retryCountReset
  /-- `AUX_SWITCH_TEST` (R408): An auxiliary switch output is sampled at the end of an off
  interval for the damaged test. -/
  | auxSwitchTest (k : Fin 8) (mv : Nat)
  /-- `AUX_DAMAGED` (R408): An auxiliary output above 2 V while off for more than 100 ms marks
  the switch damaged. -/
  | auxDamaged (k : Fin 8)
  /-- `RAIL_DWELL_END` (R410): One dwell after a rail is good the next rail is enabled. -/
  | railDwellEnd
  /-- `RAIL_POLL` (R409): Every 200 µs the rail being enabled is read and judged good. -/
  | railPoll (mv : Nat) (powerGood : Bool)
  /-- `RAIL_START_TIMEOUT` (R410): A rail not good 10 ms after its enable is a rail start
  failure. -/
  | railStartTimeout
  /-- `RAIL_RETRY_TIMER` (R411): 10 s after a rail failure the steward restarts the rail
  sequence. -/
  | railRetryTimer
  /-- `PMB_ALERT` (R413): PMB_ALERT_N low makes the steward read every regulator's status and
  clear faults. -/
  | pmbAlert (answers : List RailAnswer)
  /-- `PMBUS_TELEMETRY_POLL` (R412): The steward reads rail voltages and currents every 1 ms for
  VDD_CORE and 10 ms for the others. -/
  | pmbusTelemetryPoll (x : RailReading)
  /-- `PMBUS_CORE_SILENT` (R413): A VDD_CORE regulator silent for 100 ms is a rail failure. -/
  | pmbusCoreSilent
  /-- `VCORE_REQUEST` (R414): A VDD_CORE request over the Selvage link is clamped and written to
  the regulator. -/
  | vcoreRequest (mv : Nat)
  /-- `COMPUTE_DIE_RESET_RELEASE` (R415): The compute die leaves reset, domains power on, the
  per-boot key is made and record 0x0A is handed over. -/
  | computeDieResetRelease
  /-- `HBM_TRAINED` (R415): HBM training ends and configuration requests are served. -/
  | hbmTrained (lost : List (Fin 10240))
  /-- `FRONT_N_ASSERT` (R419): A low FRONT_N stops intake and admission, prioritises shadow
  traffic and starts the operating-hours checkpoint. -/
  | frontNAssert
  /-- `FRONT_N_DEASSERT` (R200): FRONT_N deasserting resumes intake and admission. -/
  | frontNDeassert
  /-- `FRONT_HOLD_END` (R418): After VIN stays above FRONT_HIGH for FRONT_HOLD the front
  condition ends. -/
  | frontHoldEnd
  /-- `CAP_WRITE` (R422): A write of PWR_CAP changes the effective cap and partition budgets
  within 1 ms. -/
  | capWrite (path : Path) (v : Word)
  /-- `BUDGET_UPDATE` (R423): Every 10 ms the partition budgets are recomputed from the cap and
  uncore power. -/
  | budgetUpdate (packageW uncoreW : Nat)
  /-- `CAP_CONTROL` (R424): Every 1 µs each partition's estimator and cap controller adjust its
  cap throttle. -/
  | capControl (p : Part) (activity : List Nat)
  /-- `CORR_UPDATE` (R425): Every 1 ms the steward moves the correction factor toward the
  measured VDD_CORE ratio. -/
  | corrUpdate (measured : Option (Nat × Nat))
  /-- `DROOP` (R427): A local supply below the droop level doubles the partition clock period. -/
  | droop (p : Part)
  /-- `DROOP_RECOVER` (R427): After 64 cycles above the level plus 10 mV the clock period returns
  to normal. -/
  | droopRecover (p : Part)
  /-- `GUST_STEP` (R428): Every 0.1 µs the gust limiter raises or lowers each partition's issue
  fraction within the slope limits. -/
  | gustStep (xs : List GustIn)
  /-- `ENERGY_APPORTION` (R432): Every 1 ms partition energy is divided among active contexts'
  spools. -/
  | energyApportion (p : Part) (cycles : List (CtxIx × Nat))
  /-- `SENSOR_SAMPLE` (R436): The steward samples all sensors, substitutes failed ones, sets
  warnings, rates and demands. -/
  | sensorSample (xs : List Reading)
  /-- `SENSOR_NO_CONVERSION` (R443): A sensor with no conversion in two sample periods or 1 ms is
  failed. -/
  | sensorNoConversion (k : Fin 90)
  /-- `THROTTLE_EVAL` (R439): Every THR_PERIOD each throttle sub-zone level steps up, down or
  holds. -/
  | throttleEval
  /-- `THERMTRIP` (R441): A hardware thermal comparator fires, asserting THERMTRIP_N and the safe
  state within 20 µs. -/
  | thermtrip (x : Comparator)
  /-- `THERMAL_RESTART` (R442): When the restart conditions hold the steward clears the trip and
  starts the input sequence. -/
  | thermalRestart
  /-- `FAN_PERIOD_START` (R452): At each fan period start the fan switches turn on for the duty's
  ticks. -/
  | fanPeriodStart
  /-- `STRETCH_WINDOW_OPEN` (R453): Every STRETCH_S a stretch window holds all fan switches on.
  -/
  | stretchWindowOpen
  /-- `STRETCH_WINDOW_END` (R453): At the window's end each fan's measurement is valid or
  missing, and misses are counted. -/
  | stretchWindowEnd
  /-- `COOL_OVERRIDE_WRITE` (R457): A write to COOL_OVR raises a fan or pump duty for 5 s. -/
  | coolOverrideWrite (path : Path) (v : Word)
  /-- `OVERRIDE_EXPIRE` (R457): An override not renewed for 5 s ends. -/
  | overrideExpire (bmc : Bool)
  /-- `SPINUP_START` (R458): A channel is held at 100 % for a spin-up at Draft in force or after
  repeated missing measurements. -/
  | spinupStart (c : Channel)
  /-- `SPINUP_END` (R458): A spin-up ends passed or failed; a failure after the last retry is a
  fan or pump fault. -/
  | spinupEnd (c : Channel)
  /-- `RETRY_WAIT_END` (R459): After RETRY_S a new spin-up follows. -/
  | retryWaitEnd (c : Channel)
  /-- `PUMP_SPEED_SECOND` (R464): Each second the steward measures each pump's speed. -/
  | pumpSpeedSecond
  /-- `FLOW_SECOND` (R465): Each second the steward computes each flow and counts low readings
  toward a flow fault. -/
  | flowSecond
  /-- `FLOW_GRACE_END` (R465): FLOW_GRACE after a pump's spin-up sequence, its flow starts to be
  tested. -/
  | flowGraceEnd (k : Fin 2)
  /-- `LEAK_SAMPLE` (R466): At 10 Hz the leak inputs are sampled and classified, and zone actions
  applied. -/
  | leakSample (rope0 rope1 : Nat) (float : Bool)
  /-- `FAULT_REGISTER` (R476): The master collector registers a fault source, sets its status bit
  and latches the first source. -/
  | faultRegister (src : Fin 96) (detail : Nat)
  /-- `SELVAGE_FAULT_MSG` (R475): The subordinate collector's message passes a compute-die source
  to the master. -/
  | selvageFaultMsg (src : Fin 96) (detail : Nat)
  /-- `SELVAGE_LINK_TIMEOUT` (R479): No Selvage-link message for 10 ms registers source 11. -/
  | selvageLinkTimeout
  /-- `COLLECTOR_MISMATCH` (R478): A mismatch between collector register copies puts the package
  in the safe state. -/
  | collectorMismatch
  /-- `FAULT_STATUS_CLEAR` (R480): A write of 1 to a status bit clears it when its cause has
  ended, and may release FAULT_N or leave the safe state. -/
  | faultStatusClear (path : Path) (k : Fin 4) (v : Word)
  /-- `RECOVERY_BOUND_EXPIRE` (R483): A recovery level that misses its bound hands over to the
  next level. -/
  | recoveryBoundExpire (t : RecTarget) (engines : List RecTarget)
  /-- `DMA_HANG` (R486): An HBM DMA queue with no burst for 1 ms makes the engine hung and reset.
  -/
  | dmaHang (g : HomeGroup)
  /-- `WEFT_ENDPOINT_HANG` (R486): A weft endpoint message layer stalled for 1 ms is hung and
  reset. -/
  | weftEndpointHang (k : LinkIx)
  /-- `DECODE_ENGINE_HANG` (R486): A decode engine that has not ended a payload 1 ms after its
  bound is reset. -/
  | decodeEngineHang (e : EngineIx)
  /-- `HEDDLE_UE` (R486): An uncorrectable fault in a Heddle port or home channel decides a
  partition reset of cause 2. -/
  | heddleUe (p : Part)
  /-- `CTRL_UE` (R487): An uncorrectable fault in PD_CTRL, PD_HOSTIO or a quadrant domain decides
  a chip reset. -/
  | ctrlUe
  /-- `PARTITION_RESET_DRAIN` (R492): After drain the generation advances and both partition
  domains are gated. -/
  | partitionResetDrain (p : Part)
  /-- `PARTITION_MEM_UP` (R492): PD_Pn_MEM powers up, channels train, repairs are made and LOST
  leases get fresh keys. -/
  | partitionMemUp (p : Part) (lost : List (Fin 10240))
  /-- `PARTITION_RESET_COMPLETE` (R492): The partition is rebound with a sweep and admission
  resumes. -/
  | partitionResetComplete (p : Part) (failed : List (Cluster × CoreIx)) (dur : Nat)
  /-- `CHIP_RESET_COMPLETE` (R494): All home groups are trained and the chip reset is complete.
  -/
  | chipResetComplete
  /-- `POWER_CYCLE_RESTART` (R496): After the pass FET is held off 2 s an inrush starts without
  insertion delay. -/
  | powerCycleRestart
  /-- `EVENT_RECORD_WRITE` (R504): The steward writes the next queued event record into the flash
  areas. -/
  | eventRecordWrite
  /-- `CHECKPOINT_TIMER` (R506): Every CHECKPOINT_MIN the steward writes an operating-hours
  checkpoint. -/
  | checkpointTimer
  /-- `LOG_FETCH` (R514): A write to LOG_INDEX starts a fetch of a record into the path's buffer.
  -/
  | logFetch (path : Path) (v : Word)
  /-- `LOG_FETCH_DONE` (R514): The fetched record is in the buffer and READY is set. -/
  | logFetchDone (path : Path)
  /-- `ENGINE_RESET_DONE` (R486): An engine reset of a cluster, decode engine, HBM DMA engine or
  weft message layer completes and the engine takes work again. -/
  | engineResetDone (t : RecTarget)
  /-- `COMPUTE_DIE_RESET_ASSERT` (R494): When the chip reset's drain of accepted requests ends,
  the steward asserts the compute die's reset and every domain except PD_WEFTIO goes off. -/
  | computeDieResetAssert
  /-- `REVERSE_ORDER_RAIL_DISABLE` (R411): During a rail failure or power cycle the next rail is
  disabled when the previous reads below 10 % of nominal or 5 ms after its disable. -/
  | reverseOrderRailDisable
  /-- `TACH_EDGE` (R453): A falling edge on a fan or pump tach input, or a pulse on a flow input,
  is registered for the running measurement or spin-up. -/
  | tachEdge (x : TachInput)
  /-- `IDLE_FLIT_SEND` (R227): An idle weft link end sends an IDLE flit carrying LACK at least
  once per 1 µs. -/
  | idleFlitSend (k : LinkIx)
  /-- `KEEP_ALIVE` (R479): A keep-alive from the subordinate collector arrives over the Selvage
  link and restarts the steward's 10 ms link timer. -/
  | keepAlive
  /-- `VOUT_COMMAND_WRITE_DONE` (R414): The PMBus write of VOUT_COMMAND to the VDD_CORE regulator
  ends, and a request that waited meanwhile is written next. -/
  | voutCommandWriteDone
  deriving DecidableEq, Repr

end Sys2Proof
end

