-- ==== Sys2Proof/Decode.lean ====
section
/-! DEFINITION. Commands by the words of spec/opcode_table.json: the table gives no row any bits. -/

namespace Sys2Proof

/-- The command that a word spells by the table's bits.  No row of the table has a field, so no word spells
a command: the device takes its commands from its pins, links and paths. -/
def decodeTableWord (_nbits _w : Nat) : Option Instr := none

end Sys2Proof
end

