-- ==== Sys2Proof/Config.lean ====
section
/-! DEFINITION. What the manual leaves open (free values) and what it fixes by mathematics this
model does not compute (hashes, key exchange).  An `opaque` constant without a body has no value
that a proof can see. -/

namespace Sys2Proof.Config

/-- The `n`-th free value of a run: a value that the manual does not fix (notes/assumptions/2). -/
opaque free : Nat → Nat

/-- SHAKE256, 512 bits of output (FIPS 202; R315, R318, R352): used, never computed. -/
opaque shake256 : List Byte → BitVec 512

/-- The device's identity public key, 57 bytes (R317). -/
opaque identityPub : List Byte

/-- The identity certificate, at most 1,024 bytes (after R319). -/
opaque certificate : List Byte

/-- An Ed448ph signature by the identity key: the context string and the bytes signed (R320, R322). -/
opaque sign : List Byte → List Byte → List Byte

/-- The Selvage ROM measurement (R315). -/
opaque romMeasurement : BitVec 512

/-- The public value of the per-boot key made at the `n`-th release of the compute die (R320). -/
opaque bootPub : Nat → List Byte

/-- Factory repair map in fuses (R54): the factory-retired cores of a cluster, by partition and
cluster, as a 17-bit mask. -/
opaque factoryRetired : Nat → Nat → BitVec 17

/-- Which reading of the tolerance of an age count holds, by frame: −1 to +2 µs (R195). -/
opaque ageError : Nat → Nat

/-- The pair key that a link's two ends derive from the own per-boot key (by its number) and the far
end's public value (R231). -/
opaque pairKey : Nat → BitVec 448 → BitVec 512

/-- What a byte of HBM reads as under a key that has not written it (R122, R129): by key and place. -/
opaque hbmUnwritten : Nat → Byte

/-- The factory's energy coefficients, in nJ at the reference voltage (R424, R433), by index. -/
opaque energyCoef : Nat → Rat

/-- The reference voltage of the energy coefficients, mV (R424). -/
opaque refMv : Nat

/-- The leakage term of a partition's estimate, nJ in 1 µs (R424, R433): from `VDD_CORE` in mV, the
temperature in 1/64 °C, and the user gains of coefficients 8 to 10. -/
opaque leakage : Nat → Int → List Int → Rat

/-- The fused voltage-frequency curve: `VDD_CORE` in mV for a partition clock in MHz (R40, R426). -/
opaque coreMv : Nat → Nat

/-- The level of `PRESENCE_N` by model time; true: low (`PRES_GRANT.BTN_DOWN`). -/
opaque buttonLow : Nat → Bool

/-- An owner key decodes as an Ed448 point (R338). -/
opaque validKey : List Byte → Bool

end Sys2Proof.Config
end

