-- ==== Sys2Proof/Machine/Fields.lean ====
section
/-! DEFINITION. The register fields of the manual's register tables, by their names: bits and
reset value.  The number is the field's place in the register file of `State`.  Where a table's
reset is not a number, or differs by instance, the value here is what `State.reset` and the resets
start from and the log (notes/assumptions) says how it is made up. -/

namespace Sys2Proof.Machine

/-- A register field, or an internal counter or flag of the device: its number in the register
file, its bits `[hi:lo]` within the register, its reset value. -/
structure Fld where
  id : Nat
  hi : Nat
  lo : Nat
  reset : Nat
  deriving DecidableEq, Repr

/-- The number of values a field can hold. -/
def Fld.size (f : Fld) : Nat := 2 ^ (f.hi - f.lo + 1)

namespace F

-- `PART_SEL` (R8)
def PART_SEL_SEL : Fld := ⟨0, 7, 0, 0⟩
-- `CTX_SEL` (R8)
def CTX_SEL_SEL : Fld := ⟨1, 15, 0, 0⟩
-- `SPOOL_SEL` (R8)
def SPOOL_SEL_SEL : Fld := ⟨2, 15, 0, 0⟩
-- `LINK_SEL` (R8)
def LINK_SEL_SEL : Fld := ⟨3, 7, 0, 0⟩
-- `PART_STATE` (R65)
def PART_STATE_STATE : Fld := ⟨4, 3, 0, 0⟩
def PART_STATE_SWEEP_DUE : Fld := ⟨5, 4, 4, 1⟩
def PART_STATE_ARR_ON : Fld := ⟨6, 5, 5, 0⟩
def PART_STATE_MEM_ON : Fld := ⟨7, 6, 6, 1⟩
-- `PART_LEASE_OWNER` (R65)
def PART_LEASE_OWNER_OWNER : Fld := ⟨8, 15, 0, 0⟩
-- `PART_CLUSTERS_OK` (R65)
def PART_CLUSTERS_OK_CLUSTERS_OK : Fld := ⟨9, 6, 0, 0⟩
def PART_CLUSTERS_OK_VARIANT : Fld := ⟨10, 14, 8, 0⟩
-- `PART_GEN` (R65)
def PART_GEN_GEN : Fld := ⟨11, 5, 0, 0⟩
def PART_GEN_STALE_DROPS : Fld := ⟨12, 31, 16, 0⟩
-- `PART_FAULT_CTX` (R65)
def PART_FAULT_CTX_CTX : Fld := ⟨13, 15, 0, 0⟩
def PART_FAULT_CTX_LEVEL : Fld := ⟨14, 19, 16, 0⟩
def PART_FAULT_CTX_CAUSE : Fld := ⟨15, 23, 20, 0⟩
def PART_FAULT_CTX_CLUSTER : Fld := ⟨16, 30, 24, 0⟩
def PART_FAULT_CTX_VALID : Fld := ⟨17, 31, 31, 0⟩
-- `PART_CAP_FRACTION` (R65)
def PART_CAP_FRACTION_FRACTION : Fld := ⟨18, 8, 0, 16⟩
-- `PART_THROTTLE` (R65)
def PART_THROTTLE_PCT : Fld := ⟨19, 6, 0, 0⟩
def PART_THROTTLE_CAUSE_CAP : Fld := ⟨20, 8, 8, 0⟩
def PART_THROTTLE_CAUSE_DROOP : Fld := ⟨21, 9, 9, 0⟩
def PART_THROTTLE_CAUSE_THERMAL : Fld := ⟨22, 10, 10, 0⟩
def PART_THROTTLE_CAUSE_GUST : Fld := ⟨23, 11, 11, 0⟩
def PART_THROTTLE_CAUSE_SYMPATHY : Fld := ⟨24, 12, 12, 0⟩
/-- `PART_ENERGY_LO`/`PART_ENERGY_HI`, R65. -/
def PART_ENERGY : Fld := ⟨25, 63, 0, 0⟩
-- `PART_CTRL` (R65)
def PART_CTRL_SWEEP_NEXT : Fld := ⟨26, 0, 0, 0⟩
def PART_CTRL_AUTO_REPAIR : Fld := ⟨27, 1, 1, 1⟩
-- `PART_SWEEP_STATUS` (R65)
def PART_SWEEP_STATUS_DONE : Fld := ⟨28, 0, 0, 0⟩
def PART_SWEEP_STATUS_PASS : Fld := ⟨29, 1, 1, 0⟩
def PART_SWEEP_STATUS_CORES_FAILED : Fld := ⟨30, 11, 4, 0⟩
def PART_SWEEP_STATUS_CLUSTERS_RETIRED : Fld := ⟨31, 18, 12, 0⟩
def PART_SWEEP_STATUS_DURATION : Fld := ⟨32, 31, 20, 0⟩
-- `PART_REPAIR` (R65)
def PART_REPAIR_SPARES_LEFT : Fld := ⟨33, 6, 0, 0⟩
def PART_REPAIR_PENDING : Fld := ⟨34, 14, 8, 0⟩
def PART_REPAIR_FACTORY_SPARES_USED : Fld := ⟨35, 22, 16, 0⟩
def PART_REPAIR_USER_RETIRED : Fld := ⟨36, 30, 24, 0⟩
-- `PART_CL_INDEX` (R65)
def PART_CL_INDEX_INDEX : Fld := ⟨37, 6, 0, 0⟩
-- `PART_CL_DATA` (R65)
def PART_CL_DATA_MAPPED : Fld := ⟨38, 16, 0, 0⟩
def PART_CL_DATA_RETIRED : Fld := ⟨39, 17, 17, 0⟩
def PART_CL_DATA_SPARE_FREE : Fld := ⟨40, 18, 18, 0⟩
def PART_CL_DATA_LOGICAL : Fld := ⟨41, 26, 20, 127⟩
-- `PART_CL_RETIRED` (R65)
def PART_CL_RETIRED_CORES : Fld := ⟨42, 16, 0, 0⟩
-- `PART_CL_PENDING` (R65)
def PART_CL_PENDING_CORES : Fld := ⟨43, 16, 0, 0⟩
def PART_CL_PENDING_CE_CORE : Fld := ⟨44, 24, 20, 0⟩
def PART_CL_PENDING_CE_LEVEL : Fld := ⟨45, 31, 28, 0⟩
-- `PART_ARITH_STATUS` (R92)
def PART_ARITH_STATUS_SAT_COUNT : Fld := ⟨46, 15, 0, 0⟩
def PART_ARITH_STATUS_NAN_COUNT : Fld := ⟨47, 31, 16, 0⟩
-- `PART_ARITH_CTRL` (R93)
def PART_ARITH_CTRL_SR_FIXED : Fld := ⟨48, 0, 0, 0⟩
-- `BEAM_SUMMARY` (R132)
def BEAM_SUMMARY_FREE : Fld := ⟨49, 8, 0, 0⟩
def BEAM_SUMMARY_LEASED : Fld := ⟨50, 17, 9, 0⟩
def BEAM_SUMMARY_RETIRED : Fld := ⟨51, 26, 18, 0⟩
def BEAM_SUMMARY_FIXED : Fld := ⟨52, 31, 27, 24⟩
-- `BEAM_ECC` (R132)
def BEAM_ECC_CE : Fld := ⟨53, 15, 0, 0⟩
def BEAM_ECC_UE : Fld := ⟨54, 23, 16, 0⟩
def BEAM_ECC_SPARINGS : Fld := ⟨55, 31, 24, 0⟩
-- `BEAM_SPARES` (R132)
def BEAM_SPARES_Q0 : Fld := ⟨56, 5, 0, 0⟩
def BEAM_SPARES_Q1 : Fld := ⟨57, 13, 8, 0⟩
def BEAM_SPARES_Q2 : Fld := ⟨58, 21, 16, 0⟩
def BEAM_SPARES_Q3 : Fld := ⟨59, 29, 24, 0⟩
-- `BEAM_BOLT_INDEX` (R132)
def BEAM_BOLT_INDEX_INDEX : Fld := ⟨60, 7, 0, 0⟩
-- `BEAM_BOLT_DATA` (R132)
def BEAM_BOLT_DATA_STATE : Fld := ⟨61, 2, 0, 0⟩
def BEAM_BOLT_DATA_OWNER : Fld := ⟨62, 19, 4, 0⟩
def BEAM_BOLT_DATA_FIXED_USE : Fld := ⟨63, 22, 20, 0⟩
def BEAM_BOLT_DATA_RETIRE_ON_RELEASE : Fld := ⟨64, 24, 24, 0⟩
def BEAM_BOLT_DATA_SPARE_USED : Fld := ⟨65, 25, 25, 0⟩
def BEAM_BOLT_DATA_EXCHANGED : Fld := ⟨66, 26, 26, 0⟩
-- `BEAM_LEASE_VIOL` (R132)
def BEAM_LEASE_VIOL_COUNT : Fld := ⟨67, 15, 0, 0⟩
-- `HDM_CFG` (R132)
def HDM_CFG_SIZE_GIB : Fld := ⟨68, 9, 0, 0⟩
def HDM_CFG_APPLY : Fld := ⟨69, 16, 16, 0⟩
def HDM_CFG_ACTIVE : Fld := ⟨70, 17, 17, 0⟩
def HDM_CFG_ERR : Fld := ⟨71, 18, 18, 0⟩
def HDM_CFG_CUR_GIB : Fld := ⟨72, 29, 20, 0⟩
-- `HDM_STATUS` (R132)
def HDM_STATUS_LOST : Fld := ⟨73, 15, 0, 0⟩
-- `HBM_GRP_EXTENTS` (R132)
def HBM_GRP_EXTENTS_FREE : Fld := ⟨74, 9, 0, 0⟩
def HBM_GRP_EXTENTS_LEASED : Fld := ⟨75, 19, 10, 16⟩
def HBM_GRP_EXTENTS_RETIRED : Fld := ⟨76, 29, 20, 0⟩
-- `HBM_GRP_KEYS` (R132)
def HBM_GRP_KEYS_USED : Fld := ⟨77, 8, 0, 1⟩
def HBM_GRP_KEYS_FREE : Fld := ⟨78, 17, 9, 255⟩
-- `HBM_GRP_ECC` (R132)
def HBM_GRP_ECC_CE : Fld := ⟨79, 15, 0, 0⟩
def HBM_GRP_ECC_UE : Fld := ⟨80, 31, 16, 0⟩
-- `HBM_GRP_REPAIR` (R132)
def HBM_GRP_REPAIR_PENDING : Fld := ⟨81, 7, 0, 0⟩
def HBM_GRP_REPAIR_DONE : Fld := ⟨82, 15, 8, 0⟩
def HBM_GRP_REPAIR_FAILED : Fld := ⟨83, 23, 16, 0⟩
-- `HBM_GRP_STATE` (R132)
def HBM_GRP_STATE_TRAINED : Fld := ⟨84, 0, 0, 0⟩
def HBM_GRP_STATE_ERASED : Fld := ⟨85, 1, 1, 0⟩
def HBM_GRP_STATE_LOST_LEASES : Fld := ⟨86, 9, 2, 0⟩
-- `HBM_EXT_INDEX` (R132)
def HBM_EXT_INDEX_INDEX : Fld := ⟨87, 9, 0, 0⟩
-- `HBM_EXT_DATA` (R132)
def HBM_EXT_DATA_STATE : Fld := ⟨88, 1, 0, 0⟩
def HBM_EXT_DATA_OWNER : Fld := ⟨89, 17, 2, 0⟩
def HBM_EXT_DATA_SLOT : Fld := ⟨90, 25, 18, 0⟩
-- `CTX_DELTA_POLICY` (R160)
def CTX_DELTA_POLICY_ENABLE : Fld := ⟨91, 0, 0, 1⟩
def CTX_DELTA_POLICY_STAGGER : Fld := ⟨92, 1, 1, 1⟩
def CTX_DELTA_POLICY_FORCE_REFRESH : Fld := ⟨93, 2, 2, 0⟩
def CTX_DELTA_POLICY_REFRESH_ON_TAKEOVER : Fld := ⟨94, 3, 3, 0⟩
def CTX_DELTA_POLICY_THRESH_SCALE : Fld := ⟨95, 11, 4, 16⟩
def CTX_DELTA_POLICY_PEAK_FACTOR : Fld := ⟨96, 15, 12, 8⟩
def CTX_DELTA_POLICY_SCENE_CUT : Fld := ⟨97, 23, 16, 192⟩
-- `CTX_REFRESH_EVERY` (R160)
def CTX_REFRESH_EVERY_N : Fld := ⟨98, 12, 0, 64⟩
def CTX_REFRESH_EVERY_COUNTDOWN : Fld := ⟨99, 28, 16, 0⟩
-- `CTX_DELTA_STATUS` (R160)
def CTX_DELTA_STATUS_PLAN : Fld := ⟨100, 0, 0, 0⟩
def CTX_DELTA_STATUS_STATE_VALID : Fld := ⟨101, 1, 1, 0⟩
def CTX_DELTA_STATUS_CARRIED_INIT : Fld := ⟨102, 2, 2, 0⟩
def CTX_DELTA_STATUS_NAN_SEEN : Fld := ⟨103, 3, 3, 0⟩
def CTX_DELTA_STATUS_LAST_CAUSE : Fld := ⟨104, 7, 4, 0⟩
def CTX_DELTA_STATUS_LAST_CHANGED : Fld := ⟨105, 15, 8, 0⟩
def CTX_DELTA_STATUS_REFRESHES : Fld := ⟨106, 31, 16, 0⟩
-- `CTX_DELTA_SEQ` (R160)
def CTX_DELTA_SEQ_SEQ : Fld := ⟨107, 31, 0, 0⟩
/-- `CTX_DELTA_TILES_LO`/`CTX_DELTA_TILES_HI`, R160. -/
def CTX_DELTA_TILES : Fld := ⟨108, 63, 0, 0⟩
/-- `CTX_DELTA_SKIPPED_LO`/`CTX_DELTA_SKIPPED_HI`, R160. -/
def CTX_DELTA_SKIPPED : Fld := ⟨109, 63, 0, 0⟩
/-- `CMD_ADDR_LO`/`CMD_ADDR_HI`, R202. -/
def CMD_ADDR : Fld := ⟨110, 63, 0, 0⟩
-- `CMD_GO` (R202)
def CMD_GO_GO : Fld := ⟨111, 0, 0, 0⟩
-- `CMD_STATUS` (R202)
def CMD_STATUS_BUSY : Fld := ⟨112, 0, 0, 0⟩
def CMD_STATUS_DONE : Fld := ⟨113, 1, 1, 0⟩
def CMD_STATUS_REASON : Fld := ⟨114, 15, 8, 0⟩
def CMD_STATUS_BINDING : Fld := ⟨115, 19, 16, 0⟩
-- `CMD_MISSING0` (R202)
def CMD_MISSING0_BOLTS : Fld := ⟨116, 8, 0, 0⟩
def CMD_MISSING0_PARTITIONS : Fld := ⟨117, 20, 16, 0⟩
-- `CMD_MISSING1` (R202)
def CMD_MISSING1_EXTENTS : Fld := ⟨118, 13, 0, 0⟩
def CMD_MISSING1_DECODE_UNITS : Fld := ⟨119, 23, 16, 0⟩
def CMD_MISSING1_KEY_SLOTS : Fld := ⟨120, 31, 24, 0⟩
-- `CMD_RESULT` (R202)
def CMD_RESULT_HANDLE : Fld := ⟨121, 9, 0, 0⟩
def CMD_RESULT_SPILL_LEVEL : Fld := ⟨122, 19, 16, 0⟩
-- `CTX_STATE` (R202)
def CTX_STATE_STATE : Fld := ⟨123, 2, 0, 0⟩
def CTX_STATE_HOLD_CAUSE : Fld := ⟨124, 7, 4, 0⟩
def CTX_STATE_QUEUED : Fld := ⟨125, 15, 8, 0⟩
-- `CTX_BUNDLE` (R202)
def CTX_BUNDLE_BUNDLE : Fld := ⟨126, 9, 0, 0⟩
def CTX_BUNDLE_BINDING : Fld := ⟨127, 19, 16, 0⟩
def CTX_BUNDLE_OWNER : Fld := ⟨128, 31, 20, 0⟩
-- `CTX_SPOOL` (R202)
def CTX_SPOOL_SPOOL : Fld := ⟨129, 9, 0, 0⟩
def CTX_SPOOL_LATE_POLICY : Fld := ⟨130, 16, 16, 0⟩
-- `CTX_DEADLINE_US` (R202)
def CTX_DEADLINE_US_DEADLINE : Fld := ⟨131, 19, 0, 0⟩
-- `CTX_FRAMES_DONE` (R202)
def CTX_FRAMES_DONE_COUNT : Fld := ⟨132, 31, 0, 0⟩
-- `CTX_FRAMES_LATE` (R202)
def CTX_FRAMES_LATE_COUNT : Fld := ⟨133, 31, 0, 0⟩
-- `CTX_FRAMES_FAILED` (R202)
def CTX_FRAMES_FAILED_COUNT : Fld := ⟨134, 31, 0, 0⟩
-- `CTX_SHADOW` (R202)
def CTX_SHADOW_EN : Fld := ⟨135, 0, 0, 0⟩
def CTX_SHADOW_ROLE : Fld := ⟨136, 2, 1, 0⟩
def CTX_SHADOW_ACK_PENDING : Fld := ⟨137, 3, 3, 0⟩
def CTX_SHADOW_TWIN_CTX : Fld := ⟨138, 19, 4, 0⟩
-- `CTX_LAST_AGE` (R202)
def CTX_LAST_AGE_AGE_US : Fld := ⟨139, 19, 0, 0⟩
-- `CTX_SPILL` (R202)
def CTX_SPILL_LEVEL : Fld := ⟨140, 3, 0, 0⟩
def CTX_SPILL_SLOWDOWN_PCT : Fld := ⟨141, 15, 8, 0⟩
/-- `SPOOL_BASE_LO`/`SPOOL_BASE_HI`, R202. -/
def SPOOL_BASE : Fld := ⟨142, 63, 0, 0⟩
/-- `SPOOL_CQ_BASE_LO`/`SPOOL_CQ_BASE_HI`, R202. -/
def SPOOL_CQ_BASE : Fld := ⟨143, 63, 0, 0⟩
-- `SPOOL_SIZE` (R202)
def SPOOL_SIZE_SQ_LOG2 : Fld := ⟨144, 4, 0, 4⟩
def SPOOL_SIZE_CQ_LOG2 : Fld := ⟨145, 12, 8, 4⟩
def SPOOL_SIZE_OPEN : Fld := ⟨146, 31, 31, 0⟩
-- `SPOOL_HEAD` (R202)
def SPOOL_HEAD_INDEX : Fld := ⟨147, 16, 0, 0⟩
-- `SPOOL_TAIL` (R202)
def SPOOL_TAIL_INDEX : Fld := ⟨148, 16, 0, 0⟩
-- `SPOOL_CQ_HEAD` (R202)
def SPOOL_CQ_HEAD_INDEX : Fld := ⟨149, 16, 0, 0⟩
-- `SPOOL_CQ_TAIL` (R202)
def SPOOL_CQ_TAIL_INDEX : Fld := ⟨150, 16, 0, 0⟩
-- `SPOOL_OWNER` (R202)
def SPOOL_OWNER_OWNER : Fld := ⟨151, 11, 0, 0⟩
/-- `SPOOL_ENERGY_LO`/`SPOOL_ENERGY_HI`, R202. -/
def SPOOL_ENERGY : Fld := ⟨152, 63, 0, 0⟩
-- `SPOOL_STATUS` (R202)
def SPOOL_STATUS_BAD_ENTRIES : Fld := ⟨153, 15, 0, 0⟩
def SPOOL_STATUS_CQ_STALLS : Fld := ⟨154, 31, 16, 0⟩
-- `DEC_FREE` (R221)
def DEC_FREE_Q0 : Fld := ⟨155, 7, 0, 192⟩
def DEC_FREE_Q1 : Fld := ⟨156, 15, 8, 192⟩
def DEC_FREE_Q2 : Fld := ⟨157, 23, 16, 192⟩
def DEC_FREE_Q3 : Fld := ⟨158, 31, 24, 192⟩
-- `DEC_JPEG_FREE` (R221)
def DEC_JPEG_FREE_Q0 : Fld := ⟨159, 4, 0, 16⟩
def DEC_JPEG_FREE_Q2 : Fld := ⟨160, 12, 8, 16⟩
-- `DEC_INDEX` (R221)
def DEC_INDEX_INDEX : Fld := ⟨161, 5, 0, 0⟩
-- `DEC_DATA` (R221)
def DEC_DATA_GRANTED : Fld := ⟨162, 5, 0, 0⟩
def DEC_DATA_BUSY : Fld := ⟨163, 6, 6, 0⟩
def DEC_DATA_BINDINGS : Fld := ⟨164, 12, 8, 0⟩
def DEC_DATA_ENDED : Fld := ⟨165, 31, 16, 0⟩
-- `CTX_DECODE` (R221)
def CTX_DECODE_FAILS : Fld := ⟨166, 15, 0, 0⟩
def CTX_DECODE_LAST_CAUSE : Fld := ⟨167, 19, 16, 0⟩
def CTX_DECODE_BROKEN : Fld := ⟨168, 20, 20, 0⟩
def CTX_DECODE_SOURCE : Fld := ⟨169, 23, 21, 0⟩
def CTX_DECODE_DISCARDS : Fld := ⟨170, 31, 24, 0⟩
-- `CTX_INPUT` (R221)
def CTX_INPUT_CODEC : Fld := ⟨171, 2, 0, 0⟩
-- `WEFT_CFG` (R254)
def WEFT_CFG_NODE : Fld := ⟨172, 3, 0, 0⟩
def WEFT_CFG_CONFIG : Fld := ⟨173, 5, 4, 2⟩
def WEFT_CFG_SYMPATHY : Fld := ⟨174, 6, 6, 0⟩
def WEFT_CFG_STEP_TIMEOUT_MS : Fld := ⟨175, 17, 8, 20⟩
-- `WEFT_LINK_STATE` (R254)
def WEFT_LINK_STATE_STATE : Fld := ⟨176, 2, 0, 0⟩
def WEFT_LINK_STATE_PEER : Fld := ⟨177, 7, 4, 0⟩
def WEFT_LINK_STATE_EXPECT : Fld := ⟨178, 11, 8, 0⟩
def WEFT_LINK_STATE_BAD_LANE : Fld := ⟨179, 14, 12, 7⟩
def WEFT_LINK_STATE_DOWNS : Fld := ⟨180, 31, 16, 0⟩
-- `WEFT_LINK_ERR` (R254)
def WEFT_LINK_ERR_FEC_CORR : Fld := ⟨181, 15, 0, 0⟩
def WEFT_LINK_ERR_CRC_ERR : Fld := ⟨182, 23, 16, 0⟩
def WEFT_LINK_ERR_REPLAYS : Fld := ⟨183, 31, 24, 0⟩
-- `WEFT_LINK_UNITS` (R254)
def WEFT_LINK_UNITS_FREE : Fld := ⟨184, 6, 0, 64⟩
def WEFT_LINK_UNITS_SHADOW_RSV : Fld := ⟨185, 13, 8, 0⟩
def WEFT_LINK_UNITS_HOLDERS : Fld := ⟨186, 20, 16, 0⟩
-- `WEFT_ROUTE_INDEX` (R254)
def WEFT_ROUTE_INDEX_DEST : Fld := ⟨187, 3, 0, 0⟩
-- `WEFT_ROUTE_DATA` (R254)
def WEFT_ROUTE_DATA_LINK : Fld := ⟨188, 3, 0, 0⟩
def WEFT_ROUTE_DATA_VIA : Fld := ⟨189, 7, 4, 0⟩
def WEFT_ROUTE_DATA_HOPS : Fld := ⟨190, 9, 8, 0⟩
def WEFT_ROUTE_DATA_VALID : Fld := ⟨191, 10, 10, 0⟩
def WEFT_ROUTE_DATA_ALTERNATE : Fld := ⟨192, 11, 11, 0⟩
-- `WEFT_BIND_INDEX` (R254)
def WEFT_BIND_INDEX_BINDING : Fld := ⟨193, 3, 0, 0⟩
-- `WEFT_JOB_STATE` (R254)
def WEFT_JOB_STATE_STATE : Fld := ⟨194, 2, 0, 0⟩
def WEFT_JOB_STATE_EPOCH : Fld := ⟨195, 7, 4, 0⟩
def WEFT_JOB_STATE_HANDLE : Fld := ⟨196, 19, 8, 0⟩
def WEFT_JOB_STATE_STRETCH_PCT : Fld := ⟨197, 26, 20, 0⟩
def WEFT_JOB_STATE_LOSSES : Fld := ⟨198, 31, 27, 0⟩
-- `WEFT_JOB_PEERS` (R254)
def WEFT_JOB_PEERS_EXPECTED : Fld := ⟨199, 15, 0, 0⟩
def WEFT_JOB_PEERS_JOINED : Fld := ⟨200, 31, 16, 0⟩
-- `WEFT_ACCEPT` (R254)
def WEFT_ACCEPT_EN : Fld := ⟨201, 0, 0, 0⟩
def WEFT_ACCEPT_SPOOL : Fld := ⟨202, 11, 2, 0⟩
def WEFT_ACCEPT_COPIES : Fld := ⟨203, 31, 16, 0⟩
-- `WEFT_VIOL` (R254)
def WEFT_VIOL_COUNT : Fld := ⟨204, 15, 0, 0⟩
def WEFT_VIOL_STALE : Fld := ⟨205, 31, 16, 0⟩
-- `CTX_SHADOW_STATUS` (R254)
def CTX_SHADOW_STATUS_STATE : Fld := ⟨206, 2, 0, 0⟩
def CTX_SHADOW_STATUS_ERR : Fld := ⟨207, 7, 4, 0⟩
def CTX_SHADOW_STATUS_PRIMARY_CTX : Fld := ⟨208, 23, 8, 0⟩
def CTX_SHADOW_STATUS_LAPSES : Fld := ⟨209, 31, 24, 0⟩
-- `HOST_LINK` (R286)
def HOST_LINK_MODE : Fld := ⟨210, 1, 0, 0⟩
def HOST_LINK_WIDTH : Fld := ⟨211, 7, 3, 16⟩
def HOST_LINK_SPEED : Fld := ⟨212, 10, 8, 5⟩
def HOST_LINK_DOWNS : Fld := ⟨213, 31, 16, 0⟩
-- `HOST_ERR` (R286)
def HOST_ERR_UR : Fld := ⟨214, 7, 0, 0⟩
def HOST_ERR_CA : Fld := ⟨215, 15, 8, 0⟩
def HOST_ERR_POISON_IN : Fld := ⟨216, 23, 16, 0⟩
def HOST_ERR_TIMEOUTS : Fld := ⟨217, 31, 24, 0⟩
/-- `HOST_EVQ_BASE_LO`/`HOST_EVQ_BASE_HI`, R286. -/
def HOST_EVQ_BASE : Fld := ⟨218, 63, 0, 0⟩
-- `HOST_EVQ_SIZE` (R286)
def HOST_EVQ_SIZE_LOG2 : Fld := ⟨219, 3, 0, 4⟩
def HOST_EVQ_SIZE_EN : Fld := ⟨220, 8, 8, 0⟩
def HOST_EVQ_SIZE_OVF : Fld := ⟨221, 9, 9, 0⟩
def HOST_EVQ_SIZE_LOST : Fld := ⟨222, 31, 16, 0⟩
-- `HOST_BIAS_INDEX` (R286)
def HOST_BIAS_INDEX_UNIT : Fld := ⟨223, 12, 0, 0⟩
-- `HOST_BIAS_DATA` (R286)
def HOST_BIAS_DATA_DEVICE : Fld := ⟨224, 0, 0, 0⟩
def HOST_BIAS_DATA_FLIPS : Fld := ⟨225, 31, 16, 0⟩
-- `SPOOL_IRQ` (R286)
def SPOOL_IRQ_EN : Fld := ⟨226, 0, 0, 0⟩
def SPOOL_IRQ_COUNT : Fld := ⟨227, 15, 8, 1⟩
def SPOOL_IRQ_TIME_US : Fld := ⟨228, 31, 16, 0⟩
-- `HOST_STATUS` (R286)
def HOST_STATUS_FW_UP : Fld := ⟨229, 0, 0, 0⟩
def HOST_STATUS_FRONT : Fld := ⟨230, 1, 1, 0⟩
def HOST_STATUS_WQ_DEPTH : Fld := ⟨231, 10, 2, 0⟩
def HOST_STATUS_WQ_DROPS : Fld := ⟨232, 31, 16, 0⟩
-- `HOST_EVQ_HEAD` (R286)
def HOST_EVQ_HEAD_INDEX : Fld := ⟨233, 16, 0, 0⟩
-- `HOST_EVQ_TAIL` (R286)
def HOST_EVQ_TAIL_INDEX : Fld := ⟨234, 16, 0, 0⟩
-- `FW_STATE` (R314)
def FW_STATE_STATE : Fld := ⟨235, 2, 0, 0⟩
-- `FW_IDENT_VER` (R314)
def FW_IDENT_VER_VERSION : Fld := ⟨236, 31, 0, 0⟩
/-- `FW_LOAD_ADDR_LO`/`FW_LOAD_ADDR_HI`, R314. -/
def FW_LOAD_ADDR : Fld := ⟨237, 63, 0, 0⟩
-- `FW_LOAD_LEN` (R314)
def FW_LOAD_LEN_LEN : Fld := ⟨238, 21, 0, 0⟩
-- `FW_LOAD` (R314)
def FW_LOAD_GO : Fld := ⟨239, 0, 0, 0⟩
-- `FW_STAGE` (R314)
def FW_STAGE_GO : Fld := ⟨240, 0, 0, 0⟩
-- `FW_ACTIVATE` (R314)
def FW_ACTIVATE_ACTIVATE : Fld := ⟨241, 0, 0, 0⟩
def FW_ACTIVATE_CANCEL : Fld := ⟨242, 1, 1, 0⟩
-- `FW_RESULT` (R314)
def FW_RESULT_REASON : Fld := ⟨243, 7, 0, 0⟩
def FW_RESULT_STAGED : Fld := ⟨244, 8, 8, 0⟩
def FW_RESULT_ACT_PENDING : Fld := ⟨245, 9, 9, 0⟩
def FW_RESULT_DEFERRED : Fld := ⟨246, 10, 10, 0⟩
def FW_RESULT_TAKEOVER : Fld := ⟨247, 11, 11, 0⟩
def FW_RESULT_RESIDENT : Fld := ⟨248, 12, 12, 0⟩
-- `FW_RESTARTS` (R314)
def FW_RESTARTS_COUNT : Fld := ⟨249, 15, 0, 0⟩
def FW_RESTARTS_IN_WINDOW : Fld := ⟨250, 18, 16, 0⟩
def FW_RESTARTS_LAST_CAUSE : Fld := ⟨251, 22, 20, 0⟩
def FW_RESTARTS_READ_TIMEOUTS : Fld := ⟨252, 31, 24, 0⟩
/-- `FW_LOG_BASE_LO`/`FW_LOG_BASE_HI`, R314. -/
def FW_LOG_BASE : Fld := ⟨253, 63, 0, 0⟩
-- `FW_LOG_SIZE` (R314)
def FW_LOG_SIZE_LOG2 : Fld := ⟨254, 4, 0, 4⟩
def FW_LOG_SIZE_EN : Fld := ⟨255, 8, 8, 0⟩
def FW_LOG_SIZE_LOST : Fld := ⟨256, 31, 16, 0⟩
-- `FW_LOG_HEAD` (R314)
def FW_LOG_HEAD_INDEX : Fld := ⟨257, 16, 0, 0⟩
-- `FW_LOG_TAIL` (R314)
def FW_LOG_TAIL_INDEX : Fld := ⟨258, 16, 0, 0⟩
-- `FW_TRACE_EN` (R314)
def FW_TRACE_EN_GROUPS : Fld := ⟨259, 15, 0, 0⟩
def FW_TRACE_EN_LEVEL : Fld := ⟨260, 17, 16, 1⟩
-- `FW_IDENT_DIGEST` (R314)
def FW_IDENT_DIGEST_DIGEST : Fld := ⟨261, 31, 0, 0⟩
-- `SEC_STATUS` (R344)
def SEC_STATUS_OWNERS : Fld := ⟨262, 11, 0, 0⟩
def SEC_STATUS_ID_FAIL : Fld := ⟨263, 12, 12, 0⟩
def SEC_STATUS_DRBG_STOP : Fld := ⟨264, 13, 13, 0⟩
def SEC_STATUS_BOOT_KEY : Fld := ⟨265, 14, 14, 0⟩
-- `SEC_AUTH` (R344)
def SEC_AUTH_CMD_FAILS : Fld := ⟨266, 7, 0, 0⟩
def SEC_AUTH_OPEN_FAILS : Fld := ⟨267, 15, 8, 0⟩
def SEC_AUTH_PAYLOAD_FAILS : Fld := ⟨268, 31, 16, 0⟩
-- `PRES_CMD` (R344)
def PRES_CMD_OPCODE : Fld := ⟨269, 7, 0, 0⟩
def PRES_CMD_CANCEL : Fld := ⟨270, 8, 8, 0⟩
-- `PRES_STATUS` (R344)
def PRES_STATUS_STATE : Fld := ⟨271, 2, 0, 0⟩
def PRES_STATUS_RESULT : Fld := ⟨272, 7, 4, 0⟩
def PRES_STATUS_PATH : Fld := ⟨273, 10, 8, 0⟩
def PRES_STATUS_OPCODE : Fld := ⟨274, 23, 16, 0⟩
def PRES_STATUS_WAIT_S : Fld := ⟨275, 31, 24, 0⟩
-- `PRES_GRANT` (R344)
def PRES_GRANT_JMP_GRANT : Fld := ⟨276, 0, 0, 0⟩
def PRES_GRANT_SEAL_GRANT : Fld := ⟨277, 1, 1, 0⟩
def PRES_GRANT_BTN_DOWN : Fld := ⟨278, 2, 2, 0⟩
def PRES_GRANT_JMP_FITTED : Fld := ⟨279, 3, 3, 0⟩
def PRES_GRANT_LOOP_OPEN : Fld := ⟨280, 4, 4, 0⟩
def PRES_GRANT_SEAL_READY : Fld := ⟨281, 5, 5, 0⟩
def PRES_GRANT_SEAL_SLOTS : Fld := ⟨282, 12, 8, 0⟩
def PRES_GRANT_GRANT_LEFT_S : Fld := ⟨283, 25, 16, 0⟩
-- `PRES_DATA` (R344)
def PRES_DATA_DATA : Fld := ⟨284, 31, 0, 0⟩
-- `PRES_RESULT` (R344)
def PRES_RESULT_FP : Fld := ⟨285, 31, 0, 0⟩
-- `STW_STATUS` (R388)
def STW_STATUS_DRAFT : Fld := ⟨286, 1, 0, 0⟩
def STW_STATUS_BARE_CAUSE : Fld := ⟨287, 3, 2, 0⟩
def STW_STATUS_CLK_RC : Fld := ⟨288, 4, 4, 1⟩
def STW_STATUS_NODE : Fld := ⟨289, 11, 8, 0⟩
def STW_STATUS_ROLE : Fld := ⟨290, 13, 12, 0⟩
def STW_STATUS_GENERATION : Fld := ⟨291, 31, 16, 0⟩
-- `STW_CONFLICTS` (R388)
def STW_CONFLICTS_PIN_LOST : Fld := ⟨292, 4, 0, 0⟩
def STW_CONFLICTS_POOL_LOST : Fld := ⟨293, 9, 5, 0⟩
def STW_CONFLICTS_TIMERS_FREE : Fld := ⟨294, 14, 10, 2⟩
def STW_CONFLICTS_BUFFERS_FREE : Fld := ⟨295, 18, 15, 2⟩
-- `DRAFT_STG_ADDR` (R388)
def DRAFT_STG_ADDR_ADDR : Fld := ⟨296, 31, 0, 0⟩
-- `DRAFT_STG_DATA` (R388)
def DRAFT_STG_DATA_DATA : Fld := ⟨297, 31, 0, 0⟩
-- `DRAFT_CTRL` (R388)
def DRAFT_CTRL_BEGIN : Fld := ⟨298, 0, 0, 0⟩
def DRAFT_CTRL_COMMIT : Fld := ⟨299, 1, 1, 0⟩
def DRAFT_CTRL_ABORT : Fld := ⟨300, 2, 2, 0⟩
def DRAFT_CTRL_STATE : Fld := ⟨301, 10, 8, 0⟩
def DRAFT_CTRL_PATH : Fld := ⟨302, 13, 12, 0⟩
def DRAFT_CTRL_RESULT : Fld := ⟨303, 19, 16, 0⟩
-- `HZN_STATUS` (R388)
def HZN_STATUS_VIOL : Fld := ⟨304, 15, 0, 0⟩
def HZN_STATUS_QUARANTINED : Fld := ⟨305, 31, 16, 0⟩
-- `HZN_RQ_CTRL` (R388)
def HZN_RQ_CTRL_ADDR : Fld := ⟨306, 15, 0, 0⟩
def HZN_RQ_CTRL_NODE : Fld := ⟨307, 19, 16, 0⟩
def HZN_RQ_CTRL_WRITE : Fld := ⟨308, 20, 20, 0⟩
def HZN_RQ_CTRL_COUNT : Fld := ⟨309, 27, 24, 1⟩
def HZN_RQ_CTRL_GO : Fld := ⟨310, 31, 31, 0⟩
-- `HZN_RQ_STATUS` (R388)
def HZN_RQ_STATUS_STATE : Fld := ⟨311, 1, 0, 0⟩
def HZN_RQ_STATUS_STATUS : Fld := ⟨312, 3, 2, 0⟩
-- `HZN_RQ_BUF` (R388)
def HZN_RQ_BUF_DATA : Fld := ⟨313, 31, 0, 0⟩
-- `TH_SUMMARY` (R388)
def TH_SUMMARY_LEAD : Fld := ⟨314, 3, 0, 0⟩
def TH_SUMMARY_STANDBY : Fld := ⟨315, 7, 4, 0⟩
def TH_SUMMARY_LEAD_VALID : Fld := ⟨316, 8, 8, 0⟩
def TH_SUMMARY_STANDBY_VALID : Fld := ⟨317, 9, 9, 0⟩
def TH_SUMMARY_PRESENT : Fld := ⟨318, 20, 16, 1⟩
-- `TH_NODE_STATUS` (R388)
def TH_NODE_STATUS_PRESENT : Fld := ⟨319, 0, 0, 0⟩
def TH_NODE_STATUS_HB0 : Fld := ⟨320, 8, 1, 0⟩
def TH_NODE_STATUS_HB1 : Fld := ⟨321, 15, 9, 0⟩
def TH_NODE_STATUS_QUARANTINED : Fld := ⟨322, 16, 16, 0⟩
def TH_NODE_STATUS_THROTTLE : Fld := ⟨323, 23, 17, 0⟩
def TH_NODE_STATUS_AGE : Fld := ⟨324, 31, 24, 255⟩
-- `TH_NODE_THERMAL` (R388)
def TH_NODE_THERMAL_DIE_C : Fld := ⟨325, 7, 0, 0⟩
def TH_NODE_THERMAL_HBM_C : Fld := ⟨326, 15, 8, 0⟩
def TH_NODE_THERMAL_FAN_DEMAND : Fld := ⟨327, 23, 16, 0⟩
def TH_NODE_THERMAL_PUMP_DEMAND : Fld := ⟨328, 31, 24, 0⟩
-- `TH_NODE_POWER` (R388)
def TH_NODE_POWER_INPUT_W : Fld := ⟨329, 15, 0, 0⟩
def TH_NODE_POWER_FAN_CMD : Fld := ⟨330, 23, 16, 0⟩
def TH_NODE_POWER_PUMP_CMD : Fld := ⟨331, 31, 24, 0⟩
-- `MBX_CTRL` (R388)
def MBX_CTRL_LEN : Fld := ⟨332, 11, 0, 0⟩
def MBX_CTRL_GO : Fld := ⟨333, 31, 31, 0⟩
-- `MBX_STATUS` (R388)
def MBX_STATUS_STATE : Fld := ⟨334, 1, 0, 0⟩
def MBX_STATUS_LEN : Fld := ⟨335, 27, 16, 0⟩
-- `MBX_DATA` (R388)
def MBX_DATA_DATA : Fld := ⟨336, 31, 0, 0⟩
-- `SMB_STATUS` (R388)
def SMB_STATUS_DISCARDS : Fld := ⟨337, 15, 0, 0⟩
def SMB_STATUS_TIMEOUTS : Fld := ⟨338, 23, 16, 0⟩
-- `HSW_SEL` (R421)
def HSW_SEL_SEL : Fld := ⟨339, 7, 0, 0⟩
-- `HSW_STATE` (R421)
def HSW_STATE_STATE : Fld := ⟨340, 3, 0, 0⟩
def HSW_STATE_PG : Fld := ⟨341, 4, 4, 0⟩
def HSW_STATE_LAST_TRIP : Fld := ⟨342, 11, 8, 0⟩
def HSW_STATE_BAND : Fld := ⟨343, 15, 12, 0⟩
def HSW_STATE_RETRIES : Fld := ⟨344, 19, 16, 0⟩
-- `HSW_MEAS` (R421)
def HSW_MEAS_IOUT : Fld := ⟨345, 15, 0, 0⟩
def HSW_MEAS_VOUT : Fld := ⟨346, 31, 16, 0⟩
-- `HSW_TRIPS` (R421)
def HSW_TRIPS_TRIPS : Fld := ⟨347, 15, 0, 0⟩
def HSW_TRIPS_LATCHES : Fld := ⟨348, 23, 16, 0⟩
def HSW_TRIPS_DAMAGED : Fld := ⟨349, 31, 24, 0⟩
-- `HSW_CTRL` (R421)
def HSW_CTRL_LATCH_CLR : Fld := ⟨350, 0, 0, 0⟩
-- `PWR_INPUT` (R421)
def PWR_INPUT_VIN : Fld := ⟨351, 15, 0, 0⟩
def PWR_INPUT_FRONT : Fld := ⟨352, 16, 16, 0⟩
def PWR_INPUT_FRONT_OWN : Fld := ⟨353, 17, 17, 0⟩
def PWR_INPUT_PSU_WARN : Fld := ⟨354, 18, 18, 0⟩
def PWR_INPUT_WINDOW : Fld := ⟨355, 20, 19, 0⟩
-- `PWR_FET` (R421)
def PWR_FET_TEMP_C : Fld := ⟨356, 7, 0, 0⟩
def PWR_FET_SOURCE : Fld := ⟨357, 9, 8, 0⟩
def PWR_FET_POWER_W : Fld := ⟨358, 25, 16, 0⟩
-- `PWR_FRONT` (R421)
def PWR_FRONT_COUNT : Fld := ⟨359, 15, 0, 0⟩
def PWR_FRONT_HOLDUP : Fld := ⟨360, 31, 16, 0⟩
-- `PWR_VCH_INDEX` (R421)
def PWR_VCH_INDEX_INDEX : Fld := ⟨361, 3, 0, 0⟩
-- `PWR_VCH_DATA` (R421)
def PWR_VCH_DATA_MV : Fld := ⟨362, 15, 0, 0⟩
-- `PWR_RAIL_INDEX` (R421)
def PWR_RAIL_INDEX_INDEX : Fld := ⟨363, 2, 0, 0⟩
-- `PWR_RAIL_DATA` (R421)
def PWR_RAIL_DATA_VOUT_MV : Fld := ⟨364, 15, 0, 0⟩
def PWR_RAIL_DATA_STATE : Fld := ⟨365, 17, 16, 0⟩
def PWR_RAIL_DATA_EN : Fld := ⟨366, 18, 18, 0⟩
def PWR_RAIL_DATA_FAULTS : Fld := ⟨367, 31, 24, 0⟩
-- `PWR_RAIL_IOUT` (R421)
def PWR_RAIL_IOUT_IOUT : Fld := ⟨368, 15, 0, 0⟩
-- `PWR_SEQ` (R421)
def PWR_SEQ_STEP : Fld := ⟨369, 3, 0, 0⟩
def PWR_SEQ_RAIL_FAILS : Fld := ⟨370, 9, 8, 0⟩
def PWR_SEQ_WAIT : Fld := ⟨371, 31, 16, 0⟩
-- `PWR_CAP` (R449)
def PWR_CAP_HOST_W : Fld := ⟨372, 11, 0, 0⟩
def PWR_CAP_BMC_W : Fld := ⟨373, 27, 16, 0⟩
-- `PWR_CAP_STATUS` (R449)
def PWR_CAP_STATUS_EFFECTIVE_W : Fld := ⟨374, 11, 0, 1800⟩
def PWR_CAP_STATUS_DRAFT_W : Fld := ⟨375, 27, 16, 1800⟩
def PWR_CAP_STATUS_UNCORE_OVER : Fld := ⟨376, 28, 28, 0⟩
-- `PWR_PKG` (R449)
def PWR_PKG_PACKAGE_W : Fld := ⟨377, 15, 0, 0⟩
def PWR_PKG_UNCORE_W : Fld := ⟨378, 31, 16, 0⟩
/-- `PWR_ENERGY_LO`/`PWR_ENERGY_HI`, R449. -/
def PWR_ENERGY : Fld := ⟨379, 63, 0, 0⟩
-- `PWR_CORR` (R449)
def PWR_CORR_CORR : Fld := ⟨380, 7, 0, 128⟩
-- `THM_STATUS` (R449)
def THM_STATUS_MODE : Fld := ⟨381, 0, 0, 0⟩
def THM_STATUS_SAMPLE : Fld := ⟨382, 2, 1, 0⟩
def THM_STATUS_SENSOR_MODE : Fld := ⟨383, 3, 3, 0⟩
def THM_STATUS_TRIPPED : Fld := ⟨384, 4, 4, 0⟩
def THM_STATUS_RESTART_WAIT : Fld := ⟨385, 5, 5, 0⟩
def THM_STATUS_ROR_SHUT : Fld := ⟨386, 6, 6, 0⟩
def THM_STATUS_TRIPS : Fld := ⟨387, 15, 8, 0⟩
def THM_STATUS_RESTART_LEFT_S : Fld := ⟨388, 27, 16, 0⟩
-- `ZONE_SEL` (R449)
def ZONE_SEL_SEL : Fld := ⟨389, 7, 0, 0⟩
-- `THM_ZONE_TEMP` (R449)
def THM_ZONE_TEMP_TEMP : Fld := ⟨390, 15, 0, 0⟩
def THM_ZONE_TEMP_WARN : Fld := ⟨391, 16, 16, 0⟩
def THM_ZONE_TEMP_THROTTLING : Fld := ⟨392, 17, 17, 0⟩
def THM_ZONE_TEMP_NEAR : Fld := ⟨393, 18, 18, 0⟩
def THM_ZONE_TEMP_SUBST : Fld := ⟨394, 19, 19, 0⟩
def THM_ZONE_TEMP_ESTIMATED : Fld := ⟨395, 20, 20, 0⟩
def THM_ZONE_TEMP_RATE : Fld := ⟨396, 31, 24, 0⟩
-- `THM_ZONE_LIMITS` (R449)
def THM_ZONE_LIMITS_WARN_C : Fld := ⟨397, 7, 0, 0⟩
def THM_ZONE_LIMITS_THR_C : Fld := ⟨398, 15, 8, 0⟩
def THM_ZONE_LIMITS_TRIP_C : Fld := ⟨399, 23, 16, 0⟩
-- `SENSOR_SEL` (R449)
def SENSOR_SEL_SEL : Fld := ⟨400, 7, 0, 0⟩
-- `THM_SENSOR_DATA` (R449)
def THM_SENSOR_DATA_TEMP : Fld := ⟨401, 15, 0, 0⟩
def THM_SENSOR_DATA_VALID : Fld := ⟨402, 16, 16, 0⟩
def THM_SENSOR_DATA_CAUSE : Fld := ⟨403, 18, 17, 0⟩
def THM_SENSOR_DATA_TRIP_ARMED : Fld := ⟨404, 19, 19, 0⟩
def THM_SENSOR_DATA_FLOOR_SRC : Fld := ⟨405, 20, 20, 0⟩
def THM_SENSOR_DATA_FAILS : Fld := ⟨406, 31, 24, 0⟩
-- `PART_POWER` (R449)
def PART_POWER_BUDGET_W : Fld := ⟨407, 10, 0, 81⟩
def PART_POWER_EST_W : Fld := ⟨408, 21, 11, 0⟩
def PART_POWER_THERMAL_PCT : Fld := ⟨409, 28, 22, 0⟩
def PART_POWER_FLOOR : Fld := ⟨410, 29, 29, 0⟩
def PART_POWER_SENSOR_DOWN : Fld := ⟨411, 30, 30, 0⟩
-- `PART_GUST` (R449)
def PART_GUST_ISSUE : Fld := ⟨412, 8, 0, 16⟩
def PART_GUST_FILL : Fld := ⟨413, 9, 9, 0⟩
def PART_GUST_PRERAMP : Fld := ⟨414, 10, 10, 0⟩
def PART_GUST_DROOPS : Fld := ⟨415, 31, 16, 0⟩
-- `FAN_SEL` (R472)
def FAN_SEL_SEL : Fld := ⟨416, 7, 0, 0⟩
-- `FAN_STATUS` (R472)
def FAN_STATUS_STATE : Fld := ⟨417, 2, 0, 0⟩
def FAN_STATUS_FULL : Fld := ⟨418, 3, 3, 0⟩
def FAN_STATUS_MISSES : Fld := ⟨419, 5, 4, 0⟩
def FAN_STATUS_RETRY : Fld := ⟨420, 7, 6, 0⟩
def FAN_STATUS_RPM : Fld := ⟨421, 23, 8, 0⟩
def FAN_STATUS_FAULTS : Fld := ⟨422, 31, 24, 0⟩
-- `COOL_OVR` (R472)
def COOL_OVR_FAN_HOST : Fld := ⟨423, 6, 0, 0⟩
def COOL_OVR_PUMP_HOST : Fld := ⟨424, 14, 8, 0⟩
def COOL_OVR_FAN_BMC : Fld := ⟨425, 22, 16, 0⟩
def COOL_OVR_PUMP_BMC : Fld := ⟨426, 30, 24, 0⟩
-- `COOL_STATUS` (R472)
def COOL_STATUS_FAN_DEMAND : Fld := ⟨427, 6, 0, 0⟩
def COOL_STATUS_PUMP_DEMAND : Fld := ⟨428, 14, 8, 0⟩
def COOL_STATUS_FAN_DUTY : Fld := ⟨429, 22, 16, 100⟩
def COOL_STATUS_PUMP_DUTY : Fld := ⟨430, 30, 24, 100⟩
def COOL_STATUS_OVERRIDE : Fld := ⟨431, 31, 31, 0⟩
-- `PUMP_SEL` (R472)
def PUMP_SEL_SEL : Fld := ⟨432, 7, 0, 0⟩
-- `PUMP_STATUS` (R472)
def PUMP_STATUS_STATE : Fld := ⟨433, 2, 0, 0⟩
def PUMP_STATUS_FULL : Fld := ⟨434, 3, 3, 0⟩
def PUMP_STATUS_MISSES : Fld := ⟨435, 5, 4, 0⟩
def PUMP_STATUS_RETRY : Fld := ⟨436, 7, 6, 0⟩
def PUMP_STATUS_RPM : Fld := ⟨437, 23, 8, 0⟩
def PUMP_STATUS_FAULTS : Fld := ⟨438, 31, 24, 0⟩
-- `PUMP_FLOW` (R472)
def PUMP_FLOW_FLOW : Fld := ⟨439, 15, 0, 0⟩
def PUMP_FLOW_FLOW_FAULT : Fld := ⟨440, 16, 16, 0⟩
def PUMP_FLOW_TESTED : Fld := ⟨441, 17, 17, 0⟩
def PUMP_FLOW_LOWS : Fld := ⟨442, 19, 18, 0⟩
def PUMP_FLOW_FAULTS : Fld := ⟨443, 31, 24, 0⟩
-- `LEAK_STATUS` (R472)
def LEAK_STATUS_ZONE0 : Fld := ⟨444, 1, 0, 3⟩
def LEAK_STATUS_ZONE1 : Fld := ⟨445, 3, 2, 3⟩
def LEAK_STATUS_ZONE2 : Fld := ⟨446, 5, 4, 3⟩
def LEAK_STATUS_WARN : Fld := ⟨447, 6, 6, 0⟩
def LEAK_STATUS_SHUTDOWN : Fld := ⟨448, 7, 7, 0⟩
def LEAK_STATUS_WET_EVENTS : Fld := ⟨449, 31, 16, 0⟩
-- `LEAK_OHM` (R472)
def LEAK_OHM_ROPE0 : Fld := ⟨450, 15, 0, 0⟩
def LEAK_OHM_ROPE1 : Fld := ⟨451, 31, 16, 0⟩
-- `FAULT_STATUS0` (R499)
def FAULT_STATUS0_CLASS_A : Fld := ⟨452, 13, 0, 0⟩
-- `FAULT_STATUS1` (R499)
def FAULT_STATUS1_STEWARD_B : Fld := ⟨453, 29, 0, 0⟩
-- `FAULT_STATUS2` (R499)
def FAULT_STATUS2_COMPUTE_B : Fld := ⟨454, 23, 0, 0⟩
-- `FAULT_STATUS3` (R499)
-- `FAULT_FIRST_SRC` (R499)
def FAULT_FIRST_SRC_SOURCE : Fld := ⟨455, 6, 0, 0⟩
def FAULT_FIRST_SRC_CLASS : Fld := ⟨456, 9, 8, 0⟩
def FAULT_FIRST_SRC_DETAIL : Fld := ⟨457, 23, 16, 0⟩
def FAULT_FIRST_SRC_VALID : Fld := ⟨458, 31, 31, 0⟩
-- `FAULT_OVF` (R499)
def FAULT_OVF_OVF : Fld := ⟨459, 0, 0, 0⟩
def FAULT_OVF_LATER : Fld := ⟨460, 31, 16, 0⟩
-- `FAULT_CLASSC` (R499)
def FAULT_CLASSC_COUNT : Fld := ⟨461, 31, 0, 0⟩
-- `FAULT_ESC` (R499)
def FAULT_ESC_CHIP_RESETS : Fld := ⟨462, 15, 0, 0⟩
def FAULT_ESC_POWER_CYCLES : Fld := ⟨463, 23, 16, 0⟩
def FAULT_ESC_IN_WINDOW : Fld := ⟨464, 26, 24, 0⟩
def FAULT_ESC_SAFE : Fld := ⟨465, 27, 27, 0⟩
-- `PART_RECOVERY` (R499)
def PART_RECOVERY_ABORTS : Fld := ⟨466, 7, 0, 0⟩
def PART_RECOVERY_ENGINE_RESETS : Fld := ⟨467, 15, 8, 0⟩
def PART_RECOVERY_PART_RESETS : Fld := ⟨468, 23, 16, 0⟩
def PART_RECOVERY_DETAIL : Fld := ⟨469, 27, 24, 0⟩
def PART_RECOVERY_RESET_CAUSE : Fld := ⟨470, 31, 28, 0⟩
-- `LOG_INDEX` (R517)
def LOG_INDEX_INDEX : Fld := ⟨471, 15, 0, 0⟩
def LOG_INDEX_AREA : Fld := ⟨472, 17, 16, 0⟩
def LOG_INDEX_STATE : Fld := ⟨473, 19, 18, 0⟩
def LOG_INDEX_READY : Fld := ⟨474, 20, 20, 0⟩
-- `LOG_STATUS` (R517)
def LOG_STATUS_CIRC_COUNT : Fld := ⟨475, 15, 0, 0⟩
def LOG_STATUS_TORN : Fld := ⟨476, 23, 16, 0⟩
def LOG_STATUS_LOST : Fld := ⟨477, 31, 24, 0⟩
-- `LOG_PERM` (R517)
def LOG_PERM_PERM_USED : Fld := ⟨478, 7, 0, 0⟩
def LOG_PERM_SEAL_USED : Fld := ⟨479, 12, 8, 0⟩
def LOG_PERM_QUEUED : Fld := ⟨480, 22, 16, 0⟩
-- `LOG_SEQ` (R517)
def LOG_SEQ_NEXT : Fld := ⟨481, 31, 0, 0⟩
-- `LOG_TIME` (R517)
def LOG_TIME_OP_TIME : Fld := ⟨482, 31, 0, 0⟩
-- `LOG_CYCLES` (R517)
def LOG_CYCLES_CYCLES : Fld := ⟨483, 23, 0, 1⟩
-- `LOG_DATA` (R517)
def LOG_DATA_DATA : Fld := ⟨484, 31, 0, 0⟩

end F
end Sys2Proof.Machine
end

