-- ==== Sys2Proof/Machine/Internal.lean ====
section
/-! DEFINITION. Internal counters, flags and pins of the device: state that the manual's rules give it
and that no register of the tables shows whole.  Numbers from 1000 on belong to the steward, from
2000 on to the compute die, from 3000 on to `PD_WEFTIO`. -/

namespace Sys2Proof.Machine.I

/-- Event sequence number: the number the next event takes. (R272) -/
def evqSeq : Fld := ⟨2000, 31, 0, 0⟩
/-- The condition of a fault source still holds, so that its status bit cannot be cleared. (R474;
one per source) -/
def causeOn : Fld := ⟨1000, 0, 0, 0⟩
/-- THERMTRIP_N is held low. (R481) -/
def thermtripN : Fld := ⟨1001, 0, 0, 0⟩
/-- Drive of HSW_GATE: 0 pulled down, 1 regulated for inrush, 2 full enhancement commanded. (R396)
-/
def gate : Fld := ⟨1002, 1, 0, 0⟩
/-- All auxiliary switches and both PUMP_PWM outputs are held on without a break (safe state, bare
defaults). (R451) -/
def holdFull : Fld := ⟨1003, 0, 0, 1⟩
/-- VIN left its window upward and has not been back in window since. (R393) -/
def ovExit : Fld := ⟨1004, 0, 0, 0⟩
/-- Band timer of the breaker curve, in units of 0.05 us. (R400; one per band) -/
def bandTimer : Fld := ⟨1005, 39, 0, 0⟩
/-- PSU_WARN_N was low in the previous breaker sample. (R418) -/
def psuWarnPrev : Fld := ⟨1006, 0, 0, 0⟩
/-- The registered level of the FRONT_N pin: 1 low. (R418) -/
def frontPrev : Fld := ⟨1007, 0, 0, 0⟩
/-- Model time at which FRONT_N was last registered low, for the hold-up measurement. (R419) -/
def frontAt : Fld := ⟨1008, 63, 0, 0⟩
/-- The rail being enabled or dwelt on (0-6); 7 none. (R410) -/
def railNow : Fld := ⟨1009, 2, 0, 7⟩
/-- Model time at which all rails were last found good. (R411) -/
def railsGoodAt : Fld := ⟨1010, 63, 0, 0⟩
/-- Rails still to be disabled in reverse order (0: no reverse-order disable in progress). (R411)
-/
def railDown : Fld := ⟨1011, 3, 0, 0⟩
/-- Model time at which PG_OUT last asserted. (R404) -/
def pgAt : Fld := ⟨1012, 63, 0, 0⟩
/-- Chip reset in progress: 0 none, 1 draining, 2 reset asserted, 3 released and training. (R494)
-/
def chipStep : Fld := ⟨1013, 2, 0, 0⟩
/-- Trigger of the chip reset in progress. (R487) -/
def chipTrigger : Fld := ⟨1014, 3, 0, 0⟩
/-- The compute die is out of reset. (R415) -/
def dieUp : Fld := ⟨1015, 0, 0, 0⟩
/-- SEQ of the first record of the run lost from the queue. (R511) -/
def logLostFirst : Fld := ⟨1016, 31, 0, 0⟩
/-- Records of the run lost from the queue and not yet covered by a record 0x0B. (R511) -/
def logLostCount : Fld := ⟨1017, 31, 0, 0⟩
/-- Next slot of the circulating area to be written. (R510) -/
def circPos : Fld := ⟨1018, 19, 0, 0⟩
/-- Operating time restored at auxiliary power-up. (R507) -/
def opBase : Fld := ⟨1019, 31, 0, 0⟩
/-- Model time of the last auxiliary power-up. (R507) -/
def auxUpAt : Fld := ⟨1020, 63, 0, 0⟩
/-- Bus Master Enable of PF0. (R284) -/
def bme : Fld := ⟨2001, 0, 0, 0⟩
/-- Correctable-error level of a core. (R51; one per core) -/
def ceLevel : Fld := ⟨2002, 3, 0, 0⟩
/-- Error level of a Beam bank. (R103; one per Beam bank) -/
def beamLevel : Fld := ⟨2003, 3, 0, 0⟩
/-- Correctable-error level of a bank of an HBM channel. (R113; one per HBM bank) -/
def hbmLevel : Fld := ⟨2004, 3, 0, 0⟩
/-- The bank has been marked failing. (R103; one per Beam bank) -/
def bankFailing : Fld := ⟨2005, 0, 0, 0⟩
/-- Bank being copied to the spare, 0-32; 33 none. (R103; one per bank group) -/
def copyBank : Fld := ⟨2006, 5, 0, 33⟩
/-- The spare bank of the group is in service. (R103; one per bank group) -/
def spareUsed : Fld := ⟨2007, 0, 0, 0⟩
/-- Cores that failed the sweep of the bind in progress. (R54; one per cluster) -/
def sweepFailed : Fld := ⟨2008, 16, 0, 0⟩
/-- Queue at which the DMA engine looks next. (R110; one per home group) -/
def dmaNext : Fld := ⟨2009, 4, 0, 0⟩
/-- The registered command's descriptor is not read yet: 1 it waits for firmware to serve, 2 its
write waits in the write queue. (R168) -/
def cmdDeferred : Fld := ⟨2010, 1, 0, 0⟩
/-- Intake and admission have stopped for a chip reset. (R494) -/
def admitStop : Fld := ⟨2011, 0, 0, 0⟩
/-- The fault latched in PART_FAULT_CTX has a recovery in progress, whose escalations update LEVEL
and CLUSTER. (R489; one per partition) -/
def faultLive : Fld := ⟨2012, 0, 0, 0⟩
/-- LSEQ of the next flit sent on the link. (R228; one per link) -/
def lseq : Fld := ⟨3000, 15, 0, 0⟩
/-- Highest LSEQ received in order from the far end. (R228; one per link) -/
def lackRx : Fld := ⟨3001, 15, 0, 0⟩
/-- Consecutive retries of the oldest unacknowledged flit. (R227; one per link) -/
def retries : Fld := ⟨3002, 4, 0, 0⟩
/-- The receiver discards flits until the sender has replayed. (R230; one per link) -/
def rxDiscard : Fld := ⟨3003, 0, 0, 0⟩
/-- The far end's IDENT of this training matched. (R223; one per link) -/
def identOk : Fld := ⟨3004, 0, 0, 0⟩
/-- Consecutive seconds in which a lane's corrected symbols exceeded the threshold. (R226; one per
lane) -/
def laneOver : Fld := ⟨3005, 1, 0, 0⟩
/-- Model time of the last weft flit registered from a node. (R249; one per node) -/
def heardAt : Fld := ⟨3006, 63, 0, 0⟩
/-- Throttle announced in this package's last throttle notice. (R242) -/
def noticePct : Fld := ⟨1021, 6, 0, 0⟩
/-- Job handle after which the next throttle notice continues. (R242) -/
def noticeNext : Fld := ⟨1022, 11, 0, 0⟩
/-- Per-boot keys made so far: the number of the one in force. (R320) -/
def bootCount : Fld := ⟨1023, 31, 0, 0⟩
/-- The generators of the partition were seeded from fixed seeds at its last bind. (R88; one per
partition) -/
def srFixed : Fld := ⟨2013, 0, 0, 0⟩
/-- Which free value gives the entropy seeds of the partition's last bind. (R88; one per
partition) -/
def srSeed : Fld := ⟨2014, 63, 0, 0⟩
/-- The bank that the group's spare replaces, 0-32; 33 none. (R103; one per Beam bank group) -/
def sparedBank : Fld := ⟨2015, 5, 0, 33⟩
/-- The HDM decoder is committed. (R275) -/
def hdmCommitted : Fld := ⟨2016, 0, 0, 0⟩
/-- The command in execution started while FRONT_N was asserted or an emergency was active. (R168)
-/
def cmdPaused : Fld := ⟨2017, 0, 0, 0⟩
/-- Thermal throttle level of a sub-zone: 0-15 partitions, 16 Beam, 17 I/O, 18-25 the stacks.
(R439; one per throttle sub-zone) -/
def thrLevel : Fld := ⟨1024, 6, 0, 0⟩
/-- Thermal level that the rate-of-rise throttle gives every partition. (R440) -/
def rorLevel : Fld := ⟨1025, 6, 0, 0⟩
/-- Message address of a vector's entry of the MSI-X table. (R268; one per MSI-X vector) -/
def msixAddr : Fld := ⟨2018, 63, 0, 0⟩
/-- Message data of a vector's entry of the MSI-X table. (R268; one per MSI-X vector) -/
def msixData : Fld := ⟨2019, 31, 0, 0⟩
/-- Vector control of a vector's entry of the MSI-X table; bit 0: masked. (R270; one per MSI-X
vector) -/
def msixControl : Fld := ⟨2020, 31, 0, 1⟩
/-- Pending bit of a vector. (R270; one per MSI-X vector) -/
def msixPending : Fld := ⟨2021, 0, 0, 0⟩
/-- The last training of the host link ended without CXL. (R259) -/
def pcieOnly : Fld := ⟨2022, 0, 0, 0⟩
/-- The HDM decoder reports error-not-committed. (R275) -/
def hdmError : Fld := ⟨2023, 0, 0, 0⟩
/-- Next slot of the checkpoint area to be written: 0-255 the first sector, 256-511 the second.
(R506) -/
def ckptPos : Fld := ⟨1026, 8, 0, 0⟩
/-- The bank that the Draft read chose: 0 bank A, 1 bank B; also when its record check failed.
(R355) -/
def draftBank : Fld := ⟨1027, 0, 0, 1⟩
/-- GENERATION of the bank that the Draft read chose. (R362) -/
def draftGen : Fld := ⟨1028, 31, 0, 0⟩
/-- The other bank holds a committed Draft that takes effect at the next auxiliary power-up.
(R363) -/
def nextBank : Fld := ⟨1029, 0, 0, 0⟩
/-- The flash declares program and erase suspend. (R508) -/
def flashSuspend : Fld := ⟨1030, 0, 0, 0⟩
/-- Model time at which the jumper grant began. (R331) -/
def jmpAt : Fld := ⟨1031, 63, 0, 0⟩
/-- Model time at which the seal grant began. (R331) -/
def sealAt : Fld := ⟨1032, 63, 0, 0⟩
/-- What TRAY_SLOT[2:0] read when the Draft was read. (R357) -/
def slot : Fld := ⟨1033, 2, 0, 0⟩
/-- VIN has left its window during the back-off, so that the restart waits for the insertion
delay. (R402) -/
def backoffOut : Fld := ⟨1034, 0, 0, 0⟩
/-- The back-off has ended and the restart waits for the FET temperature, or for the end of the
safe state. (R406) -/
def backoffOver : Fld := ⟨1035, 0, 0, 0⟩
/-- The pass FET has been held off for 2 s in a power cycle, and the inrush waits for VIN in
window. (R417) -/
def cycleWait : Fld := ⟨1036, 0, 0, 0⟩
/-- Model time plus 1 of the first of a run of test samples above 2 V; 0: no run. (R408; one per
auxiliary channel) -/
def auxRunAt : Fld := ⟨1037, 63, 0, 0⟩
/-- The auxiliary channel has been found damaged, and no test sample at or below 2 V has followed.
(R408; one per auxiliary channel) -/
def auxDamaged : Fld := ⟨1038, 0, 0, 0⟩
/-- VDD_CORE as last commanded, mV. (R409) -/
def vcoreCmd : Fld := ⟨1039, 15, 0, 750⟩
/-- The value of the VOUT_COMMAND write in progress, mV; 0: none in progress. (R414) -/
def vcoreNow : Fld := ⟨1040, 15, 0, 0⟩
/-- Model time at which the current back-off or wait ends. (R421) -/
def waitEnd : Fld := ⟨1041, 63, 0, 0⟩
/-- VIN was above FRONT_HIGH and nothing held the front condition in the last breaker sample.
(R418) -/
def frontQuiet : Fld := ⟨1042, 0, 0, 0⟩
/-- FET current that the gate drive allows during inrush, mA. (R396) -/
def gateLimit : Fld := ⟨1043, 31, 0, 0⟩
/-- The FET temperature was the measured one in the last breaker sample. (R405) -/
def fetMeasured : Fld := ⟨1044, 0, 0, 0⟩
/-- Part of a mJ in PWR_ENERGY, in 0.1 uJ. (R431) -/
def energyFrac : Fld := ⟨1045, 13, 0, 0⟩
/-- Cap throttle of the partition, %. (R424; one per partition) -/
def capThr : Fld := ⟨2024, 6, 0, 0⟩
/-- Largest issue fraction that the cap controller allows the partition, in 1/256. (R424; one per
partition) -/
def capIssue : Fld := ⟨2025, 8, 0, 256⟩
/-- The partition's clock period is doubled for a droop. (R427; one per partition) -/
def droopSlow : Fld := ⟨2026, 0, 0, 0⟩
/-- Model time plus 1 of the partition's last droop event; 0: none. (R427; one per partition) -/
def droopAt : Fld := ⟨2027, 63, 0, 0⟩
/-- Model time plus 1 of the hint in force; 0: none. (R430; one per partition) -/
def hintAt : Fld := ⟨2028, 63, 0, 0⟩
/-- Lead time of the hint in force, us. (R430; one per partition) -/
def hintLead : Fld := ⟨2029, 31, 0, 0⟩
/-- Target fraction of the hint in force, in 1/256. (R430; one per partition) -/
def hintTarget : Fld := ⟨2030, 8, 0, 16⟩
/-- Budget of the partition in 1/256 W. (R423; one per partition) -/
def budget : Fld := ⟨2031, 23, 0, 20800⟩
/-- Part of a mJ in PART_ENERGY, in nJ. (R431; one per partition) -/
def partFrac : Fld := ⟨2032, 19, 0, 0⟩
/-- Energy of the partition in the running ms, in nJ. (R432; one per partition) -/
def msEnergy : Fld := ⟨2033, 39, 0, 0⟩
/-- Part of a mJ in SPOOL_ENERGY, in nJ. (R432; one per spool) -/
def spoolFrac : Fld := ⟨2034, 19, 0, 0⟩
/-- Sympathetic throttle of the partition, %. (R244; one per partition) -/
def sympThr : Fld := ⟨2035, 6, 0, 0⟩
/-- The steward drives the tray's fans and pumps. (R378) -/
def driving : Fld := ⟨1046, 0, 0, 0⟩
/-- Model time from which the fall of the applied duty is reckoned. (R456; one per fan or pump
group) -/
def fanFallAt : Fld := ⟨1047, 63, 0, 0⟩
/-- Steward ticks for which the fan's switch is on in the running period. (R452; one per fan
channel) -/
def fanOn : Fld := ⟨1048, 11, 0, 0⟩
/-- Model time of the start of the running fan period. (R452) -/
def periodAt : Fld := ⟨1049, 63, 0, 0⟩
/-- A stretch window is open. (R453) -/
def stretch : Fld := ⟨1050, 0, 0, 0⟩
/-- A spin-up sequence of the channel is to start. (R458; one per cooling channel) -/
def spinDue : Fld := ⟨1051, 0, 0, 0⟩
/-- The running spin-up has passed. (R458; one per cooling channel) -/
def spinPass : Fld := ⟨1052, 0, 0, 0⟩
/-- Retries used in the channel's spin-up sequence. (R459; one per cooling channel) -/
def coolRetry : Fld := ⟨1053, 2, 0, 0⟩
/-- Consecutive missing measurements of the channel. (R460; one per cooling channel) -/
def misses : Fld := ⟨1054, 3, 0, 0⟩
/-- Consecutive valid measurements of a channel in fault. (R461; one per cooling channel) -/
def goods : Fld := ⟨1055, 1, 0, 0⟩
/-- Consecutive flow readings below FLOW_MIN. (R465; one per flow) -/
def flowLow : Fld := ⟨1056, 3, 0, 0⟩
/-- Consecutive flow readings at or above FLOW_MIN during a flow fault. (R465; one per flow) -/
def flowGood : Fld := ⟨1057, 1, 0, 0⟩
/-- Heartbeats of the new lead or standby registered since the steward lost its role. (R378; one
per lead or standby) -/
def noRole : Fld := ⟨1058, 1, 0, 0⟩
/-- A frame with the steward's own node number has been heard, so that it is not lead-capable.
(R376) -/
def ownHeard : Fld := ⟨1059, 0, 0, 0⟩
/-- The node is quarantined. (R376; one per node) -/
def quarantine : Fld := ⟨1060, 0, 0, 0⟩
/-- Identifier of the last Horizon register request. (R387) -/
def rqIdent : Fld := ⟨1061, 7, 0, 0⟩
/-- A Horizon register request waits for the next turn. (R387) -/
def rqWaiting : Fld := ⟨1062, 0, 0, 0⟩
/-- The crystal clocks the steward. (R345) -/
def crystal : Fld := ⟨1063, 0, 0, 0⟩
/-- Model time of the last message over the Selvage link. (R479) -/
def linkAt : Fld := ⟨1064, 63, 0, 0⟩
/-- AUX_3V3 is below its operating range: the Selvage die is held in power-on reset. (R523) -/
def porHeld : Fld := ⟨1065, 0, 0, 0⟩
/-- The SMBus register pointer. (R382) -/
def smbPtr : Fld := ⟨1066, 15, 0, 0⟩
/-- The DOE error bit of an instance. (R279; one per DOE instance) -/
def doeError : Fld := ⟨2036, 0, 0, 0⟩

end Sys2Proof.Machine.I
end

