-- ==== Sys2Proof/Machine/State.lean ====
section
/-! DEFINITION. The state of the device as plain data: the register file, the memories, the leases,
bindings, contexts and frames of the compute die, the steward's records, and the queue of commands.
Every register of the manual's tables lives in `regs`, by the fields of Fields.lean; so do the
internal counters and flags of Internal.lean. -/

namespace Sys2Proof.Machine

/-- Why a command would stop the machine with a fault.  No meaning of this model raises one: the
type is kept for the interface. -/
inductive Fault where
  /-- Raised by nobody: the manual gives every command an effect.  Safe. -/
  | stuck
  deriving DecidableEq, Repr

/-- Why a command has no meaning. -/
inductive Refusal where
  /-- Raised by an arm of `exec` whose command is not modelled yet.  Safe. -/
  | notModelled (mnemonic : String)
  deriving DecidableEq, Repr

/-! ### What the device sends out -/

/-- What leaves the device: an answer on an access path, a write or a request to host memory, an
interrupt message, a flit or message of a weft link, a frame of the Horizon bus, a PMBus
transaction. -/
inductive Out where
  /-- The answer to a register read on a path (R4, R266, R382). -/
  | word (p : Path) (v : Nat)
  /-- A block answer on a path: a DOE response, a mailbox response, a CXL.mem line. -/
  | block (p : Path) (bs : List Byte)
  /-- A completion without data: unsupported request, completer abort, poison, retry (R282). -/
  | noData (p : Path) (what : String)
  /-- A write to host memory (R191, R272, R329). -/
  | hostWrite (addr : Nat) (bs : List Byte)
  /-- A read request to host memory (R164, R189, R213). -/
  | hostRead (addr len : Nat)
  /-- An MSI-X message (R270). -/
  | msix (vector : Nat)
  /-- A flit of a weft link, by its name and fields (R229). -/
  | flit (link : Nat) (kind : String) (args : List Nat)
  /-- A weft message to a node, by its name and fields (R229). -/
  | message (node : Nat) (kind : String) (args : List Nat)
  /-- The answer to a Beam access: what a read returns (zeros when it is refused), nothing for a write
  (R101). -/
  | line (bolt line : Nat) (bs : List Byte)
  /-- A frame of the Horizon bus (R373). -/
  | horizon (bytes : List Byte)
  /-- A PMBus transaction with a rail's regulator (R412). -/
  | pmbus (rail : Nat) (cmd : String) (v : Nat)
  deriving DecidableEq, Repr

/-! ### Compute die: memories and leases -/

/-- Bolt states (R116). -/
inductive BoltState where
  | free | leased | draining | zeroing | fixed | retired
  deriving DecidableEq, Repr

structure Bolt where
  state : BoltState
  owner : Nat := 0
  retireOnRelease : Bool := false
  /-- The bolt whose storage this number uses since an exchange (R97). -/
  exchanged : Option Nat := none
  deriving DecidableEq, Repr

/-- HBM lease states (R120); an ERASED lease has left the table. -/
inductive LeaseState where
  | active | draining | lost
  deriving DecidableEq, Repr

/-- What an HBM lease holds. -/
inductive LeaseUse where
  | state (binding : Nat) | store (handle : Nat) | hdm
  deriving DecidableEq, Repr

/-- An HBM lease: extents of one home group, an owner, a key slot, and the key it holds (keys are
told apart by the order in which they were drawn; R115). -/
structure Lease where
  group : Nat
  owner : Nat
  exts : List Nat
  slot : Nat
  key : Nat
  state : LeaseState
  use : LeaseUse
  deriving DecidableEq, Repr

/-- A transfer in a home group's DMA queue (R110): queues 0-15 partitions, 16 host, 17 firmware and
bundle loading, 18 weft. -/
structure Xfer where
  group : Nat
  queue : Nat
  left : Nat
  ctx : Option Nat
  copyOf : Option Nat
  deriving DecidableEq, Repr

structure BeamSt where
  bolts : SMap Bolt := []
  /-- The bytes of the Beam by bolt number times 2^20 plus offset, of the storage in use. -/
  bytes : List Host.Cell := []
  /-- Poisoned lines, by bolt number times 16,384 plus line (R102). -/
  poison : SMap Bool := []
  deriving DecidableEq, Repr

structure HbmSt where
  leases : SMap Lease := []
  nextLease : Nat := 1
  nextKey : Nat := 1
  /-- Extents retired (R113), by global number. -/
  retired : List Nat := []
  /-- Rows waiting for hard post-package repair (R113): group, channel, bank, row. -/
  rows : List (Nat × Nat × Nat × Nat) := []
  xfers : List Xfer := []
  /-- Bytes written under a key, by group, group byte address and key (`hbmKey`). -/
  bytes : List Host.Cell := []
  /-- Lines stored with the poison code, by group and line. -/
  poison : SMap Bool := []
  deriving DecidableEq, Repr

/-! ### Compute die: the core array -/

structure ArrSt where
  /-- Retirements handed over by the steward when the die left reset (R363). -/
  user : List Retirement := []
  /-- Retirements made since then: they hold until the die loses its state (R57). -/
  made : List Retirement := []
  /-- Instruction lines with one parity error in the running frame (R39): core, line. -/
  parity : List (Nat × Nat) := []
  scratch : List Host.Cell := []
  /-- Poisoned scratch lines, by core times 512 plus line. -/
  scratchPoison : SMap Bool := []
  /-- Accumulator entries (32 bits), by core times 1,024 plus entry. -/
  acc : SMap Nat := []
  /-- The lanes' xorshift generators (R88), by core times 16 plus lane. -/
  xorshift : SMap Nat := []
  /-- Predicate bits (R38), by core. -/
  preds : SMap Nat := []
  /-- Element codes in the weight registers (R45), by core times 512 plus column times 32 plus place. -/
  weights : SMap Nat := []
  /-- Vector registers (R45), by core times 1,024 plus number. -/
  vregs : SMap Nat := []
  /-- Loop counters of the sequencer (R38), by core times 4 plus depth. -/
  loops : SMap Nat := []
  /-- Bytes of the instruction buffers (R38, R45), by core times 2^13 plus offset. -/
  ibuf : List Host.Cell := []
  deriving DecidableEq, Repr

/-! ### Compute die: owners, bundles, bindings, contexts, frames -/

structure Owner where
  tenantFp : BitVec 256
  key : BitVec 512
  lastSeq : Nat := 0
  closing : Bool := false
  deriving DecidableEq, Repr

structure Bundle where
  owner : Nat
  hdr : BundleHdr
  /-- The leases of the two store copies (R125). -/
  copy1 : Nat
  copy2 : Nat
  lost1 : Bool := false
  lost2 : Bool := false
  deriving DecidableEq, Repr

inductive BindPhase where
  | sweep | loading | bound | unbinding | repair | stopped
  deriving DecidableEq, Repr

/-- A binding (R171-R179), under the number of its lowest partition. -/
structure Binding where
  owner : Nat
  handle : Nat
  parts : List Nat
  bolts : List Nat
  leases : List Nat
  capacity : Nat
  decodeUnits : Nat
  /-- Engines and units granted on them (R209). -/
  grants : List (Nat × Nat)
  weftShare : Nat
  spill : Nat
  slowdown : Nat
  quadrant : Nat
  phase : BindPhase
  /-- The context whose frame executes. -/
  running : Option Nat := none
  /-- Weft links on which the share is held (R234). -/
  links : List Nat := []
  /-- The unbind in progress fails frames in progress (R178). -/
  abort : Bool := false
  /-- Partitions whose sweep has not ended (R60). -/
  sweeping : List Nat := []
  deriving DecidableEq, Repr

/-- The command of the command window in execution (R164). -/
inductive CmdRun where
  /-- The descriptor is being read (R164), or the command is deferred (R168). -/
  | waiting
  | bind (b : Nat)
  | unbind (b : Nat)
  | rebind (b : Nat) (desc : Unit64)
  /-- The second half of a re-bind (R179 step 4): partitions, and the old bolts and leases whose end
  it waits for. -/
  | rebound (parts bolts leases : List Nat) (desc : Unit64)
  /-- An `UNBIND` (or `REBIND`) that waits for the reset of a partition to complete (R181). -/
  | held (rebind : Bool) (b : Nat) (desc : Unit64)
  | closeCtx (c : Nat)
  | moveCtx (c target : Nat)
  /-- It has ended while firmware restarts after a crash, and reports at step 4 of R304 (R306). -/
  | ended (reason : Nat)
  deriving DecidableEq, Repr

/-- The delta state of a context (R136-R138): the header and the three regions. -/
structure DeltaSt where
  started : Bool := false
  seq : Nat := 0
  countdown : Nat := 0
  lastCause : Nat := 0
  valid : Bool := false
  /-- The header's carried-buffer select, and the two buffers. -/
  sel : Bool := false
  carried0 : List Byte := []
  carried1 : List Byte := []
  carriedInit : Bool := true
  /-- Accumulators (DS24), by layer times 2^20 plus element. -/
  accs : SMap Nat := []
  refs : SMap Nat := []
  deriving DecidableEq, Repr

structure Ctx where
  owner : Nat
  handle : Nat
  binding : Nat
  spool : Nat
  /-- Order of opening on its binding: its place in the state lease (R171). -/
  place : Nat
  lastSeal : Nat := 0
  /-- Refresh causes pending for the next frame (R148). -/
  causes : List Nat := []
  delta : DeltaSt := {}
  /-- Its carried tensors are being fetched from the twin (R158). -/
  fetching : Bool := false
  /-- A move in progress, to this binding (R185). -/
  moving : Option Nat := none
  deriving DecidableEq, Repr

/-- Where a taken-in frame stands (R182, R210, R213). -/
inductive Stage where
  | payload | decode | decoding (e : Nat) | ready | running | done (status : Nat)
  deriving DecidableEq, Repr

/-- What a frame's decision point reads and decides (R149): the refresh cause (0: none so far), and
the delta policy. -/
structure Decision where
  cause : Nat := 0
  enable : Bool := false
  scale : Nat := 16
  peak : Nat := 8
  cut : Nat := 192
  every : Nat := 64
  stagger : Bool := true
  deriving DecidableEq, Repr

structure Frame where
  ctx : Nat
  spool : Nat
  /-- The ring index of its submission entry. -/
  ix : Nat
  opcode : Nat
  force : Bool
  /-- The codec of its context when it was taken in (R219). -/
  codec : Codec := .raw
  /-- A frame of a job at a follower: it has no submission entry and no completion (R237). -/
  follower : Bool := false
  payloadAddr : Nat
  payloadLen : Nat
  resultMax : Nat
  resultAddr : Nat
  userTag : Nat
  sealSeq : Nat
  /-- Model time of the registration of its doorbell (R195). -/
  arrived : Nat
  stage : Stage
  decision : Decision := {}
  refresh : Bool := false
  /-- Bytes of intake buffer it holds (R206). -/
  intake : Nat := 0
  plain : List Byte := []
  picture : List Nat := []
  randomAccess : Bool := false
  resultBytes : Nat := 0
  deriving DecidableEq, Repr

structure SpoolSt where
  /-- Arrival times of the entries between head and tail, oldest first (R195). -/
  waiting : List Nat := []
  /-- Completion entries reserved and not yet written (R190). -/
  reserved : Nat := 0
  /-- Stopped after three failed entry reads, until the next doorbell (R283). -/
  stopped : Bool := false
  /-- The engine waits for room, or for the end of a move (R190, R212, R185). -/
  stalled : Bool := false
  /-- Failed reads of the entry at the head. -/
  fails : Nat := 0
  /-- Contexts that ended while entries for them waited, and how many entries waited (R178). -/
  ended : List (Nat × Nat) := []
  /-- Completion entries not yet covered by a message (R271). -/
  unsent : Nat := 0
  /-- The model time plus 1 of the spool's last message; 0 before the first (R271). -/
  msgAt : Nat := 0
  deriving DecidableEq, Repr

structure BndSt where
  owners : SMap Owner := []
  bundles : SMap Bundle := []
  bindings : SMap Binding := []
  ctxs : SMap Ctx := []
  spools : SMap SpoolSt := []
  frames : List Frame := []
  cmd : Option CmdRun := none
  /-- Owners whose close waits for the command in progress (R163, R164). -/
  toClose : List Nat := []
  /-- Time used in the 100 ms window of an engine by a binding (R210): engine, binding, µs. -/
  decodeUse : List (Nat × Nat × Nat) := []
  deriving DecidableEq, Repr

/-! ### Compute die: host interface -/

/-- A host event entry (R272). -/
structure Event where
  type : Nat
  seq : Nat
  data : List Byte
  deriving DecidableEq, Repr

structure HostSt where
  /-- The write queue (R265): register, place in a run of registers, value. -/
  writeQueue : List (Reg × Nat × Word) := []
  /-- Events held while firmware does not serve (R291). -/
  heldEvents : List Event := []
  /-- Requests to the host held while the link is down or Bus Master Enable is 0 (R260, R284). -/
  heldOut : List Out := []
  /-- Reads of firmware-held windows that wait for earlier writes to be applied (R266, R289): register,
  place in its run, writes left before it. -/
  pendingReads : List (Reg × Nat × Nat) := []
  /-- Units in device bias (R276). -/
  deviceBias : List Nat := []
  /-- DOE responses ready, by instance (R279, R281). -/
  doe : SMap (List Byte) := []
  /-- A vendor message over DOE that waits for firmware to serve (R281), with its identifier. -/
  doeHeld : Option (BitVec 32 × VendorMsg) := none
  /-- A close-owner message answered when the owner's last lease has ended (R281): identifier, owner. -/
  doeClose : Option (BitVec 32 × Nat) := none
  /-- What an abort in the tick of the last response undoes (R281): the model time of the response, the
  owner it changed, and that owner before. -/
  doeUndo : Option (Nat × Nat × Option Owner) := none
  deriving DecidableEq, Repr

/-! ### Compute die: control complex -/

structure FwSt where
  /-- An image is being read (R297, R308); true: by a stage. -/
  reading : Option Bool := none
  /-- The accepted image in each image slot. -/
  slotA : Option FwImage := none
  slotB : Option FwImage := none
  /-- The measurement of the running firmware recorded for attestation (R315). -/
  running : Option (BitVec 512) := none
  /-- The committed ledger of each half (R301): version, sequence. -/
  half0 : Option (Nat × Nat) := none
  half1 : Option (Nat × Nat) := none
  /-- In a handoff: the running image has committed its ledger (R310 step 2), so that the new image
  starts. -/
  handed : Bool := false
  logSeq : Nat := 0
  /-- Model time of the last log entry of each core (R299). -/
  logLast : SMap Nat := []
  /-- Model times of the crashes of the last 60 s (R305). -/
  crashes : List Nat := []
  deriving DecidableEq, Repr

/-! ### `PD_WEFTIO` -/

/-- A multi-package job's part on this package (R236-R243), under its binding; its state, epoch,
handle, losses and peers are registers. -/
structure Job where
  ident : BitVec 64
  nodes : List Nat
  self : Nat
  timeoutMs : Nat
  /-- Participants whose `JOIN` of the current epoch is registered, with their epoch and tags. -/
  joins : List (Nat × Nat × List Nat) := []
  /-- Barrier tokens registered: step, participant (R238). -/
  tokens : List (Nat × Nat) := []
  /-- The step at which the package's own partition waits. -/
  arrived : Option Nat := none
  /-- A follower's next frame: context and age (R237). -/
  start : Option (Nat × Nat) := none
  deriving DecidableEq, Repr

/-- A twin's copy of a shadowed context (R246-R249), under its slot. -/
structure Copy where
  node : Nat
  primary : Nat
  binding : Nat
  committed : Option ShadowState := none
  journal : Option ShadowState := none
  deriving DecidableEq, Repr

structure WeftSt where
  jobs : SMap Job := []
  copies : SMap Copy := []
  /-- Flits sent and not yet acknowledged (R230): link, LSEQ, flit. -/
  replay : List (Nat × Nat × Out) := []
  /-- Pair keys agreed at training, by link (R231). -/
  pairKeys : SMap (BitVec 512) := []
  /-- Flits that wait for room in a link's replay buffer of 256: link, flit. -/
  waiting : List (Nat × Out) := []
  /-- Throttle notices in force (R242): node, job handle, percent, model time. -/
  notices : List (Nat × Nat × Nat × Nat) := []
  deriving DecidableEq, Repr

/-! ### Steward -/

/-- An event record before it is written (R502). -/
structure Record where
  type : Nat
  code : Nat
  seq : Nat
  opTime : Nat
  cycles : Nat
  slot : Nat
  data : List Byte
  deriving DecidableEq, Repr

/-- A Draft record: its type and body (R353). -/
structure DraftRec where
  type : Nat
  body : List Byte
  deriving DecidableEq, Repr

/-- A flash write waiting or in progress (R359). -/
inductive FlashOp where
  | record | checkpoint (kind : Nat) | retirement | presence | commit
  deriving DecidableEq, Repr

/-- The armed presence command (R335): opcode, the arming path's data, the path, the model time of the
arming, and the sources that completed it. -/
structure Armed where
  op : Nat
  path : Path
  data : List Byte
  at' : Nat
  sources : Nat := 0
  deriving DecidableEq, Repr

structure StwSt where
  /-- The attached flash; an unlisted byte reads 0xFF (erased). -/
  flash : List Host.Cell := []
  /-- The Draft records in force (none: bare defaults, or defaults of absent records). -/
  draft : List DraftRec := []
  /-- The Draft measurement (R315): zero in bare defaults. -/
  draftMeas : BitVec 512 := 0
  /-- An owner key written under presence waits for the next auxiliary power-up (R338). -/
  keyPending : Bool := false
  armed : Option Armed := none
  /-- The steward's own copy of record 0x0A's entries (R363). -/
  repair : List Retirement := []
  /-- Entries appended since a staging began (R362). -/
  repairSince : List Retirement := []
  overflow : List Retirement := []
  /-- Retirements passed by the compute die and not yet written (R57). -/
  retireQueue : List Retirement := []
  /-- Flash writes in the order of their registration; the first is in progress (R359). -/
  flashOps : List FlashOp := []
  /-- Pin claims kept by the resolution of R368: pin, function code, parameter. -/
  pins : List (Nat × Nat × Nat) := []
  /-- The queue of event records (R511). -/
  records : List Record := []
  /-- Class C faults of the last second (R473): rule, model time. -/
  classC : List (Nat × Nat) := []
  /-- Job handles named in the last throttle notice (R242). -/
  notice : List Nat := []
  /-- Sympathetic commands this lead has in force (R244): job handle, percent. -/
  sympathy : List (Nat × Nat) := []
  /-- The 64 bytes of the record fetched for a path (R514), by path. -/
  logData : SMap (List Byte) := []
  /-- Model times of the power cycles of the last 30 min (R496). -/
  powerCycles : List Nat := []
  /-- Fixed-region bolts whose bank failed without a spare, to be exchanged when the compute die leaves the
  chip reset in progress (R97). -/
  exchange : List Nat := []
  deriving DecidableEq, Repr

structure PwrSt where
  /-- VIN of the last 25 breaker samples, newest first, in mV (R418). -/
  vin : List Nat := []
  /-- The modelled temperature rise of the pass FET (R405), °C. -/
  fetRise : Rat := 0
  /-- A VDD_CORE request waiting while a VOUT_COMMAND write is in progress, mV (R414). -/
  voutWaiting : Option Nat := none
  deriving DecidableEq, Repr

/-- Readings and what follows from their course (R436-R446).  Values are in 1/64 °C; a time is the model
time plus 1, 0 when nothing runs. -/
structure ThmSt where
  /-- Values of the 26 throttle sub-zones in the last 8 samples, newest first. -/
  subs : List (List (Option Int)) := []
  /-- Model time and values of the six zones in past samples, newest first, as far as the rates need. -/
  zones : List (Nat × List (Option Int)) := []
  /-- Consecutive samples in which a sensor differed by more than `CROSS_LIMIT` (R443). -/
  cross : SMap Nat := []
  /-- When a failed sensor's unbroken run of passing readings began (R443). -/
  passSince : SMap Nat := []
  /-- When a sensor became valid again (R445). -/
  validSince : SMap Nat := []
  /-- Sensors that held the largest value of their sub-zone, and of their zone, in the last sample. -/
  top : List Nat := []
  topZone : List Nat := []
  /-- Floors (R445): sensor, sub-zone (26: the rate-of-rise level), level. -/
  floors : List (Nat × Nat × Nat) := []
  /-- Since when each zone's rate has been at or above `ROR_THR`, below half of it, and at or above
  `ROR_SHUT` (R440), by zone. -/
  rising : SMap Nat := []
  calm : SMap Nat := []
  shutting : SMap Nat := []
  /-- Since when every zone has been at or below `RESTART_C` (R442). -/
  coolSince : Nat := 0
  trippedAt : Nat := 0
  /-- Trip sets that have lost their sensors (R446), by the detail of source 10. -/
  lost : List Nat := []
  deriving DecidableEq, Repr

/-- Measurements of fans, pumps and flows (R453-R465), by input: fans 0-5, pumps 6-7, flows 8-9. -/
structure CoolSt where
  /-- Model times of the edges of the running measurement or spin-up, newest first. -/
  edges : SMap (List Nat) := []
  /-- The last samples of each leak input, and how many in a row (R466), by zone. -/
  leak : SMap (Nat × Nat) := []
  deriving DecidableEq, Repr

/-- What is known of another node of the Horizon bus (R377, R380). -/
structure HznNode where
  hb : List Byte := []
  /-- Model time of its last heartbeat. -/
  at' : Nat := 0
  /-- Model time, plus 1, since when it has been eligible without a break; 0: it is not. -/
  since : Nat := 0
  deriving DecidableEq, Repr

structure HznSt where
  nodes : SMap HznNode := []
  /-- Violations of the last 10 s (R376): node, model time. -/
  viol : List (Nat × Nat) := []
  /-- Responses that wait for a turn (R375), as attachments. -/
  replies : List (List Byte) := []
  deriving DecidableEq, Repr

/-! ### The whole -/

structure State where
  /-- The commands waiting, first in, first out. -/
  pending : List Instr := []
  /-- The model's own count of µs, by which ages and windows are reckoned (notes/assumptions/1). -/
  us : Nat := 0
  /-- The model's own count of free values drawn (notes/assumptions/2). -/
  free : Nat := 0
  /-- The register file: registers and internal fields, by `Fld` and instance. -/
  regs : SMap Nat := []
  /-- HI halves latched by LO reads (R7), by path and register. -/
  latches : SMap Nat := []
  /-- What the device has sent out, newest first. -/
  out : List Out := []
  arr : ArrSt := {}
  beam : BeamSt := {}
  hbm : HbmSt := {}
  bnd : BndSt := {}
  host : HostSt := {}
  fw : FwSt := {}
  weft : WeftSt := {}
  stw : StwSt := {}
  pwr : PwrSt := {}
  thm : ThmSt := {}
  cool : CoolSt := {}
  hzn : HznSt := {}
  /-- Recoveries in progress (R483). -/
  recoveries : List RecTarget := []
  deriving DecidableEq, Repr

/-- The device right after the release of the Selvage die's power-on reset (R348 step 1): bare
defaults in force, the compute die unpowered, every register at its reset value. -/
def State.reset : State := {}

end Sys2Proof.Machine
end

