-- ==== Sys2Proof/Machine/Table.lean ====
section
/-! DEFINITION. Tables by key: the canonical sparse form of a register file and of a memory. -/

namespace Sys2Proof.Machine.Tab

/-- The value at a key; `d` is what an unlisted key reads as. -/
def get {α : Type} : SMap α → Nat → α → α
  | [], _, d => d
  | (k, v) :: t, key, d => if k = key then v else get t key d

/-- The table without the entries of a key. -/
def drop {α : Type} : SMap α → Nat → SMap α
  | [], _ => []
  | (k, v) :: t, key => if k = key then drop t key else (k, v) :: drop t key

/-- The table with an entry put in its place in rising key order. -/
def insert {α : Type} : SMap α → Nat → α → SMap α
  | [], key, v => [(key, v)]
  | (k, w) :: t, key, v =>
    if k < key then (k, w) :: insert t key v
    else if k = key then (key, v) :: t
    else (key, v) :: (k, w) :: t

/-- A write: the value an unlisted key reads as removes the entry. -/
def put {α : Type} [DecidableEq α] (m : SMap α) (key : Nat) (v d : α) : SMap α :=
  if v = d then drop m key else insert m key v

/-- The keys rise strictly from `lo` on and no entry equals what an unlisted key reads as. -/
def wfFrom {α : Type} [DecidableEq α] (d : Nat → α) : Nat → SMap α → Bool
  | _, [] => true
  | lo, (k, v) :: t => decide (lo ≤ k) && decide (v ≠ d k) && wfFrom d (k + 1) t

/-- The table without the keys that a predicate selects. -/
def clear {α : Type} (p : Nat → Bool) (m : SMap α) : SMap α := m.filter fun e => !p e.1

end Sys2Proof.Machine.Tab
end

