-- ==== Sys2Proof/Machine/Ops.lean ====
section
/-! DEFINITION. The named operations over the register file, the device's outputs, the event
recorder and the fault collector, shared by the meanings of all commands. -/

namespace Sys2Proof.Machine

/-- What a command comes to. -/
abbrev Result := Host.Outcome State Fault Refusal

/-- The instance number of an access path's copy of a register (R9). -/
def pathIx : Path → Nat
  | .host => 0
  | .bar2 => 1
  | .smbus => 2
  | .horizon => 3
  | .firmware => 4

/-! ### The register file -/

/-- The place of a field's instance in the register file. -/
def regKey (f : Fld) (i : Nat) : Nat := f.id * 2 ^ 20 + i % 2 ^ 20

/-- The value of a field, within its width (R4). -/
def State.rd (s : State) (f : Fld) (i : Nat) : Nat := Tab.get s.regs (regKey f i) f.reset % f.size

/-- A field set to a value, cut to the field's width. -/
def State.wr (s : State) (f : Fld) (i v : Nat) : State :=
  { s with regs := Tab.put s.regs (regKey f i) (v % f.size) f.reset }

/-- A counter raised by `n`, saturating at its largest value (R131). -/
def State.bumpBy (s : State) (f : Fld) (i n : Nat) : State :=
  s.wr f i (min (s.rd f i + n) (f.size - 1))

/-- A counter raised by 1, saturating (R131). -/
def State.bump (s : State) (f : Fld) (i : Nat) : State := s.bumpBy f i 1

/-- A one-bit field is 1. -/
def State.on (s : State) (f : Fld) (i : Nat) : Bool := s.rd f i == 1

/-- A truth value as a field's value. -/
def bit (b : Bool) : Nat := if b then 1 else 0

/-- Several instances of a field set to one value. -/
def State.wrAll (s : State) (f : Fld) (is : List Nat) (v : Nat) : State :=
  is.foldl (fun s i => s.wr f i v) s

/-- The next free value of the run: a value that the manual does not fix. -/
def State.draw (s : State) : Nat × State := (Config.free s.free, { s with free := s.free + 1 })

/-! ### Bytes -/

/-- `n` bytes of a number, little-endian (Notation and units). -/
def le : Nat → Nat → List Byte
  | 0, _ => []
  | n + 1, v => BitVec.ofNat 8 v :: le n (v / 256)

/-- A little-endian number. -/
def ofLe : List Byte → Nat
  | [] => 0
  | b :: bs => b.toNat + 256 * ofLe bs

/-- A list of bytes cut or filled with zeros to a length. -/
def padTo (n : Nat) (bs : List Byte) : List Byte := (bs ++ List.replicate n 0).take n

/-- CRC-32C of a list of bytes (reflected, initial value and final complement all ones). -/
def crc32c (bs : List Byte) : Nat :=
  let bitStep (c : BitVec 32) : BitVec 32 :=
    if c.getLsbD 0 then (c >>> 1) ^^^ 0x82F63B78#32 else c >>> 1
  let byteStep (c : BitVec 32) (b : Byte) : BitVec 32 :=
    (List.range 8).foldl (fun c _ => bitStep c) (c ^^^ b.setWidth 32)
  (~~~ bs.foldl byteStep 0xFFFFFFFF#32).toNat

/-- Bits `[hi:lo]` of a number. -/
def field (v hi lo : Nat) : Nat := (v / 2 ^ lo) % 2 ^ (hi + 1 - lo)

/-- A mask with one more bit set. -/
def setBit (m k : Nat) : Nat := if m.testBit k then m else m + 2 ^ k

/-- A mask with one bit cleared. -/
def clearBit (m k : Nat) : Nat := if m.testBit k then m - 2 ^ k else m

/-- How many of the bits below `n` are set. -/
def popCount (n m : Nat) : Nat := (List.range n).countP fun k => m.testBit k

/-- A list put in order by insertion; elements that neither precede stay in the order they had. -/
def sortBy {α : Type} (le : α → α → Bool) : List α → List α
  | [] => []
  | x :: l => ins x (sortBy le l)
where
  ins (x : α) : List α → List α
  | [] => [x]
  | y :: l => if le x y then x :: y :: l else y :: ins x l

/-! ### Time -/

/-- Whether fewer than `window` µs of the model's time have passed since `t`. -/
def State.within (s : State) (t window : Nat) : Bool := decide (s.us < t + window)

/-! ### Outputs -/

/-- The device sends something out. -/
def State.send (s : State) (o : Out) : State := { s with out := o :: s.out }

/-- A request to the host: sent while the link is up and Bus Master Enable is 1, else held in order
(R260, R284).  A link that runs as PCIe carries no write to host memory (R259). -/
def State.hostSend (s : State) (o : Out) : State :=
  if s.rd F.HOST_LINK_MODE 0 = 1 then s
  else if s.rd F.HOST_LINK_MODE 0 = 0 ∧ s.on I.bme 0 then s.send o
  else { s with host := { s.host with heldOut := s.host.heldOut ++ [o] } }

/-- An MSI-X message of a vector (R270): held in the pending array while the vector is masked. -/
def State.msixSend (s : State) (v : Nat) : State :=
  if (s.rd I.msixControl v).testBit 0 then s.wr I.msixPending v 1 else s.hostSend (.msix v)

/-! ### Power state of the die -/

/-- The registers of the compute die outside `PD_WEFTIO`, by the field's number; with them the host's
fields of steward registers that a chip reset clears (R448, R471), and the thermal levels, which read 0
while the compute die is unpowered (R437). -/
def computeFld (id : Nat) : Bool :=
  id == 372 || id == 423 || id == 424 || id == 1024 || id == 1025 ||
  (4 ≤ id && id ≤ 171) || id == 187 || (193 ≤ id && id ≤ 203) || (206 ≤ id && id ≤ 262) || (264 ≤ id && id ≤ 268) ||
  (407 ≤ id && id ≤ 415) || (466 ≤ id && id ≤ 470) || (2000 ≤ id && id < 3000)

/-- The registers of `PD_WEFTIO` (R31, R253); those of a binding's job end with the binding. -/
def weftFld (id : Nat) : Bool :=
  (172 ≤ id && id ≤ 186) || (188 ≤ id && id ≤ 192) || id == 204 || id == 205 ||
  (3000 ≤ id && id < 4000)

/-- Select and index registers whose host-window, BAR2 and firmware copies reset with the compute
die (R12, R63, R420). -/
def selectFld (id : Nat) : Bool :=
  id ≤ 3 || id == 339 || id == 361 || id == 363 || id == 389 || id == 400 || id == 416 || id == 432

/-- The register file after the compute die has lost its state. -/
def clearCompute (keepWeft : Bool) (m : SMap Nat) : SMap Nat :=
  Tab.clear (fun k =>
    let id := k / 2 ^ 20
    let i := k % 2 ^ 20
    computeFld id || (!keepWeft && weftFld id) ||
      (selectFld id && (i == 0 || i == 1 || i == 4))) m

/-! ### The event recorder (17) -/

/-- The operating time in units of 1/256 hour (R507): 14,062,500 µs each. -/
def State.opTime (s : State) : Nat :=
  s.rd I.opBase 0 + (s.us - s.rd I.auxUpAt 0) / 14062500

/-- Bare defaults are in force: no Draft is (R349). -/
def State.bare (s : State) : Bool := s.rd F.STW_STATUS_DRAFT 0 == 0 || s.rd F.STW_STATUS_DRAFT 0 == 3

/-- A flash write registered: the steward makes them one at a time, in order (R359). -/
def State.queueFlash (s : State) (op : FlashOp) : State :=
  { s with stw := { s.stw with flashOps := s.stw.flashOps ++ [op] } }

/-- A record joins the queue. -/
def State.pushRecord (s : State) (r : Record) : State :=
  { s with stw := { s.stw with records := s.stw.records ++ [r] } }

/-- An event record registered: it takes the next sequence number (R505) and joins the queue of 64,
or is lost when the queue is full; on bare defaults the queue keeps the last 64 and nothing is written
(R511). -/
def State.record (s : State) (type code : Nat) (data : List Byte) : State :=
  let seq := s.rd F.LOG_SEQ_NEXT 0
  let r : Record := ⟨type, code, seq, s.opTime, s.rd F.LOG_CYCLES_CYCLES 0,
    s.rd F.STW_STATUS_NODE 0, data⟩
  let s := s.wr F.LOG_SEQ_NEXT 0 (seq + 1)
  if s.bare then
    let s := s.pushRecord r
    { s with stw := { s.stw with records := s.stw.records.drop (s.stw.records.length - 64) } }
  else if s.stw.records.length < 64 then (s.pushRecord r).queueFlash .record
  else
    let s := if s.rd I.logLostCount 0 = 0 then s.wr I.logLostFirst 0 seq else s
    (s.bump I.logLostCount 0).bump F.LOG_STATUS_LOST 0

/-! ### Settings of the Draft -/

/-- A setting: the Draft record that holds it, its place in the record's body, its default. -/
structure Setting where
  recType : Nat
  off : Nat
  len : Nat
  dflt : Nat
  deriving DecidableEq, Repr

/-- The value of a setting in force: from its record, or the default when the record is absent
(R354). -/
def State.cfg (s : State) (t : Setting) : Nat :=
  match s.stw.draft.find? (fun r => r.type == t.recType) with
  | some r => ofLe ((r.body.drop t.off).take t.len)
  | none => t.dflt

/-- `CLASSC_LOG` (R501). -/
def cfgClasscLog : Setting := ⟨0x0B, 3, 1, 1⟩

/-- A class C fault (R473): counted, and recorded under the number of the rule that names it at most
once in each second per rule. -/
def State.classC (s : State) (rule arg : Nat) : State :=
  let s := s.bump F.FAULT_CLASSC_COUNT 0
  let recent := s.stw.classC.filter fun e => s.within e.2 1000000
  let n := (recent.filter fun e => e.1 == rule).length
  let s : State := { s with stw := { s.stw with classC := recent ++ [(rule, s.us)] } }
  if n = 0 ∧ s.cfg cfgClasscLog = 1 then s.record 3 rule (le 4 (n + 1) ++ le 4 arg) else s

/-! ### Host events (09) -/

/-- The 32 bytes of an event entry (R272). -/
def Event.bytes (e : Event) (phase : Bool) : List Byte :=
  le 2 e.type ++ [BitVec.ofNat 8 (if phase then 128 else 0), 0] ++ le 4 e.seq ++ padTo 24 e.data

/-- Entries of the event queue (R286, `LOG2` taken as the nearer end of 4-12). -/
def State.evqSize (s : State) : Nat := 2 ^ max 4 (min 12 (s.rd F.HOST_EVQ_SIZE_LOG2 0))

/-- An event counted as not written (R274). -/
def State.loseEvent (s : State) : State :=
  (s.bump F.HOST_EVQ_SIZE_LOST 0).wr F.HOST_EVQ_SIZE_OVF 0 1

/-- An event entry written to the host's event queue, and its message sent; or counted as lost when
the queue is disabled or full (R270, R274). -/
def State.writeEvent (s : State) (e : Event) : State :=
  let tail := s.rd F.HOST_EVQ_TAIL_INDEX 0
  let head := s.rd F.HOST_EVQ_HEAD_INDEX 0
  let size := s.evqSize
  if s.on F.HOST_EVQ_SIZE_EN 0 ∧ (tail + 2 ^ 17 - head) % 2 ^ 17 < size then
    let phase := (tail / size) % 2 == 0
    let addr := (s.rd F.HOST_EVQ_BASE 0) / 4096 * 4096 + (tail % size) * 32
    ((s.hostSend (.hostWrite addr (e.bytes phase))).wr F.HOST_EVQ_TAIL_INDEX 0 (tail + 1)).msixSend 1025
  else s.loseEvent

/-- An event registered (R272-R274, R291): written while firmware serves, else one of at most 64 held. -/
def State.event (s : State) (type : Nat) (data : List Byte) : State :=
  if s.on I.dieUp 0 then
    let e : Event := ⟨type, s.rd I.evqSeq 0, data⟩
    let s := s.wr I.evqSeq 0 (s.rd I.evqSeq 0 + 1)
    if s.on F.HOST_STATUS_FW_UP 0 then s.writeEvent e
    else if s.host.heldEvents.length < 64 then
      { s with host := { s.host with heldEvents := s.host.heldEvents ++ [e] } }
    else s.loseEvent
  else s

/-! ### The fault collector (16) -/

/-- The class of a source (R474): 1 class A, 2 class B, 0 none (a reserved bit). -/
def faultClass (src : Nat) : Nat :=
  if src ≤ 13 then 1 else if (32 ≤ src ∧ src ≤ 61) ∨ (64 ≤ src ∧ src ≤ 87) then 2 else 0

/-- The sources that are conditions (R474); the others are events. -/
def faultIsCondition (src : Nat) : Bool :=
  src ≤ 5 || (7 ≤ src && src ≤ 9) || src == 13 || (32 ≤ src && src ≤ 50) ||
  (53 ≤ src && src ≤ 60) || src == 84

/-- The status field that holds a source's bit, and the bit (R474). -/
def statusFld (src : Nat) : Fld :=
  if src < 32 then F.FAULT_STATUS0_CLASS_A
  else if src < 64 then F.FAULT_STATUS1_STEWARD_B else F.FAULT_STATUS2_COMPUTE_B

def State.statusBit (s : State) (src : Nat) : Bool := (s.rd (statusFld src) 0).testBit (src % 32)

/-- `FAULT_N` is held low: some status bit is set (R477), the safe state (R481) or bare defaults
(R349); high impedance in power-on reset (R523). -/
def State.faultNLow (s : State) : Bool :=
  !s.on I.porHeld 0 && (s.rd F.FAULT_STATUS0_CLASS_A 0 != 0 || s.rd F.FAULT_STATUS1_STEWARD_B 0 != 0 ||
  s.rd F.FAULT_STATUS2_COMPUTE_B 0 != 0 || s.on F.FAULT_ESC_SAFE 0 || s.bare)

/-- All status bits read 0. -/
def State.noStatus (s : State) : Bool :=
  s.rd F.FAULT_STATUS0_CLASS_A 0 == 0 && s.rd F.FAULT_STATUS1_STEWARD_B 0 == 0 &&
  s.rd F.FAULT_STATUS2_COMPUTE_B 0 == 0

/-- A class A bit is set. -/
def State.classASet (s : State) : Bool := s.rd F.FAULT_STATUS0_CLASS_A 0 != 0

/-- The compute die loses its power or is reset: every domain but, at a chip reset, `PD_WEFTIO` loses
its state (R494 step 3, R481).  Keys, leases, owners and the per-boot key go with it. -/
def State.dieLost (s : State) (keepWeft : Bool) : State :=
  { s with
    regs := clearCompute keepWeft s.regs
    latches := Tab.clear (fun k => k % 8 == 0 || k % 8 == 1 || k % 8 == 4) s.latches
    arr := {}
    beam := {}
    hbm := {}
    bnd := {}
    host := {}
    fw := {}
    weft := if keepWeft then { s.weft with jobs := [], copies := [] } else {}
    thm := { s.thm with floors := [], lost := [] }
    recoveries := [] }

/-- Rails and pass FET off in one sample (R417): every `VR_EN_*` deasserted, the gate pulled down,
`PG_OUT` driven low, the band timers at 0 (R401), the compute die without power. -/
def State.cutPower (s : State) : State :=
  let s := s.wrAll F.PWR_RAIL_DATA_EN (List.range 7) 0
  let s := s.wrAll F.PWR_RAIL_DATA_STATE (List.range 7) 0
  let s := s.wrAll I.bandTimer (List.range 9) 0
  let s := (((s.wr I.gate 0 0).wr F.HSW_STATE_PG 0 0).wr I.railNow 0 7).wr I.railDown 0 0
  (s.wr I.dieUp 0 0).dieLost false

/-- The data bytes of a power record (R503, type 0x08). -/
def State.powerData (s : State) : List Byte :=
  le 2 (s.rd F.PWR_INPUT_VIN 0 / 10) ++ le 2 (s.rd F.PWR_FRONT_HOLDUP 0)

/-- Entry to the safe state (R481): rails and pass FET off, switches and pump outputs held on,
`THERMTRIP_N` low for sources 1-3; a reset or power cycle in progress is abandoned (R497). -/
def State.enterSafe (s : State) (src : Nat) : State :=
  let entered := s.on F.FAULT_ESC_SAFE 0
  let s := s.cutPower
  let s := ((s.wr I.holdFull 0 1).wr F.FAULT_ESC_SAFE 0 1).wr I.chipStep 0 0
  let s := if src = 1 ∨ src = 2 ∨ src = 3 then s.wr I.thermtripN 0 1 else s
  let s :=
    if src = 4 then (s.wr F.HSW_STATE_STATE 0 5).wr F.PWR_SEQ_STEP 0 8
    else if src = 5 then (s.wr F.HSW_STATE_STATE 0 6).wr F.PWR_SEQ_STEP 0 8
    else
      let s := if s.rd F.HSW_STATE_STATE 0 = 5 ∨ s.rd F.HSW_STATE_STATE 0 = 6 then s
        else s.wr F.HSW_STATE_STATE 0 (if s.rd F.HSW_STATE_STATE 0 = 4 then 4 else 0)
      s.wr F.PWR_SEQ_STEP 0 (if s.rd F.PWR_SEQ_STEP 0 = 8 then 8 else 9)
  if entered then s
  else (s.wr F.LEAK_STATUS_SHUTDOWN 0 (bit (7 ≤ src && src ≤ 9))).record 8 3 s.powerData

/-- A fault source registered by the master collector (R473-R476): status bit, first-source latch or
overflow, event record, host event of a class B source, safe state of a class A source. -/
def State.fault (s : State) (src detail : Nat) : State :=
  if faultClass src = 0 then s
  else
    let first := s.rd F.FAULT_FIRST_SRC_VALID 0 == 0
    let cls := faultClass src
    let s := s.wr (statusFld src) 0 (setBit (s.rd (statusFld src) 0) (src % 32))
    let s := if faultIsCondition src then s.wr I.causeOn src 1 else s
    let s :=
      if first then
        (((s.wr F.FAULT_FIRST_SRC_SOURCE 0 src).wr F.FAULT_FIRST_SRC_CLASS 0 cls).wr
          F.FAULT_FIRST_SRC_DETAIL 0 detail).wr F.FAULT_FIRST_SRC_VALID 0 1
      else (s.wr F.FAULT_OVF_OVF 0 1).bump F.FAULT_OVF_LATER 0
    let s := s.record cls src
      (le 1 detail ++ le 1 (bit first) ++ le 2 (s.rd F.FAULT_OVF_LATER 0))
    if cls = 1 then s.enterSafe src
    else s.event 11 (le 4 (src + 2 ^ 8 * cls + 2 ^ 16 * (detail % 256) + 2 ^ 31))

/-- The end of a condition's cause (R474): the status bit can be cleared from now on. -/
def State.causeEnds (s : State) (src : Nat) : State := s.wr I.causeOn src 0

/-- The latch re-arms at the end of the first sample in which every status bit reads 0 (R476). -/
def State.rearm (s : State) : State :=
  if s.noStatus then
    ((s.wr F.FAULT_FIRST_SRC_VALID 0 0).wr F.FAULT_OVF_OVF 0 0).wr F.FAULT_OVF_LATER 0 0
  else s

/-- Leaving the safe state at the end of the first sample without a class A bit (R482): the input
sequence starts from the insertion delay, or from the back-off when a trip is pending. -/
def State.leaveSafe (s : State) : State :=
  if s.on F.FAULT_ESC_SAFE 0 ∧ !s.classASet then
    let s := ((s.wr F.FAULT_ESC_SAFE 0 0).wr I.holdFull 0 0).wr I.thermtripN 0 0
    let s := s.wr F.PWR_SEQ_STEP 0
      (if s.rd F.HSW_STATE_STATE 0 = 4 then 7
       else if s.rd F.PWR_INPUT_WINDOW 0 = 1 then 2 else 1)
    s.record 8 4 s.powerData
  else s

/-- A status bit cleared, and what follows from it in the same sample (R476, R482). -/
def State.clearStatus (s : State) (src : Nat) : State :=
  let s := s.wr (statusFld src) 0 (clearBit (s.rd (statusFld src) 0) (src % 32))
  s.rearm.leaveSafe

end Sys2Proof.Machine
end

