-- ==== Sys2Proof/Machine/Leases.lean ====
section
/-! DEFINITION. Bolts, Beam banks, HBM leases and retirements: the operations that grant, release and
retire them (04_beam_and_hbm; R54, R57). -/

namespace Sys2Proof.Machine

/-! ### Bolts -/

/-- The use of a fixed region's bolt, 0 for a leasable bolt (R96). -/
def fixedUse (b : Nat) : Nat :=
  if (58 ≤ b ∧ b ≤ 63) ∨ (122 ≤ b ∧ b ≤ 125) then 1
  else if b = 126 ∨ b = 127 then 2
  else if 186 ≤ b ∧ b ≤ 189 then 3
  else if b = 190 ∨ b = 191 then 4
  else if 250 ≤ b ∧ b ≤ 255 then 5 else 0

/-- A bolt before anything is leased or retired (R96, R116). -/
def boltInit (b : Nat) : Bolt :=
  if fixedUse b = 0 then { state := .free } else { state := .fixed, owner := 0xFFFE }

def State.bolt (s : State) (b : Nat) : Bolt := Tab.get s.beam.bolts b (boltInit b)

def State.setBolt (s : State) (b : Nat) (x : Bolt) : State :=
  { s with beam := { s.beam with bolts := Tab.put s.beam.bolts b x (boltInit b) } }

/-- The bolt number whose place the storage of bolt `b` has (R97). -/
def State.storage (s : State) (b : Nat) : Nat := ((s.bolt b).exchanged).getD b

/-- The bank group, 0-127, that holds a bolt (R95, R97). -/
def State.groupOf (s : State) (b : Nat) : Nat := s.storage b / 2

/-- The instance number of a bank, 0-32 of its group. -/
def bankIx (g bank : Nat) : Nat := g * 64 + bank

/-- The bank of its group that holds line `l` of bolt `b`: bank `l mod 32`, or the spare in its place
(R95, R103). -/
def State.bankOf (s : State) (b l : Nat) : Fin 33 :=
  if s.on I.spareUsed (s.groupOf b) ∧ s.rd I.sparedBank (s.groupOf b) = l % 32 then 32
  else Fin.ofNat 33 (l % 32)

def State.boltFree (s : State) (b : Nat) : Bool := (s.bolt b).state == .free

/-- The bolts of a quadrant in the order in which a bind takes them (R117): one of each bank group in
ascending order, half 0 first, then the second bolt of each group. -/
def State.quadrantOrder (s : State) (q : Nat) : List Nat :=
  let gs := (List.range 32).map fun g => 64 * q + 2 * g
  gs.filterMap (fun b => if s.boltFree b then some b else if s.boltFree (b + 1) then some (b + 1) else none)
    ++ gs.filterMap (fun b => if s.boltFree b && s.boltFree (b + 1) then some (b + 1) else none)

/-- The FREE bolts in the order of R117 for a bind whose first partition is `p`. -/
def State.boltOrder (s : State) (p : Nat) : List Nat :=
  let q := p / 4
  s.quadrantOrder q ++ ((List.range 4).filter (· != q)).flatMap s.quadrantOrder

def State.freeBolts (s : State) : Nat := (List.range 256).countP s.boltFree

/-- Bolts leased to an owner. -/
def State.leaseBolts (s : State) (bs : List Nat) (owner : Nat) : State :=
  bs.foldl (fun s b => s.setBolt b { s.bolt b with state := .leased, owner := owner }) s

/-- Release or revocation of a Beam lease (R118 step 1): its bolts DRAINING. -/
def State.releaseBolts (s : State) (bs : List Nat) : State :=
  bs.foldl (fun s b =>
    if (s.bolt b).state = .leased then s.setBolt b { s.bolt b with state := .draining } else s) s

/-- A bolt marked to retire (R105): RETIRED at once when FREE, else when its lease ends. -/
def State.retireBolt (s : State) (b : Nat) : State :=
  let x := s.bolt b
  match x.state with
  | .free => s.setBolt b { x with state := .retired, owner := 0, retireOnRelease := true }
  | .retired | .fixed => s
  | _ => s.setBolt b { x with retireOnRelease := true }

/-! ### Retirements -/

/-- A retirement queued for record 0x0A: it holds in the compute die from now on and is passed to the
steward (R54, R57). -/
def State.retire (s : State) (r : Retirement) : State :=
  if r ∈ s.arr.user ∨ r ∈ s.arr.made then s
  else
    let s : State := { s with
      arr := { s.arr with made := s.arr.made ++ [r] }
      stw := { s.stw with retireQueue := s.stw.retireQueue ++ [r] } }
    s.queueFlash .retirement

/-- Retirements in force in the compute die (R54). -/
def State.retirements (s : State) : List Retirement := s.arr.user ++ s.arr.made

/-- The instance number of a cluster. -/
def clusterIx (p c : Nat) : Nat := p * 128 + c

/-- The instance number of a core. -/
def coreIx (c : CoreId) : Nat := clusterIx c.part.val c.cluster.val * 32 + c.core.val

/-- Cores of a cluster retired by the factory map, record 0x0A or a decision since power-up. -/
def State.retiredCores (s : State) (p c : Nat) : Nat :=
  s.retirements.foldl (fun m r =>
    match r with
    | .core p' c' k => if p'.val = p ∧ c'.val = c then setBit m k.val else m
    | _ => m) (Config.factoryRetired p c).toNat

def State.clusterRetired (s : State) (p c : Nat) : Bool :=
  s.retirements.any fun r =>
    match r with
    | .cluster p' c' => p'.val == p && c'.val == c
    | _ => false

/-- Cores of a cluster that the repair decision takes as bad (R54). -/
def State.badCores (s : State) (p c : Nat) : Nat :=
  s.retiredCores p c ||| s.rd F.PART_CL_PENDING_CORES (clusterIx p c) |||
    s.rd I.sweepFailed (clusterIx p c)

/-- Good cores of a cluster, ascending. -/
def State.goodCores (s : State) (p c : Nat) : List Nat :=
  (List.range 17).filter fun k => !(s.badCores p c).testBit k

def State.clusterOk (s : State) (p c : Nat) : Bool :=
  !s.clusterRetired p c && decide (16 ≤ (s.goodCores p c).length)

/-- The good clusters of a partition after a repair decision now (R47, R54). -/
def State.countOk (s : State) (p : Nat) : Nat := (List.range 100).countP (s.clusterOk p)

/-- A mask of a list of bit numbers. -/
def maskOf (ks : List Nat) : Nat := ks.foldl setBit 0

/-- One cluster of the repair decision (R54): the retirements it queues, and its map registers. -/
def State.decideCluster (s : State) (p : Part) (c : Cluster) (logical : Nat) (map : Bool) : State :=
  let i := clusterIx p.val c.val
  let bad := s.badCores p.val c.val
  let ok := s.clusterOk p.val c.val
  let good := s.goodCores p.val c.val
  let new := s.rd F.PART_CL_PENDING_CORES i ||| s.rd I.sweepFailed i
  let s := (List.finRange 17).foldl (fun s k =>
    if new.testBit k.val then s.retire (.core p c k) else s) s
  let s := if ok then s else s.retire (.cluster p c)
  let s := (s.wr F.PART_CL_RETIRED_CORES i bad).wr F.PART_CL_DATA_RETIRED i (bit !ok)
  let s := s.wr F.PART_CL_DATA_SPARE_FREE i (bit (ok && good.length == 17))
  let s := (s.wr F.PART_CL_PENDING_CORES i 0).wr I.sweepFailed i 0
  if map then
    (s.wr F.PART_CL_DATA_MAPPED i (if ok then maskOf (good.take 16) else 0)).wr
      F.PART_CL_DATA_LOGICAL i (if ok then logical else 0x7F)
  else s

/-- The repair decision of a partition (R54): retirements queued, registers written; logical clusters
are assigned in ascending physical order when at least 96 clusters are good (R47). -/
def State.repairDecision (s : State) (p : Part) : State :=
  let n := s.countOk p.val
  let s := ((List.finRange 100).foldl (fun (x : State × Nat) c =>
    let ok := x.1.clusterOk p.val c.val
    (x.1.decideCluster p c x.2 (96 ≤ n), x.2 + bit ok)) (s, 0)).1
  s.wr F.PART_CLUSTERS_OK_CLUSTERS_OK p.val n

/-- The cluster registers of a partition before its first bind, from the fused and record 0x0A maps
(R65): nothing is mapped and nothing is decided. -/
def State.readMaps (s : State) (p : Part) : State :=
  let n := s.countOk p.val
  let s := (List.finRange 100).foldl (fun s c =>
    let i := clusterIx p.val c.val
    let ok := s.clusterOk p.val c.val
    let s := (s.wr F.PART_CL_RETIRED_CORES i (s.badCores p.val c.val)).wr F.PART_CL_DATA_RETIRED i (bit !ok)
    s.wr F.PART_CL_DATA_SPARE_FREE i (bit (ok && (s.goodCores p.val c.val).length == 17))) s
  s.wr F.PART_CLUSTERS_OK_CLUSTERS_OK p.val n

/-! ### Beam banks -/

/-- The instance number of a bank of an HBM channel. -/
def hbmBankIx (g chan bank : Nat) : Nat := (g * 16 + chan) * 256 + bank

/-- A bank marked failing (R103 step 1), or, when its group's spare is in service, kept in use with
both bolts of the group to retire (R105), or with a class B fault for a fixed region (R97). -/
def State.bankFails (s : State) (g : BankGroup) (bank : Fin 33) : State :=
  let i := bankIx g.val bank.val
  if s.on I.bankFailing i then s
  else
    let s := s.wr I.bankFailing i 1
    if s.on I.spareUsed g.val ∨ s.rd I.copyBank g.val ≠ 33 then
      (List.finRange 256).foldl (fun s b =>
        if s.groupOf b.val = g.val then
          if fixedUse b.val ≠ 0 then s.fault 83 b.val
          else (s.retireBolt b.val).retire (.bolt b none)
        else s) s
    else s.wr I.copyBank g.val bank.val

/-- A correctable error of a bank (R102, R103). -/
def State.bankCe (s : State) (g : BankGroup) (bank : Fin 33) : State :=
  let i := bankIx g.val bank.val
  let s := (s.bump F.BEAM_ECC_CE 0).wr I.beamLevel i (min 8 (s.rd I.beamLevel i + 1))
  if s.rd I.beamLevel i = 8 then s.bankFails g bank else s

/-- An uncorrectable error of a bank (R102, R103). -/
def State.bankUe (s : State) (g : BankGroup) (bank : Fin 33) : State :=
  (s.bump F.BEAM_ECC_UE 0).bankFails g bank

/-! ### HBM leases -/

def State.lease? (s : State) (id : Nat) : Option Lease := (s.hbm.leases.find? (·.1 == id)).map (·.2)

def State.setLease (s : State) (id : Nat) (l : Lease) : State :=
  { s with hbm := { s.hbm with leases := Tab.insert s.hbm.leases id l } }

def State.dropLease (s : State) (id : Nat) : State :=
  { s with hbm := { s.hbm with leases := Tab.drop s.hbm.leases id } }

/-- Group extents in leases of a group, the firmware reserve apart. -/
def State.leasedExts (s : State) (g : Nat) : List Nat :=
  s.hbm.leases.flatMap fun l => if l.2.group = g then l.2.exts else []

/-- FREE group extents of a group, ascending (R109, R113, R120). -/
def State.freeExts (s : State) (g : Nat) : List Nat :=
  (List.range 624).filter fun i => i ∉ s.leasedExts g ∧ g * 640 + i ∉ s.hbm.retired

/-- Tenant key slots of a group in use. -/
def State.usedSlots (s : State) (g : Nat) : List Nat :=
  s.hbm.leases.filterMap fun l => if l.2.group = g then some l.2.slot else none

/-- The lowest free tenant key slot of a group (R115). -/
def State.freeSlot? (s : State) (g : Nat) : Option Nat :=
  ((List.range 254).map (· + 2)).find? fun k => k ∉ s.usedSlots g

/-- A new HBM lease with a freshly drawn key (R115); answers its number too. -/
def State.newLease (s : State) (g owner : Nat) (exts : List Nat) (slot : Nat) (use : LeaseUse) :
    Nat × State :=
  let id := s.hbm.nextLease
  (id, { s with hbm := { s.hbm with
    leases := Tab.insert s.hbm.leases id ⟨g, owner, exts, slot, s.hbm.nextKey, .active, use⟩
    nextLease := id + 1
    nextKey := s.hbm.nextKey + 1 } })

/-- Release or revocation of an HBM lease (R121 step 1). -/
def State.drainLease (s : State) (id : Nat) : State :=
  match s.lease? id with
  | some l => if l.state = .active then s.setLease id { l with state := .draining }
              else if l.state = .lost then s.dropLease id else s
  | none => s

/-- The walk of R536 over the home groups from `g` on: what it places (group and extents), what stays
unplaced, and the groups with FREE extents that it could not use for lack of a key slot. -/
def State.walk (s : State) (g n : Nat) : List (Nat × List Nat) × Nat × Nat :=
  (List.range 16).foldl (fun x k =>
    let h := (g + k) % 16
    let free := s.freeExts h
    if x.2.1 = 0 ∨ free.isEmpty then x
    else match s.freeSlot? h with
      | none => (x.1, x.2.1, x.2.2 + 1)
      | some _ =>
        let take := free.take x.2.1
        (x.1 ++ [(h, take)], x.2.1 - take.length, x.2.2)) ([], n, 0)

/-- The leases of a walk's placement made; answers their numbers (R536). -/
def State.makeLeases (s : State) (owner : Nat) (use : LeaseUse) (ps : List (Nat × List Nat)) :
    List Nat × State :=
  ps.foldl (fun x p =>
    match x.2.freeSlot? p.1 with
    | none => x
    | some k =>
      let r := x.2.newLease p.1 owner p.2 k use
      (x.1 ++ [r.1], r.2)) ([], s)

/-! ### HBM contents -/

/-- The place of a group byte address under a key, in `hbm.bytes`. -/
def hbmPlace (key g a : Nat) : Nat := (key * 16 + g) * 2 ^ 36 + a

def State.hbmByte (s : State) (place : Nat) : Byte :=
  Tab.get s.hbm.bytes place (Config.hbmUnwritten place)

def State.hbmWrite (s : State) (place : Nat) (bs : List Byte) : State :=
  let m := bs.zipIdx.foldl (fun m x =>
    Tab.put m (place + x.2) x.1 (Config.hbmUnwritten (place + x.2))) s.hbm.bytes
  { s with hbm := { s.hbm with bytes := m } }

/-- A row queued for repair and for record 0x0A (R113). -/
def State.queueRow (s : State) (g : HomeGroup) (chan : Fin 16) (bank row : Nat) : State :=
  if (g.val, chan.val, bank, row) ∈ s.hbm.rows then s
  else
    let s : State := { s with hbm := { s.hbm with rows := s.hbm.rows ++ [(g.val, chan.val, bank, row)] } }
    (s.bump F.HBM_GRP_REPAIR_PENDING g.val).retire (.row g chan bank row)

/-! ### Beam contents -/

/-- The byte at an offset of a bolt (R95, R97). -/
def State.beamByte (s : State) (b o : Nat) : Byte :=
  Tab.get s.beam.bytes (s.storage b * 2 ^ 20 + o) 0

def State.beamWrite (s : State) (b o : Nat) (bs : List Byte) : State :=
  let m := bs.zipIdx.foldl
    (fun m x => Tab.put m (s.storage b * 2 ^ 20 + o + x.2) x.1 0) s.beam.bytes
  { s with beam := { s.beam with bytes := m } }

/-- The 64 bytes of a line of a bolt. -/
def State.beamLine (s : State) (b l : Nat) : List Byte :=
  (List.range 64).map fun k => s.beamByte b (l * 64 + k)

/-- A poison mark of a line of a bolt (R102). -/
def State.setPoison (s : State) (b l : Nat) (v : Bool) : State :=
  let m := Tab.put s.beam.poison (s.storage b * 16384 + l) v false
  { s with beam := { s.beam with poison := m } }

def State.poisoned (s : State) (b l : Nat) : Bool :=
  Tab.get s.beam.poison (s.storage b * 16384 + l) false

/-! ### Owners -/

/-- A vendor-protocol response: the body header of R281 and the body. -/
def vendorReply (op status : Nat) (id : BitVec 32) (body : List Byte) : List Byte :=
  le 1 1 ++ le 1 op ++ le 2 status ++ le 4 id.toNat ++ body

/-- A DOE data object (R279): vendor, type, length in words, and the data. -/
def doeObject (vendor type : Nat) (bs : List Byte) : List Byte :=
  let words := (bs.length + 3) / 4
  le 2 vendor ++ le 2 type ++ le 4 (words + 2) ++ padTo (4 * words) bs

/-- The vendor-protocol data object. -/
def doeVendor (bs : List Byte) : List Byte := doeObject 0x1F2A 0x01 bs

def State.owner? (s : State) (o : Nat) : Option Owner :=
  (s.bnd.owners.find? (·.1 == o)).map (·.2)

/-- Some lease of an owner has not ended (R163, R330). -/
def State.ownerHolds (s : State) (o : Nat) : Bool :=
  s.beam.bolts.any (fun x => x.2.owner == o &&
      (x.2.state == .leased || x.2.state == .draining || x.2.state == .zeroing)) ||
  s.hbm.leases.any (fun x => x.2.owner == o)

/-- Closing owners whose last lease has ended, and whose close waits for no command: the key-store entry is
zeroed and the number becomes free (R163, R330). -/
def State.reapOwners (s : State) : State :=
  let live := s.bnd.owners.filter fun x =>
    !(x.2.closing && !s.ownerHolds x.1 && !s.bnd.toClose.contains x.1)
  let s : State := { s with bnd := { s.bnd with owners := live } }
  match s.host.doeClose with
  | some (id, o) =>
    if live.any (·.1 == o) then s
    else { s with host := { s.host with
      doeClose := none, doe := Tab.insert s.host.doe 1 (doeVendor (vendorReply 5 0 id [])) } }
  | none => s

end Sys2Proof.Machine
end

