-- ==== Sys2Proof/Machine/FrameOps.lean ====
section
/-! DEFINITION. Contexts, frames, completion rings and the command window: the operations shared by
intake, scheduling, recovery and commands (06_contexts_and_binding). -/

namespace Sys2Proof.Machine

/-! ### Tables -/

def State.ctx? (s : State) (c : Nat) : Option Ctx := (s.bnd.ctxs.find? (·.1 == c)).map (·.2)

def State.setCtx (s : State) (c : Nat) (x : Ctx) : State :=
  { s with bnd := { s.bnd with ctxs := Tab.insert s.bnd.ctxs c x } }

def State.binding? (s : State) (b : Nat) : Option Binding :=
  (s.bnd.bindings.find? (·.1 == b)).map (·.2)

def State.setBinding (s : State) (b : Nat) (x : Binding) : State :=
  { s with bnd := { s.bnd with bindings := Tab.insert s.bnd.bindings b x } }

def State.bundle? (s : State) (h : Nat) : Option Bundle :=
  (s.bnd.bundles.find? (·.1 == h)).map (·.2)

def State.setBundle (s : State) (h : Nat) (x : Bundle) : State :=
  { s with bnd := { s.bnd with bundles := Tab.insert s.bnd.bundles h x } }

def State.spool (s : State) (sp : Nat) : SpoolSt := Tab.get s.bnd.spools sp {}

def State.setSpool (s : State) (sp : Nat) (x : SpoolSt) : State :=
  { s with bnd := { s.bnd with spools := Tab.put s.bnd.spools sp x {} } }

def State.setFrames (s : State) (fs : List Frame) : State :=
  { s with bnd := { s.bnd with frames := fs } }

/-- The delta plan of a context's bundle. -/
def State.planOf (s : State) (c : Nat) : Option DeltaPlan :=
  (s.ctx? c).bind fun x => (s.bundle? x.handle).bind fun h => h.hdr.plan

/-- The binding that holds a partition. -/
def State.partBinding? (s : State) (p : Nat) : Option (Nat × Binding) :=
  s.bnd.bindings.find? fun x => x.2.parts.contains p

/-! ### Contexts -/

/-- Frames of a context taken in and not yet completed. -/
def State.framesOf (s : State) (c : Nat) : List Frame := s.bnd.frames.filter fun f => f.ctx == c

/-- The state of an open context that is neither held nor closing follows its frames (R182). -/
def State.syncCtx (s : State) (c : Nat) : State :=
  let fs := s.framesOf c
  let s := s.wr F.CTX_STATE_QUEUED c (min 255 fs.length)
  let st := s.rd F.CTX_STATE_STATE c
  if st = 1 ∨ st = 2 ∨ st = 3 then
    s.wr F.CTX_STATE_STATE c
      (if fs.any (fun f => f.stage == .running) then 3 else if fs.isEmpty then 1 else 2)
  else s

/-- A refresh cause made pending for a context's next frame (R148). -/
def State.addCause (s : State) (c cause : Nat) : State :=
  match s.ctx? c with
  | some x => if x.causes.contains cause then s
              else s.setCtx c { x with causes := x.causes ++ [cause] }
  | none => s

/-- The context becomes HELD with a hold cause (R186). -/
def State.holdCtx (s : State) (c cause : Nat) : State :=
  (s.wr F.CTX_STATE_STATE c 4).wr F.CTX_STATE_HOLD_CAUSE c cause

/-- The contexts open on a binding. -/
def State.ctxsOn (s : State) (b : Nat) : List Nat :=
  s.bnd.ctxs.filterMap fun x => if x.2.binding = b then some x.1 else none

/-- The fields of the context window (R160, R202, R221, R254), by number. -/
def ctxFld (id : Nat) : Bool :=
  (91 ≤ id && id ≤ 109) || (123 ≤ id && id ≤ 141) || (166 ≤ id && id ≤ 171) || (206 ≤ id && id ≤ 209)

/-- Places in a binding's state leases that its contexts hold; a twin's copy holds two (R171, R246). -/
def State.placesOn (s : State) (b : Nat) : List Nat :=
  s.bnd.ctxs.flatMap fun x =>
    if x.2.binding = b then
      if s.weft.copies.any (·.1 == x.1) then [x.2.place, x.2.place + 1] else [x.2.place]
    else []

/-- The lowest place with `n` free places in a row on a binding, within its capacity. -/
def State.freePlace? (s : State) (b n : Nat) : Option Nat :=
  match s.binding? b with
  | some x => (List.range x.capacity).find? fun k =>
      decide (k + n ≤ x.capacity) && (List.range n).all fun j => !(s.placesOn b).contains (k + j)
  | none => none

/-- Entries that wait on a context's spool when the context ends are answered `UNBOUND` (R178). -/
def State.noteEnded (s : State) (c : Nat) : State :=
  match s.ctx? c with
  | none => s
  | some x =>
    let y := s.spool x.spool
    if y.waiting.isEmpty then s
    else s.setSpool x.spool { y with ended := y.ended.filter (·.1 != c) ++ [(c, y.waiting.length)] }

/-- The slot becomes FREE (R182): its registers read as after reset, its context is gone. -/
def State.freeCtx (s : State) (c : Nat) : State :=
  let s := s.noteEnded c
  { s with
    regs := Tab.clear (fun k => ctxFld (k / 2 ^ 20) && k % 2 ^ 20 == c) s.regs
    bnd := { s.bnd with ctxs := Tab.drop s.bnd.ctxs c }
    weft := { s.weft with copies := Tab.drop s.weft.copies c } }

/-! ### Codecs and decode state -/

/-- The code of a codec in `CTX_INPUT.CODEC` and `CTX_DECODE.SOURCE`; raw is none of `CTX_INPUT`'s. -/
def codecCode : Codec → Nat
  | .hevc => 1
  | .avc => 2
  | .av1 => 3
  | .jpeg => 4
  | .raw => 5

def isVideo : Codec → Bool
  | .hevc | .avc | .av1 => true
  | _ => false

/-- The bundle header of a context. -/
def State.hdrOf (s : State) (c : Nat) : Option BundleHdr :=
  (s.ctx? c).bind fun x => (s.bundle? x.handle).map Bundle.hdr

/-- The codec of a context (R211); raw: it has no codec. -/
def State.codec (s : State) (c : Nat) : Codec :=
  match s.rd F.CTX_INPUT_CODEC c with
  | 1 => .hevc
  | 2 => .avc
  | 3 => .av1
  | 4 => .jpeg
  | _ => ((s.hdrOf c).map BundleHdr.codec).getD .raw

/-- A video context's decode state becomes broken (R217). -/
def State.breakDecode (s : State) (c : Nat) : State :=
  if isVideo (s.codec c) then s.wr F.CTX_DECODE_BROKEN c 1 else s

/-! ### Completion -/

/-- Entries of a ring (R187, R202: `LOG2` taken as the nearer end of 4-16). -/
def ringSize (log2 : Nat) : Nat := 2 ^ max 4 (min 16 log2)

/-- Distance of two ring indexes (R187, R299). -/
def ringDist (a b : Nat) : Nat := (a + 2 ^ 17 - b % 2 ^ 17) % 2 ^ 17

/-- The age of a frame in µs, within the tolerance of R195. -/
def State.age (s : State) (arrived : Nat) : Nat :=
  let el := s.us - arrived
  let p := el / 10000
  el + Config.ageError arrived % (4 + 2 * p) - (1 + p)

/-- A frame past its context's deadline (R196). -/
def State.isLate (s : State) (c age : Nat) : Bool :=
  let d := s.rd F.CTX_DEADLINE_US_DEADLINE c
  d != 0 && decide (d < age)

/-- A spool's message is sent when enabled and the count of entries not yet signalled reaches `COUNT`
(R271). -/
def State.spoolDue (s : State) (sp : Nat) : State :=
  let x := s.spool sp
  if s.on F.SPOOL_IRQ_EN sp ∧ max 1 (s.rd F.SPOOL_IRQ_COUNT sp) ≤ x.unsent then
    (s.msixSend sp).setSpool sp { x with unsent := 0, msgAt := s.us + 1 }
  else s

/-- A completion entry joins the count that a message restarts, but for one written in the tick of a
message, which covers it (R271). -/
def State.spoolMessage (s : State) (sp : Nat) : State :=
  let x := s.spool sp
  let n := if x.msgAt = s.us + 1 then x.unsent else x.unsent + 1
  (s.setSpool sp { x with unsent := n }).spoolDue sp

/-- The 32 bytes of a completion entry (R191). -/
def completionBytes (f : Frame) (status flags bytes age seq : Nat) : List Byte :=
  le 8 f.userTag ++ le 2 f.ctx ++ le 1 status ++ le 1 flags ++ le 4 bytes ++ le 4 age ++ le 4 seq
    ++ le 8 0

/-- A completion entry written to the spool's ring, its counters and its message (R191, R192, R196).
`counts`: the entry is a frame of an open context of the spool, and not a no-operation. -/
def State.complete (s : State) (f : Frame) (status : Nat) (counts : Bool) : State :=
  let sp := f.spool
  let size := ringSize (s.rd F.SPOOL_SIZE_CQ_LOG2 sp)
  let tail := s.rd F.SPOOL_CQ_TAIL_INDEX sp
  let age := min (s.age f.arrived) 0xFFFFF
  let late := counts && s.isLate f.ctx (s.age f.arrived)
  let spill := counts && s.rd F.CTX_SPILL_LEVEL f.ctx != 0
  let seq := if counts && (s.planOf f.ctx).isSome then s.rd F.CTX_DELTA_SEQ_SEQ f.ctx else 0
  let phase := (tail / size) % 2 == 0
  let flags := bit late + 2 * bit (counts && f.refresh) + 4 * bit spill + 128 * bit phase
  let addr := s.rd F.SPOOL_CQ_BASE sp / 4096 * 4096 + (tail % size) * 32
  let s := s.hostSend (.hostWrite addr
    (completionBytes f status flags (if status = 0 then f.resultBytes else 0) age seq))
  let s := s.wr F.SPOOL_CQ_TAIL_INDEX sp (tail + 1)
  let x := s.spool sp
  let s := s.setSpool sp { x with reserved := x.reserved - 1 }
  let s :=
    if counts then
      let s := s.wr F.CTX_LAST_AGE_AGE_US f.ctx age
      if status = 0 then
        let s := s.wr F.CTX_FRAMES_DONE_COUNT f.ctx (s.rd F.CTX_FRAMES_DONE_COUNT f.ctx + 1)
        if late then s.wr F.CTX_FRAMES_LATE_COUNT f.ctx (s.rd F.CTX_FRAMES_LATE_COUNT f.ctx + 1)
        else s
      else s.wr F.CTX_FRAMES_FAILED_COUNT f.ctx (s.rd F.CTX_FRAMES_FAILED_COUNT f.ctx + 1)
    else s
  s.spoolMessage sp

/-- Completion entries of a context written in the order of its frames (R189), as far as its oldest
frames have ended. -/
def State.flushFrom : Nat → State → Nat → State
  | 0, s, _ => s
  | n + 1, s, c =>
    match s.bnd.frames.find? (fun f => f.ctx == c) with
    | some f =>
      match f.stage with
      | .done st =>
        let s := if f.follower then s else s.complete f st true
        State.flushFrom n
          (s.setFrames (s.bnd.frames.eraseP fun g => g.ctx == c)) c
      | _ => s
    | none => s

def State.flush (s : State) (c : Nat) : State := (State.flushFrom s.bnd.frames.length s c).syncCtx c

/-- Two records stand for the same taken-in entry: its context, spool and ring index. -/
def Frame.same (f g : Frame) : Bool := g.ctx == f.ctx && g.spool == f.spool && g.ix == f.ix

/-- The frame has ended. -/
def Frame.isDone (f : Frame) : Bool :=
  match f.stage with
  | .done _ => true
  | _ => false

/-- A compressed payload that is not decoded to its end. -/
def Frame.undecoded (f : Frame) : Bool :=
  f.opcode == 1 && match f.stage with
    | .payload | .decode | .decoding _ => true
    | _ => false

/-- The frames of a predicate end with a status, and completions follow in order (R192); a video
payload that was not decoded to its end breaks its context's decode state (R217). -/
def State.endFrames (s : State) (p : Frame → Bool) (status : Nat) : State :=
  let hit := s.bnd.frames.filter fun f => p f && !f.isDone
  let s := hit.foldl (fun s f => if f.undecoded then s.breakDecode f.ctx else s) s
  let s := s.setFrames (s.bnd.frames.map fun f =>
    if p f && !f.isDone then { f with stage := .done status, intake := 0, plain := [], picture := [] }
    else f)
  (hit.map Frame.ctx).eraseDups.foldl State.flush s

/-- The running frame of a binding ends unfinished with a status; its transfers are dropped. -/
def State.stopRunning (s : State) (b status : Nat) : State :=
  match s.binding? b with
  | none => s
  | some x =>
    match x.running with
    | none => s
    | some c =>
      let s := s.setBinding b { x with running := none }
      let s : State := { s with
        hbm := { s.hbm with xfers := s.hbm.xfers.filter fun t => t.ctx != some c }
        arr := { s.arr with parity := s.arr.parity.filter fun e => !x.parts.contains (e.1 / 4096) } }
      s.endFrames (fun f => f.ctx == c && f.stage == .running) status

/-! ### Aborted frames -/

/-- `PART_FAULT_CTX` takes the first fault since its last clear (R52, R489). -/
def State.faultCtx (s : State) (p ctx level cause cluster : Nat) : State :=
  if s.on F.PART_FAULT_CTX_VALID p then s
  else
    let s := ((s.wr F.PART_FAULT_CTX_CTX p ctx).wr F.PART_FAULT_CTX_LEVEL p level).wr
      F.PART_FAULT_CTX_CAUSE p cause
    ((s.wr F.PART_FAULT_CTX_CLUSTER p cluster).wr F.PART_FAULT_CTX_VALID p 1).wr I.faultLive p 1

/-- An escalation of the latched fault updates `LEVEL`, and `CLUSTER` when it names one (R489). -/
def State.escalate (s : State) (p level : Nat) (cluster : Option Nat) : State :=
  if s.on F.PART_FAULT_CTX_VALID p ∧ s.on I.faultLive p then
    let s := s.wr F.PART_FAULT_CTX_LEVEL p level
    match cluster with
    | some c => s.wr F.PART_FAULT_CTX_CLUSTER p c
    | none => s
  else s

/-- The running frame of a binding fails `ABORTED` on every partition of the binding (R488): counted
on each, its context's next frame a refresh frame of cause 2. -/
def State.abortRunning (s : State) (b : Nat) : State :=
  match s.binding? b with
  | none => s
  | some x =>
    match x.running with
    | none => s
    | some c =>
      let s := x.parts.foldl (fun s p => s.bump F.PART_RECOVERY_ABORTS p) s
      (s.addCause c 2).stopRunning b 4

/-- A context abort of a binding (R488): the running frame fails and the abort is in progress until
outstanding requests have ended. -/
def State.contextAbort (s : State) (b : BindIx) : State :=
  match s.binding? b.val with
  | none => s
  | some x =>
    if x.running.isNone then s
    else
      let s := s.abortRunning b.val
      { s with recoveries := s.recoveries ++ [.contextAbort b] }

/-- A context abort with `CAUSE` 5 and a detail of R485, charged to a partition of the binding. -/
def State.abortWith (s : State) (b : BindIx) (p detail : Nat) : State :=
  match (s.binding? b.val).bind Binding.running with
  | none => s
  | some c =>
    let s := (s.faultCtx p c 1 5 0x7F).wr F.PART_RECOVERY_DETAIL p detail
    s.contextAbort b

/-! ### Ending bindings and owners -/

/-- Array state of the cores that a predicate selects cleared to zero (R45): scratch, accumulators,
weight and vector registers, instruction buffers, generators, predicates, loop counters. -/
def State.clearCores (s : State) (p : Nat → Bool) : State :=
  let a := s.arr
  { s with arr := { a with
      parity := a.parity.filter (fun e => !p e.1)
      scratch := Tab.clear (fun k => p (k / 2 ^ 15)) a.scratch
      scratchPoison := Tab.clear (fun k => p (k / 512)) a.scratchPoison
      acc := Tab.clear (fun k => p (k / 1024)) a.acc
      xorshift := Tab.clear (fun k => p (k / 16)) a.xorshift
      preds := Tab.clear p a.preds
      weights := Tab.clear (fun k => p (k / 512)) a.weights
      vregs := Tab.clear (fun k => p (k / 1024)) a.vregs
      loops := Tab.clear (fun k => p (k / 4)) a.loops
      ibuf := Tab.clear (fun k => p (k / 2 ^ 13)) a.ibuf } }

/-- Array state of a partition cleared to zero (R45). -/
def State.clearArray (s : State) (p : Nat) : State := s.clearCores fun k => k / 4096 == p

/-- A partition without a bundle (R46): `PD_Pn_ARR` off, in state UNBOUND or UNBINDABLE. -/
def State.partOff (s : State) (p state : Nat) : State :=
  let s := (s.wr F.PART_STATE_STATE p state).wr F.PART_STATE_ARR_ON p 0
  ((s.wr F.PART_LEASE_OWNER_OWNER p 0).wr F.PART_CLUSTERS_OK_VARIANT p 0).clearArray p

/-- The partition is FENCED or RESET. -/
def State.inReset (s : State) (p : Nat) : Bool :=
  s.rd F.PART_STATE_STATE p == 5 || s.rd F.PART_STATE_STATE p == 6

/-- `PART_GEN` advances by 1, modulo 64 (R66). -/
def State.advanceGen (s : State) (p : Nat) : State :=
  s.wr F.PART_GEN_GEN p (s.rd F.PART_GEN_GEN p + 1)

/-- The leases and shares of a binding end and its contexts become FREE (R179 step 3); every frame it
still holds is answered `UNBOUND`. -/
def State.releaseBinding (s : State) (b : Nat) : State :=
  match s.binding? b with
  | none => s
  | some x =>
    let s := s.stopRunning b 5
    let cs := s.ctxsOn b
    let s := s.endFrames (fun f => cs.contains f.ctx) 5
    let s := cs.foldl State.freeCtx s
    let s := s.releaseBolts x.bolts
    let s := x.leases.foldl State.drainLease s
    { s with
      bnd := { s.bnd with
        bindings := Tab.drop s.bnd.bindings b
        decodeUse := s.bnd.decodeUse.filter fun e => e.2.1 != b }
      weft := { s.weft with
        jobs := Tab.drop s.weft.jobs b
        copies := s.weft.copies.filter fun e => !cs.contains e.1 }
      recoveries := s.recoveries.filter fun t =>
        match t with
        | .contextAbort k => k.val != b
        | _ => true }

/-- A binding ends as an `UNBIND` with `ABORT` = 1 ends it (R178, R179 step 3). -/
def State.dropBinding (s : State) (b : Nat) : State :=
  match s.binding? b with
  | none => s
  | some x =>
    let s := s.releaseBinding b
    x.parts.foldl (fun s p =>
      let s := s.advanceGen p
      if s.inReset p then s
      else s.partOff p (if s.rd F.PART_STATE_STATE p = 7 then 7 else 0)) s

/-- A spool closes: it belongs to nobody and holds nothing. -/
def State.closeSpool (s : State) (sp : Nat) : State :=
  ((s.wr F.SPOOL_SIZE_OPEN sp 0).wr F.SPOOL_OWNER_OWNER sp 0).setSpool sp {}

/-- Both store leases of a bundle end and its handle becomes free (R170). -/
def State.dropBundle (s : State) (h : Nat) : State :=
  match s.bundle? h with
  | none => s
  | some x =>
    let s := (s.drainLease x.copy1).drainLease x.copy2
    { s with
      bnd := { s.bnd with bundles := Tab.drop s.bnd.bundles h }
      hbm := { s.hbm with xfers := s.hbm.xfers.filter fun t => t.copyOf != some h } }

/-- An owner closes (R163): its bindings, contexts, spools and bundles end in this order; its number is
free when its last lease has ended. -/
def State.closeOwner (s : State) (o : Nat) : State :=
  let s := (s.bnd.bindings.filter fun x => x.2.owner == o).foldl (fun s x => s.dropBinding x.1) s
  let s := (s.bnd.ctxs.filter fun x => x.2.owner == o).foldl (fun s x => s.freeCtx x.1) s
  let s := (List.range 1024).foldl (fun s sp =>
    if s.on F.SPOOL_SIZE_OPEN sp ∧ s.rd F.SPOOL_OWNER_OWNER sp = o then s.closeSpool sp else s) s
  let s := (s.bnd.bundles.filter fun x => x.2.owner == o).foldl (fun s x => s.dropBundle x.1) s
  s.reapOwners

/-! ### The command window -/

/-- The outcome of a command (R174): BUSY falls, DONE rises, vector 1,024 is sent (R270), and owner
closes that waited for it follow (R163). -/
def State.finishCmd (s : State) (reason : Nat) : State :=
  let s := ((s.wr F.CMD_STATUS_BUSY 0 0).wr F.CMD_STATUS_DONE 0 1).wr F.CMD_STATUS_REASON 0 reason
  let waiting := s.bnd.toClose
  let s : State := { s with bnd := { s.bnd with cmd := none, toClose := [] } }
  waiting.foldl State.closeOwner (s.msixSend 1024)

/-- A command ends with a reason; one that ends while firmware restarts after a crash reports at step 4
of R304 (R306). -/
def State.endCmd (s : State) (reason : Nat) : State :=
  if s.on F.HOST_STATUS_FW_UP 0 then s.finishCmd reason
  else { s with bnd := { s.bnd with cmd := some (.ended reason) } }

/-- A context's state region taken to another binding (R185): counters, spool, deadline and policy are
kept. -/
def State.moveCtx (s : State) (c target : Nat) : State :=
  match s.ctx? c, s.binding? target with
  | some x, some y =>
    let place := if x.binding = target then x.place else (s.freePlace? target 1).getD 0
    let s := s.setCtx c { x with binding := target, place := place, moving := none }
    let s := (s.wr F.CTX_BUNDLE_BINDING c target).wr F.CTX_SPILL_LEVEL c y.spill
    let s := (s.wr F.CTX_SPILL_SLOWDOWN_PCT c y.slowdown).wr F.CTX_STATE_HOLD_CAUSE c 0
    if y.phase = .stopped then s.holdCtx c 1 else s.wr F.CTX_STATE_STATE c 1
  | _, _ => s

/-- Bindings displaced from their number that no context is left on (notes/assumptions/24). -/
def State.reapDisplaced (s : State) : State :=
  let gone := s.bnd.bindings.filter fun x => decide (16 ≤ x.1) && (s.ctxsOn x.1).isEmpty
  gone.foldl (fun s x => s.releaseBinding x.1) s

/-- A close or a move of a context ends when none of its frames is left (R184, R185). -/
def State.settle (s : State) : State :=
  match s.bnd.cmd with
  | some (.closeCtx c) =>
    if (s.framesOf c).isEmpty then ((s.freeCtx c).reapDisplaced).endCmd 0 else s
  | some (.moveCtx c t) =>
    if (s.framesOf c).isEmpty then (((s.moveCtx c t).syncCtx c).reapDisplaced).endCmd 0 else s
  | _ => s

end Sys2Proof.Machine
end

