-- ==== Sys2Proof/Machine/Recovery.lean ====
section
/-! DEFINITION. Recovery: engine, partition and chip resets, the power cycle, sweeps and the placing of
a schedule on a partition (16_faults_and_recovery; R47, R54, R58-R61). -/

namespace Sys2Proof.Machine

/-! ### Where a binding's state lies -/

/-- Home groups of a binding's state leases. -/
def State.stateGroups (s : State) (b : Nat) : List Nat :=
  match s.binding? b with
  | some x => x.leases.filterMap fun id => (s.lease? id).map Lease.group
  | none => []

/-- The extents of a binding's state leases in order, each with its home group (R171). -/
def State.stateExts (s : State) (b : Nat) : List Nat :=
  match s.binding? b with
  | some x => x.leases.flatMap fun id =>
      match s.lease? id with
      | some l => l.exts.map fun _ => l.group
      | none => []
  | none => []

/-- Home groups that hold a part of a context's state region (R171: a fixed offset given by its order
of opening). -/
def State.ctxGroups (s : State) (c : Nat) : List Nat :=
  match s.ctx? c with
  | none => []
  | some x =>
    let bytes := ((s.bundle? x.handle).map fun h => h.hdr.stateBytes).getD 0
    let lo := x.place * bytes / 2 ^ 26
    let hi := (x.place * bytes + bytes - 1) / 2 ^ 26
    ((s.stateExts x.binding).drop lo).take (hi + 1 - lo)

/-! ### Schedules on partitions -/

/-- The bundle carries the variant for `n` clusters (R47, R50). -/
def hasVariant (h : BundleHdr) (n : Nat) : Bool := h.variants.any (·.1 == n)

/-- The generators of a partition seeded at a bind (R88, R94): each lane's seed follows from these and
its place until the lane's first writeback. -/
def State.seedLanes (s : State) (p : Nat) : State :=
  let s := s.wr I.srFixed p (s.rd F.PART_ARITH_CTRL_SR_FIXED p)
  { s.wr I.srSeed p s.free with free := s.free + 1 }

/-- A schedule variant placed on a partition (R179 steps 5-7, R47): generators seeded (R88),
`PART_ARITH_STATUS` cleared (R93), the partition BINDING with its array on. -/
def State.placeSchedule (s : State) (p owner : Nat) : State :=
  let s := ((s.clearArray p).seedLanes p).wr F.PART_STATE_STATE p 2
  let s := (s.wr F.PART_STATE_ARR_ON p 1).wr F.PART_LEASE_OWNER_OWNER p owner
  let s := (s.wr F.PART_ARITH_STATUS_SAT_COUNT p 0).wr F.PART_ARITH_STATUS_NAN_COUNT p 0
  s.wr F.PART_CLUSTERS_OK_VARIANT p (s.rd F.PART_CLUSTERS_OK_CLUSTERS_OK p)

/-- The partition runs its bundle (R46). -/
def State.partBound (s : State) (p : Nat) : State := s.wr F.PART_STATE_STATE p 3

/-- The cores that a sweep fails and that were not retired before it (R59): those it found, and those of
faults registered during it (R61). -/
def State.sweepFails (s : State) (p : Part) (failed : List (Cluster × CoreIx)) : List (Cluster × CoreIx) :=
  (List.finRange 100).flatMap fun c =>
    let seen := s.rd I.sweepFailed (clusterIx p.val c.val)
    let retired := s.retiredCores p.val c.val
    ((List.finRange 17).filter fun k =>
      (failed.contains (c, k) || seen.testBit k.val) && !retired.testBit k.val).map fun k => (c, k)

/-- The clusters of a partition that are good without what the sweep found. -/
def State.okUnswept (s : State) (p : Nat) : Nat :=
  (List.range 100).countP fun c =>
    let bad := s.retiredCores p c ||| s.rd F.PART_CL_PENDING_CORES (clusterIx p c)
    !s.clusterRetired p c && decide (popCount 17 bad ≤ 1)

/-- The results of a sweep of a partition (R59 step 7): the cores that fail it, the repair decision,
`PART_SWEEP_STATUS` written, `SWEEP_DUE` 0. -/
def State.sweepResult (s : State) (p : Part) (failed : List (Cluster × CoreIx)) (dur : Nat) : State :=
  let new := s.sweepFails p failed
  let before := s.okUnswept p.val
  let s := new.foldl (fun s x =>
    let i := clusterIx p.val x.1.val
    s.wr I.sweepFailed i (setBit (s.rd I.sweepFailed i) x.2.val)) s
  let s := s.repairDecision p
  let c := s.rd F.PART_CLUSTERS_OK_CLUSTERS_OK p.val
  let s := (s.wr F.PART_SWEEP_STATUS_DONE p.val 1).wr F.PART_SWEEP_STATUS_PASS p.val (bit (96 ≤ c))
  let s := s.wr F.PART_SWEEP_STATUS_CORES_FAILED p.val (min 255 new.length)
  let s := s.wr F.PART_SWEEP_STATUS_CLUSTERS_RETIRED p.val (before - c)
  (s.wr F.PART_SWEEP_STATUS_DURATION p.val (min 4095 dur)).wr F.PART_STATE_SWEEP_DUE p.val 0

/-- The next bind of the partition sweeps (R58). -/
def State.sweepDue (s : State) (p : Nat) : Bool :=
  s.on F.PART_STATE_SWEEP_DUE p || s.on F.PART_CTRL_SWEEP_NEXT p

/-- A sweep of a partition starts (R59 steps 1-2, R67): it stays due until its results are in (R61). -/
def State.startSweep (s : State) (p : Nat) : State :=
  let s := (s.wr F.PART_STATE_SWEEP_DUE p 1).wr F.PART_CTRL_SWEEP_NEXT p 0
  (s.wr F.PART_STATE_STATE p 1).wr F.PART_STATE_ARR_ON p 1

/-! ### Ending a bind that cannot go on -/

/-- A bind that fails after its leases were granted (R173, R175): everything it was granted is
released, and each of its partitions goes UNBOUND, or UNBINDABLE below 96 good clusters. -/
def State.failBind (s : State) (b reason : Nat) : State :=
  match s.binding? b with
  | none => s.endCmd reason
  | some x =>
    let s := s.releaseBinding b
    let s := x.parts.foldl (fun s p =>
      let st := s.rd F.PART_STATE_STATE p
      if st = 5 ∨ st = 6 then s
      else s.partOff p (if s.rd F.PART_CLUSTERS_OK_CLUSTERS_OK p < 96 then 7 else 0)) s
    s.endCmd reason

/-- A partition of a binding on which the binding cannot run any more (R53, R186, R493): it goes UNBOUND
or UNBINDABLE with its array off, the binding's contexts become HELD with cause 1, and source 86 and
event 5 are registered.  The binding keeps its leases and admits nothing. -/
def State.cannotRun (s : State) (b p state : Nat) : State :=
  let s := ((s.clearArray p).wr F.PART_STATE_STATE p state).wr F.PART_STATE_ARR_ON p 0
  let s := s.wr F.PART_CLUSTERS_OK_VARIANT p 0
  let s := match s.binding? b with
    | some x => s.setBinding b { x with phase := .stopped }
    | none => s
  let s := (s.ctxsOn b).foldl (fun s c =>
    let st := s.rd F.CTX_STATE_STATE c
    if st = 1 ∨ st = 2 ∨ st = 3 ∨ st = 4 then s.holdCtx c 1 else s) s
  (s.fault 86 p).event 5 (le 1 p ++ le 1 (s.rd F.PART_CLUSTERS_OK_CLUSTERS_OK p))

/-- A partition bound again to its binding after a repair decision (R53, R492 step 5): the schedule is
placed, or the binding cannot run. -/
def State.bindAgain (s : State) (b p : Nat) : State :=
  match s.binding? b with
  | none => s
  | some x =>
    let c := s.rd F.PART_CLUSTERS_OK_CLUSTERS_OK p
    let ok := (s.bundle? x.handle).any fun h => hasVariant h.hdr c
    if c < 96 then s.cannotRun b p 7
    else if !ok then s.cannotRun b p 0
    else
      let s := s.placeSchedule p x.owner
      s.setBinding b { x with phase := if x.phase = .stopped then .stopped else .loading }

/-! ### Engine resets -/

/-- Array state of one cluster cleared (R45, R486). -/
def State.clearCluster (s : State) (i : Nat) : State := s.clearCores fun k => k / 32 == i

/-- A payload fails `DECODE_FAIL` with a cause (R216). -/
def State.failDecode (s : State) (f : Frame) (cause : Nat) : State :=
  let s := (s.bump F.CTX_DECODE_FAILS f.ctx).wr F.CTX_DECODE_LAST_CAUSE f.ctx cause
  s.endFrames f.same 1

/-- A home group's DMA engine reset (R486): its queues cleared; a frame whose transfer ended fails
`ABORTED`, and its context's next frame is a refresh frame of cause 2. -/
def State.resetDma (s : State) (g : Nat) : State :=
  let cs := s.hbm.xfers.filterMap fun t => if t.group = g then t.ctx else none
  let s : State := { s with hbm := { s.hbm with xfers := s.hbm.xfers.filter fun t => t.group != g } }
  cs.eraseDups.foldl (fun s c =>
    match s.ctx? c with
    | some x => if ((s.binding? x.binding).bind Binding.running) = some c then s.abortRunning x.binding
                else s
    | none => s) s

/-- An engine reset (R486) and its count; it is in progress until it is reported done. -/
def State.engineReset (s : State) (t : RecTarget) : State :=
  let s := match t with
    | .clusterReset p c =>
      let s := (s.clearCluster (clusterIx p.val c.val)).bump F.PART_RECOVERY_ENGINE_RESETS p.val
      s.escalate p.val 2 (some c.val)
    | .dmaReset g => (s.resetDma g.val).bump F.PART_RECOVERY_ENGINE_RESETS g.val
    | .decodeReset e =>
      match s.bnd.frames.find? (fun (f : Frame) => f.stage == Stage.decoding e.val) with
      | some f => s.failDecode f 12
      | none => s
    | _ => s
  let s := s.settle
  if t ∈ s.recoveries then s else { s with recoveries := s.recoveries ++ [t] }

/-- A recovery ends. -/
def State.endRecovery (s : State) (t : RecTarget) : State :=
  { s with recoveries := s.recoveries.filter (· != t) }

/-- An engine reset in progress that holds up the partitions of a list (R486, R488). -/
def holdsUp (parts : List Nat) (t : RecTarget) : Bool :=
  match t with
  | .clusterReset p _ => parts.contains p.val
  | .dmaReset g => parts.contains g.val
  | _ => false

/-! ### Partition reset -/

/-- A partition reset decided (R492 step 1, R493, R497): not performed while a chip reset runs or the
partition is already FENCED or RESET. -/
def State.partReset (s : State) (p : Part) (cause : Nat) : State :=
  if s.rd I.chipStep 0 ≠ 0 ∨ s.inReset p.val then s
  else
    let run := ((s.partBinding? p.val).bind fun x => x.2.running).getD 0xFFFF
    let s := if s.on F.PART_FAULT_CTX_VALID p.val then s.escalate p.val 3 none
             else s.faultCtx p.val run 3 5 0x7F
    let s := s.wr F.PART_STATE_STATE p.val 5
    let s := (s.bump F.PART_RECOVERY_PART_RESETS p.val).wr F.PART_RECOVERY_RESET_CAUSE p.val cause
    let s := s.fault (64 + p.val) cause
    let hit := s.bnd.bindings.filterMap fun x =>
      if x.2.parts.contains p.val || (s.stateGroups x.1).contains p.val then some x.1 else none
    let s := (hit.foldl State.abortRunning s).settle
    let s : State := { s with recoveries := s.recoveries ++ [.partReset p] }
    match s.bnd.cmd, s.partBinding? p.val with
    | some (.bind b), some x => if x.1 = b then s.failBind b 0x13 else s
    | _, _ => s

/-! ### Chip reset and power cycle -/

/-- A chip reset decided (R494 step 1, R487, R497): the trigger's own source, source 80 unless the host
reset the port, every partition FENCED, intake and admission stopped, lapse notices of reason 2 sent
for shadowed contexts.  Nothing happens while the die is not up or a chip reset runs. -/
def State.chipReset (s : State) (trigger : Nat) : State :=
  if ¬ s.on I.dieUp 0 ∨ s.rd I.chipStep 0 ≠ 0 then s
  else
    let s := if trigger = 2 then s.fault 82 0 else if trigger = 4 then s.fault 85 0 else s
    let s := if trigger = 7 then s else s.fault 80 trigger
    let s := (s.bump F.FAULT_ESC_CHIP_RESETS 0).wr I.chipStep 0 1
    let s := (s.wr I.chipTrigger 0 trigger).wr I.admitStop 0 1
    let s := s.wrAll F.PART_STATE_STATE (List.range 16) 5
    let node := s.rd F.STW_STATUS_NODE 0
    let s := s.bnd.ctxs.foldl (fun s x =>
      if s.rd F.CTX_SHADOW_ROLE x.1 = 1 then
        s.send (.message (node ^^^ 8) "lapse" [2, s.rd F.CTX_SHADOW_TWIN_CTX x.1])
      else s) s
    { s with recoveries := s.recoveries.filter fun t =>
        match t with
        | .partReset _ => false
        | _ => true }

/-- Power cycles registered in the last 30 min (R496). -/
def State.cyclesInWindow (s : State) : List Nat :=
  s.stw.powerCycles.filter fun t => s.within t 1800000000

/-- The next rail of a reverse-order disable (R411). -/
def State.disableRail (s : State) : State :=
  let n := s.rd I.railDown 0
  if n = 0 then s
  else
    let s := s.wr F.PWR_RAIL_DATA_EN (n - 1) 0
    let s := if s.rd F.PWR_RAIL_DATA_STATE (n - 1) = 3 then s else s.wr F.PWR_RAIL_DATA_STATE (n - 1) 0
    s.wr I.railDown 0 (n - 1)

/-- An extent retired (R113), and queued for record 0x0A (R360). -/
def State.retireExtent (s : State) (e : Fin 10240) : State :=
  if e.val ∈ s.hbm.retired then s
  else State.retire { s with hbm := { s.hbm with retired := s.hbm.retired ++ [e.val] } } (.extent e)

/-- The queued rows of a group repaired as its memory domain powers up (R113): `lost` has, for each row
that could not be repaired, the extent that holds it. -/
def State.repairRows (s : State) (g : Nat) (lost : List (Fin 10240)) : State :=
  let n := (s.hbm.rows.filter fun r => r.1 == g).length
  let bad := lost.filter fun e => e.val / 640 == g
  let rows := s.hbm.rows.filter fun r => r.1 != g
  let s : State := { s with hbm := { s.hbm with rows := rows } }
  let s := (s.wr F.HBM_GRP_REPAIR_PENDING g 0).wr F.HBM_GRP_REPAIR_DONE g (min 255 (n - bad.length))
  bad.foldl State.retireExtent (s.bumpBy F.HBM_GRP_REPAIR_FAILED g bad.length)

/-- A power cycle decided (R496): source 87 and the rails disabled in reverse order; or, as the fourth
within 30 min, the safe state with source 12. -/
def State.powerCycle (s : State) : State :=
  let recent := s.cyclesInWindow
  if 3 ≤ recent.length then s.fault 12 0
  else
    let s := s.fault 87 0
    let s : State := { s with stw := { s.stw with powerCycles := recent ++ [s.us] } }
    let s := (s.bump F.FAULT_ESC_POWER_CYCLES 0).wr F.FAULT_ESC_IN_WINDOW 0 (recent.length + 1)
    let s := (s.wr I.chipStep 0 0).wr I.dieUp 0 0
    let s := (s.dieLost false).record 8 5 s.powerData
    (((s.wr F.PWR_SEQ_STEP 0 10).wr I.railNow 0 7).wr I.railDown 0 7).disableRail

end Sys2Proof.Machine
end

