-- ==== Sys2Proof/Machine/Array.lean ====
section
/-! DEFINITION. The core array: errors of cores, pending cores, the repair re-bind, `PART_CTRL`
(02_core_array). -/

namespace Sys2Proof.Machine

/-- A core becomes pending retirement (R51); during a sweep the event is a sweep failure (R61). -/
def State.corePending (s : State) (c : CoreId) : State :=
  let i := clusterIx c.part.val c.cluster.val
  let f := if s.rd F.PART_STATE_STATE c.part.val = 1 then I.sweepFailed else F.PART_CL_PENDING_CORES
  s.wr f i (setBit (s.rd f i) c.core.val)

/-- The core is pending retirement. -/
def State.isPending (s : State) (c : CoreId) : Bool :=
  (s.rd F.PART_CL_PENDING_CORES (clusterIx c.part.val c.cluster.val)).testBit c.core.val

/-- The partition's binding as a binding number. -/
def State.bindOf (s : State) (p : Nat) : Option BindIx :=
  match s.partBinding? p with
  | some (b, _) => if h : b < 16 then some ⟨b, h⟩ else none
  | none => none

/-- An uncorrectable core fault (R51-R53): the core becomes pending, the running frame of its partition
fails and its context is aborted; a pending core that faults again asks for a repair re-bind. -/
def State.coreFault (s : State) (c : CoreId) (cause : Nat) : State :=
  let p := c.part.val
  let again := s.isPending c
  let swept := s.rd F.PART_STATE_STATE p == 1
  let s := s.corePending c
  if swept then s
  else match s.bindOf p with
    | none => s
    | some b =>
      match (s.binding? b.val).bind Binding.running with
      | none => s
      | some x =>
        let s := (s.faultCtx p x 1 cause c.cluster.val).contextAbort b
        match s.binding? b.val with
        | some y =>
          if again ∧ s.on F.PART_CTRL_AUTO_REPAIR p ∧ y.phase = .bound then
            s.setBinding b.val { y with phase := .repair }
          else s
        | none => s

/-- `SCRATCH_CE` (R35, R51): a single-bit error corrected on read; at level 8 the core is pending. -/
def execScratchCe (c : CoreId) (s : State) : Result :=
  let s := s.wr I.ceLevel (coreIx c) (min 8 (s.rd I.ceLevel (coreIx c) + 1))
  .next (if s.rd I.ceLevel (coreIx c) = 8 then s.corePending c else s)

/-- `CE_LEVEL_DECAY` (R51): the level falls by 1 every 60 s while the array is on, never below 0. -/
def execCeLevelDecay (c : CoreId) (s : State) : Result :=
  if s.on F.PART_STATE_ARR_ON c.part.val then
    .next (s.wr I.ceLevel (coreIx c) (s.rd I.ceLevel (coreIx c) - 1))
  else .next s

/-- `SCRATCH_UE` (R35, R51): poisoned scratch data consumed; the line keeps its mark. -/
def execScratchUe (c : CoreId) (line : Fin 384) (s : State) : Result :=
  let m := Tab.put s.arr.scratchPoison (coreIx c * 512 + line.val) true false
  let s : State := { s with arr := { s.arr with scratchPoison := m } }
  .next (s.coreFault c 1)

/-- `RESIDUE_MISMATCH` (R36, R51). -/
def execResidueMismatch (c : CoreId) (s : State) : Result := .next (s.coreFault c 2)

/-- `INSTR_PARITY_ERROR` (R39, R51): the first error of a line in a frame discards the line, which is
fetched again; the second is an uncorrectable core fault. -/
def execInstrParityError (c : CoreId) (line : Fin 128) (s : State) : Result :=
  let k := (coreIx c, line.val)
  if s.arr.parity.contains k then
    let left := s.arr.parity.filter (· != k)
    .next (State.coreFault { s with arr := { s.arr with parity := left } } c 3)
  else
    let m := Tab.clear (fun a => a / 64 == coreIx c * 128 + line.val) s.arr.ibuf
    .next { s with arr := { s.arr with parity := s.arr.parity ++ [k], ibuf := m } }

/-- `CONTEXT_ABORT_DONE` (R488): outstanding requests have completed or were answered with errors; the
scheduler may admit the next frame. -/
def execContextAbortDone (b : BindIx) (s : State) : Result :=
  if s.recoveries.contains (.contextAbort b) then
    let s := s.endRecovery (.contextAbort b)
    match s.binding? b.val with
    | some x => .next (s.wrAll I.faultLive x.parts 0).settle
    | none => .next s.settle
  else .next s

/-- `REPAIR_REBIND` (R53): once the context abort has completed, the partition is bound again to the
same bundle with the new repair map; `PART_GEN` advances and array state is cleared (R45). -/
def execRepairRebind (p : Part) (s : State) : Result :=
  match s.bindOf p.val with
  | none => .next s
  | some b =>
    match s.binding? b.val with
    | some x =>
      if x.phase = .repair ∧ !s.recoveries.contains (.contextAbort b) ∧
          s.rd F.PART_STATE_STATE p.val = 3 then
        let s := (s.setBinding b.val { x with phase := .loading }).advanceGen p.val
        let s := (s.clearArray p.val).repairDecision p
        .next (s.bindAgain b.val p.val)
      else .next s
    | none => .next s

/-- `PART_CTRL_WRITE` (R67, R58): takes effect at the next bind or mid-frame fault; `SWEEP_NEXT` makes the
next bind's sweep due (`State.sweepDue`). -/
def execPartCtrlWrite (path : Path) (v : Word) (s : State) : Result :=
  let p := s.rd F.PART_SEL_SEL (pathIx path)
  if p < 16 then
    let s := s.wr F.PART_CTRL_AUTO_REPAIR p (field v.toNat 1 1)
    .next (s.wr F.PART_CTRL_SWEEP_NEXT p (field v.toNat 0 0))
  else .next s

end Sys2Proof.Machine
end

