-- ==== Sys2Proof/Machine/Operands.lean ====
section
/-! DEFINITION. Number formats: the values of the operands of the matrix engine and the vector unit, and
the roundings, encodings and passes of 03_arithmetic. -/

namespace Sys2Proof.Machine

/-! ### Formats (R70, R85) -/

/-- A floating-point format: widths of exponent and fraction, bias, and how its largest exponent is
read: 0 infinities and NaN, 1 one NaN code (E4M3), 2 neither (E2M1). -/
structure FpFmt where
  eb : Nat
  fb : Nat
  bias : Nat
  top : Nat
  deriving DecidableEq, Repr

def fp32 : FpFmt := ⟨8, 23, 127, 0⟩
def bf16 : FpFmt := ⟨8, 7, 127, 0⟩
def e4m3 : FpFmt := ⟨4, 3, 7, 1⟩
def e5m2 : FpFmt := ⟨5, 2, 15, 0⟩
def e2m1 : FpFmt := ⟨2, 1, 1, 2⟩

def fp8Fmt : Fp8 → FpFmt
  | .e4m3 => e4m3
  | .e5m2 => e5m2

/-- A number: NaN, an infinity, or a sign with the exact value `m · 2^e`. -/
inductive Num where
  | nan (neg : Bool) | inf (neg : Bool) | fin (neg : Bool) (m : Nat) (e : Int)
  deriving DecidableEq, Repr

/-- The sign bit of a code of a format. -/
def FpFmt.sign (f : FpFmt) (c : Nat) : Bool := c.testBit (f.eb + f.fb)

/-- The value of a code (R70, R71). -/
def FpFmt.decode (f : FpFmt) (c : Nat) : Num :=
  let neg := f.sign c
  let ex := (c / 2 ^ f.fb) % 2 ^ f.eb
  let fr := c % 2 ^ f.fb
  if f.top = 0 ∧ ex = 2 ^ f.eb - 1 then (if fr = 0 then .inf neg else .nan neg)
  else if f.top = 1 ∧ ex = 2 ^ f.eb - 1 ∧ fr = 2 ^ f.fb - 1 then .nan neg
  else if ex = 0 then .fin neg fr (1 - (f.bias : Int) - f.fb)
  else .fin neg (fr + 2 ^ f.fb) ((ex : Int) - f.bias - f.fb)

/-- The magnitude code of the largest finite value of a format. -/
def FpFmt.maxMag (f : FpFmt) : Nat :=
  if f.top = 0 then (2 ^ f.eb - 1) * 2 ^ f.fb - 1
  else if f.top = 1 then 2 ^ (f.eb + f.fb) - 2 else 2 ^ (f.eb + f.fb) - 1

/-- A sign put before a magnitude code. -/
def FpFmt.signed (f : FpFmt) (neg : Bool) (mag : Nat) : Nat := bit neg * 2 ^ (f.eb + f.fb) + mag

/-- The exponent of the leading bit of `m · 2^e`. -/
def lead (m : Nat) (e : Int) : Int := (Nat.log2 m : Int) + e

/-- `m · 2^e` in units of `2^q`, rounded to nearest, ties to even. -/
def roundQ (m : Nat) (e q : Int) : Nat :=
  if q ≤ e then m * 2 ^ (e - q).toNat
  else
    let d := 2 ^ (q - e).toNat
    let n := m / d
    let r := m % d
    if d < 2 * r ∨ (2 * r = d ∧ n % 2 = 1) then n + 1 else n

/-- The magnitude code nearest to `m · 2^e`, ties to even, on the format's grid continued beyond its
largest finite value (R76). -/
def FpFmt.round (f : FpFmt) (m : Nat) (e : Int) : Nat :=
  if m = 0 then 0
  else
    let q := max (lead m e - f.fb) (1 - (f.bias : Int) - f.fb)
    let n := roundQ m e q
    (q + f.fb + f.bias).toNat * 2 ^ f.fb + n - 2 ^ f.fb

/-- A magnitude code that lies beyond the largest finite value. -/
def FpFmt.overflows (f : FpFmt) (mag : Nat) : Bool := decide (f.maxMag < mag)

/-- A two's complement integer of `n` bits. -/
def toSigned (n c : Nat) : Int :=
  let c := c % 2 ^ n
  if c < 2 ^ (n - 1) then (c : Int) else (c : Int) - ((2 ^ n : Nat) : Int)

/-- The two's complement code of an integer. -/
def ofSigned (n : Nat) (v : Int) : Nat := (v % ((2 ^ n : Nat) : Int)).toNat

/-- An integer times a power of two as a number. -/
def Num.ofInt (v : Int) (e : Int) : Num := .fin (decide (v < 0)) v.natAbs e

/-- The magnitude L(m) of a DQ4 element (R77). -/
def dq4Level (m : Nat) : Nat := [0, 1, 2, 3, 4, 6, 8, 12].getD (m % 8) 0

/-- The value of a DQ4 code before its scale (R77). -/
def dq4Decode (c : Nat) : Num := .fin (c.testBit 3) (dq4Level c) 0

/-- The value of a DS24 code (R85). -/
def ds24Decode (c : Nat) : Num :=
  let neg := c.testBit 23
  let ex : Nat := (c / 2 ^ 15) % 256
  if ex = 255 then .nan neg
  else if ex = 0 then .fin neg 0 0
  else .fin neg (c % 2 ^ 15 + 2 ^ 15) ((ex : Int) - 127 - 15)

/-- A number times the scale 2^(X − 127) of its block; 0xFF makes it NaN (R72). -/
def Num.scaled (x : Num) (scale : Nat) : Num :=
  if scale = 255 then .nan false
  else match x with
    | .fin neg m e => .fin neg m (e + scale - 127)
    | y => y

/-- The value of an element code of a format, before a block's scale (R70, R77, R85). -/
def elemVal : Fmt → Nat → Num
  | .fp32, c => fp32.decode c
  | .bf16, c => bf16.decode c
  | .e4m3, c => e4m3.decode c
  | .e5m2, c => e5m2.decode c
  | .e2m1, c => e2m1.decode c
  | .int8, c => .ofInt (toSigned 8 c) 0
  | .mxint8, c => .ofInt (toSigned 8 c) (-6)
  | .dq4, c => dq4Decode c
  | .ds24, c => ds24Decode c

/-! ### The matrix engine (R69, R81-R84) -/

/-- A BF16 operand of the matrix engine: a subnormal reads as zero of the same sign (R83). -/
def bf16Operand (c : Nat) : Num :=
  if (c / 2 ^ 7) % 256 = 0 then .fin (c.testBit 15) 0 0 else bf16.decode c

/-- The value of an activation element of a pair, its block scale applied. -/
def actVal (p : PassPair) (scale c : Nat) : Num :=
  match p with
  | .fp8 a _ => (fp8Fmt a).decode c
  | .mxfp8 a _ | .mxfp8mxfp4 a => ((fp8Fmt a).decode c).scaled scale
  | .mxfp4 => (e2m1.decode c).scaled scale
  | .int8 => .ofInt (toSigned 8 c) 0
  | .mxint8 => (Num.ofInt (toSigned 8 c) (-6)).scaled scale
  | .dq4 _ => (dq4Decode c).scaled scale
  | .bf16 => bf16Operand c

/-- The value of a weight element of a pair. -/
def wVal (p : PassPair) (scale c : Nat) : Num :=
  match p with
  | .fp8 _ w | .dq4 (.plain w) => (fp8Fmt w).decode c
  | .mxfp8 _ w | .dq4 (.mxfp8 w) => ((fp8Fmt w).decode c).scaled scale
  | .mxfp8mxfp4 _ | .mxfp4 | .dq4 .mxfp4 => (e2m1.decode c).scaled scale
  | .int8 => .ofInt (toSigned 8 c) 0
  | .mxint8 => (Num.ofInt (toSigned 8 c) (-6)).scaled scale
  | .bf16 => bf16Operand c

/-- Elements along K that one pass reduces (R69). -/
def passK : PassPair → Nat
  | .mxfp4 | .dq4 _ => 32
  | _ => 16

/-- A product, exact (R81 step 1; 0 × infinity is NaN, R83). -/
def Num.mul : Num → Num → Num
  | .nan n, _ => .nan n
  | _, .nan n => .nan n
  | .inf a, .inf b => .inf (a != b)
  | .inf a, .fin b m _ => if m = 0 then .nan false else .inf (a != b)
  | .fin b m _, .inf a => if m = 0 then .nan false else .inf (a != b)
  | .fin a m e, .fin b n f => .fin (a != b) (m * n) (e + f)

def Num.isNan : Num → Bool
  | .nan _ => true
  | _ => false

/-- The finite part of a term as (negative, significand, exponent). -/
def Num.parts : Num → Bool × Nat × Int
  | .fin n m e => (n, m, e)
  | .nan n | .inf n => (n, 0, 0)

/-- Steps 2 to 4 of R81 on finite terms: the FP32 bits, and whether the result saturated. -/
def alignAdd (ts : List (Bool × Nat × Int)) : Nat × Bool :=
  let nz := ts.filter fun t => t.2.1 != 0
  match nz with
  | [] => (fp32.signed (ts.all fun t => t.1) 0, false)
  | t0 :: _ =>
    let top := nz.foldl (fun m t => max m (lead t.2.1 t.2.2)) (lead t0.2.1 t0.2.2)
    let q := top - 32
    let cut (t : Bool × Nat × Int) : Int :=
      let n : Nat := if q ≤ t.2.2 then t.2.1 * 2 ^ (t.2.2 - q).toNat
        else t.2.1 / 2 ^ (q - t.2.2).toNat
      if t.1 then -(n : Int) else n
    let sum := (nz.map cut).sum
    if sum = 0 then (fp32.signed (ts.all fun t => t.1) 0, false)
    else
      let neg := decide (sum < 0)
      let m := sum.natAbs
      let u := lead m q - 23
      let n := roundQ m q u
      if lead n u < -126 then (fp32.signed neg 0, false)
      else
        let mag := (u + 23 + 127).toNat * 2 ^ 23 + n - 2 ^ 23
        if fp32.overflows mag then (fp32.signed neg fp32.maxMag, true)
        else (fp32.signed neg mag, false)

/-- An FA32 entry after a pass (R81, R83): its bits, whether it saturated, whether a NaN was written
into an entry that held none. -/
def fa32Pass (entry : Nat) (products : List Num) : Nat × Bool × Bool :=
  let old := fp32.decode entry
  let ts := products ++ [old]
  let pos := ts.any fun t => t == .inf false
  let neg := ts.any fun t => t == .inf true
  if ts.any Num.isNan || (pos && neg) then (0x7FC00000, false, !old.isNan)
  else if pos || neg then (fp32.signed neg (255 * 2 ^ 23), false, false)
  else
    let r := alignAdd (ts.map Num.parts)
    (r.1, r.2, false)

/-- An IA32 entry after an INT8 pass (R84): its bits, and whether it saturated. -/
def ia32Pass (entry : Nat) (products : List Int) : Nat × Bool :=
  let sum := toSigned 32 entry + products.sum
  if 2 ^ 31 - 1 < sum then (0x7FFFFFFF, true)
  else if sum < -(2 ^ 31) then (0x80000000, true)
  else (ofSigned 32 sum, false)

/-! ### Conversions (R75, R79, R87, R89) -/

/-- What a conversion gives: the code, its saturations, its NaNs produced. -/
structure Converted where
  code : Nat
  sat : Nat := 0
  nan : Nat := 0
  deriving DecidableEq, Repr

/-- FP32 to a floating-point format (R89). -/
def convFp (f : FpFmt) (saturate : Bool) (x : Nat) : Converted :=
  let nanCode (neg : Bool) : Nat :=
    if f.fb = 7 then f.signed neg 0x7FC0 else f.signed neg (2 ^ (f.eb + f.fb) - 1)
  let beyond (neg : Bool) : Converted :=
    if saturate then { code := f.signed neg f.maxMag, sat := 1 }
    else if f.top = 0 then { code := f.signed neg ((2 ^ f.eb - 1) * 2 ^ f.fb) }
    else { code := nanCode neg, nan := 1 }
  match fp32.decode x with
  | .nan neg => { code := nanCode neg }
  | .inf neg => beyond neg
  | .fin neg m e =>
    let mag := f.round m e
    if f.overflows mag then beyond neg else { code := f.signed neg mag }

/-- A value `m · 2^e` with a sign to an 8-bit integer in units of `2^q`, saturating (R76, R89). -/
def convInt8 (neg : Bool) (m : Nat) (e q : Int) : Converted :=
  let n : Int := roundQ m e q
  let v := if neg then -n else n
  if 127 < v then { code := 127, sat := 1 }
  else if v < -128 then { code := 128, sat := 1 }
  else { code := ofSigned 8 v }

/-- FP32 to INT8 (R89). -/
def convToInt8 (x : Nat) : Converted :=
  match fp32.decode x with
  | .nan _ => { code := 0 }
  | .inf neg => { code := if neg then 128 else 127, sat := 1 }
  | .fin neg m e => convInt8 neg m e 0

/-- The largest magnitude of some finite FP32 words, as a magnitude code. -/
def ampMax (xs : List Nat) : Nat := xs.foldl (fun a x => max a (x % 2 ^ 31)) 0

/-- Some word is NaN or infinite. -/
def anySpecial (xs : List Nat) : Bool := xs.any fun x => decide (0x7F800000 ≤ x % 2 ^ 31)

/-- Some word is NaN. -/
def anyNan (xs : List Nat) : Bool := xs.any fun x => decide (0x7F800000 < x % 2 ^ 31)

/-- A block as encoded: the scale, the element codes, saturations and NaN count. -/
structure Block where
  scale : Nat
  codes : List Nat
  sat : Nat := 0
  nan : Nat := 0
  deriving DecidableEq, Repr

/-- The exponent of the largest power of two not above an MX element format's largest value (R75). -/
def mxEmax : MxFmt → Int
  | .e4m3 => 8
  | .e5m2 => 15
  | .e2m1 => 2
  | .mxint8 => 0

/-- One element of an MX block, scaled (R75, R76). -/
def mxElement (f : MxFmt) (neg : Bool) (m : Nat) (e : Int) : Converted :=
  let fp (g : FpFmt) : Converted :=
    let mag := g.round m e
    if g.overflows mag then { code := g.signed neg g.maxMag, sat := 1 } else { code := g.signed neg mag }
  match f with
  | .e4m3 => fp Sys2Proof.Machine.e4m3
  | .e5m2 => fp Sys2Proof.Machine.e5m2
  | .e2m1 => fp Sys2Proof.Machine.e2m1
  | .mxint8 => convInt8 neg m e (-6)

/-- Codes and counts of some conversions gathered in a block. -/
def gather (scale : Nat) (es : List Converted) : Block :=
  { scale := scale, codes := es.map Converted.code, sat := (es.map Converted.sat).sum }

/-- The MX block of 32 FP32 words (R75). -/
def mxBlock (f : MxFmt) (xs : List Nat) : Block :=
  let zeros := List.replicate xs.length 0
  if anySpecial xs then { scale := 255, codes := zeros, nan := bit !(anyNan xs) }
  else
    match fp32.decode (ampMax xs) with
    | .fin _ 0 _ => { scale := 0, codes := zeros }
    | .fin _ am ae =>
      let x := max 0 (min 254 (lead am ae - mxEmax f + 127))
      gather x.toNat (xs.map fun v =>
        match fp32.decode v with
        | .fin neg m e => mxElement f neg m (e - (x - 127))
        | _ => { code := 0 })
    | _ => { scale := 255, codes := zeros }

/-- `m · 2^e` is at most `n · 2^f`. -/
def dyLe (m : Nat) (e : Int) (n : Nat) (f : Int) : Bool :=
  let b := min e f
  decide (m * 2 ^ (e - b).toNat ≤ n * 2 ^ (f - b).toNat)

/-- The DQ4 magnitude code nearest to `q = m · 2^e`: on a tie the even code; above 12, code 7 (R79). -/
def dq4Nearest (m : Nat) (e : Int) : Nat :=
  -- the midpoints between neighbouring levels in halves: 1, 3, 5, 7, 10, 14, 20
  [1, 3, 5, 7, 10, 14, 20].zipIdx.foldl (fun c x =>
    let above := !dyLe m e x.1 (-1)
    let at' := dyLe m e x.1 (-1) && dyLe x.1 (-1) m e
    if above ∨ (at' ∧ x.2 % 2 = 1) then x.2 + 1 else c) 0

/-- The DQ4 block of 32 FP32 deltas (R79, R80). -/
def dq4Block (xs : List Nat) : Block :=
  let zeros := List.replicate xs.length 0
  if anySpecial xs then { scale := 255, codes := zeros, nan := bit !(anyNan xs) }
  else
    match fp32.decode (ampMax xs) with
    | .fin _ 0 _ => { scale := 0, codes := zeros }
    | .fin _ am ae =>
      let x : Nat := ((List.range 255).find? fun (x : Nat) => dyLe am ae 12 ((x : Int) - 127)).getD 254
      gather x (xs.map fun v =>
        match fp32.decode v with
        | .fin neg m e =>
          let e := e - ((x : Int) - 127)
          let c := dq4Nearest m e
          { code := bit (neg && c != 0) * 8 + c, sat := bit !(dyLe m e 12 0) }
        | _ => { code := 0 })
    | _ => { scale := 255, codes := zeros }

/-- FA32 to DS24 with the random byte `r` (R87). -/
def ds24Write (x r : Nat) : Converted :=
  let s := bit (x.testBit 31) * 2 ^ 23
  let m := x % 2 ^ 31
  if 0x7F800000 < m then { code := s + 0x7FC000 }
  else if m = 0x7F800000 then { code := s + 0x7F7FFF, sat := 1 }
  else if m < 2 ^ 23 then { code := s }
  else
    let t := (m + r) / 256
    if (t / 2 ^ 15) % 256 = 255 then { code := s + 0x7F7FFF, sat := 1 } else { code := s + t }

/-- The xorshift step of R88 on 32 bits. -/
def xorshift (x : Nat) : Nat :=
  let a : BitVec 32 := BitVec.ofNat 32 x
  let a := a ^^^ (a <<< 13)
  let a := a ^^^ (a >>> 17)
  (a ^^^ (a <<< 5)).toNat

/-! ### Vector operations (R90, R91) -/

/-- The FP32 bits of a finite exact value, correctly rounded; an overflow gives the infinity. -/
def fpOf (neg : Bool) (m : Nat) (e : Int) : Nat :=
  let mag := fp32.round m e
  if fp32.overflows mag then fp32.signed neg (255 * 2 ^ 23) else fp32.signed neg mag

/-- An exact sum of two finite values (R90). -/
def sumParts (a b : Bool × Nat × Int) : Bool × Nat × Int :=
  let q := min a.2.2 b.2.2
  let v (t : Bool × Nat × Int) : Int :=
    let n : Int := t.2.1 * 2 ^ (t.2.2 - q).toNat
    if t.1 then -n else n
  let s := v a + v b
  if s = 0 then (a.1 && b.1 && a.2.1 == 0 && b.2.1 == 0, 0, 0) else (decide (s < 0), s.natAbs, q)

/-- An exact sum of two numbers: infinities of opposite signs give NaN. -/
def Num.add : Num → Num → Num
  | .nan n, _ => .nan n
  | _, .nan n => .nan n
  | .inf a, .inf b => if a = b then .inf a else .nan false
  | .inf a, _ => .inf a
  | _, .inf b => .inf b
  | .fin a m e, .fin b n f => let r := sumParts (a, m, e) (b, n, f); .fin r.1 r.2.1 r.2.2

def Num.neg : Num → Num
  | .nan n => .nan !n
  | .inf n => .inf !n
  | .fin n m e => .fin (!n) m e

/-- The order of values: NaN below −∞, zeros equal (R91). -/
def rank (x : Nat) : Int :=
  if 0x7F800000 < x % 2 ^ 31 then -(2 ^ 32)
  else if x.testBit 31 then -((x % 2 ^ 31 : Nat) : Int) else ((x % 2 ^ 31 : Nat) : Int)

/-- The comparison of R90: false with NaN. -/
def compareFp (op : CmpOp) (x y : Nat) : Bool :=
  if 0x7F800000 < x % 2 ^ 31 ∨ 0x7F800000 < y % 2 ^ 31 then false
  else match op with
    | .lt => decide (rank x < rank y)
    | .le => decide (rank x ≤ rank y)
    | .eq => decide (rank x = rank y)

/-- One ulp of a finite value at FP32: the exponent of its unit (R90). -/
def ulpExp (m : Nat) (e : Int) : Int := if m = 0 then -149 else max (lead m e) (-126) - 23

/-- A signed dyadic value as an integer in units of `2^q` (`q` at most its exponent). -/
def inUnits (neg : Bool) (m : Nat) (e q : Int) : Int :=
  let n : Int := m * 2 ^ (e - q).toNat
  if neg then -n else n

/-- Whether the FP32 word `c` lies within `tol · 2^te` of the value `num / den · 2^e`. -/
def near (c : Nat) (neg : Bool) (num den : Nat) (e : Int) (tol : Nat) (te : Int) : Bool :=
  match fp32.decode c with
  | .fin n m ce =>
    let q := min (min ce e) te
    let d := (inUnits n m ce q) * den - inUnits neg num e q
    decide (d.natAbs ≤ tol * 2 ^ (te - q).toNat * den)
  | _ => false

/-- The exponent of the ulp of `num / den · 2^e` at FP32. -/
def quotUlp (num den : Nat) (e : Int) : Int :=
  -- the quotient with 40 bits below its leading bit or more
  let sh := 40 + Nat.log2 den
  let n := num * 2 ^ sh / den
  ulpExp n (e - sh)

/-- Whether `c` is a finite non-negative word within `tol` ulp of the square root of `m · 2^e` (or of
its reciprocal): the square of a bound is compared with the value. -/
def nearRoot (recip : Bool) (c m : Nat) (e : Int) (tol : Nat) : Bool :=
  match fp32.decode c with
  | .fin false cm ce =>
    -- the ulp of the exact result: between one below and one above that of `c`; the result's own ulp
    -- is found from its leading bit, half of the operand's
    let half := (lead m e) / 2
    let top := if recip then (if 2 * half = lead m e ∧ m = 2 ^ Nat.log2 m then -half else -half - 1)
      else half
    let u := max top (-126) - 23
    let q := min ce u
    let v := cm * 2 ^ (ce - q).toNat
    let t := tol * 2 ^ (u - q).toNat
    let le2 (x : Nat) : Bool :=   -- (x · 2^q)² ≤ value
      if recip then dyLe (x * x * m) (2 * q + e) 1 0 else dyLe (x * x) (2 * q) m e
    let ge2 (x : Nat) : Bool :=
      if recip then dyLe 1 0 (x * x * m) (2 * q + e) else dyLe m e (x * x) (2 * q)
    le2 (v - t) && ge2 (v + t)
  | _ => false

/-! Fixed-point values with 120 bits below the point, for the bounds of R90 on the transcendental
operations. -/

def fxOne : Nat := 2 ^ 120

/-- ln 2 in fixed point (120 bits): sum of 1 / (k · 2^k). -/
def fxLn2 : Nat := ((List.range 130).map fun k => 2 ^ 120 / ((k + 1) * 2 ^ (k + 1))).sum

/-- 2^f for a fixed-point fraction f in [0, 1). -/
def fxExp2Frac (f : Nat) : Nat :=
  let x := f * fxLn2 / fxOne
  ((List.range 40).foldl (fun (a : Nat × Nat) k => (a.1 + a.2, a.2 * x / fxOne / (k + 1))) (0, fxOne)).1

/-- log2 of a fixed-point value in [1, 2), by repeated squaring: 70 bits. -/
def fxLog2 (v : Nat) : Nat :=
  ((List.range 70).foldl (fun (a : Nat × Nat) k =>
    let sq := a.2 * a.2 / fxOne
    if 2 * fxOne ≤ sq then (a.1 + 2 ^ (119 - k), sq / 2) else (a.1, sq)) (0, v)).1

/-- 2^x for a signed fixed-point x, as a fixed-point significand and an exponent. -/
def fxExp2 (x : Int) : Nat × Int :=
  let n := x / (fxOne : Int)
  (fxExp2Frac (x % (fxOne : Int)).toNat, n - 120)

/-- A finite FP32 value in fixed point, cut to ±2^20 (beyond it every saturating function is flat). -/
def fxOf (neg : Bool) (m : Nat) (e : Int) : Int :=
  let a := if dyLe m e 1 20 then (if -120 ≤ e then m * 2 ^ (e + 120).toNat else m / 2 ^ (-120 - e).toNat)
    else 2 ^ 140
  if neg then -(a : Int) else a

/-- 1 / (1 + e^(−x)) in fixed point. -/
def fxSigmoid (x : Int) : Nat :=
  let y := (-x) * fxOne / fxLn2
  -- beyond 2^±200 the value is 0 or 1 in 120 bits
  if 200 * (fxOne : Int) < y then 0
  else if y < -200 * (fxOne : Int) then fxOne
  else
    let p := fxExp2 y
    let v := if -120 ≤ p.2 then p.1 * 2 ^ (p.2 + 120).toNat else p.1 / 2 ^ (-120 - p.2).toNat
    fxOne * fxOne / (fxOne + v)

/-- tanh in fixed point. -/
def fxTanh (x : Int) : Int := 2 * (fxSigmoid (2 * x) : Int) - fxOne

/-- √(2/π) in fixed point: 0.797884560802865355879892119868763736951717…. -/
def fxGeluC : Nat := 797884560802865355879892119868763737 * 2 ^ 120 / 10 ^ 36

/-- The value that R90's functions approximate, in fixed point, for a finite operand. -/
def fxFunction (op : FnOp) (neg : Bool) (m : Nat) (e : Int) : Int :=
  let x := fxOf neg m e
  match op with
  | .sigmoid => fxSigmoid x
  | .tanh => fxTanh x
  | .silu => x * fxSigmoid x / fxOne
  | .gelu =>
    let one : Int := fxOne
    let x3 := x * x / one * x / one
    let t := fxTanh ((x + x3 * 44715 / 1000000) * fxGeluC / one)
    x * (one + t) / one / 2

/-- Whether `c` is within 4 ulp of a function's value, or within 2⁻²² of it where the value is below
2⁻¹⁸ in magnitude (R90).  The value is known to more than 2⁻⁶⁰ of itself, which widens the bound by
2⁻²⁰ ulp. -/
def nearFunction (op : FnOp) (c : Nat) (neg : Bool) (m : Nat) (e : Int) : Bool :=
  let v := fxFunction op neg m e
  let mag := v.natAbs
  near c (decide (v < 0)) mag 1 (-120) (4 * 2 ^ 20 + 1) (ulpExp mag (-120) - 20) ||
    (decide (mag < 2 ^ 102) && near c (decide (v < 0)) mag 1 (-120) (2 ^ 20 + 1) (-42))

/-- Whether `c` is within 2 ulp of 2^x (R90). -/
def nearExp2 (c : Nat) (neg : Bool) (m : Nat) (e : Int) : Bool :=
  let p := fxExp2 (fxOf neg m e)
  near c false p.1 1 p.2 (2 * 2 ^ 20 + 1) (ulpExp p.1 p.2 - 20)

/-- Whether `c` is within 2 ulp of log2 of a positive value (R90). -/
def nearLog2 (c : Nat) (m : Nat) (e : Int) : Bool :=
  let k := Nat.log2 m
  let f := fxLog2 (m * fxOne / 2 ^ k)
  let v : Int := (e + k) * fxOne + f
  near c (decide (v < 0)) v.natAbs 1 (-120) (2 * 2 ^ 20 + 1) (ulpExp v.natAbs (-120) - 20)

end Sys2Proof.Machine
end

