-- ==== Sys2Proof/Machine/Delta.lean ====
section
/-! DEFINITION. Temporal delta execution: the plan check, the measuring of change, delta layers, refresh
frames and the header write (05_delta_execution). -/

namespace Sys2Proof.Machine

/-! ### The plan check (R133-R136) -/

/-- Operations that R134 excludes from a chain. -/
def excluded : DeltaOpKind → Bool
  | .maxPool | .softmax | .normalisation | .activationProduct | .dataResample | .topK => true
  | _ => false

/-- Weights that a checkpoint layer may have (R133): E4M3, E5M2, MXFP8, MXFP4. -/
def weightsOk (w : OperandFmt) : Bool :=
  w.fmt == .e4m3 || w.fmt == .e5m2 || (w.fmt == .e2m1 && w.block)

/-- A plan that breaks R133-R136. -/
def planBad (p : DeltaPlan) : Bool :=
  p.ops.any excluded || p.layers.any (fun l => excluded l.kind || !weightsOk l.weights) ||
  decide (32 < p.chains) || decide (256 < p.layers.length) || decide (12 * 2 ^ 20 < p.regionBytes)

/-! ### Measuring change (R139) -/

def Num.abs : Num → Num
  | .nan _ => .nan false
  | .inf _ => .inf false
  | .fin _ m e => .fin false m e

/-- The FP32 bits of a result; a NaN is canonical. -/
def numBits : Num → Nat
  | .nan _ => 0x7FC00000
  | .inf neg => fp32.signed neg (255 * 2 ^ 23)
  | .fin neg m e => fpOf neg m e

/-- The change of an element, at FP32 (R139, R143): `x` FP32 bits, `ref` DS24. -/
def change (x ref : Nat) : Nat := numBits ((fp32.decode x).add (ds24Decode ref).neg)

/-- The threshold of a layer as `m · 2^e`: the plan's times `THRESH_SCALE` / 16 (R139). -/
def threshold (tau : Word) (scale : Nat) : Nat × Int :=
  match fp32.decode tau.toNat with
  | .fin false m e => (m * scale, e - 4)
  | _ => (0, 0)

/-- A magnitude exceeds `m · 2^e`: comparisons with NaN are false. -/
def exceeds (d : Num) (m : Nat) (e : Int) : Bool :=
  match d with
  | .nan _ => false
  | .inf _ => true
  | .fin _ n f => !dyLe n f m e

/-- The sum of magnitudes. -/
def sumAbs (ds : List Num) : Num := ds.foldl Num.add (.fin false 0 0)

/-- A change tile is changed (R139). -/
def tileChanged (tau : Nat × Int) (peak : Nat) (changes : List Nat) : Bool :=
  let ds := changes.map fun d => (fp32.decode d).abs
  exceeds (sumAbs ds) (ds.length * tau.1) tau.2 ||
    (peak != 0 && ds.any fun d => exceeds d (peak * tau.1) tau.2)

/-! ### Layers -/

/-- The key of an element of a layer in the accumulator and reference regions. -/
def elemKey (layer i : Nat) : Nat := layer * 2 ^ 20 + i

/-- A stored DS24 value as FP32 bits (R85): an exponent of 0 is signed zero. -/
def ds24Bits (v : Nat) : Nat :=
  if (v / 2 ^ 15) % 256 = 0 then v / 2 ^ 23 * 2 ^ 31
  else if (v / 2 ^ 15) % 256 = 255 then v / 2 ^ 23 * 2 ^ 31 + 0x7FC00000 else v * 256

def ds24Nan (v : Nat) : Bool := (v / 2 ^ 15) % 256 == 255

/-- A DS24 write of delta state (R138): the random byte is a lane's of the schedule, which the manual
does not name; a saturation counts. -/
def State.ds24Draw (s : State) (p x : Nat) : Nat × State :=
  let r := s.draw
  let c := ds24Write x (r.1 % 256)
  (c.code, r.2.bumpBy F.PART_ARITH_STATUS_SAT_COUNT p c.sat)

/-- The running state of a frame's delta computation: the delta regions, the outputs of each layer
(FP32 bits), tiles compared and skipped, changed tiles and tiles of the first chain input, and whether
a NaN was written. -/
structure DeltaRun where
  accs : SMap Nat
  refs : SMap Nat
  outs : List (List Nat) := []
  compared : Nat := 0
  skipped : Nat := 0
  changed0 : Nat := 0
  tiles0 : Nat := 0
  nan : Bool := false
  deriving DecidableEq, Repr

/-- A reference written. -/
def DeltaRun.putRef (d : DeltaRun) (layer i v : Nat) : DeltaRun :=
  { d with refs := Tab.put d.refs (elemKey layer i) v 0, nan := d.nan || ds24Nan v }

/-- An accumulator written. -/
def DeltaRun.putAcc (d : DeltaRun) (layer i v : Nat) : DeltaRun :=
  { d with accs := Tab.put d.accs (elemKey layer i) v 0, nan := d.nan || ds24Nan v }

/-- The element-wise function of a layer on FP32 bits (R145, R90). -/
def State.activate (s : State) (a : Activation) (x : Nat) : Nat × State :=
  match a with
  | .none => (x, s)
  | .relu => (if (fp32.decode x).isNan || rank x ≤ 0 then 0 else x, s)
  | .fn op =>
    -- bounded as R90 bounds it: any word within the bound
    match fp32.decode x with
    | .fin neg m e =>
      let r := s.draw
      let v := fxFunction op neg m e
      let best := fpOf (decide (v < 0)) v.natAbs (-120)
      (if nearFunction op (r.1 % 2 ^ 32) neg m e then r.1 % 2 ^ 32 else best, r.2)
    | _ => let r := s.draw; (r.1 % 2 ^ 32, r.2)

/-- Decoded DQ4 changes of one block (R143), by element; saturations and NaNs are counted. -/
def State.encodeBlock (s : State) (p : Nat) (d : DeltaRun) (layer : Nat) (x : List Nat)
    (block : List Nat) : List (Nat × Num) × State :=
  let deltas := block.map fun i => change (x.getD i 0) (Tab.get d.refs (elemKey layer i) 0)
  let b := dq4Block ((deltas ++ List.replicate 32 0).take 32)
  let s := (s.bumpBy F.PART_ARITH_STATUS_SAT_COUNT p b.sat).bumpBy F.PART_ARITH_STATUS_NAN_COUNT p b.nan
  (block.zip (b.codes.map fun c => (dq4Decode c).scaled b.scale), s)

/-- The changed tiles of a layer's input, and their encoded changes with the references advanced
(R139, R143). -/
def State.applyTiles (s : State) (p : Nat) (d : DeltaRun) (layer : Nat) (l : DeltaLayer)
    (tau : Nat × Int) (peak : Nat) (x : List Nat) : List (Nat × Num) × DeltaRun × State :=
  l.tiles.foldl (fun (a : List (Nat × Num) × DeltaRun × State) tile =>
    let es := tile.flatten
    let ch := es.map fun i => change (x.getD i 0) (Tab.get a.2.1.refs (elemKey layer i) 0)
    let r := { a.2.1 with compared := a.2.1.compared + 1 }
    if tileChanged tau peak ch then
      let q := tile.foldl (fun (b : List (Nat × Num) × State) block =>
        let y := b.2.encodeBlock p r layer x block
        (b.1 ++ y.1, y.2)) ([], a.2.2)
      let w := q.1.foldl (fun (b : DeltaRun × State) e =>
        let old := Tab.get b.1.refs (elemKey layer e.1) 0
        let v := b.2.ds24Draw p (numBits ((ds24Decode old).add e.2))
        (b.1.putRef layer e.1 v.1, v.2)) (r, q.2)
      (a.1 ++ q.1, w.1, w.2)
    else (a.1, { r with skipped := r.skipped + 1 }, a.2.2)) ([], d, s)

/-- Passes of 32 terms along K (R69). -/
def chunks (n : Nat) : Nat → List (Nat × Nat × Nat) → List (List (Nat × Nat × Nat))
  | 0, _ => []
  | fuel + 1, l => if l.isEmpty then [] else l.take n :: chunks n fuel (l.drop n)

/-- The stored sum of one output element updated with the changes of its receptive field (R144). -/
def State.updateSum (s : State) (p : Nat) (l : DeltaLayer) (dq : List (Nat × Num)) (o : OutElem)
    (old : Nat) : Nat × State :=
  let wval (t : Nat × Nat × Nat) : Num :=
    if l.weights.block then (elemVal l.weights.fmt t.2.1).scaled t.2.2 else elemVal l.weights.fmt t.2.1
  let r := (chunks 32 o.terms.length o.terms).foldl (fun (a : Nat × State) ts =>
    let ps := ts.filterMap fun t => (dq.find? (·.1 == t.1)).map fun e => e.2.mul (wval t)
    if ps.isEmpty then a
    else
      let y := fa32Pass a.1 ps
      (y.1, (a.2.bumpBy F.PART_ARITH_STATUS_SAT_COUNT p (bit y.2.1)).bumpBy
        F.PART_ARITH_STATUS_NAN_COUNT p (bit y.2.2))) (ds24Bits old, s)
  r.2.ds24Draw p r.1

/-- The values that a layer's sums give through its element-wise function (R145). -/
def State.layerOut (s : State) (d : DeltaRun) (layer : Nat) (l : DeltaLayer) : List Nat × State :=
  l.outs.zipIdx.foldl (fun (a : List Nat × State) o =>
    let y := a.2.activate l.act (ds24Bits (Tab.get d.accs (elemKey layer o.2) 0))
    (a.1 ++ [y.1], y.2)) ([], s)

/-- The input of a layer in a delta-form frame (R145). -/
def layerInput (inputs : List (List Word)) (d : DeltaRun) (l : DeltaLayer) : List Nat :=
  match l.input with
  | .chain k => (inputs.getD k []).map BitVec.toNat
  | .layer k => d.outs.getD k []

/-- One layer in delta form (R139-R145): active output tiles are those with a changed input element in
the receptive field of one of their elements. -/
def State.deltaLayer (s : State) (p : Nat) (scale peak : Nat) (inputs : List (List Word))
    (d : DeltaRun) (layer : Nat) (l : DeltaLayer) : DeltaRun × State :=
  let x := layerInput inputs d l
  let r := s.applyTiles p d layer l (threshold l.tau scale) peak x
  let dq := r.1
  let touched (o : OutElem) : Bool := o.terms.any fun t => dq.any (·.1 == t.1)
  let active := (l.outs.filter touched).map OutElem.tile
  let w := l.outs.zipIdx.foldl (fun (a : DeltaRun × State) o =>
    if active.contains o.1.tile then
      let v := a.2.updateSum p l dq o.1 (Tab.get a.1.accs (elemKey layer o.2) 0)
      (a.1.putAcc layer o.2 v.1, v.2)
    else a) (r.2.1, r.2.2)
  let y := w.2.layerOut w.1 layer l
  ({ w.1 with outs := w.1.outs ++ [y.1] }, y.2)

/-- Changed tiles of the first chain input, and its tile count (R142). -/
def changedFraction (plan : DeltaPlan) (d : DeltaSt) (scale peak : Nat) (inputs : List (List Word)) :
    Nat × Nat :=
  match plan.layers with
  | [] => (0, 0)
  | l :: _ =>
    let x := layerInput inputs { accs := d.accs, refs := d.refs } l
    let hit := l.tiles.countP fun tile =>
      tileChanged (threshold l.tau scale) peak (tile.flatten.map fun i =>
        change (x.getD i 0) (Tab.get d.refs (elemKey 0 i) 0))
    (hit, l.tiles.length)

/-- A frame's layers in delta form. -/
def State.runDelta (s : State) (p : Nat) (plan : DeltaPlan) (d : DeltaSt) (scale peak : Nat)
    (inputs : List (List Word)) : DeltaRun × State :=
  plan.layers.zipIdx.foldl (fun (a : DeltaRun × State) l =>
    a.2.deltaLayer p scale peak inputs a.1 l.2 l.1) ({ accs := d.accs, refs := d.refs }, s)

/-- A refresh frame's state (R147): every reference the dense input, every accumulator the dense FA32
sum, rounded to DS24. -/
def State.runRefresh (s : State) (p : Nat) (plan : DeltaPlan) (dense : List (List Word × List Word)) :
    DeltaRun × State :=
  plan.layers.zipIdx.foldl (fun (a : DeltaRun × State) l =>
    let x := dense.getD l.2 ([], [])
    let es := l.1.tiles.flatten.flatten
    let r := es.foldl (fun (b : DeltaRun × State) i =>
      let v := b.2.ds24Draw p (x.1.getD i 0).toNat
      (b.1.putRef l.2 i v.1, v.2)) a
    (List.range l.1.outs.length).foldl (fun (b : DeltaRun × State) i =>
      let v := b.2.ds24Draw p (x.2.getD i 0).toNat
      (b.1.putAcc l.2 i v.1, v.2)) r) ({ accs := [], refs := [] }, s)

/-! ### The decision point (R148-R150) -/

/-- The causes that hold for a context's next frame, 1-8, read at its decision point. -/
def State.dueCauses (s : State) (c : Nat) : List Nat := ((s.ctx? c).map Ctx.causes).getD []

/-- The lowest of some codes. -/
def lowest (l : List Nat) : Option Nat := l.min?

/-- The delta policy of a context as its registers hold it. -/
def State.policy (s : State) (c : Nat) : Decision :=
  { enable := s.on F.CTX_DELTA_POLICY_ENABLE c
    scale := s.rd F.CTX_DELTA_POLICY_THRESH_SCALE c
    peak := s.rd F.CTX_DELTA_POLICY_PEAK_FACTOR c
    cut := s.rd F.CTX_DELTA_POLICY_SCENE_CUT c
    every := max 1 (min 4096 (s.rd F.CTX_REFRESH_EVERY_N c))
    stagger := s.on F.CTX_DELTA_POLICY_STAGGER c }

/-- The decision of a frame of a context with a plan (R148-R150): the policy, and the cause of a refresh
frame, 0 for a frame in delta form; pending causes are consumed, the countdown falls when none holds. -/
def State.decideRefresh (s : State) (c : Nat) : Decision × State :=
  let p := s.policy c
  if !p.enable then (p, s)
  else match lowest (s.dueCauses c), s.ctx? c with
    | some k, some x => ({ p with cause := k }, s.setCtx c { x with causes := [] })
    | _, _ =>
      let n := s.rd F.CTX_REFRESH_EVERY_COUNTDOWN c - 1
      ({ p with cause := if n = 0 then 10 else 0 }, s.wr F.CTX_REFRESH_EVERY_COUNTDOWN c n)

/-! ### The header write (R137, R138, R161) -/

/-- The carried tensors go into the buffer that the header does not select, and the header write flips
the select (R137). -/
def DeltaSt.flip (d : DeltaSt) (carried : List Byte) : DeltaSt :=
  if d.sel then { d with carried0 := carried, sel := false, carriedInit := false }
  else { d with carried1 := carried, sel := true, carriedInit := false }

/-- The state sequence after a header write (R138). -/
def DeltaSt.nextSeq (d : DeltaSt) : Nat := if d.started then (d.seq + 1) % 2 ^ 32 else 0

/-- The refresh countdown that a refresh of a cause sets (R147, R150). -/
def Decision.countdown (p : Decision) (c cause : Nat) : Nat :=
  if cause = 6 ∧ p.stagger then p.every - c % p.every else p.every

/-- The state of a frame with delta execution on, its registers and header (R137-R147, R161). -/
def State.stateWrite (s : State) (c p : Nat) (plan : DeltaPlan) (q : Decision) (r : FrameResult)
    (x : Ctx) (d : DeltaSt) : State :=
  let frac := changedFraction plan x.delta q.scale q.peak r.inputs
  -- the scene-cut detector (R142)
  let cause := if q.cause = 0 ∧ q.cut * frac.2 < frac.1 * 256 then 9 else q.cause
  let y := if cause = 0 then s.runDelta p plan x.delta q.scale q.peak r.inputs
    else s.runRefresh p plan r.dense
  let s := y.2
  let s :=
    if cause = 0 then
      let s := (s.bumpBy F.CTX_DELTA_TILES c y.1.compared).bumpBy F.CTX_DELTA_SKIPPED c y.1.skipped
      s.wr F.CTX_DELTA_STATUS_LAST_CHANGED c (min 255 (frac.1 * 256 / max 1 frac.2))
    else
      let s := (s.bump F.CTX_DELTA_STATUS_REFRESHES c).wr F.CTX_DELTA_STATUS_LAST_CAUSE c cause
      s.wr F.CTX_REFRESH_EVERY_COUNTDOWN c (q.countdown c cause)
  let s := s.wr F.CTX_DELTA_STATUS_STATE_VALID c (bit !y.1.nan)
  let d := { d with accs := y.1.accs, refs := y.1.refs, valid := !y.1.nan,
                    lastCause := s.rd F.CTX_DELTA_STATUS_LAST_CAUSE c,
                    countdown := s.rd F.CTX_REFRESH_EVERY_COUNTDOWN c }
  let s := s.setCtx c { x with delta := d }
  if y.1.nan then (s.wr F.CTX_DELTA_STATUS_NAN_SEEN c 1).addCause c 3 else s

/-- A frame ends as a refresh frame. -/
def refreshed (plan : DeltaPlan) (q : Decision) (d : DeltaSt) (r : FrameResult) : Bool :=
  let frac := changedFraction plan d q.scale q.peak r.inputs
  q.enable && (q.cause != 0 || decide (q.cut * frac.2 < frac.1 * 256))

/-- The header write of a frame (R137, R138, R155): the buffers flip and the state sequence advances; with
`ENABLE` = 0 accumulators and references are not written and are valid no more. -/
def State.headerWrite (s : State) (c p : Nat) (plan : DeltaPlan) (q : Decision) (r : FrameResult) :
    State :=
  match s.ctx? c with
  | none => s
  | some x =>
    let seq := x.delta.nextSeq
    let d := { x.delta.flip r.carried with started := true, seq := seq }
    let s := s.wr F.CTX_DELTA_SEQ_SEQ c seq
    if q.enable then s.stateWrite c p plan q r x d
    else
      (s.setCtx c { x with delta := { d with valid := false } }).wr F.CTX_DELTA_STATUS_STATE_VALID c 0

end Sys2Proof.Machine
end

