-- ==== Sys2Proof/Machine/Weft.lean ====
section
/-! DEFINITION. Weft links, multi-package jobs and context shadowing (08_weft_links_and_trays). -/

namespace Sys2Proof.Machine

/-! ### Settings (R252) -/

def cfgLaneSwapCe : Setting := ⟨0x0C, 8, 4, 1000⟩
def cfgSympathyMargin : Setting := ⟨0x0C, 1, 1, 5⟩
def cfgShadowRsv : Setting := ⟨0x0C, 2, 1, 16⟩

/-- A setting taken as the nearer end of its range (R252). -/
def State.cfgIn (s : State) (t : Setting) (lo hi : Nat) : Nat := max lo (min hi (s.cfg t))

/-! ### Wiring and links -/

/-- The own node number. -/
def State.node (s : State) : Nat := s.rd F.WEFT_CFG_NODE 0

/-- The partner of a slot on link W0-W6 (R222). -/
def partner (slot k : Nat) : Nat :=
  if slot = 7 then (4 * k) % 7
  else
    let x := (k + 7 - slot % 7) % 7
    if x = slot then 7 else x

/-- The link that R222 assigns between two slots of a side. -/
def directLink (a b : Nat) : Option Nat := (List.range 7).find? fun k => partner a k == b

/-- The node expected at the far end of a link (R222). -/
def expectNode (node k : Nat) : Nat :=
  if k < 7 then partner (node % 8) k + node / 8 * 8
  else if k = 9 then node ^^^ 1 else node ^^^ 8

/-- A link that carries traffic: UP or UP_SPARED. -/
def State.linkUp (s : State) (k : Nat) : Bool :=
  s.rd F.WEFT_LINK_STATE_STATE k == 2 || s.rd F.WEFT_LINK_STATE_STATE k == 3

/-- `PD_WEFTIO` is powered: the die is up, or a chip reset runs (R31). -/
def State.weftOn (s : State) : Bool := s.on I.dieUp 0 || s.rd I.chipStep 0 != 0

/-- A flit put on a link: it takes the next `LSEQ` and stays in the replay buffer of 256 until the far
end's `LACK` covers it (R230); with the buffer full it waits. -/
def State.sendFlit (s : State) (k : Nat) (kind : String) (args : List Nat) : State :=
  let o : Out := .flit k kind args
  if 256 ≤ (s.weft.replay.filter fun e => e.1 == k).length then
    { s with weft := { s.weft with waiting := s.weft.waiting ++ [(k, o)] } }
  else
    let n := s.rd I.lseq k
    let s : State := { s with weft := { s.weft with replay := s.weft.replay ++ [(k, n, o)] } }
    (s.wr I.lseq k (n + 1)).send o

/-- The first-hop link to a node by the routing table, and for the striped twin route one that is up. -/
def State.hopTo (s : State) (d : Nat) : Option Nat :=
  if s.on F.WEFT_ROUTE_DATA_VALID d then
    let k := s.rd F.WEFT_ROUTE_DATA_LINK d
    some (if k = 7 ∧ !s.linkUp 7 then 8 else k)
  else none

/-- A control flit to a node, by its route (R232, R235). -/
def State.flitTo (s : State) (d : Nat) (kind : String) (args : List Nat) : State :=
  match s.hopTo d with
  | some k => s.sendFlit k kind (d :: args)
  | none => s

/-- A message to a node (R229), when a route exists. -/
def State.messageTo (s : State) (d : Nat) (kind : String) (args : List Nat) : State :=
  match s.hopTo d with
  | some _ => s.send (.message d kind args)
  | none => s

/-- A link goes DOWN (R227), a class B fault of this package. -/
def State.linkDown (s : State) (k : Nat) : State :=
  let s := (s.wr F.WEFT_LINK_STATE_STATE k 4).bump F.WEFT_LINK_STATE_DOWNS k
  let s : State := { s with weft := { s.weft with
    replay := s.weft.replay.filter (fun e => e.1 != k)
    waiting := s.weft.waiting.filter (fun e => e.1 != k) } }
  s.fault 81 k

/-- A lane of a link fails (R226): replaced by lane 4, or, with the spare in use, the link goes DOWN.
Lane 4 carries nothing while it is the spare. -/
def State.laneFails (s : State) (k lane : Nat) : State :=
  if s.rd F.WEFT_LINK_STATE_STATE k = 2 then
    if lane < 4 then
      ((s.wr F.WEFT_LINK_STATE_BAD_LANE k lane).wr F.WEFT_LINK_STATE_STATE k 3).sendFlit k "LANE_SWAP" [lane]
    else s
  else if s.rd F.WEFT_LINK_STATE_STATE k = 3 ∧ lane ≠ s.rd F.WEFT_LINK_STATE_BAD_LANE k then
    s.linkDown k
  else s

/-- A valid flit registered from a link's peer (R249). -/
def State.heard (s : State) (k : Nat) : State := s.wr I.heardAt (s.rd F.WEFT_LINK_STATE_PEER k) s.us

/-- `LINK_TRAIN_START` (R225). -/
def execLinkTrainStart (k : LinkIx) (farEnd : Bool) (s : State) : Result :=
  let k := k.val
  let st := s.rd F.WEFT_LINK_STATE_STATE k
  if s.weftOn ∧ st ≠ 6 ∧ (farEnd ∨ st = 0) then
    let s := (s.wr F.WEFT_LINK_STATE_STATE k 1).wr F.WEFT_LINK_STATE_BAD_LANE k 7
    let s := ((s.wr I.identOk k 0).wr I.retries k 0).wr I.rxDiscard k 0
    let s := ((s.wr I.lseq k 0).wr I.lackRx k 0).wrAll I.laneOver ((List.range 5).map (k * 8 + ·)) 0
    .next { s with weft := { s.weft with
      replay := s.weft.replay.filter (fun e => e.1 != k)
      waiting := s.weft.waiting.filter (fun e => e.1 != k)
      pairKeys := Tab.drop s.weft.pairKeys k } }
  else .next s

/-- `IDENT_FLIT` (R223): the partner and configuration compared; a difference makes the link MISWIRED. -/
def execIdentFlit (k : LinkIx) (node : Node) (config : Fin 4) (s : State) : Result :=
  let k := k.val
  if s.rd F.WEFT_LINK_STATE_STATE k = 1 then
    let s := s.wr F.WEFT_LINK_STATE_PEER k node.val
    if node.val = expectNode s.node k ∧ config.val = s.rd F.WEFT_CFG_CONFIG 0 then
      .next (s.wr I.identOk k 1)
    else .next ((s.wr F.WEFT_LINK_STATE_STATE k 5).classC 223 k)
  else .next s

/-- `KEY_FLIT` (R231): the pair key derived from the far end's signed value; a value whose signature
fails is a partner violation (R18). -/
def execKeyFlit (k : LinkIx) (sigOk : Bool) (value : BitVec 448) (s : State) : Result :=
  if s.rd F.WEFT_LINK_STATE_STATE k.val = 1 then
    if sigOk then
      let m := Tab.insert s.weft.pairKeys k.val (Config.pairKey (s.rd I.bootCount 0) value)
      .next { s with weft := { s.weft with pairKeys := m } }
    else .next ((s.bump F.WEFT_VIOL_COUNT 0).classC 231 k.val)
  else .next s

/-- `LINK_TRAINED` (R225): training, identification and key agreement complete. -/
def execLinkTrained (k : LinkIx) (s : State) : Result :=
  if s.rd F.WEFT_LINK_STATE_STATE k.val = 1 ∧ s.on I.identOk k.val ∧
      s.weft.pairKeys.any (·.1 == k.val) then
    .next ((s.wr F.WEFT_LINK_STATE_STATE k.val 2).heard k.val)
  else .next s

/-- `FEC_SECOND_CHECK` (R226): a lane above the threshold in 3 consecutive seconds fails.  `counts`:
symbols corrected on lanes 0-4 in the second. -/
def execFecSecondCheck (k : LinkIx) (counts : List Nat) (s : State) : Result :=
  let k := k.val
  if s.linkUp k then
    let s := s.bumpBy F.WEFT_LINK_ERR_FEC_CORR k counts.sum
    let bad := s.rd F.WEFT_LINK_STATE_BAD_LANE k
    let active := if s.rd F.WEFT_LINK_STATE_STATE k = 3 then (List.range 5).filter (· != bad)
                  else List.range 4
    .next (active.foldl (fun s lane =>
      let i := k * 8 + lane
      if s.cfgIn cfgLaneSwapCe 100 100000 < counts.getD lane 0 then
        let n := s.rd I.laneOver i + 1
        if 3 ≤ n then (s.wr I.laneOver i 0).laneFails k lane else s.wr I.laneOver i n
      else s.wr I.laneOver i 0) s)
  else .next s

/-- `LANE_BLOCK_LOCK_LOSS` (R226). -/
def execLaneBlockLockLoss (k : LinkIx) (lane : Fin 5) (s : State) : Result :=
  .next (s.laneFails k.val lane.val)

/-- A flit or message discarded by R229, R231 or R233. -/
def State.weftViolation (s : State) (rule k : Nat) : State :=
  (s.bump F.WEFT_VIOL_COUNT 0).classC rule k

/-- `LANE_SWAP_FLIT` (R226): this end switches too. -/
def execLaneSwapFlit (k : LinkIx) (lane : Fin 5) (s : State) : Result :=
  let k := k.val
  if ¬ s.linkUp k then .next s
  else if lane.val = 4 then .next (s.weftViolation 229 k)
  else if s.rd F.WEFT_LINK_STATE_STATE k = 2 then
    .next (((s.wr F.WEFT_LINK_STATE_BAD_LANE k lane.val).wr F.WEFT_LINK_STATE_STATE k 3).heard k)
  else if s.rd F.WEFT_LINK_STATE_BAD_LANE k = lane.val then .next (s.heard k)
  else .next (s.linkDown k)

/-- `LINK_RX_TIMEOUT` (R227): no valid flit for 100 µs. -/
def execLinkRxTimeout (k : LinkIx) (s : State) : Result :=
  if s.linkUp k.val then .next (s.linkDown k.val) else .next s

/-- `FLIT_CRC_ERROR` (R230): a CRC failure (`crc`) or a sequence gap makes the receiver send `NAK`
and discard until the replay. -/
def execFlitCrcError (k : LinkIx) (crc : Bool) (s : State) : Result :=
  let k := k.val
  if s.linkUp k then
    let s := if crc then s.bump F.WEFT_LINK_ERR_CRC_ERR k else s
    if s.on I.rxDiscard k then .next s
    else .next ((s.wr I.rxDiscard k 1).send (.flit k "NAK" [s.rd I.lackRx k]))
  else .next s

/-- Flits of a link freed up to and including an `LSEQ` of the replay buffer (R230). -/
def freeUpTo (k v : Nat) (l : List (Nat × Nat × Out)) : List (Nat × Nat × Out) :=
  let mine := l.filter fun e => e.1 == k
  if mine.any (fun e => e.2.1 == v) then
    let left := (mine.dropWhile (fun e => e.2.1 != v)).drop 1
    l.filter (fun e => e.1 != k) ++ left
  else l

/-- Flits that waited for room are sent (R230). -/
def State.drainWaiting (s : State) (k : Nat) : State :=
  let room := 256 - (s.weft.replay.filter fun e => e.1 == k).length
  let go := (s.weft.waiting.filter fun e => e.1 == k).take room
  let s : State := { s with weft := { s.weft with
    waiting := s.weft.waiting.filter (fun e => e.1 != k)
      ++ (s.weft.waiting.filter fun e => e.1 == k).drop room } }
  go.foldl (fun s e =>
    let n := s.rd I.lseq k
    let s : State := { s with weft := { s.weft with replay := s.weft.replay ++ [(k, n, e.2)] } }
    (s.wr I.lseq k (n + 1)).send e.2) s

/-- `NAK_FLIT` (R230, R227): the sender replays from the flit after the value; when 16 retries of one
flit have failed the link goes DOWN. -/
def execNakFlit (k : LinkIx) (value : BitVec 16) (s : State) : Result :=
  let k := k.val
  if ¬ s.linkUp k then .next s
  else
    let before := (s.weft.replay.filter fun e => e.1 == k).length
    let s : State := { s with weft := { s.weft with replay := freeUpTo k value.toNat s.weft.replay } }
    let mine := s.weft.replay.filter fun e => e.1 == k
    let s := if mine.length < before then s.wr I.retries k 0 else s
    if mine.isEmpty then .next (s.heard k)
    else if s.rd I.retries k = 16 then .next (s.linkDown k)
    else
      let s := (s.bump I.retries k).bump F.WEFT_LINK_ERR_REPLAYS k
      .next ((mine.foldl (fun s e => s.send e.2.2) s).heard k)

/-- `IDLE_FLIT` (R230): its `LACK` frees acknowledged flits. -/
def execIdleFlit (k : LinkIx) (lack : BitVec 16) (s : State) : Result :=
  let k := k.val
  if s.linkUp k then
    let before := (s.weft.replay.filter fun e => e.1 == k).length
    let s : State := { s with weft := { s.weft with replay := freeUpTo k lack.toNat s.weft.replay } }
    let s := if (s.weft.replay.filter fun e => e.1 == k).length < before then s.wr I.retries k 0 else s
    .next ((s.drainWaiting k).heard k)
  else .next s

/-- `IDLE_FLIT_SEND` (R227): an idle end sends `IDLE` with its `LACK`. -/
def execIdleFlitSend (k : LinkIx) (s : State) : Result :=
  if s.linkUp k.val then .next (s.send (.flit k.val "IDLE" [s.rd I.lackRx k.val])) else .next s

/-- `FLIT_INVALID` (R229). -/
def execFlitInvalid (k : LinkIx) (s : State) : Result :=
  if s.linkUp k.val then .next (s.weftViolation 229 k.val) else .next s

/-- `FLIT_RELAY` (R233): a flit for another node forwarded by the table, never back over its link,
never beyond 3 hops. -/
def execFlitRelay (k : LinkIx) (f : RelayFlit) (s : State) : Result :=
  if ¬ s.linkUp k.val ∨ f.dst.val = s.node then .next s
  else
    let s := (s.heard k.val).wr I.lackRx k.val (s.rd I.lackRx k.val + 1)
    if f.hops.val = 3 then .next (s.weftViolation 233 k.val)
    else match s.hopTo f.dst.val with
      | none => .next (s.weftViolation 233 k.val)
      | some j =>
        if j = k.val then .next (s.weftViolation 233 k.val)
        else .next (s.sendFlit j "RELAYED" [f.src.val, f.dst.val, f.hops.val + 1, f.dseq.toNat])

/-! ### Routes (R232) -/

/-- A route: first-hop link, far node, hops, whether it is not the direct one. -/
abbrev Route := Nat × Nat × Nat × Bool

/-- The same-side rule from node `n` to node `d` of its side; `up n k`: link W`k` of node `n` is up. -/
def sameSide (up : Nat → Nat → Bool) (n d : Nat) : Option Route :=
  let base := n / 8 * 8
  let direct (a b : Nat) : Bool := (directLink (a % 8) (b % 8)).any (up a)
  match directLink (n % 8) (d % 8) with
  | some k =>
    if up n k then some (k, d, 1, false)
    else if d = n ^^^ 1 ∧ up n 9 then some (9, d, 1, true)
    else if up n 9 ∧ direct (n ^^^ 1) d then some (9, n ^^^ 1, 2, true)
    else
      (((List.range 8).map (base + ·)).find? fun v =>
        v != n && v != d && direct n v && direct v d).bind fun v =>
          (directLink (n % 8) (v % 8)).map fun j => (j, v, 2, true)
  | none => none

/-- The route from node `n` to node `d`. -/
def routeTo (up : Nat → Nat → Bool) (n d : Nat) : Option Route :=
  let twin (a : Nat) : Bool := up a 7 || up a 8
  let direct (a b : Nat) : Bool := (directLink (a % 8) (b % 8)).any (up a)
  let twinLink := if up n 7 then 7 else 8
  if d = n then none
  else if d = n ^^^ 8 then
    if twin n then some (twinLink, d, 1, false)
    else if up n 9 then some (9, n ^^^ 1, 3, true) else none
  else if d / 8 = n / 8 then sameSide up n d
  else
    let t := n ^^^ 8
    if twin n ∧ direct t d then some (twinLink, t, 2, true)
    else if twin n ∧ (sameSide up t d).any (fun r => r.2.2.1 == 2) then some (twinLink, t, 3, true)
    else if up n 9 ∧ twin (n ^^^ 1) ∧ (d = n ^^^ 9 ∨ direct (n ^^^ 9) d) then
      some (9, n ^^^ 1, if d = n ^^^ 9 then 2 else 3, true)
    else none

/-- `ROUTE_RECOMPUTE` (R232): the table from the wiring and the link states; `others`: for other nodes,
their links that are up, as a mask. -/
def execRouteRecompute (others : List (Node × Nat)) (s : State) : Result :=
  let up (n k : Nat) : Bool :=
    if n = s.node then s.linkUp k
    else (others.find? fun e => e.1.val == n).any fun e => e.2.testBit k
  .next ((List.range 16).foldl (fun s d =>
    match routeTo up s.node d with
    | some r =>
      let s := (s.wr F.WEFT_ROUTE_DATA_LINK d r.1).wr F.WEFT_ROUTE_DATA_VIA d r.2.1
      ((s.wr F.WEFT_ROUTE_DATA_HOPS d r.2.2.1).wr F.WEFT_ROUTE_DATA_VALID d 1).wr
        F.WEFT_ROUTE_DATA_ALTERNATE d (bit r.2.2.2)
    | none =>
      let s := (s.wr F.WEFT_ROUTE_DATA_LINK d 0).wr F.WEFT_ROUTE_DATA_VIA d 0
      ((s.wr F.WEFT_ROUTE_DATA_HOPS d 0).wr F.WEFT_ROUTE_DATA_VALID d 0).wr
        F.WEFT_ROUTE_DATA_ALTERNATE d 0) s)

/-! ### Jobs -/

def State.job? (s : State) (b : Nat) : Option Job := (s.weft.jobs.find? (·.1 == b)).map (·.2)

def State.setJob (s : State) (b : Nat) (j : Job) : State :=
  { s with weft := { s.weft with jobs := Tab.insert s.weft.jobs b j } }

/-- The binding of this package's part of a job, by its handle. -/
def State.jobBinding? (s : State) (handle : Nat) : Option Nat :=
  (s.weft.jobs.find? fun e => s.rd F.WEFT_JOB_STATE_HANDLE e.1 == handle).map (·.1)

/-- Other participants of a job. -/
def Job.others (j : Job) : List Nat := (List.range j.nodes.length).filter (· != j.self)

/-- Whether job traffic is current (R239): sent under a tag of the sender's last accepted `JOIN`, in
the current epoch, while the job is not BROKEN. -/
def State.current (s : State) (b : Nat) (j : Job) (h : JobHdr) : Bool :=
  let who := j.nodes.idxOf h.src.val
  s.rd F.WEFT_JOB_STATE_STATE b != 3 && h.epoch.toNat == s.rd F.WEFT_JOB_STATE_EPOCH b &&
    (j.joins.find? fun e => e.1 == who).any fun e => e.2.2.contains h.gen.toNat

/-- A mask of the nodes of some participants. -/
def Job.mask (j : Job) (ps : List Nat) : Nat := maskOf (ps.map fun p => j.nodes.getD p 0)

/-- A barrier is passed when every other participant's token for the step is registered (R238). -/
def State.passBarrier (s : State) (b : Nat) (j : Job) : State :=
  match j.arrived with
  | some step =>
    if j.others.all fun p => j.tokens.contains (step, p) then
      s.setJob b { j with arrived := none, tokens := j.tokens.filter fun t => t.1 != step }
    else s.setJob b j
  | none => s.setJob b j

/-- Peer lost (R240). -/
def State.peerLost (s : State) (b : BindIx) (j : Job) (step : Nat) : State :=
  let missing := j.others.filter fun p => !j.tokens.contains (step, p)
  let s := (s.wr F.WEFT_JOB_STATE_STATE b.val 3).bump F.WEFT_JOB_STATE_LOSSES b.val
  let s := s.wr F.WEFT_JOB_STATE_EPOCH b.val (s.rd F.WEFT_JOB_STATE_EPOCH b.val + 1)
  let s := s.wr F.WEFT_JOB_PEERS_JOINED b.val 0
  let s := s.setJob b.val { j with joins := [], tokens := [], arrived := none, start := none }
  let s := s.abortWith b b.val 4
  let s := (s.ctxsOn b.val).foldl (fun s c =>
    let st := s.rd F.CTX_STATE_STATE c
    if st = 1 ∨ st = 2 ∨ st = 3 then s.holdCtx c 2 else s) s
  let handle := s.rd F.WEFT_JOB_STATE_HANDLE b.val
  let s := s.classC 240 (handle + 2 ^ 16 * j.mask missing)
  s.event 3 (le 1 b.val ++ [0] ++ le 2 handle ++ le 2 (j.mask missing))

/-- `BARRIER_ARRIVE` (R238): tokens to every other participant, and the step timer starts, when the
barrier spans packages. -/
def execBarrierArrive (p : Part) (step : Nat) (spans : Bool) (s : State) : Result :=
  match s.partBinding? p.val with
  | none => .next s
  | some (b, _) =>
    match s.job? b with
    | none => .next s
    | some j =>
      if spans ∧ s.rd F.WEFT_JOB_STATE_STATE b = 2 then
        let s := j.others.foldl (fun s q => s.flitTo (j.nodes.getD q 0) "BARRIER" [step, j.self]) s
        .next (s.passBarrier b { j with arrived := some step })
      else .next s

/-- `BARRIER_FLIT` (R238, R239). -/
def execBarrierFlit (h : JobHdr) (step participant : Nat) (s : State) : Result :=
  match s.jobBinding? h.job.toNat with
  | none => .next (s.bump F.WEFT_VIOL_STALE 0)
  | some b =>
    match s.job? b with
    | none => .next s
    | some j =>
      if s.current b j h then
        if j.others.contains participant then
          .next (s.passBarrier b { j with tokens := j.tokens ++ [(step, participant)] })
        else .next (s.weftViolation 229 participant)
      else .next (s.bump F.WEFT_VIOL_STALE 0)

/-- `STEP_TIMEOUT` (R238, R240): the step timer expires with a token missing. -/
def execStepTimeout (b : BindIx) (s : State) : Result :=
  match s.job? b.val with
  | none => .next s
  | some j =>
    match j.arrived with
    | some step => .next (s.peerLost b j step)
    | none => .next s

/-- `JOB_DATA_MSG` (R229, R231, R239, R101): taken whole, checked, moved into a leased bolt. -/
def execJobDataMsg (m : JobMsg) (s : State) : Result :=
  if ¬ m.tagOk then .next (s.weftViolation 231 m.hdr.src.val)
  else match s.job? m.binding.val, s.binding? m.binding.val with
    | some j, some x =>
      if ¬ s.current m.binding.val j m.hdr then .next (s.bump F.WEFT_VIOL_STALE 0)
      else if x.bolts.contains m.bolt.val ∧ (s.bolt m.bolt.val).state = .leased then
        .next (s.beamWrite m.bolt.val (m.line.val * 64) (m.data.take (2 ^ 20 - m.line.val * 64)))
      else .next (s.bump F.BEAM_LEASE_VIOL_COUNT 0)
    | _, _ => .next (s.bump F.WEFT_VIOL_STALE 0)

/-- `a` is a later epoch than `b`, modulo 16 (R241). -/
def laterEpoch (a b : Nat) : Bool := let d := (a + 16 - b) % 16; 0 < d && d < 8

/-- A job becomes FORMED when every other participant has joined in the current epoch (R236, R241). -/
def State.tryForm (s : State) (b : Nat) (j : Job) : State :=
  let e := s.rd F.WEFT_JOB_STATE_EPOCH b
  let in' := j.others.filter fun p => j.joins.any fun x => x.1 == p && x.2.1 == e
  let s := (s.setJob b j).wr F.WEFT_JOB_PEERS_JOINED b (j.mask in')
  if in'.length = j.others.length ∧ s.rd F.WEFT_JOB_STATE_STATE b ≠ 0 then
    s.wr F.WEFT_JOB_STATE_STATE b 2
  else s

/-- `JOIN_FLIT` (R236, R241). -/
def execJoinFlit (f : Join) (s : State) : Result :=
  match s.jobBinding? f.hdr.job.toNat with
  | none => .next s
  | some b =>
    match s.job? b with
    | none => .next s
    | some j =>
      let st := s.rd F.WEFT_JOB_STATE_STATE b
      if f.ident ≠ j.ident then
        if st = 1 ∧ s.bnd.cmd = some (.bind b) then .next (s.failBind b 0x0D) else .next s
      else if f.count ≠ j.nodes.length ∨ ¬ j.others.contains f.participant then .next s
      else
        let e := f.hdr.epoch.toNat
        let s := if st ≠ 2 ∧ laterEpoch e (s.rd F.WEFT_JOB_STATE_EPOCH b) then
          s.wr F.WEFT_JOB_STATE_EPOCH b e else s
        let joins := j.joins.filter (fun x => x.1 != f.participant) ++ [(f.participant, e, f.tags)]
        .next (s.tryForm b { j with joins := joins })

/-- `JOIN_SEND_TICK` (R236, R241): a FORMING or BROKEN part sends `JOIN` to every other participant. -/
def execJoinSendTick (b : BindIx) (s : State) : Result :=
  match s.job? b.val, s.binding? b.val with
  | some j, some x =>
    let st := s.rd F.WEFT_JOB_STATE_STATE b.val
    if st = 1 ∨ st = 3 then
      let tags := x.parts.map fun p => s.rd F.PART_GEN_GEN p
      .next (j.others.foldl (fun s q => s.flitTo (j.nodes.getD q 0) "JOIN"
        ([j.ident.toNat, j.self, j.nodes.length, s.rd F.WEFT_JOB_STATE_EPOCH b.val] ++ tags)) s)
    else .next s
  | _, _ => .next s

/-- `JOIN_WINDOW_EXPIRE` (R236): the bind ends `NO_WEFT` and its leases are released. -/
def execJoinWindowExpire (b : BindIx) (s : State) : Result :=
  if s.rd F.WEFT_JOB_STATE_STATE b.val = 1 ∧ s.bnd.cmd = some (.bind b.val) then
    .next (s.failBind b.val 0x0D)
  else .next s

/-- `FRAME_START_FLIT` (R237): the follower admits that frame next. -/
def execFrameStartFlit (h : JobHdr) (c : CtxIx) (age _frame : Nat) (s : State) : Result :=
  match s.jobBinding? h.job.toNat with
  | none => .next (s.bump F.WEFT_VIOL_STALE 0)
  | some b =>
    match s.job? b with
    | none => .next s
    | some j =>
      if s.current b j h then .next (s.setJob b { j with start := some (c.val, age) })
      else .next (s.bump F.WEFT_VIOL_STALE 0)

/-! ### Throttling within a job -/

/-- Throttle that applies to a job from nodes other than this one (R242). -/
def State.jobThrottle (s : State) (handle : Nat) : Nat :=
  s.weft.notices.foldl (fun m e =>
    if e.1 != s.node && e.2.1 == handle && s.within e.2.2.2 50000 then max m e.2.2.1 else m) 0

/-- `STRETCH_PCT` of every job follows the notices in force (R243). -/
def State.restretch (s : State) : State :=
  s.weft.jobs.foldl (fun s e =>
    s.wr F.WEFT_JOB_STATE_STRETCH_PCT e.1
      (min 90 (s.jobThrottle (s.rd F.WEFT_JOB_STATE_HANDLE e.1)))) s

/-- The stretched step timeout in µs (R243): T × 100 / (100 − min(t, 90)), rounded up. -/
def stretched (t us : Nat) : Nat := (us * 100 + (99 - min t 90)) / (100 - min t 90)

/-- `THROTTLE_NOTICE` (R242): the package's highest throttle over partitions that hold a part of a job,
and up to four handles, in turn in ascending order. -/
def execThrottleNotice (s : State) : Result :=
  let handles := sortBy Nat.ble ((s.weft.jobs.map fun e => s.rd F.WEFT_JOB_STATE_HANDLE e.1).eraseDups)
  let parts := s.weft.jobs.flatMap fun e => ((s.binding? e.1).map Binding.parts).getD []
  let t := parts.foldl (fun m p => max m (s.rd F.PART_THROTTLE_PCT p)) 0
  let last := s.rd I.noticeNext 0
  let turn := handles.filter (fun h => last < h) ++ handles.filter (fun h => h ≤ last)
  let named := if handles.length ≤ 4 then handles else turn.take 4
  let s : State := { s with stw := { s.stw with notice := named } }
  let s := s.wr I.noticePct 0 t
  .next (match named.getLast? with
    | some h => s.wr I.noticeNext 0 h
    | none => s)

/-- `THROTTLE_NOTICE_LAPSE` (R242): the node's throttle for the job is taken as 0. -/
def execThrottleNoticeLapse (node : Node) (job : BitVec 12) (s : State) : Result :=
  let left := s.weft.notices.filter fun e => !(e.1 == node.val && e.2.1 == job.toNat)
  let s : State := { s with weft := { s.weft with notices := left } }
  .next s.restretch

/-! ### Shadowing -/

/-- A shadow update sent to the twin (R247): the state sequence it carries, whole or the frame's part. -/
def State.sendUpdate (s : State) (c : Nat) (whole : Bool) : State :=
  let s := s.wr F.CTX_SHADOW_ACK_PENDING c 1
  s.messageTo (s.node ^^^ 8) "shadow update"
    [s.rd F.CTX_SHADOW_TWIN_CTX c, s.rd F.CTX_DELTA_SEQ_SEQ c, bit whole]

/-- `CTX_SHADOW_ENABLE` (R246): a write of 1 to `CTX_SHADOW.EN` of the selected context. -/
def execCtxShadowEnable (path : Path) (s : State) : Result :=
  let c := s.rd F.CTX_SEL_SEL (pathIx path)
  if s.rd F.CTX_STATE_STATE c = 0 ∨ s.rd F.CTX_STATE_STATE c = 6 ∨ s.rd F.CTX_SHADOW_ROLE c ≠ 0 then
    .next s
  else if s.rd F.WEFT_CFG_CONFIG 0 ≠ 3 then .next (s.wr F.CTX_SHADOW_STATUS_ERR c 1)
  else if (s.hopTo (s.node ^^^ 8)).isNone then .next (s.wr F.CTX_SHADOW_STATUS_ERR c 2)
  else
    let s := (s.wr F.CTX_SHADOW_EN c 1).wr F.CTX_SHADOW_STATUS_LAPSES c 0
    .next (s.messageTo (s.node ^^^ 8) "shadow request" [c])

/-- `WEFT_ACCEPT_WRITE` (R246): `EN` = 1 is taken only with an open spool of the binding's owner. -/
def execWeftAcceptWrite (path : Path) (v : Word) (s : State) : Result :=
  let b := s.rd F.WEFT_BIND_INDEX_BINDING (pathIx path)
  let sp := field v.toNat 11 2
  match s.binding? b with
  | none => .next s
  | some x =>
    if v.getLsbD 0 then
      if s.on F.SPOOL_SIZE_OPEN sp ∧ s.rd F.SPOOL_OWNER_OWNER sp = x.owner then
        .next ((s.wr F.WEFT_ACCEPT_EN b 1).wr F.WEFT_ACCEPT_SPOOL b sp)
      else .next s
    else .next ((s.wr F.WEFT_ACCEPT_EN b 0).wr F.WEFT_ACCEPT_SPOOL b sp)

/-- The lowest FREE context slot. -/
def State.freeCtxSlot? (s : State) : Option Nat :=
  (List.range 40960).find? fun c => !(s.bnd.ctxs.any (·.1 == c))

/-- Bindings that accept a copy of a bundle measurement and tenant key (R246). -/
def State.accepting (s : State) (measurement : BitVec 512) (fp : BitVec 256) : List Nat :=
  s.bnd.bindings.filterMap fun e =>
    let ok := s.on F.WEFT_ACCEPT_EN e.1 &&
      (s.bundle? e.2.handle).any (fun h => h.hdr.measurement == measurement) &&
      (s.owner? e.2.owner).any (fun o => o.tenantFp == fp)
    if ok then some e.1 else none

/-- `SHADOW_REQUEST_MSG` (R246): accepted into the lowest FREE slot, or refused with the cause of
`CTX_SHADOW_STATUS.ERR`. -/
def execShadowRequestMsg (node : Node) (c : CtxIx) (measurement : BitVec 512) (fp : BitVec 256)
    (s : State) : Result :=
  let reply (s : State) (cause slot : Nat) : Result :=
    .next (s.messageTo node.val "shadow reply" [c.val, cause, slot])
  if s.rd F.WEFT_CFG_CONFIG 0 ≠ 3 then reply s 1 0
  else
    let bs := s.accepting measurement fp
    if bs.isEmpty then reply s 3 0
    else match bs.find? (fun b => (s.freePlace? b 2).isSome) with
      | none => reply s 4 0
      | some b =>
        match s.freeCtxSlot?, s.binding? b with
        | some slot, some x =>
          let s := s.setCtx slot
            { owner := x.owner, handle := x.handle, binding := b, spool := 0,
              place := (s.freePlace? b 2).getD 0 }
          let s := (s.wr F.CTX_STATE_STATE slot 6).wr F.CTX_SHADOW_ROLE slot 2
          let s := (s.wr F.CTX_BUNDLE_BUNDLE slot x.handle).wr F.CTX_BUNDLE_BINDING slot b
          let s := (s.wr F.CTX_BUNDLE_OWNER slot x.owner).wr F.CTX_SHADOW_STATUS_STATE slot 4
          let s := s.wr F.CTX_SHADOW_STATUS_PRIMARY_CTX slot c.val
          let m := Tab.insert s.weft.copies slot { node := node.val, primary := c.val, binding := b }
          let s : State := { s with weft := { s.weft with copies := m } }
          reply s 0 slot
        | _, _ => reply s 5 0

/-- `SHADOW_REPLY_MSG` (R246, R247): the twin's slot and the first whole-state update, or the cause. -/
def execShadowReplyMsg (c : CtxIx) (cause : Fin 16) (slot : CtxIx) (s : State) : Result :=
  if ¬ s.on F.CTX_SHADOW_EN c.val ∨ s.rd F.CTX_SHADOW_ROLE c.val ≠ 0 then .next s
  else if cause.val = 0 then
    let s := (s.wr F.CTX_SHADOW_TWIN_CTX c.val slot.val).wr F.CTX_SHADOW_ROLE c.val 1
    .next ((s.wr F.CTX_SHADOW_STATUS_STATE c.val 1).sendUpdate c.val true)
  else .next ((s.wr F.CTX_SHADOW_EN c.val 0).wr F.CTX_SHADOW_STATUS_ERR c.val cause.val)

def State.copy? (s : State) (slot : Nat) : Option Copy :=
  (s.weft.copies.find? (·.1 == slot)).map (·.2)

def State.setCopy (s : State) (slot : Nat) (x : Copy) : State :=
  { s with weft := { s.weft with copies := Tab.insert s.weft.copies slot x } }

/-- `SHADOW_UPDATE_MSG` (R247, R491): into the journal; when the tag verifies, committed header last
and acknowledged, unless the state's group is fenced. -/
def execShadowUpdateMsg (slot : CtxIx) (tagOk : Bool) (st : ShadowState) (s : State) : Result :=
  match s.copy? slot.val with
  | none => .next (s.weftViolation 229 slot.val)
  | some x =>
    if (s.ctxGroups slot.val).any s.inReset then .next s
    else if tagOk then
      let s := s.setCopy slot.val { x with committed := some st, journal := none }
      let s := s.wr F.CTX_SHADOW_STATUS_STATE slot.val 4
      .next (s.flitTo x.node "SHADOW_ACK" [x.primary, st.seq.toNat])
    else .next ((s.setCopy slot.val { x with journal := none }).weftViolation 231 slot.val)

/-- `SHADOW_ACK_FLIT` (R247): releases the primary's held next frame. -/
def execShadowAckFlit (c : CtxIx) (seq : BitVec 32) (s : State) : Result :=
  if s.on F.CTX_SHADOW_ACK_PENDING c.val ∧ seq.toNat = s.rd F.CTX_DELTA_SEQ_SEQ c.val then
    .next ((s.wr F.CTX_SHADOW_ACK_PENDING c.val 0).wr F.CTX_SHADOW_STATUS_STATE c.val 2)
  else .next s

/-- `SHADOW_ACK_TIMEOUT` (R248): shadowing lapses. -/
def execShadowAckTimeout (c : CtxIx) (s : State) : Result :=
  if s.on F.CTX_SHADOW_ACK_PENDING c.val then
    let s := (s.wr F.CTX_SHADOW_ACK_PENDING c.val 0).wr F.CTX_SHADOW_STATUS_STATE c.val 3
    let s := ((s.wr F.CTX_SHADOW_STATUS_ERR c.val 6).bump F.CTX_SHADOW_STATUS_LAPSES c.val).classC 248 c.val
    .next (s.messageTo (s.node ^^^ 8) "lapse" [1, s.rd F.CTX_SHADOW_TWIN_CTX c.val])
  else .next s

/-- `SHADOW_RESYNC` (R248): a route to the twin exists again, between two frames. -/
def execShadowResync (c : CtxIx) (s : State) : Result :=
  if s.rd F.CTX_SHADOW_STATUS_STATE c.val = 3 ∧ s.rd F.CTX_SHADOW_ROLE c.val = 1 ∧
      (s.hopTo (s.node ^^^ 8)).isSome ∧ s.rd F.CTX_STATE_STATE c.val ≠ 3 then
    .next ((s.wr F.CTX_SHADOW_STATUS_STATE c.val 1).sendUpdate c.val true)
  else .next s

/-- `SHADOW_ROUTE_LOST` (R248): no route to the primary for the step timeout. -/
def execShadowRouteLost (node : Node) (s : State) : Result :=
  .next (s.weft.copies.foldl (fun s e =>
    if e.2.node = node.val then s.wr F.CTX_SHADOW_STATUS_STATE e.1 5 else s) s)

/-- `FETCH_REQUEST_MSG` (R158): the twin answers with carried tensors and the decode region. -/
def execFetchRequestMsg (slot : CtxIx) (s : State) : Result :=
  match s.copy? slot.val with
  | some x =>
    match x.committed with
    | some st => .next (s.messageTo x.node "fetch reply"
        (x.primary :: st.seq.toNat :: st.carried.map BitVec.toNat))
    | none => .next s
  | none => .next s

/-- The delta state that a committed copy gives (R156, R157). -/
def deltaOf (st : ShadowState) : DeltaSt :=
  { started := true, seq := st.seq.toNat, countdown := st.countdown, valid := st.valid, sel := false,
    carried0 := st.carried, carriedInit := false,
    accs := st.accs.foldl (fun m e => Tab.insert m e.1 e.2) [],
    refs := st.refs.foldl (fun m e => Tab.insert m e.1 e.2) [] }

/-- A copy taken over (R249, R156, R157): READY on its accepting binding and spool, with the deadline
and delta policy of the copy; a refresh of cause 5 when asked or when nothing was committed. -/
def State.takeOver (s : State) (slot : Nat) : State :=
  match s.copy? slot, s.ctx? slot with
  | some x, some c =>
    let sp := s.rd F.WEFT_ACCEPT_SPOOL x.binding
    let stale := s.rd F.CTX_SHADOW_STATUS_STATE slot == 5
    let s := match x.committed with
      | some st =>
        let s := s.setCtx slot { c with spool := sp, delta := deltaOf st }
        let s := (s.wr F.CTX_DEADLINE_US_DEADLINE slot st.deadline).wr F.CTX_REFRESH_EVERY_N slot st.refreshEvery
        let p := st.policy.toNat
        let s := (s.wr F.CTX_DELTA_POLICY_ENABLE slot (field p 0 0)).wr F.CTX_DELTA_POLICY_STAGGER slot (field p 1 1)
        let s := (s.wr F.CTX_DELTA_POLICY_REFRESH_ON_TAKEOVER slot (field p 3 3)).wr
          F.CTX_DELTA_POLICY_THRESH_SCALE slot (field p 11 4)
        let s := (s.wr F.CTX_DELTA_POLICY_PEAK_FACTOR slot (field p 15 12)).wr
          F.CTX_DELTA_POLICY_SCENE_CUT slot (field p 23 16)
        let s := (s.wr F.CTX_DELTA_SEQ_SEQ slot st.seq.toNat).wr F.CTX_REFRESH_EVERY_COUNTDOWN slot st.countdown
        (s.wr F.CTX_DELTA_STATUS_STATE_VALID slot (bit st.valid)).wr F.CTX_DECODE_BROKEN slot (bit st.decodeBroken)
      | none => s.setCtx slot { c with spool := sp }
    let s := (s.wr F.CTX_DELTA_STATUS_PLAN slot (bit (s.planOf slot).isSome)).wr F.CTX_SPOOL_SPOOL slot sp
    let s := if s.on F.CTX_DELTA_POLICY_REFRESH_ON_TAKEOVER slot ∨ x.committed.isNone then s.addCause slot 5 else s
    let s := (s.wr F.CTX_STATE_STATE slot 1).wr F.CTX_SHADOW_EN slot 0
    let s := (s.wr F.CTX_SHADOW_ROLE slot 0).wr F.CTX_SHADOW_STATUS_STATE slot (if stale then 5 else 0)
    let s : State := { s with weft := { s.weft with copies := Tab.drop s.weft.copies slot } }
    (s.classC 249 slot).event 1 (le 4 slot ++ le 4 x.primary ++ le 1 x.node)
  | _, _ => s

/-- `LAPSE_NOTICE_MSG` (R248, R495): reason 1 marks the copy COPY_STALE; reason 2 takes it over. -/
def execLapseNoticeMsg (reason : Fin 3) (slot : CtxIx) (s : State) : Result :=
  match s.copy? slot.val with
  | none => .next s
  | some _ =>
    if reason.val = 1 then .next (s.wr F.CTX_SHADOW_STATUS_STATE slot.val 5)
    else if reason.val = 2 then .next (s.takeOver slot.val)
    else .next (s.weftViolation 229 slot.val)

/-- `TWIN_TAKEOVER` (R249): every copy whose primary is the node. -/
def execTwinTakeover (node : Node) (s : State) : Result :=
  .next ((s.weft.copies.filter fun e => e.2.node == node.val).foldl (fun s e => s.takeOver e.1) s)

end Sys2Proof.Machine
end

