-- ==== Sys2Proof/Machine/Binding.lean ====
section
/-! DEFINITION. The command window: bundles, bindings, spools and contexts opened, moved and closed
(06_contexts_and_binding; the ends of leases of 04). -/

namespace Sys2Proof.Machine

/-! ### Descriptors (R166) -/

/-- The fields of a command descriptor that some opcode uses. -/
structure Desc where
  flags : Nat
  owner : Nat
  bundle : Nat
  mask : Nat
  ctx : Nat
  spool : Nat
  decode : Nat
  weft : Nat
  group : Nat
  target : Nat
  deadline : Nat
  seq : Nat
  deriving DecidableEq, Repr

/-- `len` bytes of a 64-byte unit from byte `k` on, little-endian. -/
def unitField (d : Unit64) (k len : Nat) : Nat := d.toNat / 2 ^ (8 * k) % 2 ^ (8 * len)

/-- The layout of R166. -/
def Desc.of (d : Unit64) : Desc :=
  { flags := unitField d 1 1, owner := unitField d 2 2, bundle := unitField d 4 2,
    mask := unitField d 6 2, ctx := unitField d 8 4, spool := unitField d 12 2,
    decode := unitField d 14 2, weft := unitField d 16 2, group := unitField d 18 1,
    target := unitField d 19 1, deadline := unitField d 20 4, seq := unitField d 40 8 }

def Desc.ownerOk (x : Desc) : Bool := decide (1 ≤ x.owner ∧ x.owner ≤ 4095)
def Desc.bundleOk (x : Desc) : Bool := decide (x.bundle < 1024)
def Desc.ctxOk (x : Desc) : Bool := decide (x.ctx < 40960)
def Desc.spoolOk (x : Desc) : Bool := decide (x.spool < 1024)
def Desc.targetOk (x : Desc) : Bool := decide (x.target < 16)
def Desc.flagsOk (x : Desc) : Bool := decide (x.flags < 8)
def Desc.groupOk (x : Desc) : Bool := decide (x.group < 16 ∨ x.group = 0xFF)

/-- The fields of a bind within their ranges (R166, R208, R234). -/
def Desc.bindOk (x : Desc) : Bool :=
  x.ownerOk && x.bundleOk && x.groupOk && x.flagsOk && decide (1 ≤ x.ctx ∧ x.ctx ≤ 40960) &&
  decide (x.decode % 1024 ≤ 192 ∧ x.decode / 1024 ≤ 16) && decide (x.weft ≤ 64)

/-! ### The start of a command -/

/-- `FRONT_N` is asserted, or a power or thermal emergency is active (R168). -/
def State.emergency (s : State) : Bool :=
  s.on F.PWR_INPUT_FRONT 0 || (List.range 26).any (fun z => s.rd I.thrLevel z != 0) ||
  s.rd I.rorLevel 0 != 0

/-- The descriptor of the registered command is read (R164). -/
def State.readDesc (s : State) : State :=
  (s.wr I.cmdDeferred 0 0).hostSend (.hostRead (s.rd F.CMD_ADDR 0 / 64 * 64) 64)

/-- The device starts to execute the registered command (R164, R168). -/
def State.startCmd (s : State) : State := (s.wr I.cmdPaused 0 (bit s.emergency)).readDesc

/-- `CMD_GO` (R164, R168): ignored with a class C event while a command is busy. -/
def execCmdGo (_path : Path) (s : State) : Result :=
  if s.on F.CMD_STATUS_BUSY 0 then .next (s.classC 164 0)
  else
    let s : State := { s with bnd := { s.bnd with cmd := some .waiting } }
    let s := s.wr F.CMD_STATUS_BUSY 0 1
    if s.on F.HOST_STATUS_FW_UP 0 then .next s.startCmd else .next (s.wr I.cmdDeferred 0 1)

/-- A write of 1 to `CMD_GO` is in the write queue. -/
def State.goQueued (s : State) : Bool :=
  s.host.writeQueue.any fun e => e.1 == .CMD_GO && e.2.2.getLsbD 0

/-- `CMD_DEFERRED_START` (R168): firmware serves again; a command whose write is still in the write queue
reads its descriptor when that write is applied. -/
def execCmdDeferredStart (s : State) : Result :=
  if s.on I.cmdDeferred 0 ∧ s.on F.HOST_STATUS_FW_UP 0 then
    if s.goQueued then .next ((s.wr I.cmdPaused 0 (bit s.emergency)).wr I.cmdDeferred 0 2)
    else .next s.startCmd
  else .next s

/-- A command awaits its descriptor, and firmware is up to take it: one that waits at a crash takes none
and ends at the restart (R306). -/
def State.ready (s : State) : Bool :=
  s.bnd.cmd == some .waiting && s.rd I.cmdDeferred 0 == 0 && s.on F.HOST_STATUS_FW_UP 0

/-- The authenticator verifies and `SEQ` is above the owner's last accepted one (R165). -/
def State.authentic (s : State) (x : Desc) (tagOk : Bool) : Bool :=
  tagOk && (s.owner? x.owner).any fun o => !o.closing && decide (o.lastSeq < x.seq)

def State.setOwner (s : State) (n : Nat) (o : Owner) : State :=
  { s with bnd := { s.bnd with owners := Tab.insert s.bnd.owners n o } }

/-- The owner's last accepted `SEQ` (R165). -/
def State.acceptSeq (s : State) (x : Desc) : State :=
  match s.owner? x.owner with
  | some o => s.setOwner x.owner { o with lastSeq := x.seq }
  | none => s

/-- A command with its descriptor (R165, R168, R174): refused with `BAD_DESCRIPTOR`, `AUTH` or `PAUSED`, or
carried out. -/
def State.command (s : State) (d : Unit64) (tagOk ok pausable : Bool) (body : Desc → State → State) :
    State :=
  if s.ready then
    let x := Desc.of d
    let auth := s.authentic x tagOk
    let s := if auth then s.acceptSeq x else s
    if !ok then s.endCmd 0x01
    else if !auth then (s.bump F.SEC_AUTH_CMD_FAILS 0).endCmd 0x02
    else if pausable && s.on I.cmdPaused 0 then s.endCmd 0x14
    else body x s
  else s

/-- The command in execution. -/
def State.setCmd (s : State) (c : CmdRun) : State := { s with bnd := { s.bnd with cmd := some c } }

/-- `CMD_UNKNOWN_OPCODE` (R167). -/
def execCmdUnknownOpcode (desc : Unit64) (tagOk : Bool) (s : State) : Result :=
  .next (s.command desc tagOk false false fun _ s => s)

/-! ### Bundles -/

/-- Extents of a bundle's store (R169). -/
def storeExtents (bytes : Nat) : Nat := max 1 ((bytes + 2 ^ 26 - 1) / 2 ^ 26)

/-- The first group of a list with room for `n` extents and a key. -/
def State.roomIn (s : State) (gs : List Nat) (n : Nat) : Option Nat :=
  gs.find? fun g => decide (n ≤ (s.freeExts g).length) && (s.freeSlot? g).isSome

/-- The group with the most FREE extents, the lowest-numbered on a tie (R169). -/
def State.emptiestGroup (s : State) : Nat :=
  (List.range 16).foldl (fun b g =>
    if (s.freeExts b).length < (s.freeExts g).length then g else b) 0

/-- Why no group of a list has room: extents, or key slots (R169). -/
def State.noRoom (s : State) (gs : List Nat) (n : Nat) : Nat :=
  if gs.any fun g => decide (n ≤ (s.freeExts g).length) then 0x0B else 0x0A

/-- Groups in ascending order, modulo 16, from one on. -/
def groupsFrom (g : Nat) : List Nat := (List.range 16).map fun k => (g + k) % 16

/-- The lowest free bundle handle. -/
def State.freeHandle? (s : State) : Option Nat :=
  (List.range 1024).find? fun h => !(s.bnd.bundles.any (·.1 == h))

/-- A verified bundle placed (R169, R125): both copies' leases, or the reason of the refusal. -/
def State.loadBundle (s : State) (x : Desc) (b : BundleHdr) : State :=
  if b.plan.any planBad then s.endCmd 0x19
  else match s.freeHandle? with
    | none => s.endCmd 0x17
    | some h =>
      let n := storeExtents b.storeBytes
      let gs := groupsFrom (if x.group < 16 then x.group else s.emptiestGroup)
      match s.roomIn gs n with
      | none => s.endCmd (s.noRoom gs n)
      | some g =>
        let hs := (groupsFrom (g + 2)).filter fun k => k / 2 != g / 2
        match s.roomIn hs n with
        | none => s.endCmd (s.noRoom hs n)
        | some g2 =>
          let r1 := s.makeLeases x.owner (.store h) [(g, (s.freeExts g).take n)]
          let r2 := r1.2.makeLeases x.owner (.store h) [(g2, (r1.2.freeExts g2).take n)]
          let s := r2.2.setBundle h
            { owner := x.owner, hdr := b, copy1 := r1.1.headD 0, copy2 := r2.1.headD 0 }
          (s.wr F.CMD_RESULT_HANDLE 0 h).endCmd 0

/-- `BUNDLE_LOAD` (R169, R125, R133, R327): `b` is what the host memory holds at `HOST_ADDR`.  It waits
while the DRBG is stopped, since its leases need keys (R341). -/
def execBundleLoad (desc : Unit64) (tagOk : Bool) (b : SealedBundle) (s : State) : Result :=
  let x := Desc.of desc
  if s.on F.SEC_STATUS_DRBG_STOP 0 then .next s
  else .next (s.command desc tagOk (x.ownerOk && x.groupOk) false fun x s =>
    if b.tagOk && decide (24 ≤ unitField desc 32 4) then s.loadBundle x b.hdr else s.endCmd 0x02)

/-- `BUNDLE_DROP` (R170). -/
def execBundleDrop (desc : Unit64) (tagOk : Bool) (s : State) : Result :=
  let x := Desc.of desc
  .next (s.command desc tagOk (x.ownerOk && x.bundleOk) false fun x s =>
    match s.bundle? x.bundle with
    | none => s.endCmd 0x04
    | some h =>
      if h.owner ≠ x.owner then s.endCmd 0x03
      else if s.bnd.bindings.any fun y => y.2.handle == x.bundle then s.endCmd 0x05
      else (s.dropBundle x.bundle).endCmd 0)

/-! ### What a bind asks for -/

/-- Units of a decode engine (R209). -/
def engineUnits (e : Nat) : Nat := if e < 24 then 32 else 4

/-- Units of an engine that no binding holds. -/
def State.engineFree (s : State) (e : Nat) : Nat :=
  engineUnits e - (s.bnd.bindings.map fun b =>
    (b.2.grants.map fun g => if g.1 = e then g.2 else 0).sum).sum

/-- Units taken from engines in order, all free units of one before the next (R209); the rest is
missing. -/
def State.takeUnits (s : State) : List Nat → Nat → List (Nat × Nat) × Nat
  | [], n => ([], n)
  | e :: es, n =>
    let k := min n (s.engineFree e)
    let r := s.takeUnits es (n - k)
    (if k = 0 then r.1 else (e, k) :: r.1, r.2)

/-- Video engines of a quadrant. -/
def videoEngines (q : Nat) : List Nat := (List.range 6).map (6 * q + ·)

/-- JPEG engines of a quadrant: J0-J3 in BQ0, J4-J7 in BQ2. -/
def jpegEngines (q : Nat) : List Nat :=
  if q = 0 then [24, 25, 26, 27] else if q = 2 then [28, 29, 30, 31] else []

/-- Units of weft bandwidth of a link that no binding holds (R234). -/
def State.linkFree (s : State) (k : Nat) : Nat :=
  let all := if k = 9 then 0 else if k = 7 ∨ k = 8 then 64 - s.cfgIn cfgShadowRsv 0 48 else 64
  all - (s.bnd.bindings.map fun b => if b.2.links.contains k then b.2.weftShare else 0).sum

/-- First-hop links to the other participants of a job (R234); a striped twin route takes W7 and W8;
none: a participant without a route. -/
def State.jobLinks (s : State) (m : JobMap) : List (Option Nat) :=
  (List.range m.nodes.length).flatMap fun p =>
    if p = m.self then []
    else match s.hopTo ((m.nodes.map Fin.val).getD p 0) with
      | none => [none]
      | some k => if (k = 7 ∨ k = 8) ∧ s.linkUp 7 ∧ s.linkUp 8 then [some 7, some 8] else [some k]

/-- The outcome of a bind's decision tick (R173): reasons of refusal, shortfalls, and what is granted. -/
structure BindPlan where
  codes : List Nat := []
  noParts : Nat := 0
  noBolts : Nat := 0
  noExts : Nat := 0
  noKeys : Nat := 0
  noUnits : Nat := 0
  parts : List Nat := []
  bolts : List Nat := []
  level : Nat := 0
  slowdown : Nat := 0
  places : List (Nat × List Nat) := []
  quadrant : Nat := 0
  grants : List (Nat × Nat) := []
  links : List Nat := []
  deriving DecidableEq, Repr

/-- UNBOUND partitions that a bind may choose itself (R172). -/
def State.openParts (s : State) : List Nat :=
  (List.range 16).filter fun p =>
    s.rd F.PART_STATE_STATE p == 0 && decide (96 ≤ s.rd F.PART_CLUSTERS_OK_CLUSTERS_OK p)

/-- The partitions of a bind (R172, R179): of a re-bind the old ones, else those named, else the lowest
open ones; and how many are missing. -/
def State.chooseParts (s : State) (x : Desc) (n : Nat) (again : Option (List Nat)) :
    List Nat × Nat :=
  match again with
  | some ps => (ps, ps.countP fun p => s.rd F.PART_STATE_STATE p == 7)
  | none =>
    if x.mask = 0 then
      let ps := s.openParts.take n
      (ps, n - ps.length)
    else
      let ps := (List.range 16).filter fun p => x.mask.testBit p
      (ps, ps.countP fun p => s.rd F.PART_STATE_STATE p != 0)

/-- The spill level that a bind takes (R176): level number and level, the extra shortfall after the
highest level when none covers it. -/
def spillFor (levels : List SpillLevel) (short : Nat) : Option (Nat × SpillLevel) :=
  (levels.zipIdx.find? fun l => short ≤ l.1.bolts).map fun l => (l.2 + 1, l.1)

/-- A bind decided against what is free at the start of the tick (R173). -/
def State.bindPlan (s : State) (x : Desc) (h : Bundle) (again : Option (List Nat)) : BindPlan :=
  let hdr := h.hdr
  let pc := s.chooseParts x hdr.partitions again
  let parts := pc.1
  let first := parts.headD 0
  -- bolts and spill (R117, R176)
  let free := s.freeBolts
  let short := hdr.bolts - free
  let levels := if x.flags.testBit 0 then [] else hdr.spill.take 8
  let lvl := if short = 0 then some (0, ⟨0, 0, 0⟩) else spillFor levels short
  let best := ((levels.getLast?).map SpillLevel.bolts).getD 0
  let used := lvl.getD (0, ⟨0, 0, 0⟩)
  let bolts := (s.boltOrder first).take (hdr.bolts - used.2.bolts)
  let noBolts := if lvl.isSome then 0 else short - best
  -- state leases (R170, R171, R536)
  let n := (x.ctx * hdr.stateBytes + 2 ^ 26 - 1) / 2 ^ 26 + used.2.extents
  let w := s.walk (if x.group < 16 then x.group else first) n
  let total := ((List.range 16).map fun g => (s.freeExts g).length).sum
  let noKeys := if w.2.1 = 0 then 0 else w.2.2
  -- decoder share (R207-R209)
  let q := match bolts with
    | b :: _ => b / 64
    | [] => first / 4
  let video := s.takeUnits (videoEngines q) (x.decode % 1024)
  let jpeg := s.takeUnits (jpegEngines q) (x.decode / 1024)
  let noUnits := video.2 + jpeg.2
  -- weft share (R234)
  let links := match hdr.job with
    | some m => if x.weft = 0 then [] else (s.jobLinks m).eraseDups
    | none => []
  let noWeft := links.any fun k =>
    match k with
    | none => true
    | some k => decide (s.linkFree k < x.weft)
  let cOf (p : Nat) : Nat := s.rd F.PART_CLUSTERS_OK_CLUSTERS_OK p
  let codes :=
    (if h.lost1 && h.lost2 then [0x04] else []) ++
    (if pc.2 = 0 then [] else [0x06]) ++
    (if parts.any fun p => decide (cOf p < 96) then [0x07] else []) ++
    (if parts.any fun p => decide (96 ≤ cOf p) && !hasVariant hdr (cOf p) then [0x08] else []) ++
    (if lvl.isSome then [] else [0x09]) ++
    (if w.2.1 ≠ 0 ∧ total < n then [0x0A] else []) ++
    (if noKeys = 0 then [] else [0x0B]) ++
    (if noUnits = 0 then [] else [0x0C]) ++
    (if noWeft then [0x0D] else []) ++
    (if parts.any fun p => s.rd F.PART_CAP_FRACTION_FRACTION p == 0 then [0x0E] else [])
  { codes, noParts := pc.2, noBolts, noExts := w.2.1, noKeys, noUnits, parts, bolts,
    level := used.1, slowdown := used.2.slowdown, places := w.1, quadrant := q,
    grants := video.1 ++ jpeg.1, links := links.filterMap id }

/-- The number of partitions named by a bind is not the bundle's (R172). -/
def wrongCount (x : Desc) (n : Nat) (again : Option (List Nat)) : Bool :=
  match again with
  | some ps => ps.length != n
  | none => x.mask != 0 && popCount 16 x.mask != n

/-- The registers of a refused bind (R173). -/
def State.showMissing (s : State) (p : BindPlan) : State :=
  let s := (s.wr F.CMD_MISSING0_BOLTS 0 (min 511 p.noBolts)).wr F.CMD_MISSING0_PARTITIONS 0 (min 16 p.noParts)
  let s := s.wr F.CMD_MISSING1_EXTENTS 0 (min 16383 p.noExts)
  (s.wr F.CMD_MISSING1_DECODE_UNITS 0 (min 255 p.noUnits)).wr F.CMD_MISSING1_KEY_SLOTS 0 (min 255 p.noKeys)

/-! ### Granting a bind -/

/-- A binding that keeps its leases without partitions gives up the number and the partitions that a new
binding takes (notes/assumptions/24). -/
def State.displace (s : State) (b : Nat) (parts : List Nat) : State :=
  let keep := s.bnd.bindings.map fun y => (y.1, { y.2 with parts := y.2.parts.filter (!parts.contains ·) })
  let s : State := { s with bnd := { s.bnd with bindings := keep } }
  match s.binding? b with
  | none => s
  | some y =>
    let n := (((List.range 65536).map fun k => b + 16 * (k + 1)).find? fun n =>
      !(s.bnd.bindings.any (·.1 == n))).getD (b + 16)
    let cs := s.ctxsOn b
    let s : State := { s with bnd := { s.bnd with bindings := Tab.drop s.bnd.bindings b } }
    let s := s.setBinding n y
    let s := cs.foldl (fun s c =>
      match s.ctx? c with
      | some z => s.setCtx c { z with binding := n }
      | none => s) s
    let use := s.bnd.decodeUse.map fun e => if e.2.1 = b then (e.1, n, e.2.2) else e
    let copies := s.weft.copies.map fun e => if e.2.binding = b then (e.1, { e.2 with binding := n }) else e
    let s : State := { s with
      bnd := { s.bnd with decodeUse := use }
      weft := { s.weft with jobs := Tab.drop s.weft.jobs b, copies := copies } }
    s.reapDisplaced

/-- A bind with a job map starts a job, FORMING (R236). -/
def State.startJob (s : State) (b : Nat) (m : JobMap) : State :=
  let nodes := m.nodes.map Fin.val
  let t := if m.stepTimeoutMs = 0 then s.rd F.WEFT_CFG_STEP_TIMEOUT_MS 0 else m.stepTimeoutMs
  let s := s.setJob b { ident := m.ident, nodes := nodes, self := m.self, timeoutMs := t }
  let s := (s.wr F.WEFT_JOB_STATE_STATE b 1).wr F.WEFT_JOB_STATE_EPOCH b 0
  let s := (s.wr F.WEFT_JOB_STATE_HANDLE b m.ident.toNat).wr F.WEFT_JOB_STATE_LOSSES b 0
  ((s.wr F.WEFT_JOB_PEERS_EXPECTED b (maskOf nodes)).wr F.WEFT_JOB_PEERS_JOINED b 0).restretch

/-- One partition of a granted bind: a sweep when one is due or asked for, else its repair decision and
schedule (R58, R175, R179 step 5). -/
def State.beginPart (s : State) (sweep : Bool) (owner : Nat) (p : Nat) : State :=
  let s := s.wr F.PART_LEASE_OWNER_OWNER p owner
  if sweep || s.sweepDue p then s.startSweep p
  else
    let s := s.repairDecision (Fin.ofNat 16 p)
    if s.rd F.PART_CLUSTERS_OK_CLUSTERS_OK p < 96 then s else s.placeSchedule p owner

/-- What the repair decisions of a bind leave it (R47, R50, R173): it goes on to load its bundle, or it
fails. -/
def State.judgeBind (s : State) (b : Nat) : State :=
  match s.binding? b with
  | none => s
  | some x =>
    let cOf (p : Nat) : Nat := s.rd F.PART_CLUSTERS_OK_CLUSTERS_OK p
    if x.parts.any fun p => decide (cOf p < 96) then s.failBind b 0x07
    else if x.parts.any fun p => !(s.bundle? x.handle).any fun h => hasVariant h.hdr (cOf p) then
      s.failBind b 0x08
    else s.setBinding b { x with phase := .loading }

/-- A bind granted (R173): every lease in one tick, then sweeps or schedules. -/
def State.grantBind (s : State) (x : Desc) (h : Bundle) (p : BindPlan) : State :=
  let b := p.parts.foldl min 15
  let s := s.displace b p.parts
  let s := s.leaseBolts p.bolts x.owner
  let r := s.makeLeases x.owner (.state b) p.places
  let sweep := x.flags.testBit 2
  let due := p.parts.filter fun k => sweep || r.2.sweepDue k
  let s := r.2.setBinding b
    { owner := x.owner, handle := x.bundle, parts := p.parts, bolts := p.bolts, leases := r.1,
      capacity := x.ctx, decodeUnits := x.decode, grants := p.grants, weftShare := x.weft,
      spill := p.level, slowdown := p.slowdown, quadrant := p.quadrant, phase := .sweep,
      links := p.links, sweeping := due }
  let s := s.setCmd (.bind b)
  let s := match h.hdr.job with
    | some m => s.startJob b m
    | none => s
  let s := p.parts.foldl (State.beginPart · sweep x.owner) s
  if due.isEmpty then s.judgeBind b else s

/-- A bind or the second half of a re-bind (R173, R179 step 4). -/
def State.tryBind (s : State) (x : Desc) (again : Option (List Nat)) (refuse : Nat → State → State) :
    State :=
  match s.bundle? x.bundle with
  | none => refuse 0x04 s
  | some h =>
    if h.owner ≠ x.owner then refuse 0x03 s
    else if wrongCount x h.hdr.partitions again then refuse 0x01 s
    else
      let p := s.bindPlan x h again
      match p.codes with
      | [] => s.grantBind x h p
      | c :: _ => refuse c (s.showMissing p)

/-- `BIND` (R170-R176). -/
def execBind (desc : Unit64) (tagOk : Bool) (s : State) : Result :=
  if s.on F.SEC_STATUS_DRBG_STOP 0 then .next s
  else .next (s.command desc tagOk (Desc.of desc).bindOk true fun x s =>
    s.tryBind x none fun c s => s.endCmd c)

/-- A partition whose sweep ended joins the bind (R59 step 8): BINDING, or UNBINDABLE below 96 good
clusters. -/
def State.afterSweep (s : State) (p owner : Nat) : State :=
  if s.rd F.PART_CLUSTERS_OK_CLUSTERS_OK p < 96 then s.partOff p 7 else s.placeSchedule p owner

/-- `SWEEP_COMPLETE` (R59-R61): the results of a partition's sweep; `fault`: a fault that R51 does not
list ended the sweep.  `failed`: the cores that failed; `dur`: the duration in `PART_SWEEP_STATUS` units. -/
def execSweepComplete (p : Part) (fault : Bool) (failed : List (Cluster × CoreIx)) (dur : Nat)
    (s : State) : Result :=
  if s.rd F.PART_STATE_STATE p.val ≠ 1 then .next s
  else match s.partBinding? p.val with
    | none =>
      if fault then .next (s.partOff p.val 0)
      else
        let s := s.sweepResult p failed dur
        .next (s.partOff p.val (if s.rd F.PART_CLUSTERS_OK_CLUSTERS_OK p.val < 96 then 7 else 0))
    | some (b, x) =>
      if fault then .next (s.failBind b 0x12)
      else
        let s := (s.sweepResult p failed dur).afterSweep p.val x.owner
        let left := x.sweeping.filter (· != p.val)
        let s := s.setBinding b { x with sweeping := left }
        .next (if left.isEmpty then s.judgeBind b else s)

/-- The bundle's copies and, for a first bind, its job are ready (R125, R180, R236). -/
def State.mayStart (s : State) (b : Nat) (x : Binding) : Bool :=
  (s.bundle? x.handle).any (fun h => !h.lost1 && !h.lost2) &&
  (s.bnd.cmd != some (.bind b) ||
    (s.on F.HOST_STATUS_FW_UP 0 && ((s.job? b).isNone || s.rd F.WEFT_JOB_STATE_STATE b == 2)))

/-- `BIND_FIRST_INSTRUCTION` (R179 step 7, R180): the partitions go BOUND; the command of a bind or
re-bind ends. -/
def execBindFirstInstruction (b : BindIx) (s : State) : Result :=
  match s.binding? b.val with
  | none => .next s
  | some x =>
    if x.phase = .loading ∧ s.mayStart b.val x then
      let s := x.parts.foldl (fun s p =>
        if s.rd F.PART_STATE_STATE p = 2 then s.partBound p else s) s
      let s := s.setBinding b.val { x with phase := .bound }
      if s.bnd.cmd = some (.bind b.val) then
        let s := (s.wr F.CMD_STATUS_BINDING 0 b.val).wr F.CMD_RESULT_SPILL_LEVEL 0 x.spill
        .next (s.endCmd 0)
      else .next s
    else .next s

/-! ### Ending a binding -/

/-- The first step of an unbind (R178, R179 steps 1-2): admission stops, contexts CLOSING, frames not
admitted answered `UNBOUND`, and with `ABORT` frames in progress too. -/
def State.startUnbind (s : State) (b : Nat) (abort : Bool) : State :=
  match s.binding? b with
  | none => s
  | some x =>
    let s := x.parts.foldl (fun s p =>
      let st := s.rd F.PART_STATE_STATE p
      if st = 1 ∨ st = 2 ∨ st = 3 then s.wr F.PART_STATE_STATE p 4 else s) s
    let s := s.setBinding b { x with phase := .unbinding, abort := abort }
    let cs := s.ctxsOn b
    let s := s.wrAll F.CTX_STATE_STATE cs 5
    let s := if abort then s.stopRunning b 5 else s
    s.endFrames (fun f => cs.contains f.ctx && f.stage != .running) 5

/-- The command of an `UNBIND` or `REBIND` on a binding (R178, R181). -/
def State.unbindCmd (s : State) (rebind : Bool) (b : Nat) (desc : Unit64) : State :=
  match s.binding? b with
  | none => s.endCmd 0x01
  | some x =>
    if x.parts.any s.inReset then s.setCmd (.held rebind b desc)
    else
      (s.startUnbind b ((Desc.of desc).flags.testBit 1)).setCmd
        (if rebind then .rebind b desc else .unbind b)

/-- `UNBIND` (R178, R179, R181). -/
def execUnbind (desc : Unit64) (tagOk : Bool) (s : State) : Result :=
  let x := Desc.of desc
  .next (s.command desc tagOk (x.ownerOk && x.targetOk && x.flagsOk) false fun x s =>
    match s.binding? x.target with
    | none => s.endCmd 0x01
    | some y => if y.owner = x.owner then s.unbindCmd false x.target desc else s.endCmd 0x03)

/-- `REBIND` (R179): the partitions are the old binding's. -/
def execRebind (desc : Unit64) (tagOk : Bool) (s : State) : Result :=
  let x := Desc.of desc
  .next (s.command desc tagOk (x.bindOk && x.targetOk) true fun x s =>
    match s.binding? x.target with
    | none => s.endCmd 0x01
    | some y =>
      if y.owner ≠ x.owner then s.endCmd 0x03
      else if x.mask ≠ 0 ∧ x.mask ≠ maskOf y.parts then s.endCmd 0x01
      else s.unbindCmd true x.target desc)

/-- The partitions that a refused re-bind leaves UNBOUND (R179 step 4). -/
def State.parkParts (s : State) (parts : List Nat) : State :=
  parts.foldl (fun s p =>
    if s.inReset p then s else s.partOff p (if s.rd F.PART_STATE_STATE p = 7 then 7 else 0)) s

/-- The second half of a re-bind (R179 step 4), once the old binding's leases have ended. -/
def State.goOn (s : State) : State :=
  match s.bnd.cmd with
  | some (.rebound parts bolts leases desc) =>
    let busy := bolts.any (fun b => let t := (s.bolt b).state; t == .draining || t == .zeroing) ||
      leases.any fun id => (s.lease? id).isSome
    if busy || s.on F.SEC_STATUS_DRBG_STOP 0 then s
    else if parts.any s.inReset then (s.parkParts parts).endCmd 0x13
    else s.tryBind (Desc.of desc) (some parts) fun c s => (s.parkParts parts).endCmd c
  | _ => s

/-- `UNBIND_RELEASE` (R179 steps 2-3): with no frame in progress, generations advance, leases and shares
are released, array state cleared, contexts FREE. -/
def execUnbindRelease (b : BindIx) (s : State) : Result :=
  match s.binding? b.val with
  | none => .next s
  | some x =>
    if x.phase = .unbinding ∧ x.running.isNone then
      let s := (x.parts.foldl State.advanceGen s).releaseBinding b.val
      match s.bnd.cmd with
      | some (.rebind k desc) =>
        if k = b.val then
          let s := x.parts.foldl State.clearArray s
          .next (s.setCmd (.rebound x.parts x.bolts x.leases desc)).goOn
        else .next (s.parkParts x.parts)
      | some (.unbind k) =>
        let s := s.parkParts x.parts
        .next (if k = b.val then s.endCmd 0 else s)
      | _ => .next (s.parkParts x.parts)
    else .next s

/-- `BOLT_DRAIN_DONE` (R118 step 2). -/
def execBoltDrainDone (bolt : BoltIx) (s : State) : Result :=
  let x := s.bolt bolt.val
  if x.state = .draining then .next (s.setBolt bolt.val { x with state := .zeroing }) else .next s

/-- `BOLT_ZERO_DONE` (R118 step 3, R119): every line reads zero; the bolt is FREE or RETIRED. -/
def execBoltZeroDone (bolt : BoltIx) (s : State) : Result :=
  let x := s.bolt bolt.val
  if x.state = .zeroing then
    let k := s.storage bolt.val
    let s : State := { s with beam := { s.beam with
      bytes := Tab.clear (fun a => a / 2 ^ 20 == k) s.beam.bytes
      poison := Tab.clear (fun a => a / 16384 == k) s.beam.poison } }
    let s := s.setBolt bolt.val
      { x with state := if x.retireOnRelease then .retired else .free, owner := 0 }
    .next s.reapOwners.goOn
  else .next s

/-- A binding, a bundle or the HDM window holds the lease. -/
def State.leaseHeld (s : State) (id : Nat) : Bool :=
  s.bnd.bindings.any (fun x => x.2.leases.contains id) ||
  s.bnd.bundles.any (fun x => x.2.copy1 == id || x.2.copy2 == id) ||
  (s.lease? id).any fun l => l.use == .hdm

/-- `HBM_LEASE_DRAIN_END` (R121 step 3, R330): the key slot is overwritten, slot and extents free; also
for a released lease that a partition reset has meanwhile made LOST (R123). -/
def execHbmLeaseDrainEnd (lease : Nat) (s : State) : Result :=
  match s.lease? lease with
  | some l => if l.state = .draining ∨ !s.leaseHeld lease then .next (s.dropLease lease).reapOwners.goOn
              else .next s
  | none => .next s

/-! ### Spools -/

/-- `SPOOL_OPEN` (R167, R187). -/
def execSpoolOpen (desc : Unit64) (tagOk : Bool) (s : State) : Result :=
  let x := Desc.of desc
  .next (s.command desc tagOk (x.ownerOk && x.spoolOk) false fun x s =>
    if s.on F.SPOOL_SIZE_OPEN x.spool then s.endCmd 0x10
    else
      let s := (s.wr F.SPOOL_SIZE_OPEN x.spool 1).wr F.SPOOL_OWNER_OWNER x.spool x.owner
      let s := (s.wr F.SPOOL_HEAD_INDEX x.spool 0).wr F.SPOOL_TAIL_INDEX x.spool 0
      let s := (s.wr F.SPOOL_CQ_HEAD_INDEX x.spool 0).wr F.SPOOL_CQ_TAIL_INDEX x.spool 0
      ((s.wr F.SPOOL_ENERGY x.spool 0).setSpool x.spool {}).endCmd 0)

/-- `SPOOL_CLOSE` (R167, R174). -/
def execSpoolClose (desc : Unit64) (tagOk : Bool) (s : State) : Result :=
  let x := Desc.of desc
  .next (s.command desc tagOk (x.ownerOk && x.spoolOk) false fun x s =>
    if !s.on F.SPOOL_SIZE_OPEN x.spool then s.endCmd 0x11
    else if s.rd F.SPOOL_OWNER_OWNER x.spool ≠ x.owner then s.endCmd 0x03
    else if s.bnd.ctxs.any fun c => c.2.spool == x.spool && s.rd F.CTX_STATE_STATE c.1 != 6 then
      s.endCmd 0x05
    else (s.closeSpool x.spool).endCmd 0)

/-! ### Contexts -/

/-- The registers of a context that opens on a binding (R183, R159, R177, R220). -/
def State.openRegs (s : State) (c : Nat) (x : Desc) (y : Binding) (plan : Option DeltaPlan) : State :=
  let s := (s.wr F.CTX_BUNDLE_BUNDLE c y.handle).wr F.CTX_BUNDLE_BINDING c x.target
  let s := (s.wr F.CTX_BUNDLE_OWNER c x.owner).wr F.CTX_SPOOL_SPOOL c x.spool
  let s := (s.wr F.CTX_DEADLINE_US_DEADLINE c x.deadline).wr F.CTX_SPILL_LEVEL c y.spill
  let s := s.wr F.CTX_SPILL_SLOWDOWN_PCT c y.slowdown
  match plan with
  | none => s
  | some p =>
    let s := (s.wr F.CTX_DELTA_STATUS_PLAN c 1).wr F.CTX_DELTA_POLICY_ENABLE c (bit p.enable)
    let s := (s.wr F.CTX_DELTA_POLICY_STAGGER c (bit p.stagger)).wr
      F.CTX_DELTA_POLICY_REFRESH_ON_TAKEOVER c (bit p.refreshOnTakeover)
    let s := (s.wr F.CTX_DELTA_POLICY_THRESH_SCALE c p.threshScale).wr
      F.CTX_DELTA_POLICY_PEAK_FACTOR c p.peakFactor
    let s := s.wr F.CTX_DELTA_POLICY_SCENE_CUT c p.sceneCut
    s.wr F.CTX_REFRESH_EVERY_N c (p.refreshEvery.getD 64)

/-- A context slot opened (R183): its first frame is a refresh frame of cause 6. -/
def State.openCtx (s : State) (c : Nat) (x : Desc) (y : Binding) (place : Nat) : State :=
  let plan := (s.bundle? y.handle).bind fun h => h.hdr.plan
  let s := s.setCtx c
    { owner := x.owner, handle := y.handle, binding := x.target, spool := x.spool, place := place,
      causes := [6] }
  let s := ((s.openRegs c x y plan).wr F.CTX_STATE_STATE c 1).breakDecode c
  if y.phase = .stopped then s.holdCtx c 1 else s

/-- Reasons to refuse a `CTX_OPEN` (R174, R183), the lowest first. -/
def State.openCodes (s : State) (x : Desc) : List Nat :=
  let held := s.ctx? x.ctx
  let foreign := held.any (fun c => c.owner != x.owner) ||
    (s.on F.SPOOL_SIZE_OPEN x.spool && s.rd F.SPOOL_OWNER_OWNER x.spool != x.owner)
  match s.binding? x.target with
  | none => [0x01]
  | some y =>
    (if foreign || y.owner != x.owner then [0x03] else []) ++
    (if (s.freePlace? x.target 1).isNone then [0x0F] else []) ++
    (if held.isSome then [0x10] else []) ++
    (if s.on F.SPOOL_SIZE_OPEN x.spool then [] else [0x11])

/-- `CTX_OPEN` (R183). -/
def execCtxOpen (desc : Unit64) (tagOk : Bool) (s : State) : Result :=
  let x := Desc.of desc
  let ok := x.ownerOk && x.ctxOk && x.targetOk && x.spoolOk && decide (x.deadline < 2 ^ 20)
  .next (s.command desc tagOk ok true fun x s =>
    match s.openCodes x, s.binding? x.target, s.freePlace? x.target 1 with
    | c :: _, _, _ => s.endCmd c
    | [], some y, some k => (s.openCtx x.ctx x y k).endCmd 0
    | _, _, _ => s)

/-- Frames of a context that are not admitted are answered `UNBOUND` and admission stops (R184, R185). -/
def State.stopCtx (s : State) (c : Nat) : State :=
  (s.wr F.CTX_STATE_STATE c 5).endFrames (fun f => f.ctx == c && f.stage != .running) 5

/-- `CTX_CLOSE` (R184): a running frame completes first. -/
def execCtxClose (desc : Unit64) (tagOk : Bool) (s : State) : Result :=
  let x := Desc.of desc
  .next (s.command desc tagOk (x.ownerOk && x.ctxOk) false fun x s =>
    match s.ctx? x.ctx with
    | none => s.endCmd 0x01
    | some c =>
      if c.owner ≠ x.owner then s.endCmd 0x03
      else ((s.stopCtx x.ctx).setCmd (.closeCtx x.ctx)).settle)

/-- `CTX_MOVE` (R185): between two frames of the context, to a binding of the same bundle. -/
def execCtxMove (desc : Unit64) (tagOk : Bool) (s : State) : Result :=
  let x := Desc.of desc
  .next (s.command desc tagOk (x.ownerOk && x.ctxOk && x.targetOk) true fun x s =>
    match s.ctx? x.ctx, s.binding? x.target with
    | some c, some y =>
      if c.owner ≠ x.owner ∨ y.owner ≠ x.owner then s.endCmd 0x03
      else if c.binding ≠ x.target ∧ (s.freePlace? x.target 1).isNone then s.endCmd 0x0F
      else if c.handle ≠ y.handle then s.endCmd 0x15
      else
        let s := s.setCtx x.ctx { c with moving := some x.target }
        ((s.stopCtx x.ctx).setCmd (.moveCtx x.ctx x.target)).settle
    | _, _ => s.endCmd 0x01)

/-- `CTX_RESUME` (R186). -/
def execCtxResume (desc : Unit64) (tagOk : Bool) (s : State) : Result :=
  let x := Desc.of desc
  .next (s.command desc tagOk (x.ownerOk && x.ctxOk) false fun x s =>
    match s.ctx? x.ctx with
    | none => s.endCmd 0x01
    | some c =>
      if c.owner ≠ x.owner then s.endCmd 0x03
      else if s.rd F.CTX_STATE_STATE x.ctx = 4 ∧ s.rd F.CTX_STATE_HOLD_CAUSE x.ctx = 2 then
        let s := (s.wr F.CTX_STATE_HOLD_CAUSE x.ctx 0).wr F.CTX_STATE_STATE x.ctx 1
        (s.syncCtx x.ctx).endCmd 0
      else s.endCmd 0x16)

/-! ### Refresh requests and the twin's answers (05) -/

/-- `CTX_FORCE_REFRESH` (R148): a write of 1 to `FORCE_REFRESH` of the selected context. -/
def execCtxForceRefresh (path : Path) (s : State) : Result :=
  let c := s.rd F.CTX_SEL_SEL (pathIx path)
  if (s.planOf c).isSome then .next (s.addCause c 8) else .next s

/-- The carried tensors of a delta state as the header selects them. -/
def DeltaSt.setCarried (d : DeltaSt) (bs : List Byte) (init : Bool) : DeltaSt :=
  if d.sel then { d with carried1 := bs, carriedInit := init }
  else { d with carried0 := bs, carriedInit := init }

/-- `TWIN_FETCH_REPLY` (R158, R218): carried tensors and the decode region from the twin. -/
def execTwinFetchReply (c : CtxIx) (st : ShadowState) (s : State) : Result :=
  match s.ctx? c.val with
  | some x =>
    if x.fetching then
      let s := s.setCtx c.val { x with fetching := false, delta := x.delta.setCarried st.carried false }
      .next (s.wr F.CTX_DECODE_BROKEN c.val (bit st.decodeBroken))
    else .next s
  | none => .next s

/-- `TWIN_FETCH_TIMEOUT` (R158, R218): carried tensors take their initial values, `CARRIED_INIT` is set,
and the decode state is broken. -/
def execTwinFetchTimeout (c : CtxIx) (s : State) : Result :=
  match s.ctx? c.val with
  | some x =>
    if x.fetching then
      let s := s.setCtx c.val { x with fetching := false, delta := x.delta.setCarried [] true }
      .next ((s.wr F.CTX_DELTA_STATUS_CARRIED_INIT c.val 1).breakDecode c.val)
    else .next s
  | none => .next s

end Sys2Proof.Machine
end

