-- ==== Sys2Proof/Machine/Security.lean ====
section
/-! DEFINITION. Identity, attestation and owners: the vendor-protocol messages (11_security; R281). -/

namespace Sys2Proof.Machine

/-! ### Settings (R295) -/

/-- `CONFIG` of record 0x01 (R357). -/
def cfgConfig : Setting := ⟨0x01, 0, 1, 2⟩

def cfgPolicy : Setting := ⟨0x0E, 0, 1, 0⟩
def cfgMinSecVersion : Setting := ⟨0x0E, 2, 2, 0⟩

/-- The owner key in force (record 0x08; R354): its 57 bytes. -/
def State.ownerKey? (s : State) : Option (List Byte) :=
  ((s.stw.draft.find? (·.type == 0x08)).map DraftRec.body).filter fun b => !b.isEmpty

/-! ### Answers -/

/-- The first 32 bytes of a SHAKE256 output: the fingerprint of a key (R318). -/
def fingerprint (key : List Byte) : List Byte := le 32 (Config.shake256 key).toNat

/-- The bytes of a 512-bit measurement. -/
def measBytes (m : BitVec 512) : List Byte := le 64 m.toNat

/-- A response left in the mailbox of a path (R385). -/
def State.mailbox (s : State) (path : Nat) (bs : List Byte) : State :=
  let s := (List.range 512).foldl
    (fun s k => s.wr F.MBX_DATA_DATA (path * 512 + k) (ofLe ((bs.drop (4 * k)).take 4))) s
  (s.wr F.MBX_STATUS_STATE path 2).wr F.MBX_STATUS_LEN path bs.length

/-- A response over the path of its request (R281, R385). -/
def State.reply (s : State) (path : MsgPath) (bs : List Byte) : State :=
  match path with
  | .doe => { s with host := { s.host with doe := Tab.insert s.host.doe 1 (doeVendor bs) } }
  | .smbus => s.mailbox 2 bs
  | .horizon => s.mailbox 3 bs

/-- The bytes of an ASCII string. -/
def asciiBytes (t : String) : List Byte := t.toList.map fun c => BitVec.ofNat 8 c.toNat

/-- The identity key passed its check (R319). -/
def State.idOk (s : State) : Bool := !s.on F.SEC_STATUS_ID_FAIL 0

/-- The per-boot public value; zeros without a key (R320, R322). -/
def State.bootPub (s : State) : List Byte :=
  if s.on F.SEC_STATUS_BOOT_KEY 0 then padTo 56 (Config.bootPub (s.rd I.bootCount 0))
  else List.replicate 56 0

/-- The counts and measurements that both statements carry. -/
def State.powerCycles (s : State) : List Byte := le 3 (s.rd F.LOG_CYCLES_CYCLES 0)
def State.chipResets (s : State) : List Byte := le 4 (s.rd F.FAULT_ESC_CHIP_RESETS 0)

/-- The per-boot statement with its signature (R320). -/
def State.bootStatement (s : State) : List Byte :=
  let m := s.bootPub ++ s.powerCycles ++ s.chipResets ++ measBytes Config.romMeasurement ++
    measBytes s.stw.draftMeas
  m ++ padTo 114 (Config.sign (asciiBytes "TZV-2608 boot") m)

/-! ### Attestation reports -/

/-- The `FLAGS` of a report (R322). -/
def State.reportFlags (s : State) : Nat :=
  2 * bit (!s.idOk) + 4 * bit s.ownerKey?.isSome + 8 * bit s.stw.keyPending + 16 * bit s.bare +
  32 * bit (s.rd F.LOG_PERM_SEAL_USED 0 == 16) +
  64 * bit (s.on F.PRES_GRANT_JMP_GRANT 0 || s.on F.PRES_GRANT_SEAL_GRANT 0)

/-- The staged image's measurement (R315). -/
def State.stagedMeas (s : State) : BitVec 512 :=
  let img := if s.on F.FW_RESULT_RESIDENT 0 then s.fw.slotA else s.fw.slotB
  if s.on F.FW_RESULT_STAGED 0 then (img.map FwImage.measurement).getD 0 else 0

/-- The bundles that a report lists (R323): handle and measurement, in ascending order of handles. -/
def State.reportBundles (s : State) (owner first : Nat) : List (Nat × BitVec 512) :=
  s.bnd.bundles.filterMap fun x =>
    if x.2.owner = owner ∧ first ≤ x.1 then some (x.1, x.2.hdr.measurement) else none

/-- A signed report (R322, R323); scope 0 has no owner and no entries. -/
def State.report (s : State) (r : ReportReq) : List Byte :=
  let all := if r.scope = 1 then s.reportBundles r.owner r.first else []
  let es := all.take 900
  let next := match all.drop 900 with
    | e :: _ => e.1
    | [] => 0xFFFF
  let pub := padTo 57 Config.identityPub
  let fp := match s.ownerKey? with
    | some k => fingerprint k
    | none => List.replicate 32 0
  let m := le 4 0x5A525054 ++ le 2 1 ++ le 2 (580 + 68 * es.length) ++ le 32 r.nonce.toNat ++ pub ++
    s.bootPub ++ s.powerCycles ++ s.chipResets ++ le 4 s.opTime ++
    le 1 (s.rd F.STW_STATUS_NODE 0) ++ le 1 (s.cfg cfgConfig) ++ le 1 0x11 ++
    le 1 s.reportFlags ++ le 1 (s.cfg cfgPolicy) ++ le 1 0 ++ le 2 (s.cfg cfgMinSecVersion) ++ fp ++
    measBytes Config.romMeasurement ++ measBytes s.stw.draftMeas ++
    measBytes (s.fw.running.getD 0) ++ measBytes s.stagedMeas ++ le 2 es.length ++
    le 2 (if r.scope = 1 then r.owner else 0) ++ le 2 next ++
    es.flatMap fun e => le 2 e.1 ++ le 2 0 ++ measBytes e.2
  m ++ padTo 114 (Config.sign (asciiBytes "TZV-2608 report") m)

/-- A scope-1 request verifies (R321). -/
def State.reportAuth (s : State) (r : ReportReq) : Bool :=
  r.tagOk && (s.owner? r.owner).any fun o => decide (o.lastSeq < r.seq.toNat)

/-- The sequence number of a scope-1 request accepted (R321). -/
def State.acceptReport (s : State) (r : ReportReq) : State :=
  match s.owner? r.owner with
  | some o => { s with bnd := { s.bnd with
      owners := Tab.insert s.bnd.owners r.owner { o with lastSeq := r.seq.toNat } } }
  | none => s

/-! ### Owners -/

/-- The lowest free owner number (R162). -/
def State.freeOwner? (s : State) : Option Nat :=
  ((List.range 4095).map (· + 1)).find? fun o => !s.bnd.owners.any (·.1 == o)

/-- The confirmation value of an owner's key (R326). -/
def confirmation (key : BitVec 512) : List Byte :=
  fingerprint (measBytes key ++ asciiBytes "CONFIRM")

/-- Open owner (R325): the status, the body and the state. -/
def State.openOwner (s : State) (r : OwnerReq) : Nat × List Byte × State :=
  if !r.sigOk ∨ !s.idOk ∨ !s.on F.SEC_STATUS_BOOT_KEY 0 then (5, [], s.bump F.SEC_AUTH_OPEN_FAILS 0)
  else match s.freeOwner? with
    | none => (6, [], s.bump F.SEC_AUTH_OPEN_FAILS 0)
    | some o =>
      let x : Owner := { tenantFp := r.tenantFp, key := r.secret }
      (0, le 2 o ++ confirmation r.secret,
        { s with bnd := { s.bnd with owners := Tab.insert s.bnd.owners o x } })

/-- An owner's close begins (R163): it waits for a command in progress (R164). -/
def State.beginClose (s : State) (o : Nat) : State :=
  match s.owner? o with
  | none => s
  | some x =>
    let s : State := { s with bnd := { s.bnd with
      owners := Tab.insert s.bnd.owners o { x with closing := true } } }
    if s.bnd.cmd.isSome then
      { s with bnd := { s.bnd with toClose := s.bnd.toClose.filter (· != o) ++ [o] } }
    else s.closeOwner o

/-- The owner that a DOE request is about to change, for an abort in the tick of its response (R281). -/
def State.markUndo (s : State) (o : Nat) : State :=
  { s with host := { s.host with doeUndo := some (s.us, o, s.owner? o) } }

/-! ### Messages -/

/-- The opcode of a message (R281). -/
def msgOp : VendorMsg → Nat
  | .getIdentity => 1
  | .getReport _ => 2
  | .getBootKey => 3
  | .openOwner _ => 4
  | .closeOwner _ => 5

/-- A message that only DOE carries (R324). -/
def doeOnly : VendorMsg → Bool
  | .openOwner _ | .closeOwner _ => true
  | .getReport r => r.scope == 1
  | _ => false

/-- A message answered (R281, R319-R325). -/
def State.answerMsg (s : State) (path : MsgPath) (id : BitVec 32) (m : VendorMsg) : State :=
  let say (s : State) (status : Nat) (body : List Byte) : State :=
    s.reply path (vendorReply (msgOp m) status id body)
  if path ≠ .doe ∧ doeOnly m then say s 3 []
  else match m with
    | .getIdentity =>
      if s.idOk then
        let pub := padTo 57 Config.identityPub
        say s 0 (pub ++ fingerprint pub ++ Config.certificate)
      else say s 5 []
    | .getBootKey =>
      if !s.idOk then say s 5 []
      else if !s.on F.SEC_STATUS_BOOT_KEY 0 then say s 2 []
      else say s 0 s.bootStatement
    | .getReport r =>
      if !s.idOk then say s 5 []
      else if 1 < r.scope then say s 1 []
      else if r.scope = 0 then say s 0 (s.report r)
      else if s.reportAuth r then
        let s := (s.markUndo r.owner).acceptReport r
        say s 0 (s.report r)
      else say (s.bump F.SEC_AUTH_CMD_FAILS 0) 5 []
    | .openOwner r =>
      let x := (s.markUndo ((s.freeOwner?).getD 0)).openOwner r
      say x.2.2 x.1 x.2.1
    | .closeOwner o =>
      match s.owner? o with
      | none => say s 1 []
      | some _ =>
        ({ s with host := { s.host with doeClose := some (id, o) } }.beginClose o).reapOwners

/-- A message registered (R281, R324): over DOE it waits for firmware, and one at a time is taken; over
the mailboxes the steward answers at once. -/
def State.vendorMsg (s : State) (path : MsgPath) (id : BitVec 32) (m : VendorMsg) : State :=
  match path with
  | .doe =>
    if !s.on I.dieUp 0 then s
    else if s.host.doeHeld.isSome ∨ s.host.doeClose.isSome then
      (s.bump F.HOST_ERR_UR 0).classC 279 0
    else if s.on F.HOST_STATUS_FW_UP 0 then s.answerMsg path id m
    else { s with host := { s.host with doeHeld := some (id, m) } }
  | _ => s.answerMsg path id m

/-- The message that waited for firmware is answered (R281). -/
def State.answerHeld (s : State) : State :=
  match s.host.doeHeld with
  | some (id, m) => { s with host := { s.host with doeHeld := none } }.answerMsg .doe id m
  | none => s

/-- `GET_IDENTITY` (R281, R324). -/
def execGetIdentity (path : MsgPath) (id : BitVec 32) (s : State) : Result :=
  .next (s.vendorMsg path id .getIdentity)

/-- `GET_ATTESTATION_REPORT` (R321-R324). -/
def execGetAttestationReport (path : MsgPath) (id : BitVec 32) (r : ReportReq) (s : State) : Result :=
  .next (s.vendorMsg path id (.getReport r))

/-- `GET_PER_BOOT_KEY` (R320, R324). -/
def execGetPerBootKey (path : MsgPath) (id : BitVec 32) (s : State) : Result :=
  .next (s.vendorMsg path id .getBootKey)

/-- `OPEN_OWNER` (R162, R325). -/
def execOpenOwner (path : MsgPath) (id : BitVec 32) (r : OwnerReq) (s : State) : Result :=
  .next (s.vendorMsg path id (.openOwner r))

/-- `CLOSE_OWNER` (R163, R281). -/
def execCloseOwner (path : MsgPath) (id : BitVec 32) (owner : Nat) (s : State) : Result :=
  .next (s.vendorMsg path id (.closeOwner owner))

end Sys2Proof.Machine
end

