-- ==== Sys2Proof/Machine/Settings.lean ====
section
/-! DEFINITION. The settings of records 0x03 (R447), 0x04 (R469), 0x06 (R434) and 0x0D (R470), with
their defaults. -/

namespace Sys2Proof.Machine

/-! ### Thermal (R447; temperatures in °C) -/

/-- `DIE_` and `HBM_` levels by zone 0 or 1: warning, its hysteresis, throttle, its hysteresis, trip. -/
def cfgLevel (zone k : Nat) : Setting :=
  ⟨0x03, 5 * zone + k, 1, ([92, 3, 97, 2, 108, 85, 3, 90, 2, 100].getD (5 * zone + k) 0)⟩

/-- Warning levels of zones 2-5. -/
def cfgExtWarn (zone : Nat) : Setting := ⟨0x03, 8 + zone, 1, [45, 50, 65, 110].getD (zone - 2) 0⟩

def cfgExtHys : Setting := ⟨0x03, 14, 1, 2⟩
def cfgConsec : Setting := ⟨0x03, 15, 1, 3⟩
def cfgThrStep : Setting := ⟨0x03, 16, 1, 5⟩
def cfgThrMax : Setting := ⟨0x03, 18, 1, 80⟩
def cfgRestartC : Setting := ⟨0x03, 19, 1, 80⟩
def cfgRestartS : Setting := ⟨0x03, 20, 2, 60⟩
def cfgSensorMode : Setting := ⟨0x03, 22, 1, 0⟩
def cfgCrossAdd : Setting := ⟨0x03, 23, 1, 5⟩
def cfgCrossLimit : Setting := ⟨0x03, 24, 1, 15⟩
def cfgRorThr : Setting := ⟨0x03, 25, 1, 40⟩
def cfgRorThrMs : Setting := ⟨0x03, 26, 1, 100⟩
def cfgRorShut : Setting := ⟨0x03, 27, 1, 120⟩
def cfgRorShutMs : Setting := ⟨0x03, 28, 1, 25⟩
def cfgNearThr : Setting := ⟨0x03, 29, 1, 5⟩
def cfgNearTrip : Setting := ⟨0x03, 30, 1, 2⟩

/-- A zone's warning level and its hysteresis, °C (R438). -/
def State.warnLevel (s : State) (z : Nat) : Nat := if z < 2 then s.cfg (cfgLevel z 0) else s.cfg (cfgExtWarn z)
def State.warnHys (s : State) (z : Nat) : Nat := if z < 2 then s.cfg (cfgLevel z 1) else s.cfg cfgExtHys

/-- The throttle level of a zone, °C; 0 for zones 2-5 (R439). -/
def State.thrLevel (s : State) (z : Nat) : Nat := if z < 2 then s.cfg (cfgLevel z 2) else 0

/-- The trip level of a zone, °C (R441): the factory's until a Draft is in force; 0 for zones 2-5. -/
def State.tripLevel (s : State) (z : Nat) : Nat :=
  if 2 ≤ z then 0 else if s.bare then (cfgLevel z 4).dflt else s.cfg (cfgLevel z 4)

/-- Limits by rate of rise: the bench and small-tray configurations (R1, R440). -/
def State.rorMode (s : State) : Bool := decide (s.cfg ⟨0x01, 0, 1, 2⟩ ≤ 1)

/-! ### Power (R434) -/

def cfgCapW : Setting := ⟨0x06, 0, 2, 1800⟩
def cfgReserveW : Setting := ⟨0x06, 2, 2, 500⟩
def cfgFraction (p : Nat) : Setting := ⟨0x06, 4 + 2 * p, 2, 16⟩
def cfgGustPart : Setting := ⟨0x06, 36, 2, 90⟩
def cfgGustPkg : Setting := ⟨0x06, 38, 2, 150⟩
def cfgDroopMv : Setting := ⟨0x06, 40, 1, 40⟩
def cfgHeavyMv : Setting := ⟨0x06, 41, 1, 10⟩

/-! ### Cooling (R469) -/

def cfgFanPresent : Setting := ⟨0x04, 0, 1, 0x3F⟩
def cfgPumpPresent : Setting := ⟨0x04, 1, 1, 3⟩
def cfgFanHz : Setting := ⟨0x04, 2, 1, 30⟩
def cfgFanMin : Setting := ⟨0x04, 3, 1, 25⟩
def cfgStretchMs : Setting := ⟨0x04, 4, 2, 60⟩
def cfgFanPpr : Setting := ⟨0x04, 7, 1, 2⟩
def cfgTachMinRpm : Setting := ⟨0x04, 8, 2, 1000⟩
def cfgCoolRetries : Setting := ⟨0x04, 12, 1, 2⟩
def cfgMissConsec : Setting := ⟨0x04, 13, 1, 3⟩
def cfgWarnFan : Setting := ⟨0x04, 14, 1, 85⟩
def cfgWarnPump : Setting := ⟨0x04, 15, 1, 90⟩
def cfgFanFall : Setting := ⟨0x04, 16, 1, 5⟩
def cfgPumpMin : Setting := ⟨0x04, 17, 1, 30⟩
def cfgPumpPpr : Setting := ⟨0x04, 18, 1, 2⟩
def cfgPumpMinRpm : Setting := ⟨0x04, 20, 2, 800⟩
def cfgFlowK : Setting := ⟨0x04, 22, 2, 500⟩
def cfgFlowMin : Setting := ⟨0x04, 24, 2, 20⟩

/-- Default points of the demand tables: fan tables of zones 0, 1, 2, 4, then the pump tables. -/
def defaultTables : List (List (Nat × Nat)) :=
  [[(40, 25), (60, 30), (70, 40), (80, 55), (85, 70), (90, 85), (95, 95), (97, 100)],
   [(40, 25), (60, 30), (70, 45), (75, 60), (80, 75), (85, 90), (88, 95), (90, 100)],
   [(20, 25), (25, 30), (30, 40), (35, 55), (40, 70), (45, 85), (48, 95), (50, 100)],
   [(30, 25), (40, 30), (45, 40), (50, 55), (55, 70), (60, 85), (63, 95), (65, 100)],
   [(40, 30), (60, 40), (70, 50), (80, 65), (85, 80), (90, 90), (95, 100), (97, 100)],
   [(40, 30), (60, 40), (70, 55), (75, 70), (80, 85), (85, 95), (88, 100), (90, 100)],
   [(20, 30), (25, 30), (30, 35), (35, 40), (40, 50), (45, 60), (48, 70), (50, 80)],
   [(30, 30), (40, 40), (45, 50), (50, 65), (55, 80), (60, 90), (63, 100), (65, 100)]]

/-- The points of demand table `t`, 0-7: temperature in °C, duty in %. -/
def State.demandTable (s : State) (t : Nat) : List (Nat × Nat) :=
  (List.range 8).map fun j =>
    let d := (defaultTables.getD t []).getD j (0, 0)
    (s.cfg ⟨0x04, 28 + 16 * t + 2 * j, 1, d.1⟩, s.cfg ⟨0x04, 29 + 16 * t + 2 * j, 1, d.2⟩)

/-! ### Leaks (R470; ropes in 10 Ω) -/

def cfgLeakAction (z : Nat) : Setting := ⟨0x0D, z, 1, if z = 0 then 2 else 1⟩
def cfgFloatWet : Setting := ⟨0x0D, 3, 1, 0⟩
def cfgRopeWet (z : Nat) : Setting := ⟨0x0D, 4 + 4 * z, 2, 1000⟩
def cfgRopeOpen (z : Nat) : Setting := ⟨0x0D, 6 + 4 * z, 2, 10000⟩
def cfgLeakConsec : Setting := ⟨0x0D, 12, 1, 3⟩

end Sys2Proof.Machine
end

