-- ==== Sys2Proof/Machine/Firmware.lean ====
section
/-! DEFINITION. Firmware: loading, serving, crashes and restarts, live update, the ledger and the log
ring (10_control_firmware). -/

namespace Sys2Proof.Machine

/-! ### What the firmware window shows -/

/-- `FW_IDENT_VER` and `FW_IDENT_DIGEST` show a version and a measurement (R298). -/
def State.showIdent (s : State) (version : BitVec 32) (m : BitVec 512) : State :=
  (List.range 16).foldl
    (fun s k => s.wr F.FW_IDENT_DIGEST_DIGEST k (m.toNat / 2 ^ (32 * k) % 2 ^ 32))
    (s.wr F.FW_IDENT_VER_VERSION 0 version.toNat)

def State.showImage (s : State) (img : Option FwImage) : State :=
  match img with
  | some i => s.showIdent i.version i.measurement
  | none => s.showIdent 0 0

/-- The image in the resident slot. -/
def State.resident (s : State) : Option FwImage :=
  if s.on F.FW_RESULT_RESIDENT 0 then s.fw.slotB else s.fw.slotA

/-- The image in the other slot. -/
def State.otherImage (s : State) : Option FwImage :=
  if s.on F.FW_RESULT_RESIDENT 0 then s.fw.slotA else s.fw.slotB

/-- The slot that is not resident takes an image, or none. -/
def State.setOther (s : State) (img : Option FwImage) : State :=
  if s.on F.FW_RESULT_RESIDENT 0 then { s with fw := { s.fw with slotA := img } }
  else { s with fw := { s.fw with slotB := img } }

/-- Events held while firmware did not serve are written in order (R291). -/
def State.flushEvents (s : State) : State :=
  let held := s.host.heldEvents
  held.foldl State.writeEvent { s with host := { s.host with heldEvents := [] } }

/-- Firmware serves (R296-R298): `FW_UP` is 1, the identification reads 0, held events are written. -/
def State.serve (s : State) : State :=
  let s := (s.wr F.FW_STATE_STATE 0 3).wr F.HOST_STATUS_FW_UP 0 1
  let s := (s.showIdent 0 0).flushEvents
  { s with fw := { s.fw with logSeq := 0, logLast := [] } }.answerHeld

/-! ### Loading -/

/-- Why an image is refused at step 3 (R294); 0: accepted.  `len`: `FW_LOAD_LEN`. -/
def State.imageFault (s : State) (i : FwImage) (len : Nat) : Nat :=
  let policy := s.cfg cfgPolicy
  if !i.magicFormatOk ∨ i.bodyLen = 0 then 1
  else if 2097152 < 64 + i.bodyLen + 256 then 2
  else if 64 + i.bodyLen + 256 ≠ len then 6
  else if i.stepping ≠ 0x11 then 3
  else if i.secVersion < s.cfg cfgMinSecVersion then 4
  else if policy ≤ 1 ∧ !i.vendorSigOk then 5
  else if 1 ≤ policy ∧ s.ownerKey?.isNone then 7
  else if 1 ≤ policy ∧ !i.ownerSigOk then 8
  else 0

/-- A load is refused (R297). -/
def State.refuseLoad (s : State) (reason : Nat) : State :=
  let s : State := { s with fw := { s.fw with reading := none, slotA := none } }
  (s.wr F.FW_STATE_STATE 0 6).wr F.FW_RESULT_REASON 0 reason

/-- The image's bytes are read from the host (R297 step 2). -/
def State.readImage (s : State) (stage : Bool) : State :=
  let s : State := { s with fw := { s.fw with reading := some stage } }
  s.hostSend (.hostRead (s.rd F.FW_LOAD_ADDR 0 / 64 * 64) (s.rd F.FW_LOAD_LEN_LEN 0))

/-- `FW_LOAD` (R297 steps 1-2). -/
def execFwLoad (s : State) : Result :=
  let st := s.rd F.FW_STATE_STATE 0
  if st ≠ 0 ∧ st ≠ 6 then .next (s.classC 297 0)
  else
    let s := (s.wr F.FW_STATE_STATE 0 1).showIdent 0 0
    if 2097152 < s.rd F.FW_LOAD_LEN_LEN 0 then .next (s.refuseLoad 2)
    else .next (s.readImage false)

/-- `FW_STAGE` (R308). -/
def execFwStage (s : State) : Result :=
  if s.rd F.FW_STATE_STATE 0 ≠ 3 ∨ s.on F.FW_RESULT_ACT_PENDING 0 then .next (s.classC 308 0)
  else if 2097152 < s.rd F.FW_LOAD_LEN_LEN 0 then .next (s.wr F.FW_RESULT_REASON 0 2)
  else .next (((s.wr F.FW_RESULT_STAGED 0 0).setOther none).readImage true)

/-- An image read by a load, verified (R294, R297 steps 3-4, R315). -/
def State.loadImage (s : State) (i : FwImage) : State :=
  match s.imageFault i (s.rd F.FW_LOAD_LEN_LEN 0) with
  | 0 =>
    let s : State := { s with fw := { s.fw with
      reading := none, slotA := some i, slotB := none, running := some i.measurement,
      half0 := none, half1 := none } }
    let s := ((s.showImage (some i)).wr F.FW_RESULT_RESIDENT 0 0).wr F.FW_RESULT_STAGED 0 0
    (s.wr F.FW_RESULT_REASON 0 0).wr F.FW_STATE_STATE 0 2
  | k => (s.showImage (if k = 1 then none else some i)).refuseLoad k

/-- An image read by a stage, verified (R308). -/
def State.stageImage (s : State) (i : FwImage) : State :=
  let k := s.imageFault i (s.rd F.FW_LOAD_LEN_LEN 0)
  let s : State := { s with fw := { s.fw with reading := none } }
  let s := s.wr F.FW_RESULT_REASON 0 k
  if k = 0 then (s.setOther (some i)).wr F.FW_RESULT_STAGED 0 1 else s

/-- `FW_IMAGE_RECEIVED` (R294, R297 step 3, R308). -/
def execFwImageReceived (img : FwImage) (s : State) : Result :=
  match s.fw.reading with
  | none => .next s
  | some false => .next (s.loadImage img)
  | some true => .next (s.stageImage img)

/-- The read of an image has failed (R297, R283). -/
def State.imageReadFailed (s : State) : State :=
  match s.fw.reading with
  | none => s
  | some false => s.refuseLoad 9
  | some true =>
    let s : State := { s with fw := { s.fw with reading := none } }
    s.wr F.FW_RESULT_REASON 0 9

/-- `FW_SERVING` (R297 step 6). -/
def execFwServing (s : State) : Result :=
  if s.rd F.FW_STATE_STATE 0 = 2 then .next s.serve else .next s

/-! ### Live update -/

/-- A zone of the compute die or HBM is at or above its throttle level (R309). -/
def State.zoneHot (s : State) : Bool :=
  !s.rorMode && (List.range 2).any fun z =>
    let v := s.rd F.THM_ZONE_TEMP_TEMP z
    decide (v < 2 ^ 15 ∧ 64 * s.thrLevel z ≤ v)

/-- An emergency that keeps a handoff from starting (R309). -/
def State.updateBlocked (s : State) : Bool :=
  let h := s.rd F.HSW_STATE_STATE 0
  s.on F.PWR_INPUT_FRONT 0 || s.zoneHot || s.rd I.rorLevel 0 != 0 ||
  h == 4 || h == 5 || h == 6 || s.rd F.HSW_STATE_RETRIES 0 != 0 || !s.noStatus

/-- `FW_ACTIVATE` (R309). -/
def execFwActivate (s : State) : Result :=
  if s.rd F.FW_STATE_STATE 0 ≠ 3 then .next (s.classC 314 0)
  else if s.on F.FW_RESULT_STAGED 0 then .next (s.wr F.FW_RESULT_ACT_PENDING 0 1)
  else .next (s.wr F.FW_RESULT_REASON 0 10)

/-- `FW_ACTIVATE_CANCEL` (R309). -/
def execFwActivateCancel (s : State) : Result :=
  if s.rd F.FW_STATE_STATE 0 ≠ 3 then .next (s.classC 314 0)
  else .next (s.wr F.FW_RESULT_ACT_PENDING 0 0)

/-- `HANDOFF_START` (R309, R310 step 1): the last condition has held for 5 s. -/
def execHandoffStart (s : State) : Result :=
  if s.rd F.FW_STATE_STATE 0 = 3 ∧ s.on F.FW_RESULT_ACT_PENDING 0 ∧ !s.on F.CMD_STATUS_BUSY 0 ∧
      !s.updateBlocked then
    let s := (s.wr F.FW_RESULT_ACT_PENDING 0 0).wr F.HOST_STATUS_FW_UP 0 0
    .next ({ s with fw := { s.fw with handed := false } }.wr F.FW_STATE_STATE 0 5)
  else .next s

/-! ### The ledger -/

/-- The newest committed half: version and sequence (R301). -/
def State.ledger (s : State) : Option (Nat × Nat) :=
  match s.fw.half0, s.fw.half1 with
  | some a, some b => if a.2 < b.2 then some b else some a
  | some a, none => some a
  | none, h => h

/-- A ledger written and committed in the half that does not hold the newest one (R301). -/
def State.commitLedger (s : State) : State :=
  let v := (s.resident.map FwImage.ledgerWrites).getD 0
  let q := ((s.ledger.map (·.2)).getD 0) + 1
  if s.fw.half0 = s.ledger ∧ s.fw.half0.isSome then
    { s with fw := { s.fw with half1 := some (v, q) } }
  else { s with fw := { s.fw with half0 := some (v, q) } }

/-- Steps 2-3 of a handoff (R310, R315): the ledger committed, the new image in place. -/
def State.handOver (s : State) : State :=
  let s := s.commitLedger
  let s := s.showImage s.otherImage
  { s with fw := { s.fw with handed := true, running := s.otherImage.map FwImage.measurement } }

/-- `LEDGER_CHECKPOINT` (R302, R310 step 2). -/
def execLedgerCheckpoint (s : State) : Result :=
  let st := s.rd F.FW_STATE_STATE 0
  if st = 3 then .next s.commitLedger
  else if st = 5 ∧ !s.fw.handed then .next s.handOver
  else .next s

/-- A cold takeover (R307): every context's next frame is a refresh frame of cause 4. -/
def State.coldTakeover (s : State) : State :=
  (s.bnd.ctxs.foldl (fun s x => s.addCause x.1 4) s).wr F.FW_RESULT_TAKEOVER 0 1

/-- The ledger is one that an image reads (R292, R311). -/
def State.ledgerReadable (s : State) (img : Option FwImage) : Bool :=
  match s.ledger, img with
  | some l, some i => decide (i.ledgerReadsMin ≤ l.1 ∧ l.1 ≤ i.ledgerWrites)
  | _, _ => false

/-- `HANDOFF_COMPLETE` (R310 steps 2-5, R311). -/
def execHandoffComplete (s : State) : Result :=
  if s.rd F.FW_STATE_STATE 0 = 5 then
    let s := if s.fw.handed then s else s.handOver
    let cold := !s.ledgerReadable s.otherImage
    let s := if cold then s.coldTakeover else s
    let s := s.wr F.FW_RESULT_RESIDENT 0 (1 - s.rd F.FW_RESULT_RESIDENT 0)
    let s := (s.wr F.FW_RESULT_STAGED 0 0).wr F.FW_RESULT_REASON 0 0
    .next (({ s with fw := { s.fw with handed := false } }.serve).event 7 (le 1 (bit cold)))
  else .next s

/-! ### Crashes -/

/-- An activation that a crash ends (R312): abandoned before the ledger's commit, rolled back after. -/
def State.endHandoff (s : State) : State :=
  if s.rd F.FW_STATE_STATE 0 ≠ 5 then s
  else if s.fw.handed then
    let s : State := { s with fw := { s.fw with
      handed := false, running := s.resident.map FwImage.measurement } }
    (s.wr F.FW_RESULT_REASON 0 11).wr F.FW_RESULT_STAGED 0 0
  else s.wr F.FW_RESULT_REASON 0 12

/-- The firmware crashes (R303-R305, R312): the cores halt, and the fourth crash within 60 s hands over
to a chip reset. -/
def State.crash (s : State) (cause : Nat) : State :=
  let st := s.rd F.FW_STATE_STATE 0
  if st ≠ 2 ∧ st ≠ 3 ∧ st ≠ 4 ∧ st ≠ 5 then s
  else
    let recent := s.fw.crashes.filter fun t => s.within t 60000001
    let cause := if st = 5 ∧ s.fw.handed then 5 else cause
    let s := (s.bump F.FW_RESTARTS_COUNT 0).wr F.FW_RESTARTS_LAST_CAUSE 0 cause
    let s := s.endHandoff
    let s := (s.wr F.FW_RESULT_ACT_PENDING 0 0).wr F.HOST_STATUS_FW_UP 0 0
    let s := (s.wr F.FW_STATE_STATE 0 4).showImage s.resident
    let s : State := { s with fw := { s.fw with crashes := recent ++ [s.us] } }
    if 3 ≤ recent.length then s.chipReset 2 else s

/-- The code of a crash cause in `FW_RESTARTS.LAST_CAUSE`. -/
def crashCode : CrashCause → Nat
  | .watchdog => 1
  | .exception => 2
  | .sramUe => 3
  | .panic => 4

/-- `WATCHDOG_EXPIRE` (R303). -/
def execWatchdogExpire (_core : Fin 4) (s : State) : Result := .next (s.crash 1)

/-- `FW_CRASH` (R303-R305). -/
def execFwCrash (cause : CrashCause) (s : State) : Result := .next (s.crash (crashCode cause))

/-- The bind of a command that a crash ends (R306): its leases are released; a partition whose sweep runs
goes on to its end, the others are left UNBOUND or UNBINDABLE. -/
def State.restartBind (s : State) (b : Nat) : State :=
  match s.binding? b with
  | none => s
  | some x =>
    let s := s.releaseBinding b
    x.parts.foldl (fun s p =>
      if s.rd F.PART_STATE_STATE p = 1 ∨ s.inReset p then s
      else s.partOff p (if s.rd F.PART_CLUSTERS_OK_CLUSTERS_OK p < 96 then 7 else 0)) s

/-- A context whose move a crash ends goes on where it was. -/
def State.stayCtx (s : State) (c : Nat) : State :=
  match s.ctx? c with
  | none => s
  | some x =>
    let s := s.setCtx c { x with moving := none }
    let st := if s.rd F.CTX_STATE_HOLD_CAUSE c ≠ 0 then 4 else 1
    (s.wr F.CTX_STATE_STATE c st).syncCtx c

/-- The command in progress at a crash (R306): `UNBIND` and `CTX_CLOSE` go on, what has ended reports, a
deferred command waits, and every other ends `RESTARTED`. -/
def State.restartCmd (s : State) : State :=
  match s.bnd.cmd with
  | none => s
  | some (.ended r) => s.finishCmd r
  | some .waiting => if s.on I.cmdDeferred 0 then s else (s.wr I.cmdDeferred 0 0).finishCmd 0x18
  | some (.bind b) => (s.restartBind b).finishCmd 0x18
  | some (.rebind _ _) => s.finishCmd 0x18
  | some (.rebound parts _ _ _) => (s.parkParts parts).finishCmd 0x18
  | some (.held true _ _) => s.finishCmd 0x18
  | some (.moveCtx c _) => (s.stayCtx c).finishCmd 0x18
  | some (.held false _ _) => s
  | some (.unbind _) => s
  | some (.closeCtx _) => s

/-- `FW_RESTART_COMPLETE` (R304 steps 3-5, R306, R307): `intact`: the resident image's measurement
matches. -/
def execFwRestartComplete (intact : Bool) (s : State) : Result :=
  if s.rd F.FW_STATE_STATE 0 ≠ 4 then .next s
  else if !intact then .next (s.chipReset 3)
  else
    let s := if s.ledger.isNone then s.coldTakeover else s
    let s := s.restartCmd.serve
    .next (s.event 6 (le 4 (s.rd F.FW_RESTARTS_COUNT 0)))

/-! ### The log ring -/

/-- A trace point writes entries (R300). -/
def State.traced (s : State) (trace level : Nat) : Bool :=
  level == 0 || ((s.rd F.FW_TRACE_EN_GROUPS 0).testBit (trace / 256) &&
    decide (level ≤ s.rd F.FW_TRACE_EN_LEVEL 0))

/-- `LOG_ENTRY` (R299, R300): the µs since a core's first entry are not stated, and are free. -/
def execLogEntry (trace : Fin 4096) (level core : Fin 4) (args : List Word) (s : State) : Result :=
  if s.rd F.FW_STATE_STATE 0 = 3 ∧ s.on F.FW_LOG_SIZE_EN 0 ∧ s.traced trace.val level.val then
    let d := match s.fw.logLast.find? (·.1 == core.val) with
      | some e => (s.us - e.2, s)
      | none => s.draw
    let s := d.2
    let seq := s.fw.logSeq
    let s : State := { s with fw := { s.fw with
      logSeq := seq + 1, logLast := Tab.insert s.fw.logLast core.val s.us } }
    let size := ringSize (s.rd F.FW_LOG_SIZE_LOG2 0)
    let tail := s.rd F.FW_LOG_TAIL_INDEX 0
    if ringDist tail (s.rd F.FW_LOG_HEAD_INDEX 0) < size then
      let phase := (tail / size) % 2 == 0
      let bs := le 2 trace.val ++ le 1 (level.val + 4 * core.val + 128 * bit phase) ++ le 1 0 ++
        le 4 seq ++ le 4 (min d.1 0xFFFFFFFF) ++ padTo 20 (args.flatMap fun a => le 4 a.toNat)
      let addr := s.rd F.FW_LOG_BASE 0 / 4096 * 4096 + tail % size * 32
      .next ((s.hostSend (.hostWrite addr bs)).wr F.FW_LOG_TAIL_INDEX 0 (tail + 1))
    else .next (s.bump F.FW_LOG_SIZE_LOST 0)
  else .next s

/-- `FW_LOG_ENABLE` (R313, R314): a write to `FW_LOG_SIZE`. -/
def execFwLogEnable (v : Word) (s : State) : Result :=
  let was := s.on F.FW_LOG_SIZE_EN 0
  let s := if was then s else s.wr F.FW_LOG_SIZE_LOG2 0 (max 4 (min 16 (field v.toNat 4 0)))
  if v.getLsbD 8 then
    let s := (s.wr F.FW_LOG_HEAD_INDEX 0 0).wr F.FW_LOG_TAIL_INDEX 0 0
    let s := if was then s else s.wr F.FW_LOG_SIZE_LOST 0 0
    .next (s.wr F.FW_LOG_SIZE_EN 0 1)
  else .next (s.wr F.FW_LOG_SIZE_EN 0 0)

/-- `FW_LOG_HEAD_WRITE` (R314): a head that moves backwards or beyond the tail is ignored. -/
def execFwLogHeadWrite (v : Word) (s : State) : Result :=
  let new := v.toNat % 2 ^ 17
  let head := s.rd F.FW_LOG_HEAD_INDEX 0
  if ringDist (s.rd F.FW_LOG_TAIL_INDEX 0) head < ringDist new head then .next s
  else .next (s.wr F.FW_LOG_HEAD_INDEX 0 new)

end Sys2Proof.Machine
end

