-- ==== Sys2Proof/Machine/Flash.lean ====
section
/-! DEFINITION. The steward's flash: Draft banks and their records (12, R350-R360), the areas of the
event recorder and the checkpoints (17). -/

namespace Sys2Proof.Machine

/-! ### Bytes of the flash -/

def State.flashByte (s : State) (a : Nat) : Byte := Tab.get s.stw.flash a 0xFF

def State.flashBytes (s : State) (a n : Nat) : List Byte := (List.range n).map fun k => s.flashByte (a + k)

/-- A program operation: a programmed bit goes from 1 to 0 only (notes/assumptions/30). -/
def State.program (s : State) (a : Nat) (bs : List Byte) : State :=
  let m := bs.zipIdx.foldl (fun m x =>
    Tab.put m (a + x.2) (Tab.get m (a + x.2) 0xFF &&& x.1) 0xFF) s.stw.flash
  { s with stw := { s.stw with flash := m } }

/-- An erase operation. -/
def State.eraseFlash (s : State) (a n : Nat) : State :=
  { s with stw := { s.stw with
    flash := Tab.clear (fun k => decide (a ≤ k ∧ k < a + n)) s.stw.flash } }

/-- Bytes `k` to `k + n - 1` of a list as a little-endian number. -/
def numAt (bs : List Byte) (k n : Nat) : Nat := ofLe ((bs.drop k).take n)

/-! ### Entries of record 0x0A (R360) -/

/-- Bytes 0-10 of a retirement's entry. -/
def retirementHead (r : Retirement) : List Byte :=
  match r with
  | .core p c k => le 1 1 ++ le 1 p.val ++ le 1 c.val ++ le 1 k.val ++ le 7 0
  | .cluster p c => le 1 2 ++ le 1 p.val ++ le 1 c.val ++ le 8 0
  | .bank q g b => le 1 3 ++ le 1 q.val ++ le 1 g.val ++ le 1 b.val ++ le 7 0
  | .bolt b none => le 1 4 ++ le 3 0 ++ le 4 b.val ++ le 3 0
  | .bolt b (some f) => le 1 4 ++ le 3 0 ++ le 4 b.val ++ le 1 1 ++ le 2 f.val
  | .row g c bank row => le 1 5 ++ le 1 g.val ++ le 1 c.val ++ le 1 bank ++ le 4 row ++ le 3 0
  | .extent e => le 1 6 ++ le 3 0 ++ le 4 e.val ++ le 3 0

/-- The kind code of a retirement's entry. -/
def retirementKind (r : Retirement) : Nat :=
  match r with
  | .core _ _ _ => 1
  | .cluster _ _ => 2
  | .bank _ _ _ => 3
  | .bolt _ _ => 4
  | .row _ _ _ _ => 5
  | .extent _ => 6

/-- The 16 bytes of a retirement's entry. -/
def retirementBytes (r : Retirement) : List Byte :=
  let h := retirementHead r
  h ++ [0xA5] ++ le 4 (crc32c h)

/-- The fields of an entry within their ranges. -/
def entryFields (bs : List Byte) : Option Retirement :=
  let b (k : Nat) : Nat := numAt bs k 1
  let n := numAt bs 4 4
  let p := b 1
  let c := b 2
  let k := b 3
  let plain := numAt bs 8 3 == 0
  match b 0 with
  | 1 => if decide (p < 16 ∧ c < 100 ∧ k < 17 ∧ n = 0) && plain then
      some (.core (Fin.ofNat 16 p) (Fin.ofNat 100 c) (Fin.ofNat 17 k)) else none
  | 2 => if decide (p < 16 ∧ c < 100 ∧ k = 0 ∧ n = 0) && plain then
      some (.cluster (Fin.ofNat 16 p) (Fin.ofNat 100 c)) else none
  | 3 => if decide (p < 4 ∧ c < 32 ∧ k < 33 ∧ n = 0) && plain then
      some (.bank (Fin.ofNat 4 p) (Fin.ofNat 32 c) (Fin.ofNat 33 k)) else none
  | 4 =>
    let f := numAt bs 9 2
    if p = 0 ∧ c = 0 ∧ k = 0 ∧ n < 256 then
      if plain then some (.bolt (Fin.ofNat 256 n) none)
      else if b 8 = 1 ∧ f < 256 then some (.bolt (Fin.ofNat 256 n) (some (Fin.ofNat 256 f)))
      else none
    else none
  | 5 => if decide (p < 16 ∧ c < 16) && plain then
      some (.row (Fin.ofNat 16 p) (Fin.ofNat 16 c) k n) else none
  | 6 => if decide (p = 0 ∧ c = 0 ∧ k = 0 ∧ n < 10240) && plain then
      some (.extent (Fin.ofNat 10240 n)) else none
  | _ => none

/-- An entry that counts (R360): byte 11 is 0xA5 and the CRC matches. -/
def entryOf (bs : List Byte) : Option Retirement :=
  if numAt bs 11 1 = 0xA5 ∧ numAt bs 12 4 = crc32c (bs.take 11) then entryFields bs else none

/-- The entries of a body of record 0x0A, 16 bytes each. -/
def repairEntries (body : List Byte) : List (List Byte) :=
  (List.range (numAt body 0 2)).map fun k => (body.drop (4 + 16 * k)).take 16

/-- Every appended entry of a body of record 0x0A passes its own check (R355); an entry whose byte 11
was not programmed does not count as one. -/
def appendedOk (body : List Byte) : Bool :=
  ((repairEntries body).drop (numAt body 2 2)).all fun e =>
    numAt e 11 1 != 0xA5 || (entryOf e).isSome

/-! ### Banks (R351-R353) -/

def bankBase (b : Nat) : Nat := b * 0x20000

/-- Records of a record area, as far as they can be told apart: type, version, body. -/
def splitRecords : Nat → List Byte → List (Nat × Nat × List Byte)
  | 0, _ => []
  | n + 1, bs =>
    let len := numAt bs 2 2
    if bs.length < 4 + len then []
    else (numAt bs 0 1, numAt bs 1 1, (bs.drop 4).take len) ::
      splitRecords n (bs.drop (4 + (len + 3) / 4 * 4))

/-- Bytes that `n` records take. -/
def recordsLength : List (Nat × Nat × List Byte) → Nat
  | [] => 0
  | r :: l => 4 + (r.2.2.length + 3) / 4 * 4 + recordsLength l

/-- A record area without the appended entries of record 0x0A, as the digest covers it (R352). -/
def digestArea : Nat → List Byte → List Byte
  | 0, bs => bs
  | n + 1, bs =>
    let len := numAt bs 2 2
    if bs.length < 4 + len then bs
    else
      let rec' := bs.take (4 + (len + 3) / 4 * 4)
      let cut := if numAt bs 0 1 = 0x0A then
          rec'.take (8 + 16 * numAt bs 6 2) ++ rec'.drop (8 + 16 * numAt bs 4 2)
        else rec'
      cut ++ digestArea n (bs.drop (4 + (len + 3) / 4 * 4))

structure Bank where
  header : List Byte
  area : List Byte
  deriving DecidableEq, Repr

/-- A bank as the flash holds it. -/
def State.bank (s : State) (b : Nat) : Bank :=
  let h := s.flashBytes (bankBase b) 128
  { header := h, area := s.flashBytes (bankBase b + 128) (min 130944 (numAt h 8 4)) }

def Bank.count (k : Bank) : Nat := numAt k.header 6 2
def Bank.generation (k : Bank) : Nat := numAt k.header 12 4
def Bank.digest (k : Bank) : Nat := numAt k.header 16 64
def Bank.records (k : Bank) : List (Nat × Nat × List Byte) := splitRecords k.count k.area

/-- What the digest of a bank must be (R352). -/
def Bank.hash (k : Bank) : Nat :=
  (Config.shake256 (k.header.take 12 ++ digestArea k.count k.area)).toNat

/-- A bank usable but for its commit byte (R355). -/
def Bank.sound (k : Bank) : Bool :=
  numAt k.header 0 4 == 0x5A445231 && numAt k.header 4 2 == 1 &&
  decide (1 ≤ k.count ∧ k.count ≤ 14) && decide (8 ≤ numAt k.header 8 4 ∧ numAt k.header 8 4 ≤ 130944) &&
  k.digest == k.hash && k.records.all fun r => r.1 != 0x0A || appendedOk r.2.2

/-- R355. -/
def Bank.usable (k : Bank) : Bool := k.sound && numAt k.header 127 1 == 0xA5

/-- The records of a bank as they come into force. -/
def Bank.draft (k : Bank) : List DraftRec := k.records.map fun r => ⟨r.1, r.2.2⟩

/-- Where the body of record 0x0A of a bank lies, and its length. -/
def State.repairAt (s : State) (b : Nat) : Option (Nat × Nat) :=
  go 14 (bankBase b + 128)
where
  go : Nat → Nat → Option (Nat × Nat)
  | 0, _ => none
  | n + 1, a =>
    let len := numAt (s.flashBytes a 4) 2 2
    let type := (s.flashByte a).toNat
    if type = 0x0A then some (a + 4, len)
    else if type = 0xFF then none
    else go n (a + 4 + (len + 3) / 4 * 4)

/-- The next erased entry of record 0x0A of a bank (R360). -/
def State.erasedEntry? (s : State) (b : Nat) : Option Nat :=
  match s.repairAt b with
  | none => none
  | some (a, _) =>
    let cap := numAt (s.flashBytes a 2) 0 2
    let base := numAt (s.flashBytes (a + 2) 2) 0 2
    (((List.range cap).drop base).find? fun k =>
      (s.flashBytes (a + 4 + 16 * k) 16).all (· == 0xFF)).map fun k => a + 4 + 16 * k

/-- A retirement appended to record 0x0A of a bank: bytes 0-10 and 12-15, then byte 11 (R360). -/
def State.appendEntry (s : State) (b : Nat) (r : Retirement) : State :=
  match s.erasedEntry? b with
  | some a =>
    let bs := retirementBytes r
    ((s.program a (bs.take 11)).program (a + 12) (bs.drop 12)).program (a + 11) [0xA5]
  | none => s

/-- One record as it lies in a bank (R353). -/
def recordImage (r : DraftRec) : List Byte :=
  le 1 r.type ++ [1] ++ le 2 r.body.length ++ padTo ((r.body.length + 3) / 4 * 4) r.body

/-- A bank written whole by the steward (R337, R338, R364), `COMMIT` last. -/
def State.writeBank (s : State) (b : Nat) (recs : List DraftRec) (gen : Nat) : State :=
  let area := recs.flatMap recordImage
  let head := le 4 0x5A445231 ++ le 2 1 ++ le 2 recs.length ++ le 4 area.length
  let hash := (Config.shake256 (head ++ digestArea recs.length area)).toNat
  let s := s.eraseFlash (bankBase b) 0x20000
  let s := s.program (bankBase b) (head ++ le 4 gen ++ le 64 hash ++ le 47 0)
  let s := s.program (bankBase b + 128) area
  s.program (bankBase b + 127) [0xA5]

/-! ### Event records (R502-R505) -/

/-- The 64 bytes of a record without its commit byte programmed: bytes 1-63. -/
def Record.tail (r : Record) : List Byte :=
  let b := le 1 r.type ++ le 2 r.code ++ le 4 r.seq ++ le 4 r.opTime ++ le 3 r.cycles ++ le 1 r.slot ++
    padTo 40 r.data ++ le 4 0
  b ++ le 4 (crc32c b)

def Record.bytes (r : Record) : List Byte := 0xA5 :: r.tail

inductive SlotState where
  | empty | valid | torn
  deriving DecidableEq, Repr

/-- R504. -/
def slotState (bs : List Byte) : SlotState :=
  if numAt bs 0 1 = 0xA5 ∧ numAt bs 60 4 = crc32c ((bs.drop 1).take 59) then .valid
  else if bs.all (· == 0xFF) then .empty else .torn

/-- Byte offset of slot `k` of the permanent area (R500). -/
def permAt (k : Nat) : Nat := 0x40000 + 64 * k

/-- Byte offset of slot `k` of the circulating area (R500). -/
def circAt (k : Nat) : Nat := 0x46000 + 64 * k

def cfgCircSectors : Setting := ⟨0x0B, 0, 2, 65⟩
def cfgCheckpointMin : Setting := ⟨0x0B, 2, 1, 15⟩

/-- Slots of the circulating area. -/
def State.circSize (s : State) : Nat := 64 * s.cfg cfgCircSectors

def State.slot (s : State) (a : Nat) : List Byte := s.flashBytes a 64

/-- Slots of `n` that hold anything, from a byte offset on, in ascending order. -/
def State.usedSlots64 (s : State) (a n : Nat) : List Nat :=
  (s.stw.flash.filterMap fun e =>
    if a ≤ e.1 ∧ e.1 < a + 64 * n then some ((e.1 - a) / 64) else none).eraseDups

/-- Valid records of the circulating area, from the newest to the oldest by position: their slots
(R505, R515). -/
def State.circOrder (s : State) : List Nat :=
  let n := s.circSize
  let pos := s.rd I.circPos 0
  let used := (s.usedSlots64 (circAt 0) n).filter fun k => slotState (s.slot (circAt k)) == .valid
  let before := used.filter (· < pos)
  let after := used.filter (pos ≤ ·)
  before.reverse ++ after.reverse

/-- The readable records of the circulating area (R512, R515): down to the newest clear record. -/
def State.circReadable (s : State) : List Nat := cut s.circOrder
where
  cut : List Nat → List Nat
  | [] => []
  | k :: l => if numAt (s.slot (circAt k)) 1 1 = 0x0A then [k] else k :: cut l

/-- Torn slots of all areas (R504). -/
def State.tornSlots (s : State) : Nat :=
  let torn (a n : Nat) : Nat := (s.usedSlots64 a n).countP fun k => slotState (s.slot (a + 64 * k)) == .torn
  torn (permAt 0) 256 + torn (circAt 0) s.circSize

/-- A slot programmed: bytes 1-63, then the commit byte (R504). -/
def State.programSlot (s : State) (a : Nat) (r : Record) : State :=
  (s.program (a + 1) r.tail).program a [0xA5]

/-- The next empty circulating slot, its sector erased before its first slot is written (R510). -/
def State.writeCirc (s : State) (r : Record) : State :=
  let pos := s.rd I.circPos 0 % s.circSize
  let s := if pos % 64 = 0 then s.eraseFlash (circAt pos) 4096 else s
  (s.programSlot (circAt pos) r).wr I.circPos 0 ((pos + 1) % s.circSize)

/-- A record written to flash (R509): the permanent copy first. -/
def State.writeRecord (s : State) (r : Record) : State :=
  let s :=
    if r.type = 5 then
      let k := s.rd F.LOG_PERM_SEAL_USED 0
      if k < 16 then
        ((s.programSlot (permAt (240 + k)) r).wr F.LOG_PERM_SEAL_USED 0 (k + 1)).wr
          F.PRES_GRANT_SEAL_SLOTS 0 (k + 1)
      else s
    else
      let k := s.rd F.LOG_PERM_PERM_USED 0
      if k < 240 then (s.programSlot (permAt k) r).wr F.LOG_PERM_PERM_USED 0 (k + 1) else s
  s.writeCirc r

/-- The record in hand of the queue: a run of lost records is covered by one record of type 0x0B as soon as
the queue has room (R511). -/
def State.coverLost (s : State) : State :=
  let n := s.rd I.logLostCount 0
  if n ≠ 0 ∧ s.stw.records.length < 64 then
    ((s.wr I.logLostCount 0 0).record 0x0B 0 (le 4 (s.rd I.logLostFirst 0) ++ le 4 n))
  else s

/-! ### Checkpoints (R506, R507) -/

/-- Byte offset of checkpoint slot `k`, 0-511. -/
def ckptAt (k : Nat) : Nat := 0x44000 + 16 * k

/-- Bytes 1-15 of a checkpoint. -/
def State.checkpointTail (s : State) (kind : Nat) : List Byte :=
  let b := le 1 kind ++ le 2 0 ++ le 4 s.opTime ++ le 3 (s.rd F.LOG_CYCLES_CYCLES 0) ++ le 1 0
  b ++ le 4 (crc32c b)

/-- A checkpoint written to the next slot; the older sector is erased as the newer one comes into use. -/
def State.writeCheckpoint (s : State) (kind : Nat) : State :=
  let pos := s.rd I.ckptPos 0
  let s := (s.program (ckptAt pos + 1) (s.checkpointTail kind)).program (ckptAt pos) [0xA5]
  let s := if pos = 0 then s.eraseFlash (ckptAt 256) 4096
    else if pos = 256 then s.eraseFlash (ckptAt 0) 4096 else s
  s.wr I.ckptPos 0 ((pos + 1) % 512)

/-- A valid checkpoint: its operating time and count. -/
def checkpointOf (bs : List Byte) : Option (Nat × Nat) :=
  if numAt bs 0 1 = 0xA5 ∧ numAt bs 12 4 = crc32c ((bs.drop 1).take 11) then
    some (numAt bs 4 4, numAt bs 8 3) else none

/-- Checkpoint slots that hold anything, ascending. -/
def State.usedCkpts (s : State) : List Nat :=
  (s.stw.flash.filterMap fun e =>
    if ckptAt 0 ≤ e.1 ∧ e.1 < ckptAt 512 then some ((e.1 - ckptAt 0) / 16) else none).eraseDups

/-- The newest valid checkpoint (R507): the highest count, then the highest operating time. -/
def State.newestCkpt (s : State) : Option (Nat × Nat × Nat) :=
  (s.usedCkpts.filterMap fun k => (checkpointOf (s.flashBytes (ckptAt k) 16)).map fun x => (k, x)).foldl
    (fun best x =>
      match best with
      | none => some x
      | some b => if b.2.2 < x.2.2 ∨ (b.2.2 = x.2.2 ∧ b.2.1 ≤ x.2.1) then some x else some b) none

/-- A checkpoint goes ahead of waiting records (R511); with a flash that declares suspend, one at `FRONT_N`
goes ahead of the operation in progress too (R508). -/
def insertCheckpoint (kind : Nat) (now : Bool) : List FlashOp → List FlashOp
  | [] => [.checkpoint kind]
  | op :: ops => if now then .checkpoint kind :: op :: ops else op :: before ops
where
  before : List FlashOp → List FlashOp
  | [] => [.checkpoint kind]
  | .record :: ops => .checkpoint kind :: .record :: ops
  | op :: ops => op :: before ops

/-- A checkpoint registered (R506); on bare defaults nothing is written (R349). -/
def State.queueCheckpoint (s : State) (kind : Nat) : State :=
  if s.bare then s
  else
    let ops := insertCheckpoint kind (kind == 2 && s.on I.flashSuspend 0) s.stw.flashOps
    { s with stw := { s.stw with flashOps := ops } }

/-! ### The log at auxiliary power-up (R505-R507, R516) -/

/-- Valid records of all areas: their 64 bytes. -/
def State.allRecords (s : State) : List (List Byte) :=
  let of (a n : Nat) : List (List Byte) := (s.usedSlots64 a n).filterMap fun k =>
    let b := s.slot (a + 64 * k)
    if slotState b = .valid then some b else none
  of (permAt 0) 256 ++ of (circAt 0) s.circSize

/-- The circulating slot that is written next: the one after the newest record, past torn slots up to the
end of the sector. -/
def State.findCirc (s : State) : Nat :=
  let n := s.circSize
  let valid := (s.usedSlots64 (circAt 0) n).filter fun k => slotState (s.slot (circAt k)) == .valid
  match valid with
  | [] => 0
  | k :: l =>
    let seqOf (j : Nat) : Nat := numAt (s.slot (circAt j)) 4 4
    let newest := l.foldl (fun b j => if seqOf b ≤ seqOf j then j else b) k
    let sector := newest / 64
    let last := (s.usedSlots64 (circAt (64 * sector)) 64).foldl max (newest % 64)
    (64 * sector + last + 1) % n

/-- Count and operating time restored, the next numbers and slots found (R505-R507). -/
def State.restoreLog (s : State) : State :=
  let ck := s.newestCkpt
  let recs := s.allRecords
  let cycles := match ck with
    | some x => min 0xFFFFFF (x.2.2 + 1)
    | none => 1
  let newestSeq := recs.foldl (fun m b => max m (numAt b 4 4)) 0
  -- the newest valid record is the one of the highest number (R505)
  let recTime := match recs.filter (fun b => numAt b 4 4 == newestSeq) with
    | b :: _ => numAt b 8 4
    | [] => 0
  let base := max ((ck.map fun x => x.2.1).getD 0) recTime
  let next := if recs.isEmpty then 0 else newestSeq + 1
  let perm := (s.usedSlots64 (permAt 0) 240).foldl (fun m k => max m (k + 1)) 0
  let seals := (s.usedSlots64 (permAt 240) 16).foldl (fun m k => max m (k + 1)) 0
  let pos := match ck with
    | some x =>
      let sector := x.1 / 256
      let last := (s.usedCkpts.filter fun k => k / 256 == sector).foldl max x.1
      (last + 1) % 512
    | none => 0
  let s := (s.wr F.LOG_CYCLES_CYCLES 0 cycles).wr I.opBase 0 base
  let s := (s.wr F.LOG_PERM_PERM_USED 0 perm).wr F.LOG_PERM_SEAL_USED 0 seals
  let s := (s.wr F.PRES_GRANT_SEAL_SLOTS 0 seals).wr I.ckptPos 0 pos
  let s := (s.wr I.circPos 0 s.findCirc).wr F.LOG_SEQ_NEXT 0 (next + s.stw.records.length)
  -- records registered since auxiliary power-up take their numbers and times now
  { s with stw := { s.stw with records := s.stw.records.zipIdx.map fun x =>
      { x.1 with seq := next + x.2, opTime := base + x.1.opTime, cycles := cycles } } }

end Sys2Proof.Machine
end

