-- ==== Sys2Proof/Machine/RecordCheck.lean ====
section
/-! DEFINITION. The record check of the Draft (12, R356-R368; the settings tables of 13-17) and the
resolution of pin claims. -/

namespace Sys2Proof.Machine

/-! ### Fields within their ranges -/

/-- Bytes `k` to `k + n - 1` of a body lie in a range. -/
def inRange (b : List Byte) (k n lo hi : Nat) : Bool := decide (lo ≤ numAt b k n ∧ numAt b k n ≤ hi)

/-- Fields, each with its place, length and range. -/
def allIn (b : List Byte) (fs : List (Nat × Nat × Nat × Nat)) : Bool :=
  fs.all fun f => inRange b f.1 f.2.1 f.2.2.1 f.2.2.2

/-- Bytes that are 0. -/
def zeros (b : List Byte) (k n : Nat) : Bool := numAt b k n == 0

/-- Record 0x01 (R357, R1, R3): `slot` is what `TRAY_SLOT[2:0]` reads. -/
def check01 (slot : Nat) (b : List Byte) : Bool :=
  let config := numAt b 0 1
  let packages := numAt b 1 1
  let fits := match config with
    | 0 => packages == 1
    | 1 => decide (2 ≤ packages ∧ packages ≤ 4 ∧ slot ≤ 3)
    | 2 => packages == 8
    | 3 => packages == 16
    | _ => false
  let side := numAt b 2 1
  let slotOk := numAt b 3 1 == 0xFF || (decide (numAt b 3 1 ≤ 7) && numAt b 3 1 == slot)
  b.length == 40 && fits && (side == 0 || (side == 1 && config == 3)) && slotOk && zeros b 36 4

/-- The codes of pin functions, and the parameters of those of classes 2 (R367). -/
def pinEntryOk (pin fn param : Nat) : Bool :=
  decide (pin ≤ 22) &&
  (match fn with
   | 1 => decide (param ≤ 5)
   | 2 | 3 | 4 => decide (param ≤ 1)
   | 5 => decide (param ≤ 2)
   | 6 | 7 | 8 | 9 | 0x10 | 0x11 | 0x12 | 0x13 => true
   | _ => false)

/-- The entries of record 0x02: pin, function, parameter. -/
def pinEntries (b : List Byte) : List (Nat × Nat × Nat) :=
  (List.range (b.length / 4)).map fun k => (numAt b (4 * k) 1, numAt b (4 * k + 1) 1, numAt b (4 * k + 2) 2)

/-- Record 0x02 (R358, R367). -/
def check02 (b : List Byte) : Bool :=
  b.length % 4 == 0 && decide (b.length ≤ 96) && (pinEntries b).all fun e => pinEntryOk e.1 e.2.1 e.2.2

/-- Record 0x03 (R447). -/
def check03 (b : List Byte) : Bool :=
  let levels (k lo hi : Nat) : Bool :=
    decide (numAt b k 1 < numAt b (k + 2) 1 ∧ numAt b (k + 2) 1 + 5 ≤ numAt b (k + 4) 1) &&
    allIn b [(k + 1, 1, 1, 10), (k + 3, 1, 1, 10), (k + 4, 1, lo, hi)]
  b.length == 32 && levels 0 95 108 && levels 5 85 100 &&
  allIn b [(10, 1, 20, 150), (11, 1, 20, 150), (12, 1, 20, 150), (13, 1, 20, 150), (14, 1, 1, 10),
    (15, 1, 1, 8), (16, 1, 1, 10), (17, 1, 10, 100), (18, 1, 20, 90), (19, 1, 60, 90), (20, 2, 10, 600),
    (22, 1, 0, 1), (23, 1, 0, 15), (24, 1, 5, 40), (25, 1, 10, 100), (26, 1, 10, 255), (27, 1, 50, 250),
    (28, 1, 5, 100), (29, 1, 1, 10), (30, 1, 1, 5)] &&
  numAt b 18 1 % numAt b 16 1 == 0 && decide (numAt b 25 1 < numAt b 27 1) && zeros b 31 1

/-- A demand table of eight points (R469): temperatures rise strictly, duties do not fall. -/
def tableOk (b : List Byte) (k : Nat) : Bool :=
  (List.range 8).all (fun j => inRange b (k + 2 * j + 1) 1 0 100) &&
  (List.range 7).all fun j =>
    decide (numAt b (k + 2 * j) 1 < numAt b (k + 2 * j + 2) 1) &&
    decide (numAt b (k + 2 * j + 1) 1 ≤ numAt b (k + 2 * j + 3) 1)

/-- Record 0x04 (R469, R454). -/
def check04 (b : List Byte) : Bool :=
  b.length == 156 &&
  allIn b [(0, 1, 0, 0x3F), (1, 1, 0, 3), (2, 1, 10, 120), (3, 1, 10, 60), (4, 2, 20, 500), (6, 1, 1, 10),
    (7, 1, 1, 4), (8, 2, 100, 10000), (10, 1, 1, 10), (11, 1, 1, 60), (12, 1, 0, 5), (13, 1, 1, 10),
    (14, 1, 25, 100), (15, 1, 25, 100), (16, 1, 1, 100), (17, 1, 10, 100), (18, 1, 1, 4), (19, 1, 1, 60),
    (20, 2, 100, 10000), (22, 2, 1, 65535), (24, 2, 1, 1000)] &&
  zeros b 26 2 && decide (120000 ≤ numAt b 4 2 * numAt b 8 2 * numAt b 7 1) &&
  (List.range 8).all fun t => tableOk b (28 + 16 * t)

/-- Record 0x05 (R392). -/
def check05 (b : List Byte) : Bool :=
  let points := numAt b 39 1
  let amps (k : Nat) : Nat := numAt b (40 + 4 * k) 2
  let time (k : Nat) : Nat := numAt b (42 + 4 * k) 2
  let rail (k : Nat) : Nat × Nat := (numAt b (72 + 4 * k) 1, numAt b (73 + 4 * k) 1)
  b.length == 100 &&
  allIn b [(0, 2, 4000, 5000), (2, 2, 3600, numAt b 0 2 - 100), (4, 2, 5500, 6300),
    (6, 2, numAt b 0 2, 5500), (8, 2, numAt b 6 2 + 50, 5800), (10, 2, 10, 1000), (12, 1, 10, 200),
    (13, 1, 0, 1), (14, 2, 50, 5000), (16, 2, 10, 500), (18, 2, 20, 400), (20, 1, 5, amps 0 / 10),
    (21, 1, 0, 1), (22, 2, 5, 500), (24, 2, 1, 10000), (26, 1, 80, 175), (27, 1, 0, 7),
    (28, 2, 100, 5000), (30, 2, 200, 20000), (32, 2, amps (points - 1) + 1, 1500), (34, 2, 10, 1000),
    (36, 2, 1, 600), (38, 1, 1, 8), (39, 1, 1, 8)] &&
  (List.range points).all (fun k => decide (10 ≤ amps k ∧ amps k ≤ 2000)) &&
  time 0 == 0 && (List.range points).all (fun k => k == 0 || decide (1 ≤ time k)) &&
  (List.range (points - 1)).all (fun k =>
    decide (amps k < amps (k + 1)) && (k == 0 || decide (time (k + 1) < time k))) &&
  (List.range 7).all (fun k =>
    allIn b [(72 + 4 * k, 1, 0x08, 0x77), (73 + 4 * k, 1, 0, 31), (74 + 4 * k, 1, 1, 255)] &&
    zeros b (75 + 4 * k) 1 && (List.range k).all fun j => rail j != rail k)

/-- Record 0x06 (R434). -/
def check06 (b : List Byte) : Bool :=
  b.length == 44 &&
  allIn b [(0, 2, max 400 (numAt b 2 2 + 200), 1800), (2, 2, 200, 800), (36, 2, 20, 200), (38, 2, 20, 300),
    (40, 1, 20, 80), (41, 1, 0, 30)] && zeros b 42 2 &&
  (List.range 16).all (fun k => inRange b (4 + 2 * k) 2 0 256) &&
  decide (((List.range 16).map fun k => numAt b (4 + 2 * k) 2).sum ≤ 256)

/-- Record 0x07 (R340), laid out as notes/assumptions/31 says. -/
def check07 (b : List Byte) : Bool :=
  b.length == 4 && allIn b [(0, 1, 0, 1), (1, 1, 0, 1), (2, 2, 0, 0x7FFF)]

/-- Record 0x08: an owner key, or empty (R338, R364). -/
def check08 (b : List Byte) : Bool := b.length == 57 || b.length == 0

/-- A signed 16-bit number at a place of a body. -/
def int16At (b : List Byte) (k : Nat) : Int := (BitVec.ofNat 16 (numAt b k 2)).toInt

/-- Record 0x09 (R365). -/
def check09 (b : List Byte) : Bool :=
  let n := numAt b 0 2
  let kind (k : Nat) : Nat := numAt b (2 + 8 * k) 1
  let index (k : Nat) : Nat := numAt b (3 + 8 * k) 1
  decide (n ≤ 128) && b.length == 2 + 8 * n &&
  (List.range n).all fun k =>
    let off := (int16At b (6 + 8 * k)).natAbs
    let ok := match kind k with
      | 1 => decide (index k ≤ 89 ∧ off ≤ 512)
      | 2 => decide (index k ≤ 8 ∧ off ≤ 200)
      | 3 => decide (index k ≤ 15 ∧ off ≤ 250)
      | 4 => decide (index k ≤ 31 ∧ off = 0)
      | _ => false
    ok && inRange b (4 + 8 * k) 2 0x3800 0x4800 && zeros b (8 + 8 * k) 2 &&
    (List.range k).all fun j => (kind j, index j) != (kind k, index k)

/-- Record 0x0A (R360, R358). -/
def check0A (b : List Byte) : Bool :=
  inRange b 0 2 16 2048 && b.length == 4 + 16 * numAt b 0 2 && decide (numAt b 2 2 ≤ numAt b 0 2) &&
  ((repairEntries b).take (numAt b 2 2)).all fun e => (entryOf e).isSome

/-- Record 0x0B (R501). -/
def check0B (b : List Byte) : Bool :=
  b.length == 8 && allIn b [(0, 2, 65, 1024), (2, 1, 5, 60), (3, 1, 0, 1)] && zeros b 4 4

/-- Record 0x0C (R358); the weft settings are clamped (R252). -/
def check0C (b : List Byte) : Bool :=
  b.length == 16 && inRange b 0 1 0 15 && zeros b 3 1 && zeros b 12 4

/-- Record 0x0D (R470). -/
def check0D (b : List Byte) : Bool :=
  b.length == 16 &&
  allIn b [(0, 1, 0, 2), (1, 1, 0, 2), (2, 1, 0, 2), (3, 1, 0, 1), (4, 2, 100, 5000), (8, 2, 100, 5000),
    (6, 2, max 3000 (numAt b 4 2 + 2000), 60000), (10, 2, max 3000 (numAt b 8 2 + 2000), 60000),
    (12, 1, 1, 10)] && zeros b 13 3

/-- Record 0x0E (R295), laid out as notes/assumptions/31 says. -/
def check0E (b : List Byte) : Bool := b.length == 4 && inRange b 0 1 0 2 && zeros b 1 1

/-- One record (R356). -/
def checkRecord (slot : Nat) (r : Nat × Nat × List Byte) : Bool :=
  r.2.1 == 1 && match r.1 with
    | 0x01 => check01 slot r.2.2
    | 0x02 => check02 r.2.2
    | 0x03 => check03 r.2.2
    | 0x04 => check04 r.2.2
    | 0x05 => check05 r.2.2
    | 0x06 => check06 r.2.2
    | 0x07 => check07 r.2.2
    | 0x08 => check08 r.2.2
    | 0x09 => check09 r.2.2
    | 0x0A => check0A r.2.2
    | 0x0B => check0B r.2.2
    | 0x0C => check0C r.2.2
    | 0x0D => check0D r.2.2
    | 0x0E => check0E r.2.2
    | _ => false

/-- Types ascend strictly (R353). -/
def ascending : List (Nat × Nat × List Byte) → Bool
  | a :: b :: l => decide (a.1 < b.1) && ascending (b :: l)
  | _ => true

/-- The record check of a bank (R356). -/
def Bank.checked (k : Bank) (slot : Nat) : Bool :=
  let rs := k.records
  rs.length == k.count && recordsLength rs == numAt k.header 8 4 && ascending rs &&
  rs.any (fun r => r.1 == 0x01) && rs.all (checkRecord slot)

/-! ### Settings of records 0x01, 0x07 and 0x0C -/

def cfgPackages : Setting := ⟨0x01, 1, 1, 8⟩
def cfgSide : Setting := ⟨0x01, 2, 1, 0⟩
def cfgButtonEn : Setting := ⟨0x07, 0, 1, 1⟩
def cfgSealEn : Setting := ⟨0x07, 1, 1, 1⟩
def cfgProtect : Setting := ⟨0x07, 2, 2, 0x11EA⟩
def cfgFlags : Setting := ⟨0x0C, 0, 1, 9⟩
def cfgStepTimeout : Setting := ⟨0x0C, 4, 2, 20⟩
def cfgJoinWindow : Setting := ⟨0x0C, 6, 2, 1000⟩

/-- Record `r` is protected (R340). -/
def State.isProtected (s : State) (r : Nat) : Bool :=
  r == 7 || r == 8 || (s.cfg cfgProtect).testBit r

/-! ### Pins (R367-R369) -/

/-- A claim on a pin: pin, function, parameter; `entry`: its place in record 0x02, none for a default. -/
structure Claim where
  pin : Nat
  fn : Nat
  param : Nat
  entry : Option Nat
  deriving DecidableEq, Repr

/-- The default functions on their pins. -/
def defaultClaims : List Claim :=
  (List.range 6).map (fun k => ⟨k, 1, k, none⟩) ++ [⟨6, 2, 0, none⟩, ⟨7, 2, 1, none⟩, ⟨8, 3, 0, none⟩,
    ⟨9, 3, 1, none⟩, ⟨10, 4, 0, none⟩, ⟨11, 4, 1, none⟩, ⟨12, 5, 0, none⟩, ⟨13, 5, 1, none⟩,
    ⟨14, 5, 2, none⟩, ⟨15, 6, 0, none⟩, ⟨16, 7, 0, none⟩, ⟨17, 8, 0, none⟩, ⟨18, 9, 0, none⟩]

/-- The class of a function. -/
def fnClass (fn : Nat) : Nat := if fn ≤ 5 then 2 else if fn ≤ 9 then 3 else 4

/-- Timers and capture buffers that a function takes. -/
def fnTimers (fn : Nat) : Nat :=
  if (1 ≤ fn ∧ fn ≤ 4) ∨ fn = 6 ∨ fn = 8 ∨ fn = 0x12 ∨ fn = 0x13 then 1 else 0
def fnBuffers (fn : Nat) : Nat := if fn = 1 ∨ fn = 3 ∨ fn = 4 ∨ fn = 0x12 then 1 else 0

/-- Two claims name the same function; the parameter tells channels of class 2 apart. -/
def sameFn (a b : Claim) : Bool := a.fn == b.fn && (fnClass a.fn != 2 || a.param == b.param)

/-- The first of two claims on a pin is kept: lower class, then the default, then the earlier entry. -/
def keepFirst (a b : Claim) : Bool :=
  let ca := fnClass a.fn
  let cb := fnClass b.fn
  decide (ca < cb) || (ca == cb &&
    match a.entry, b.entry with
    | none, _ => true
    | some _, none => false
    | some i, some j => decide (i ≤ j))

/-- The outcome of the resolution. -/
structure PinPlan where
  kept : List Claim := []
  pinLost : List Claim := []
  poolLost : List Claim := []
  timers : Nat := 16
  buffers : Nat := 12
  deriving DecidableEq, Repr

/-- Claims kept pin by pin, and those that lose their pin. -/
def byPin (claims : List Claim) : List Claim × List Claim :=
  let kept := (List.range 23).filterMap fun p =>
    match claims.filter (·.pin == p) with
    | [] => none
    | c :: cs => some (cs.foldl (fun a b => if keepFirst a b then a else b) c)
  (kept, claims.filter fun c => c ∉ kept)

/-- A moved function whose claims were all disabled returns to its default pin when that holds none. -/
def restoreMoved (kept : List Claim) : List Claim → List Claim
  | [] => kept
  | d :: ds =>
    let lost := !kept.any (sameFn d) && !kept.any (·.pin == d.pin)
    restoreMoved (if lost then kept ++ [d] else kept) ds

/-- R368. -/
def resolvePins (entries : List (Nat × Nat × Nat)) : PinPlan :=
  let es : List Claim := entries.zipIdx.map fun e => ⟨e.1.1, e.1.2.1, e.1.2.2, some e.2⟩
  let moved := defaultClaims.filter fun d => es.any (sameFn d)
  let r := byPin (defaultClaims.filter (fun d => !es.any (sameFn d)) ++ es)
  let kept := restoreMoved r.1 moved
  let inOrder := [2, 3, 4].flatMap fun c => (List.range 23).flatMap fun p =>
    kept.filter fun x => fnClass x.fn == c && x.pin == p
  inOrder.foldl (fun (x : PinPlan) c =>
    if x.timers < fnTimers c.fn ∨ x.buffers < fnBuffers c.fn then { x with poolLost := x.poolLost ++ [c] }
    else { x with
      kept := x.kept ++ [c], timers := x.timers - fnTimers c.fn, buffers := x.buffers - fnBuffers c.fn })
    { pinLost := r.2 }

/-- The pins resolved, and one event for each claim disabled (R369). -/
def State.setPins (s : State) : State :=
  let body := ((s.stw.draft.find? (·.type == 2)).map DraftRec.body).getD []
  let p := resolvePins (pinEntries body)
  let s : State := { s with stw := { s.stw with pins := p.kept.map fun c => (c.pin, c.fn, c.param) } }
  let s := (s.wr F.STW_CONFLICTS_PIN_LOST 0 (min 31 p.pinLost.length)).wr
    F.STW_CONFLICTS_POOL_LOST 0 (min 31 p.poolLost.length)
  let s := (s.wr F.STW_CONFLICTS_TIMERS_FREE 0 p.timers).wr F.STW_CONFLICTS_BUFFERS_FREE 0 p.buffers
  (p.pinLost ++ p.poolLost).foldl (fun s c => s.record 7 2 (le 1 c.pin)) s

/-- A function is on some pin; before a Draft is in force the defaults are (R367). -/
def State.hasFn (s : State) (fn param : Nat) : Bool :=
  if s.bare then true
  else s.stw.pins.any fun p => p.2.1 == fn && (fnClass fn != 2 || p.2.2 == param)

/-! ### Calibration (R365, R366) -/

/-- The user gain (0x4000 is 1) and offset of a channel. -/
def State.calibration (s : State) (kind index : Nat) : Int × Int :=
  match s.stw.draft.find? (·.type == 9) with
  | none => (0x4000, 0)
  | some r =>
    let ks := List.range (numAt r.body 0 2)
    match ks.find? fun k => numAt r.body (2 + 8 * k) 1 == kind && numAt r.body (3 + 8 * k) 1 == index with
    | some k => (int16At r.body (4 + 8 * k), int16At r.body (6 + 8 * k))
    | none => (0x4000, 0)

/-- A quotient rounded to the nearest whole number, halves away from zero. -/
def roundAway (n : Int) (d : Nat) : Int :=
  let q := (2 * n.natAbs + d) / (2 * d)
  if n < 0 then -(q : Int) else q

/-- A factory-calibrated reading with the user calibration applied. -/
def State.calibrate (s : State) (kind index : Nat) (x : Int) : Int :=
  let c := s.calibration kind index
  roundAway (x * c.1 + c.2 * 0x4000) 0x4000

end Sys2Proof.Machine
end

