-- ==== Sys2Proof/Machine/Presence.lean ====
section
/-! DEFINITION. Physical presence (11, R331-R344) and the device's random numbers (R341). -/

namespace Sys2Proof.Machine

/-! ### Banks written by the steward -/

/-- The bank in use: 0 A, 1 B (R355). -/
def State.bankInUse (s : State) : Nat := s.rd I.draftBank 0

/-- The bank that is not in use. -/
def State.otherBank (s : State) : Nat := 1 - s.bankInUse

/-- The records that the next auxiliary power-up reads unless more is written (R363). -/
def State.newestRecords (s : State) : List DraftRec :=
  (s.bank (if s.on I.nextBank 0 then s.otherBank else s.bankInUse)).draft

/-- A record put in its place by type. -/
def setRecord : List DraftRec → DraftRec → List DraftRec
  | [], r => [r]
  | x :: l, r =>
    if x.type < r.type then x :: setRecord l r
    else if x.type = r.type then r :: l else r :: x :: l

def bodyOf (recs : List DraftRec) (t : Nat) : Option (List Byte) :=
  (recs.find? (·.type == t)).map DraftRec.body

/-- A body of record 0x0A whose base entries are the given ones (R360). -/
def repairBody (cap : Nat) (es : List Retirement) : List Byte :=
  le 2 cap ++ le 2 es.length ++
    (es.flatMap retirementBytes ++ List.replicate (16 * cap) 0xFF).take (16 * cap)

/-- At a bank commit all valid entries become base entries (R360). -/
def State.foldRepairs (s : State) (recs : List DraftRec) : List DraftRec :=
  match bodyOf recs 0x0A with
  | some b => setRecord recs ⟨0x0A, repairBody (numAt b 0 2) (s.stw.repair.take (numAt b 0 2))⟩
  | none => recs

/-- Overflow retirements appended to a bank that is being committed, as far as it has erased entries (R57). -/
def State.appendOverflow (s : State) (b : Nat) : State :=
  s.stw.overflow.foldl (fun s r =>
    if (s.erasedEntry? b).isSome then
      let s := s.appendEntry b r
      { s with stw := { s.stw with
        repair := s.stw.repair ++ [r], overflow := s.stw.overflow.filter (· != r) } }
    else s) s

/-- A bank written whole into the bank not in use, with the next generation (R359, R362). -/
def State.commitBank (s : State) (recs : List DraftRec) : State :=
  let s := s.writeBank s.otherBank (s.foldRepairs recs) (s.rd I.draftGen 0 + 1)
  (s.appendOverflow s.otherBank).wr I.nextBank 0 1

/-! ### The end of a command -/

/-- The code of an arming path in `PRES_STATUS.PATH` and `DRAFT_CTRL.PATH`; 0: the path cannot arm. -/
def pathCode : Path → Nat
  | .host => 1
  | .smbus => 2
  | .horizon => 3
  | _ => 0

/-- A path reaches the steward window for writes of presence commands (R335). -/
def State.canArm (s : State) (path : Path) : Bool :=
  pathCode path != 0 && (path != .host || s.on I.dieUp 0)

/-- A completion or refusal written to the event log as a class C event (R337). -/
def State.presEvent (s : State) (op result path sources : Nat) (fp : List Byte) : State :=
  (s.bump F.FAULT_CLASSC_COUNT 0).record 4 op
    (le 1 result ++ le 1 path ++ le 1 sources ++ le 1 0 ++ fp)

/-- The armed command ends (R336-R338). -/
def State.presEnd (s : State) (a : Armed) (result : Nat) (fp : List Byte) : State :=
  let s : State := { s with stw := { s.stw with armed := none } }
  let s := (s.wr F.PRES_STATUS_STATE 0 (if result = 0 then 3 else 4)).wr F.PRES_STATUS_RESULT 0 result
  s.presEvent a.op result (pathCode a.path) a.sources fp

/-- A fingerprint shown in `PRES_RESULT0`-`7`. -/
def State.showFp (s : State) (fp : List Byte) : State :=
  (List.range 8).foldl (fun s k => s.wr F.PRES_RESULT_FP k (numAt fp (4 * k) 4)) s

/-- The fingerprint that R338 places for a command. -/
def presFp (a : Armed) : List Byte :=
  if a.op = 2 then fingerprint (a.data.take 57)
  else if a.op = 5 then fingerprint (padTo 57 Config.identityPub) else []

/-- A staging that a presence write discards (R361); a commit that is being written goes on. -/
def State.discardStaging (s : State) : State :=
  let st := s.rd F.DRAFT_CTRL_STATE 0
  if st = 0 ∨ st = 4 then s
  else (s.wr F.DRAFT_CTRL_STATE 0 0).wr F.DRAFT_CTRL_RESULT 0 6

/-- Command 0x04 with a grant (R362): the waiting commit goes on when the data are its digest. -/
def State.authorise (s : State) (a : Armed) : State :=
  if s.rd F.DRAFT_CTRL_STATE 0 = 3 then
    if ofLe a.data = (s.bank s.otherBank).digest then
      let s := (s.wr F.DRAFT_CTRL_STATE 0 4).wr F.PRES_STATUS_STATE 0 2
      { s with stw := { s.stw with armed := some a } }.queueFlash .commit
    else
      ((s.wr F.DRAFT_CTRL_STATE 0 2).wr F.DRAFT_CTRL_RESULT 0 4).presEnd a 4 []
  else s.presEnd a 4 []

/-- A command completes (R336-R338): its write is registered, or it is done. -/
def State.presComplete (s : State) (a : Armed) (sources : Nat) : State :=
  let a := { a with sources := sources }
  if a.op = 5 then (s.showFp (presFp a)).presEnd a 0 (presFp a)
  else if a.op = 4 then s.authorise a
  else if s.bare then s.presEnd a 5 (presFp a)
  else
    let s := if a.op = 1 then s else s.discardStaging
    let s : State := { s with stw := { s.stw with armed := some a } }
    (s.wr F.PRES_STATUS_STATE 0 2).queueFlash .presence

/-- The sources whose grants are active: bit 1 jumper, bit 2 seal. -/
def State.grants (s : State) (jumper ofSeal : Bool) : Nat :=
  2 * bit (jumper && s.on F.PRES_GRANT_JMP_GRANT 0) + 4 * bit (ofSeal && s.on F.PRES_GRANT_SEAL_GRANT 0)

/-- What R336 decides of the armed command in a tick without a press. -/
def State.presCheck (s : State) : State :=
  match s.stw.armed with
  | none => s
  | some a =>
    if s.rd F.PRES_STATUS_STATE 0 ≠ 1 then s
    else
      let jmp := s.on F.PRES_GRANT_JMP_GRANT 0
      let sl := s.on F.PRES_GRANT_SEAL_GRANT 0
      if (a.op = 1 ∨ a.op = 5) ∧ (jmp ∨ (a.op = 5 ∧ sl)) then
        s.presComplete a (s.grants true (a.op == 5))
      else if a.op = 3 ∧ sl then s.presComplete a (s.grants false true)
      else if a.op = 4 then
        if jmp then s.presComplete a (s.grants true false) else s.presEnd a 3 []
      else s

/-! ### Arming -/

/-- The data of a path: 64 bytes. -/
def State.presData (s : State) (path : Path) : List Byte :=
  (List.range 16).flatMap fun k => le 4 (s.rd F.PRES_DATA_DATA (pathIx path * 16 + k))

/-- A command is armed, being written or being checked (R335). -/
def State.presBusy (s : State) : Bool :=
  let st := s.rd F.PRES_STATUS_STATE 0
  st == 1 || st == 2

/-- An arming refused with `BUSY` (R335): the command in hand keeps its place. -/
def State.presRefuseBusy (s : State) (path : Path) (op : Nat) : State :=
  (s.wr F.PRES_STATUS_RESULT 0 1).presEvent op 1 (pathCode path) 0 []

/-- A command armed by a write of `PRES_CMD` (R334-R336). -/
def State.arm (s : State) (path : Path) (op : Nat) : State :=
  let a : Armed := { op := op, path := path, data := s.presData path, at' := s.us }
  let s : State := { s with stw := { s.stw with armed := some a } }
  let s := (s.wr F.PRES_STATUS_STATE 0 1).wr F.PRES_STATUS_RESULT 0 0
  (s.wr F.PRES_STATUS_PATH 0 (pathCode path)).wr F.PRES_STATUS_OPCODE 0 op

/-- An arming write of a known opcode. -/
def State.presArm (s : State) (path : Path) (op : Nat) : State :=
  if !s.canArm path then s
  else if s.presBusy then s.presRefuseBusy path op
  else (s.arm path op).presCheck

/-- `PRES_CLEAR_EVENT_LOG` (R334-R338). -/
def execPresClearEventLog (path : Path) (s : State) : Result := .next (s.presArm path 1)

/-- `PRES_ENROL_OWNER_KEY` (R334-R338): `keyOk`: the key decodes as an Ed448 point.  The staged key's
fingerprint appears at arming. -/
def execPresEnrolOwnerKey (path : Path) (keyOk : Bool) (s : State) : Result :=
  if !s.canArm path then .next s
  else if s.presBusy then .next (s.presRefuseBusy path 2)
  else
    let s := s.arm path 2
    match s.stw.armed with
    | some a =>
      if !keyOk ∨ numAt a.data 57 7 ≠ 0 then .next (s.presEnd a 4 [])
      else .next ((s.showFp (presFp a)).presCheck)
    | none => .next s

/-- `PRES_REMOVE_OWNER` (R334-R338). -/
def execPresRemoveOwner (path : Path) (s : State) : Result := .next (s.presArm path 3)

/-- `PRES_REWRITE_PROTECTED` (R334-R338, R362). -/
def execPresRewriteProtected (path : Path) (s : State) : Result := .next (s.presArm path 4)

/-- `PRES_READ_IDENTITY` (R334-R338). -/
def execPresReadIdentity (path : Path) (s : State) : Result := .next (s.presArm path 5)

/-- `PRES_BAD_OPCODE` (R344). -/
def execPresBadOpcode (path : Path) (op : BitVec 8) (s : State) : Result :=
  if !s.canArm path ∨ (1 ≤ op.toNat ∧ op.toNat ≤ 5) then .next s
  else if s.presBusy then .next (s.presRefuseBusy path op.toNat)
  else
    let s := s.arm path op.toNat
    match s.stw.armed with
    | some a => .next (s.presEnd a 8 [])
    | none => .next s

/-- `PRES_CANCEL` (R336, R344). -/
def execPresCancel (path : Path) (s : State) : Result :=
  match s.stw.armed with
  | some a =>
    if s.rd F.PRES_STATUS_STATE 0 = 1 ∧ a.path = path then .next (s.presEnd a 6 []) else .next s
  | none => .next s

/-- `PRES_ARM_EXPIRE` (R336): 60 s after the arming. -/
def execPresArmExpire (s : State) : Result :=
  match s.stw.armed with
  | some a => if s.rd F.PRES_STATUS_STATE 0 = 1 then .next (s.presEnd a 2 []) else .next s
  | none => .next s

/-! ### Sources -/

/-- `PRESENCE_PRESS` (R331, R336, R340). -/
def execPresencePress (s : State) : Result :=
  if s.cfg cfgButtonEn ≠ 1 ∨ !s.hasFn 6 0 then .next s
  else match s.stw.armed with
    | none => .next s
    | some a =>
      if s.rd F.PRES_STATUS_STATE 0 ≠ 1 then .next s
      else if (a.op = 2 ∨ a.op = 3) ∧ !s.on F.PRES_GRANT_JMP_GRANT 0 then
        .next (s.presEnd { a with sources := 1 } 3 [])
      else .next (s.presComplete a (1 + s.grants (a.op == 2 || a.op == 3) false))

/-- Seal openings registered and not yet written. -/
def State.sealsWaiting (s : State) : Nat := s.stw.records.countP fun r => r.type == 5

/-- `SEAL_OPENING` (R331-R333): the opening is recorded; its grant begins when the record is written. -/
def execSealOpening (s : State) : Result :=
  let s := s.wr F.PRES_GRANT_LOOP_OPEN 0 1
  if s.on F.PRES_GRANT_SEAL_READY 0 then
    let k := s.rd F.LOG_PERM_SEAL_USED 0 + s.sealsWaiting
    .next ((s.wr F.PRES_GRANT_SEAL_READY 0 0).record 5 0 (le 1 (if k < 16 then 240 + k else 0xFF)))
  else .next s

/-- `SEAL_READY` (R332, R369). -/
def execSealReady (s : State) : Result :=
  if s.hasFn 8 0 ∧ s.hasFn 9 0 then
    .next ((s.wr F.PRES_GRANT_LOOP_OPEN 0 0).wr F.PRES_GRANT_SEAL_READY 0 1)
  else .next s

/-- A seal opening has been written into a seal slot: its grant begins (R333, R340). -/
def State.sealWritten (s : State) (r : Record) : State :=
  if r.type = 5 ∧ numAt r.data 0 1 ≠ 0xFF ∧ s.cfg cfgSealEn = 1 then
    ((s.wr F.PRES_GRANT_SEAL_GRANT 0 1).wr I.sealAt 0 s.us).presCheck
  else s

/-- `GRANT_EXPIRE` (R331). -/
def execGrantExpire (ofSeal : Bool) (s : State) : Result :=
  .next (s.wr (if ofSeal then F.PRES_GRANT_SEAL_GRANT else F.PRES_GRANT_JMP_GRANT) 0 0)

/-! ### The write of a completed command (R337, R338) -/

/-- The clear of the circulating area (R512): its record is the first afterwards. -/
def State.clearLog (s : State) (path : Nat) : State :=
  let newest := match s.circOrder with
    | k :: _ => numAt (s.slot (circAt k)) 4 4
    | [] => 0
  let seq := s.rd F.LOG_SEQ_NEXT 0
  let r : Record := ⟨0x0A, 0, seq, s.opTime, s.rd F.LOG_CYCLES_CYCLES 0, s.rd F.STW_STATUS_NODE 0,
    le 1 path ++ le 3 0 ++ le 4 newest⟩
  (s.wr F.LOG_SEQ_NEXT 0 (seq + 1)).writeRecord r

/-- The owner key or the removal of the owner written into a new bank (R338). -/
def State.writeOwner (s : State) (a : Armed) : State :=
  let recs := s.newestRecords
  let recs :=
    if a.op = 2 then setRecord recs ⟨8, a.data.take 57⟩
    else
      let sec := match bodyOf recs 0x0E with
        | some b => numAt b 2 2
        | none => 0
      setRecord (setRecord recs ⟨8, []⟩) ⟨0x0E, [0, 0] ++ le 2 sec⟩
  let s := s.commitBank recs
  { s with stw := { s.stw with keyPending := true } }

/-- The write of the completed command ends (R337). -/
def State.presWritten (s : State) (ok : Bool) : State :=
  match s.stw.armed with
  | none => s
  | some a =>
    if s.rd F.PRES_STATUS_STATE 0 ≠ 2 then s
    else if !ok then s.presEnd a 5 (presFp a)
    else if a.op = 1 then (s.clearLog (pathCode a.path)).presEnd a 0 []
    else (s.writeOwner a).presEnd a 0 (presFp a)

/-! ### Random numbers (R341) -/

/-- `DRBG_HEALTH_FAIL`: the DRBG stops; the Selvage die's own is a class B fault of the steward. -/
def execDrbgHealthFail (selvage : Bool) (s : State) : Result :=
  if selvage then .next (s.fault 60 0)
  else if s.on I.dieUp 0 then .next (s.wr F.SEC_STATUS_DRBG_STOP 0 1) else .next s

/-- `DRBG_RESEED`: waiting operations continue. -/
def execDrbgReseed (selvage : Bool) (s : State) : Result :=
  if selvage then .next (s.causeEnds 60)
  else .next (s.wr F.SEC_STATUS_DRBG_STOP 0 0).goOn

/-- `DRBG_STOP_TIMEOUT`: stopped for 1 s. -/
def execDrbgStopTimeout (s : State) : Result :=
  if s.on F.SEC_STATUS_DRBG_STOP 0 then .next (s.chipReset 4) else .next s

end Sys2Proof.Machine
end

