-- ==== Sys2Proof/Machine/Draft.lean ====
section
/-! DEFINITION. Staging and committing a Draft (12, R359-R364), the flash queue, and the event
recorder's writes and reads (17). -/

namespace Sys2Proof.Machine

/-! ### Staging -/

/-- A path stages a bank: the host window, or SMBus, and on bare defaults SMBus only (R361, R364, R388). -/
def State.mayStage (s : State) (path : Path) : Bool :=
  match path with
  | .smbus => true
  | .host => s.on I.dieUp 0 && !s.bare
  | _ => false

/-- This path began the staging in hand. -/
def State.isStager (s : State) (path : Path) : Bool :=
  s.mayStage path && s.rd F.DRAFT_CTRL_PATH 0 == pathCode path

/-- `DRAFT_BEGIN` (R361). -/
def execDraftBegin (path : Path) (s : State) : Result :=
  if !s.mayStage path ∨ s.rd F.DRAFT_CTRL_STATE 0 ≠ 0 then .next s
  else
    let s := s.wr F.DRAFT_CTRL_PATH 0 (pathCode path)
    if s.rd F.STW_STATUS_BARE_CAUSE 0 = 1 then .next (s.wr F.DRAFT_CTRL_RESULT 0 5)
    else
      let s : State := { s with stw := { s.stw with repairSince := [] } }
      .next (s.wr F.DRAFT_CTRL_STATE 0 1)

/-- A flash error in a staging. -/
def State.stagingError (s : State) : State :=
  (s.wr F.DRAFT_CTRL_STATE 0 0).wr F.DRAFT_CTRL_RESULT 0 5

/-- `DRAFT_ERASE_DONE` (R361): what the erased bank held of a later Draft is gone. -/
def execDraftEraseDone (st : FlashStatus) (s : State) : Result :=
  if s.rd F.DRAFT_CTRL_STATE 0 ≠ 1 then .next s
  else match st with
    | .failed => .next s.stagingError
    | .ok =>
      let s := (s.eraseFlash (bankBase s.otherBank) 0x20000).wr I.nextBank 0 0
      let s : State := { s with stw := { s.stw with keyPending := false } }
      .next (s.wr F.DRAFT_CTRL_STATE 0 2)

/-- `DRAFT_STG_DATA_WRITE` (R361, R388): header byte 127 is never programmed from staging. -/
def execDraftStgDataWrite (path : Path) (v : Word) (s : State) : Result :=
  let a := s.rd F.DRAFT_STG_ADDR_ADDR 0 / 4 * 4
  if s.rd F.DRAFT_CTRL_STATE 0 ≠ 2 ∨ !s.isStager path ∨ 0x20000 ≤ a then .next s
  else
    let bs := if a = 124 then le 3 v.toNat else le 4 v.toNat
    .next ((s.program (bankBase s.otherBank + a) bs).wr F.DRAFT_STG_ADDR_ADDR 0 (a + 4))

/-- A body as a commit compares it: record 0x0A without its appended entries. -/
def comparedBody (recs : List DraftRec) (t : Nat) : Option (List Byte) :=
  if t = 0x0A then (bodyOf recs t).map fun b => b.take (4 + 16 * numAt b 2 2) else bodyOf recs t

/-- A protected record differs between a staged bank and the bank in use (R362, R340). -/
def State.protectedDiffer (s : State) (staged used : List DraftRec) : Bool :=
  ((List.range 13).map (· + 1)).any fun t =>
    s.isProtected t && comparedBody staged t != comparedBody used t

/-- A commit refused: the staging goes on. -/
def State.refuseCommit (s : State) (result : Nat) : State := s.wr F.DRAFT_CTRL_RESULT 0 result

/-- `DRAFT_COMMIT` (R362, R364): the staged bank checked, then committed, or left to wait for presence. -/
def execDraftCommit (path : Path) (s : State) : Result :=
  if s.rd F.DRAFT_CTRL_STATE 0 ≠ 2 ∨ !s.isStager path then .next s
  else
    let k := s.bank s.otherBank
    let used := (s.bank s.bankInUse).draft
    if !k.sound then .next (s.refuseCommit 2)
    else if !k.checked (s.rd I.slot 0) then .next (s.refuseCommit 3)
    else if s.bare then .next (s.wr F.DRAFT_CTRL_STATE 0 3)
    else if bodyOf k.draft 8 ≠ bodyOf used 8 ∨ bodyOf k.draft 0x0E ≠ bodyOf used 0x0E then
      .next (s.refuseCommit 1)
    else if s.protectedDiffer k.draft used then .next (s.wr F.DRAFT_CTRL_STATE 0 3)
    else .next ((s.wr F.DRAFT_CTRL_STATE 0 4).queueFlash .commit)

/-- `DRAFT_ABORT` (R361). -/
def execDraftAbort (path : Path) (s : State) : Result :=
  let st := s.rd F.DRAFT_CTRL_STATE 0
  if (st = 1 ∨ st = 2 ∨ st = 3) ∧ s.isStager path then
    .next ((s.wr F.DRAFT_CTRL_STATE 0 0).wr F.DRAFT_CTRL_RESULT 0 7)
  else .next s

/-- The header fields that the commit writes: `GENERATION`, then `COMMIT`. -/
def State.sealBank (s : State) (b gen : Nat) : State :=
  let m := (le 4 gen).zipIdx.foldl
    (fun m x => Tab.put m (bankBase b + 12 + x.2) x.1 0xFF) s.stw.flash
  { s with stw := { s.stw with flash := m } }.program (bankBase b + 127) [0xA5]

/-- The staged bank committed (R362); on bare defaults records 0x08 and 0x0E are the steward's (R364). -/
def State.commitStaged (s : State) : State :=
  let b := s.otherBank
  let gen := s.rd I.draftGen 0 + 1
  let s :=
    if s.bare then
      s.writeBank b (setRecord (setRecord (s.bank b).draft ⟨8, []⟩) ⟨0x0E, [0, 0, 0, 0]⟩) gen
    else (s.stw.repairSince.foldl (fun s r => s.appendEntry b r) s).sealBank b gen
  let s := (s.appendOverflow b).wr I.nextBank 0 1
  (s.wr F.DRAFT_CTRL_STATE 0 0).wr F.DRAFT_CTRL_RESULT 0 0

/-- The write of a commit ends; a commit that command 0x04 authorised ends the command too (R337). -/
def State.commitWritten (s : State) (ok : Bool) : State :=
  if s.rd F.DRAFT_CTRL_STATE 0 ≠ 4 then s
  else
    let s := if ok then s.commitStaged else s.stagingError
    let s := if ok then s.record 7 3
        (le 1 (s.rd F.STW_STATUS_DRAFT 0) ++ le 3 0 ++ le 4 (s.rd I.draftGen 0 + 1)) else s
    match s.stw.armed with
    | some a => if a.op = 4 ∧ s.rd F.PRES_STATUS_STATE 0 = 2 then s.presEnd a (if ok then 0 else 5) []
                else s
    | none => s

/-! ### Flash writes (R359) -/

/-- The first waiting record written (R504, R509); a run of lost records is covered when there is room. -/
def State.eventWritten (s : State) (ok : Bool) : State :=
  match s.stw.records with
  | [] => s
  | r :: rs =>
    let s : State := { s with stw := { s.stw with records := rs } }
    let s :=
      if ok then (s.writeRecord r).sealWritten r
      else
        -- the slot in progress is left torn (R504)
        let pos := s.rd I.circPos 0 % s.circSize
        let s := if pos % 64 = 0 then s.eraseFlash (circAt pos) 4096 else s
        (s.program (circAt pos + 1) (le 1 r.type)).wr I.circPos 0 ((pos + 1) % s.circSize)
    s.coverLost

/-- The first queued retirement appended to record 0x0A, or kept in the overflow list (R57, R360); a bank
committed for the next power-up takes it too (R363). -/
def State.retirementWritten (s : State) (ok : Bool) : State :=
  match s.stw.retireQueue with
  | [] => s
  | r :: rs =>
    let s : State := { s with stw := { s.stw with retireQueue := rs } }
    if ok ∧ (s.erasedEntry? s.bankInUse).isSome then
      let s := s.appendEntry s.bankInUse r
      let s := if s.on I.nextBank 0 then s.appendEntry s.otherBank r else s
      let s : State := { s with stw := { s.stw with
        repair := s.stw.repair ++ [r], repairSince := s.stw.repairSince ++ [r] } }
      s.record 6 (retirementKind r) ((retirementHead r).take 8 ++ [0])
    else
      let fullList := if s.stw.overflow.length < 256 then s.stw.overflow ++ [r] else s.stw.overflow
      let s : State := { s with stw := { s.stw with overflow := fullList } }
      s.record 6 (retirementKind r) ((retirementHead r).take 8 ++ [1])

/-- The flash write in progress ends (R359): its effect, and the next one starts. -/
def State.flashDone (s : State) (ok : Bool) : State :=
  match s.stw.flashOps with
  | [] => s
  | op :: ops =>
    let s : State := { s with stw := { s.stw with flashOps := ops } }
    match op with
    | .record => s.eventWritten ok
    | .retirement => s.retirementWritten ok
    | .presence => s.presWritten ok
    | .commit => s.commitWritten ok
    | .checkpoint kind =>
      if ok then s.writeCheckpoint kind else s.wr I.ckptPos 0 ((s.rd I.ckptPos 0 + 1) % 512)

/-- `FLASH_OP_COMPLETE` (R359). -/
def execFlashOpComplete (st : FlashStatus) (s : State) : Result := .next (s.flashDone (st == .ok))

/-- `FLASH_OP_TIMEOUT` (R350): a flash error and a class C fault. -/
def execFlashOpTimeout (s : State) : Result :=
  if !s.stw.flashOps.isEmpty then .next ((s.flashDone false).classC 350 0)
  else if s.rd F.DRAFT_CTRL_STATE 0 = 1 then .next (s.stagingError.classC 350 0)
  else .next s

/-- A flash write of one kind ends; nothing happens while another is in progress. -/
def State.flashDoneIf (s : State) (op : FlashOp) (ok : Bool) : State :=
  if s.stw.flashOps.head? = some op then s.flashDone ok else s

/-- `RETIREMENT_APPEND` (R360, R57, R363). -/
def execRetirementAppend (s : State) : Result := .next (s.flashDoneIf .retirement true)

/-- `EVENT_RECORD_WRITE` (R504, R509-R511). -/
def execEventRecordWrite (s : State) : Result := .next (s.flashDoneIf .record true)

/-- `PRES_WRITE_DONE` (R337). -/
def execPresWriteDone (st : FlashStatus) (s : State) : Result :=
  .next (s.flashDoneIf .presence (st == .ok))

/-- `CHECKPOINT_TIMER` (R506): the periodic checkpoint. -/
def execCheckpointTimer (s : State) : Result := .next (s.queueCheckpoint 1)

/-! ### Reading the log (R514, R515) -/

/-- The record that an index of an area shows: its state code and its 64 bytes. -/
def State.logEntry (s : State) (area index : Nat) : Nat × List Byte :=
  let none' := (0, List.replicate 64 (0 : Byte))
  let slotOf (a : Nat) : Nat × List Byte :=
    let b := s.slot a
    (match slotState b with
      | .empty => 0
      | .valid => 1
      | .torn => 2, b)
  match area with
  | 0 => match s.circReadable[index]? with
    | some k => (1, s.slot (circAt k))
    | none => none'
  | 1 => if index < 240 then slotOf (permAt index) else none'
  | 2 => if 240 ≤ index ∧ index < 256 then slotOf (permAt index) else none'
  | _ => match s.stw.records[index]? with
    | some r => (3, r.bytes)
    | none => none'

/-- `LOG_FETCH` (R514): a write to `LOG_INDEX` of a path; the Horizon bus cannot write it. -/
def execLogFetch (path : Path) (v : Word) (s : State) : Result :=
  if path = .horizon then .next s
  else
    let i := pathIx path
    let s := (s.wr F.LOG_INDEX_INDEX i (field v.toNat 15 0)).wr F.LOG_INDEX_AREA i (field v.toNat 17 16)
    let s := (s.wr F.LOG_INDEX_STATE i 0).wr F.LOG_INDEX_READY i 0
    .next { s with stw := { s.stw with logData := Tab.drop s.stw.logData i } }

/-- `LOG_FETCH_DONE` (R514, R515). -/
def execLogFetchDone (path : Path) (s : State) : Result :=
  let i := pathIx path
  let e := s.logEntry (s.rd F.LOG_INDEX_AREA i) (s.rd F.LOG_INDEX_INDEX i)
  let s := (s.wr F.LOG_INDEX_STATE i e.1).wr F.LOG_INDEX_READY i 1
  .next { s with stw := { s.stw with logData := Tab.insert s.stw.logData i e.2 } }

end Sys2Proof.Machine
end

