-- ==== Sys2Proof/Machine/Intake.lean ====
section
/-! DEFINITION. Spools, payload intake, decode engines, admission and completion of frames
(06_contexts_and_binding R187-R200; 07_frame_intake). -/

namespace Sys2Proof.Machine

/-! ### The spool engine -/

/-- Spool engines take entries in: not while `FRONT_N` is asserted, Bus Master Enable is 0, or a chip
reset has begun (R200, R284, R494). -/
def State.intakeOk (s : State) : Bool :=
  !s.on F.PWR_INPUT_FRONT 0 && s.on I.bme 0 && !s.on I.admitStop 0

/-- Schedulers admit frames: as for intake, and while firmware serves (R200, R304, R310). -/
def State.admitOk (s : State) : Bool :=
  !s.on F.PWR_INPUT_FRONT 0 && !s.on I.admitStop 0 && s.on F.HOST_STATUS_FW_UP 0

/-- A spool that can take an entry in. -/
def State.canTake (s : State) (sp : Nat) : Bool :=
  let x := s.spool sp
  s.on F.SPOOL_SIZE_OPEN sp && !x.waiting.isEmpty && !x.stopped && !x.stalled && s.intakeOk

/-- The read of the next submission entry (R189). -/
def State.fetchNext (s : State) (sp : Nat) : State :=
  if s.canTake sp then
    let size := ringSize (s.rd F.SPOOL_SIZE_SQ_LOG2 sp)
    let base := s.rd F.SPOOL_BASE sp / 4096 * 4096
    s.hostSend (.hostRead (base + s.rd F.SPOOL_HEAD_INDEX sp % size * 64) 64)
  else s

/-- A doorbell of a spool reaches the device: not in the PCIe-only mode or while the link is down
(R259, R260). -/
def State.doorbells (s : State) : Bool := s.on I.dieUp 0 && s.rd F.HOST_LINK_MODE 0 == 0

/-- `SUBMISSION_DOORBELL` (R187, R195, R269, R283). -/
def execSubmissionDoorbell (sp : SpoolIx) (v : Word) (s : State) : Result :=
  let sp := sp.val
  if !s.doorbells then .next s
  else if !s.on F.SPOOL_SIZE_OPEN sp then .next (s.bump F.HOST_ERR_UR 0)
  else
    let new := v.toNat % 2 ^ 17
    let head := s.rd F.SPOOL_HEAD_INDEX sp
    let tail := s.rd F.SPOOL_TAIL_INDEX sp
    let held := ringDist tail head
    let want := ringDist new head
    if want < held ∨ ringSize (s.rd F.SPOOL_SIZE_SQ_LOG2 sp) < want then
      .next (s.bump F.SPOOL_STATUS_BAD_ENTRIES sp)
    else
      let x := s.spool sp
      let idle := x.waiting.isEmpty || x.stopped
      let s := s.wr F.SPOOL_TAIL_INDEX sp new
      let s := s.setSpool sp { x with
        waiting := x.waiting ++ List.replicate (want - held) s.us
        stopped := false
        fails := if x.stopped then 0 else x.fails }
      .next (if idle then s.fetchNext sp else s)

/-- `COMPLETION_DOORBELL` (R187, R269): a head that moves backwards, or beyond what is written, is
ignored and counted. -/
def execCompletionDoorbell (sp : SpoolIx) (v : Word) (s : State) : Result :=
  let sp := sp.val
  if !s.doorbells then .next s
  else if !s.on F.SPOOL_SIZE_OPEN sp then .next (s.bump F.HOST_ERR_UR 0)
  else
    let new := v.toNat % 2 ^ 17
    let head := s.rd F.SPOOL_CQ_HEAD_INDEX sp
    if ringDist (s.rd F.SPOOL_CQ_TAIL_INDEX sp) head < ringDist new head then
      .next (s.bump F.SPOOL_STATUS_BAD_ENTRIES sp)
    else .next (s.wr F.SPOOL_CQ_HEAD_INDEX sp new)

/-- A completion-ring entry can be reserved (R190). -/
def State.cqRoom (s : State) (sp : Nat) : Bool :=
  decide (ringDist (s.rd F.SPOOL_CQ_TAIL_INDEX sp) (s.rd F.SPOOL_CQ_HEAD_INDEX sp) + (s.spool sp).reserved
    < ringSize (s.rd F.SPOOL_SIZE_CQ_LOG2 sp))

/-- The entry at the head taken: the head advances and a completion entry is reserved (R190). -/
def State.takeEntry (s : State) (sp : Nat) : State :=
  let x := s.spool sp
  (s.wr F.SPOOL_HEAD_INDEX sp (s.rd F.SPOOL_HEAD_INDEX sp + 1)).setSpool sp { x with
    waiting := x.waiting.drop 1
    reserved := x.reserved + 1
    fails := 0
    ended := (x.ended.map fun e => (e.1, e.2 - 1)).filter fun e => decide (0 < e.2) }

/-- The engine waits. -/
def State.stall (s : State) (sp : Nat) : State :=
  s.setSpool sp { s.spool sp with stalled := true }

/-- Bytes of a binding's intake buffer in use (R207). -/
def State.intakeUsed (s : State) (b : Nat) : Nat :=
  (s.bnd.frames.map fun f =>
    if (s.ctx? f.ctx).any (fun x => x.binding == b) then f.intake else 0).sum

/-- The frame that a submission entry describes (R188). -/
def frameOf (e : Unit64) (sp ix arrived : Nat) : Frame :=
  { ctx := unitField e 4 4, spool := sp, ix := ix, opcode := unitField e 0 1,
    force := (unitField e 1 1).testBit 0, payloadAddr := unitField e 8 8,
    payloadLen := unitField e 16 4, resultMax := unitField e 20 4, resultAddr := unitField e 24 8,
    userTag := unitField e 32 8, sealSeq := unitField e 40 8, arrived := arrived, stage := .payload }
where
  /-- `len` bytes of a unit from byte `k` on, little-endian. -/
  unitField (d : Unit64) (k len : Nat) : Nat := d.toNat / 2 ^ (8 * k) % 2 ^ (8 * len)

/-- An entry answered at once, without its payload (R184, R186, R189). -/
def State.answer (s : State) (f : Frame) (status : Nat) (counts : Bool) : State :=
  let s := (s.takeEntry f.spool).complete f status counts
  let s := if status = 9 then s.bump F.SPOOL_STATUS_BAD_ENTRIES f.spool else s
  let s := if counts && f.opcode == 1 then s.breakDecode f.ctx else s
  s.fetchNext f.spool

/-- A payload whose length the intake refuses (R212). -/
def badLength (f : Frame) (room : Nat) : Bool :=
  decide (f.payloadLen < 17 ∨ 32 * 2 ^ 20 < f.payloadLen ∨ room < f.payloadLen)

/-- A frame of an open context taken in (R212): its payload is read, or it fails for its length, or it
waits for room. -/
def State.takeFrame (s : State) (f : Frame) (x : Ctx) : State :=
  let room := ((s.hdrOf f.ctx).map BundleHdr.intakeBytes).getD 0
  let f := { f with codec := s.codec f.ctx }
  if badLength f room then
    let s := s.takeEntry f.spool
    let s := (s.setFrames (s.bnd.frames ++ [f])).failDecode f 1
    s.fetchNext f.spool
  else if room < s.intakeUsed x.binding + f.payloadLen then s.stall f.spool
  else
    let s := s.takeEntry f.spool
    let s := s.setFrames (s.bnd.frames ++ [{ f with intake := f.payloadLen }])
    let s := (s.syncCtx f.ctx).hostSend (.hostRead f.payloadAddr f.payloadLen)
    s.fetchNext f.spool

/-- `SUBMISSION_ENTRY` (R189, R190, R184-R186, R212): the fetched entry at the head of the ring. -/
def execSubmissionEntry (sp : SpoolIx) (entry : Unit64) (s : State) : Result :=
  let sp := sp.val
  if !s.canTake sp then .next s
  else if !s.cqRoom sp then .next ((s.stall sp).bump F.SPOOL_STATUS_CQ_STALLS sp)
  else
    let f := frameOf entry sp (s.rd F.SPOOL_HEAD_INDEX sp) ((s.spool sp).waiting.headD s.us)
    let st := s.rd F.CTX_STATE_STATE f.ctx
    if f.opcode = 3 then .next (s.answer f 0 false)
    else match s.ctx? f.ctx with
      | none =>
        .next (s.answer f (if (s.spool sp).ended.any (·.1 == f.ctx) then 5 else 9) false)
      | some x =>
        if x.spool ≠ sp ∨ st = 6 then .next (s.answer f 9 false)
        else if f.opcode ≠ 1 ∧ f.opcode ≠ 2 then .next (s.answer f 9 true)
        else if st = 4 then .next (s.answer f 6 true)
        else if st = 5 then
          .next (if x.moving.isSome then s.stall sp else s.answer f 5 true)
        else .next (s.takeFrame f x)

/-- `SPOOL_RESUME` (R190, R212, R185): room has appeared, or the move has ended. -/
def execSpoolResume (sp : SpoolIx) (s : State) : Result :=
  let x := s.spool sp.val
  if x.stalled ∧ s.cqRoom sp.val then
    .next ((s.setSpool sp.val { x with stalled := false }).fetchNext sp.val)
  else .next s

/-- A failed read counted (R283). -/
def State.countRead (s : State) (how : ReadFail) : State :=
  match how with
  | .poison => s.bump F.HOST_ERR_POISON_IN 0
  | .protocol => (s.bump F.HOST_ERR_TIMEOUTS 0).classC 282 0
  | _ => s.bump F.HOST_ERR_TIMEOUTS 0

/-- A submission entry read has failed (R283): after the third failure the spool stops. -/
def State.entryFailed (s : State) (sp : Nat) : State :=
  let x := s.spool sp
  if x.stopped ∨ !s.on F.SPOOL_SIZE_OPEN sp then s
  else if x.fails < 2 then s.setSpool sp { x with fails := x.fails + 1 }
  else (s.setSpool sp { x with fails := 0, stopped := true }).event 8 (le 2 sp)

/-- `ENTRY_READ_RETRY` (R283): 100 µs after a failure the read is issued again; `failed`: it fails too. -/
def execEntryReadRetry (sp : SpoolIx) (failed : Option ReadFail) (s : State) : Result :=
  let x := s.spool sp.val
  if x.fails = 0 ∨ x.stopped then .next s
  else
    let s := s.fetchNext sp.val
    match failed with
    | none => .next s
    | some how => .next ((s.countRead how).entryFailed sp.val)

/-! ### Payloads -/

/-- The frames with one stage of a context, in the order of their entries; the oldest. -/
def State.firstAt (s : State) (c : Nat) (p : Frame → Bool) : Option Frame :=
  s.bnd.frames.find? fun f => f.ctx == c && p f

/-- A frame replaced in place. -/
def State.setFrame (s : State) (f : Frame) : State :=
  s.setFrames (s.bnd.frames.map fun g => if f.same g then f else g)

/-- One frame ends with a status. -/
def State.endFrame (s : State) (f : Frame) (status : Nat) : State :=
  s.endFrames f.same status

/-- The binding of a context holds units of the engines that a codec needs (R215). -/
def State.hasShare (s : State) (c : Nat) (k : Codec) : Bool :=
  ((s.ctx? c).bind fun x => s.binding? x.binding).any fun b =>
    b.grants.any fun g => decide (0 < g.2) && (decide (24 ≤ g.1) == (k == .jpeg))

/-- Why a compressed payload fails before its decode (R215): 0 for none. -/
def State.codecFault (s : State) (f : Frame) : Nat :=
  let dflt := ((s.hdrOf f.ctx).map BundleHdr.codec).getD .raw
  if f.codec = .raw ∨ (isVideo f.codec ∧ dflt = .raw) then 3
  else if s.hasShare f.ctx f.codec then 0 else 11

/-- `PAYLOAD_ARRIVAL` (R213, R328, R537, R215). -/
def execPayloadArrival (c : CtxIx) (x : Payload) (s : State) : Result :=
  match s.firstAt c.val (fun f => f.stage == .payload), s.ctx? c.val with
  | some f, some y =>
    if x.tagOk ∧ y.lastSeal < f.sealSeq then
      let s := s.setCtx c.val { y with lastSeal := f.sealSeq }
      let f := { f with stage := .decode, plain := x.plain, randomAccess := x.randomAccess }
      let s := s.setFrame f
      if f.opcode = 1 ∧ s.codecFault f ≠ 0 then .next (s.failDecode f (s.codecFault f)) else .next s
    else .next ((s.bump F.SEC_AUTH_PAYLOAD_FAILS 0).endFrame f 3)
  | _, _ => .next s

/-! ### Scheduling order -/

/-- The first of two frames has less remaining time; ties to the greater age, then the lower slot
(R198). -/
def State.precedes (s : State) (f g : Frame) : Bool :=
  let df := s.rd F.CTX_DEADLINE_US_DEADLINE f.ctx
  let dg := s.rd F.CTX_DEADLINE_US_DEADLINE g.ctx
  let af := s.age f.arrived
  let ag := s.age g.arrived
  let tie := decide (ag < af) || (decide (ag = af) && decide (f.ctx < g.ctx))
  if (df == 0) != (dg == 0) then dg == 0
  else if df == 0 then tie
  else
    let rf : Int := df - af
    let rg : Int := dg - ag
    decide (rf < rg) || (decide (rf = rg) && tie)

/-- The frame that goes first. -/
def State.urgent (s : State) : List Frame → Option Frame
  | [] => none
  | f :: fs => some (fs.foldl (fun g h => if s.precedes h g then h else g) f)

/-! ### Decode engines -/

/-- The payload may go to an engine: the one before it of its context has ended (R210). -/
def State.isNext (s : State) (f : Frame) : Bool :=
  match s.firstAt f.ctx (fun g => g.stage == .payload || g.stage == .decode || g.undecoded) with
  | some g => f.same g
  | none => false

/-- The binding of a frame. -/
def State.frameBinding? (s : State) (f : Frame) : Option (Nat × Binding) :=
  (s.ctx? f.ctx).bind fun x => (s.binding? x.binding).map fun b => (x.binding, b)

/-- Units that a binding holds on an engine. -/
def Binding.unitsOn (b : Binding) (e : Nat) : Nat :=
  (b.grants.map fun g => if g.1 = e then g.2 else 0).sum

/-- Time of an engine that a binding has used in the current window, µs (R210). -/
def State.usedOn (s : State) (e b : Nat) : Nat :=
  (s.bnd.decodeUse.map fun u => if u.1 = e ∧ u.2.1 = b then u.2.2 else 0).sum

/-- Payloads that wait on an engine (R210). -/
def State.waitingOn (s : State) (e : Nat) : List Frame :=
  s.bnd.frames.filter fun f =>
    f.stage == .decode && f.opcode == 1 && decide (24 ≤ e) == (f.codec == .jpeg) && s.isNext f &&
    (s.frameBinding? f).any fun b => decide (0 < b.2.unitsOn e)

/-- The payload's binding has used less than its share of the engine's window (R210). -/
def State.belowShare (s : State) (e : Nat) (f : Frame) : Bool :=
  (s.frameBinding? f).any fun b =>
    decide (s.usedOn e b.1 < b.2.unitsOn e * 100000 / (if e < 24 then 32 else 4))

/-- `DECODE_START` (R210, R219): a free engine takes the most urgent payload of a binding below its
share, else of all. -/
def execDecodeStart (e : EngineIx) (s : State) : Result :=
  let busy := s.bnd.frames.any fun f => f.stage == .decoding e.val
  let ws := s.waitingOn e.val
  let low := ws.filter (s.belowShare e.val)
  if busy ∨ s.on F.PWR_INPUT_FRONT 0 ∨ s.on I.admitStop 0 ∨
      s.recoveries.contains (.decodeReset e) then .next s
  else match s.urgent (if low.isEmpty then ws else low) with
    | some f => .next (s.setFrame { f with stage := .decoding e.val })
    | none => .next s

/-- The engine time charged for a picture, µs (R210). -/
def charge (k : Codec) (samples : Nat) : Nat :=
  let per := match k with
    | .av1 => 1667
    | .jpeg => 400
    | _ => 1250
  per * samples / 2073600

/-- Engine time charged to a frame's binding. -/
def State.chargeTo (s : State) (e : Nat) (f : Frame) (samples : Nat) : State :=
  match s.frameBinding? f with
  | some b => { s with bnd := { s.bnd with
      decodeUse := s.bnd.decodeUse ++ [(e, b.1, charge f.codec samples)] } }
  | none => s

/-- `DECODE_SHARE_WINDOW` (R210). -/
def execDecodeShareWindow (e : EngineIx) (s : State) : Result :=
  .next { s with bnd := { s.bnd with decodeUse := s.bnd.decodeUse.filter (·.1 != e.val) } }

/-! ### Pictures (R206) -/

/-- A sample of a plane of a width; the last row and column stand in beyond the edge. -/
def sampleAt (plane : List Nat) (w h r c : Nat) : Nat :=
  plane.getD (min r (h - 1) * w + min c (w - 1)) 0

/-- The chroma planes of a 4:2:0 picture (R206): 4:2:2 and 4:4:4 reduced, 4:0:0 at the middle value. -/
def chroma420 (p : Picture) (plane : List Nat) : List Nat :=
  let cw := (p.width + 1) / 2
  let ch := (p.height + 1) / 2
  match p.chroma with
  | .c420 => plane
  | .c400 => List.replicate (cw * ch) (if p.tenBit then 512 else 128)
  | .c422 => (List.range ch).flatMap fun r => (List.range cw).map fun c =>
      (sampleAt plane cw p.height (2 * r) c + sampleAt plane cw p.height (2 * r + 1) c + 1) / 2
  | .c444 => (List.range ch).flatMap fun r => (List.range cw).map fun c =>
      let a (i j : Nat) : Nat := sampleAt plane p.width p.height (2 * r + i) (2 * c + j)
      (a 0 0 + a 0 1 + a 1 0 + a 1 1 + 2) / 4

/-- A sample stored in NV12. -/
def toNv12 (tenBit : Bool) (v : Nat) : Nat := if tenBit then min 255 ((v + 2) / 4) else v

/-- A sample stored in P010: bits [15:6] of two bytes. -/
def toP010 (tenBit : Bool) (v : Nat) : List Nat :=
  let x := (if tenBit then v else 4 * v) * 64
  [x % 256, x / 256 % 256]

/-- Rounded to nearest, ties up, and clamped to 0-255. -/
def clampByte (x : Rat) : Nat := min 255 (x + 1 / 2).floor.toNat

/-- R, G and B of a Y, Cb, Cr triple (R206): BT.601 or BT.709, limited or full range. -/
def toRgb (bt601 full tenBit : Bool) (y cb cr : Nat) : List Nat :=
  let top : Rat := if tenBit then 1023 else 255
  let unit : Rat := if tenBit then 4 else 1
  let mid : Rat := 128 * unit
  let kr : Rat := if bt601 then 299 / 1000 else 2126 / 10000
  let kb : Rat := if bt601 then 114 / 1000 else 722 / 10000
  let kg : Rat := 1 - kr - kb
  let l : Rat := if full then y * 255 / top else ((y : Rat) - 16 * unit) * 255 / (219 * unit)
  let c (v : Nat) : Rat :=
    if full then ((v : Rat) - mid) * 255 / top else ((v : Rat) - mid) * 255 / (224 * unit)
  let b := c cb
  let r := c cr
  [clampByte (l + 2 * (1 - kr) * r),
   clampByte (l - 2 * kb * (1 - kb) / kg * b - 2 * kr * (1 - kr) / kg * r),
   clampByte (l + 2 * (1 - kb) * b)]

/-- A picture in the bundle's layout (R206); `jpeg`: JFIF, BT.601 full range. -/
def convertPicture (lay : Layout) (jpeg : Bool) (p : Picture) : List Nat :=
  let cw := (p.width + 1) / 2
  let cb := chroma420 p p.cb
  let cr := chroma420 p p.cr
  match lay with
  | .nv12 => p.y.map (toNv12 p.tenBit) ++
      (cb.zip cr).flatMap fun x => [toNv12 p.tenBit x.1, toNv12 p.tenBit x.2]
  | .p010 => p.y.flatMap (toP010 p.tenBit) ++
      (cb.zip cr).flatMap fun x => toP010 p.tenBit x.1 ++ toP010 p.tenBit x.2
  | .rgb24 =>
    if p.chroma = .c400 then p.y.flatMap fun v => [v, v, v]
    else (List.range p.height).flatMap fun r => (List.range p.width).flatMap fun c =>
      let k := r / 2 * cw + c / 2
      toRgb (jpeg || p.bt601) (jpeg || p.fullRange) p.tenBit (p.y.getD (r * p.width + c) 0)
        (cb.getD k 0) (cr.getD k 0)

/-- Bytes of a picture in a layout. -/
def pictureBytes (lay : Layout) (w h : Nat) : Nat :=
  let cc := (w + 1) / 2 * ((h + 1) / 2) * 2
  match lay with
  | .nv12 => w * h + cc
  | .p010 => 2 * (w * h + cc)
  | .rgb24 => 3 * w * h

/-- A picture ready in the intake buffer; another size than the bundle's fails the frame (R34, R207). -/
def State.picture (s : State) (f : Frame) (hdr : BundleHdr) (w h : Nat) (bytes : List Nat) : State :=
  let f := { f with stage := .ready, plain := [], picture := bytes, intake := pictureBytes hdr.layout w h }
  let s := s.setFrame f
  if w = hdr.width ∧ h = hdr.height then s else s.endFrame f 2

/-- A picture larger than R203 allows. -/
def tooLarge (k : Codec) (w h : Nat) : Bool :=
  match k with
  | .jpeg => decide (4096 < w ∨ 4096 < h)
  | _ => decide (4096 < w ∨ 2304 < h ∨ 8912896 < w * h)

/-- A decode that fails with a cause of R216.  A temporal unit that shows no frame (R205) has been decoded
to its end. -/
def State.decodeFails (s : State) (f : Frame) (cause : Nat) : State :=
  if cause = 7 then
    let f := { f with stage := .ready }
    (s.setFrame f).failDecode f 7
  else s.failDecode f cause

/-- A decoded picture (R205, R206, R216, R217). -/
def State.decoded (s : State) (f : Frame) (hdr : BundleHdr) (p : Picture) (discarded rasl : Bool) :
    State :=
  let s := if discarded then s.bump F.CTX_DECODE_DISCARDS f.ctx else s
  if tooLarge f.codec p.width p.height then s.failDecode f 4
  else if isVideo f.codec && ((s.on F.CTX_DECODE_BROKEN f.ctx && !f.randomAccess) || rasl) then
    s.failDecode f 6
  else
    let s := if isVideo f.codec then s.wr F.CTX_DECODE_BROKEN f.ctx 0 else s
    let s := s.wr F.CTX_DECODE_SOURCE f.ctx (codecCode f.codec)
    s.picture f hdr p.width p.height (convertPicture hdr.layout (f.codec == .jpeg) p)

/-- `DECODE_COMPLETE` (R216). -/
def execDecodeComplete (e : EngineIx) (x : DecodeResult) (s : State) : Result :=
  match s.bnd.frames.find? (fun f => f.stage == .decoding e.val) with
  | none => .next s
  | some f =>
    match s.hdrOf f.ctx, x with
    | some hdr, .picture p discarded rasl =>
      .next ((s.chargeTo e.val f (p.width * p.height)).decoded f hdr p discarded rasl)
    | some hdr, .failed cause =>
      .next ((s.chargeTo e.val f (hdr.width * hdr.height)).decodeFails f cause.val)
    | none, _ => .next s

/-- `DECODE_TIME_LIMIT` (R216). -/
def execDecodeTimeLimit (e : EngineIx) (s : State) : Result :=
  match s.bnd.frames.find? (fun f => f.stage == .decoding e.val) with
  | none => .next s
  | some f => .next ((s.bump F.DEC_DATA_ENDED e.val).failDecode f 8)

/-! ### Raw frames (R214, R215) -/

/-- The header of a raw payload, when it keeps the rules of R214. -/
structure RawHdr where
  rgb : Bool
  width : Nat
  height : Nat
  pitch : Nat
  deriving DecidableEq, Repr

/-- Bytes `k` to `k + n - 1` of a payload as a number. -/
def bytesAt (bs : List Byte) (k n : Nat) : Nat := ofLe ((bs.drop k).take n)

/-- The header and length checks of R214. -/
def rawHeader (bs : List Byte) : Option RawHdr :=
  let lay := bytesAt bs 0 1
  let w := bytesAt bs 4 2
  let h := bytesAt bs 6 2
  let pitch := bytesAt bs 8 4
  let rgb := lay == 2
  let planes := if rgb then h * pitch else h * pitch + h / 2 * pitch
  let ok := (lay == 1 || lay == 2) && bytesAt bs 1 3 == 0 && bytesAt bs 12 20 == 0 &&
    decide (16 ≤ w ∧ w ≤ 4096 ∧ 16 ≤ h ∧ h ≤ 2304) && pitch % 64 == 0 &&
    decide ((if rgb then 3 * w else w) ≤ pitch) && (rgb || (w % 2 == 0 && h % 2 == 0)) &&
    decide (bs.length = 32 + planes)
  if ok then some ⟨rgb, w, h, pitch⟩ else none

/-- The rows of a plane: `n` bytes of each of `rows` rows. -/
def planeRows (bs : List Byte) (start pitch rows n : Nat) : List Nat :=
  (List.range rows).flatMap fun r => ((bs.drop (start + r * pitch)).take n).map BitVec.toNat

/-- Every second element of a list, from the first or the second on. -/
def evens {α : Type} : List α → List α
  | a :: _ :: l => a :: evens l
  | l => l
def odds {α : Type} : List α → List α
  | _ :: b :: l => b :: odds l
  | _ => []

/-- A raw picture in the bundle's layout (R215): NV12 as 8-bit YUV of R206. -/
def rawPicture (lay : Layout) (h : RawHdr) (bs : List Byte) : List Nat :=
  if h.rgb then planeRows bs 32 h.pitch h.height (3 * h.width)
  else
    let uv := planeRows bs (32 + h.height * h.pitch) h.pitch (h.height / 2) h.width
    convertPicture lay false
      { width := h.width, height := h.height, tenBit := false, chroma := .c420, bt601 := false,
        fullRange := false, y := planeRows bs 32 h.pitch h.height h.width, cb := evens uv, cr := odds uv }

/-- `RAW_CONVERT` (R214, R215). -/
def execRawConvert (c : CtxIx) (s : State) : Result :=
  match s.firstAt c.val (fun f => f.stage == .decode && f.opcode == 2), s.hdrOf c.val with
  | some f, some hdr =>
    match rawHeader f.plain with
    | none => .next (s.failDecode f 9)
    | some h =>
      if h.rgb ∧ hdr.layout ≠ .rgb24 then .next (s.failDecode f 10)
      else .next ((s.wr F.CTX_DECODE_SOURCE c.val 5).picture f hdr h.width h.height
        (rawPicture hdr.layout h f.plain))
  | _, _ => .next s

/-- `CTX_INPUT_WRITE` (R217, R221): 5-7 are taken as 0; the decode state of a video context breaks, and a
JPEG or raw context has none that is broken. -/
def execCtxInputWrite (path : Path) (v : Word) (s : State) : Result :=
  let c := s.rd F.CTX_SEL_SEL (pathIx path)
  let k := field v.toNat 2 0
  match s.ctx? c with
  | none => .next s
  | some _ =>
    let s := s.wr F.CTX_INPUT_CODEC c (if k ≤ 4 then k else 0)
    .next (s.wr F.CTX_DECODE_BROKEN c (bit (isVideo (s.codec c))))

/-! ### Admission -/

/-- A binding admits frames: bound on partitions that all run it, nothing executing or being aborted, its
state within reach, its job formed (R53, R186, R241, R488, R493). -/
def State.admits (s : State) (b : BindIx) (x : Binding) : Bool :=
  s.admitOk && x.phase == .bound && x.running.isNone &&
  x.parts.all (fun p => s.rd F.PART_STATE_STATE p == 3) &&
  !s.recoveries.contains (.contextAbort b) && !s.recoveries.any (holdsUp x.parts) &&
  !(s.stateGroups b.val).any s.inReset &&
  ((s.job? b.val).isNone || s.rd F.WEFT_JOB_STATE_STATE b.val == 2)

/-- A context may run its next frame (R24, R158, R182, R186). -/
def State.ctxAdmits (s : State) (c : Nat) : Bool :=
  let st := s.rd F.CTX_STATE_STATE c
  (st == 1 || st == 2) && (s.ctx? c).any (fun x => !x.fetching) &&
  !(s.on F.CTX_SHADOW_ACK_PENDING c && s.rd F.CTX_SHADOW_ROLE c == 1)

/-- The frames of a binding that are ready for admission: the oldest of each context (R189, R198). -/
def State.readyFrames (s : State) (b : Nat) : List Frame :=
  s.bnd.frames.filter fun f =>
    f.stage == .ready && (s.ctx? f.ctx).any (fun x => x.binding == b) && s.ctxAdmits f.ctx &&
    match s.firstAt f.ctx (fun g => !g.isDone) with
    | some g => f.same g
    | none => false

/-- A frame past its deadline at admission is not computed (R197). -/
def State.passedOver (s : State) (f : Frame) : Bool :=
  s.rd F.CTX_SPOOL_LATE_POLICY f.ctx == 1 && s.isLate f.ctx (s.age f.arrived)

/-- Transfers of a frame's first state reads, on its partition's queues (R110, R199): the context's
region in each group that holds a part of it. -/
def State.readState (s : State) (c p : Nat) : State :=
  let bytes := ((s.hdrOf c).map BundleHdr.stateBytes).getD 0
  let gs := (s.ctxGroups c).eraseDups
  if bytes = 0 ∨ gs.isEmpty then s
  else
    let per := (bytes + gs.length - 1) / gs.length
    { s with hbm := { s.hbm with xfers := s.hbm.xfers ++ gs.map fun g => ⟨g, p, per, some c, none⟩ } }

/-- A frame admitted for computation (R149, R182, R198): its decision point. -/
def State.startFrame (s : State) (b : Nat) (x : Binding) (f : Frame) : State :=
  let s := if f.force then s.addCause f.ctx 8 else s
  let d := if (s.planOf f.ctx).isSome then s.decideRefresh f.ctx else ({}, s)
  let s := d.2.setFrame { f with stage := .running, decision := d.1 }
  let s := s.setBinding b { x with running := some f.ctx }
  (s.syncCtx f.ctx).readState f.ctx (x.parts.headD b)

/-- The intake participant of a job tells every follower (R237). -/
def State.frameStart (s : State) (b : Nat) (f : Frame) : State :=
  match s.job? b with
  | none => s
  | some j =>
    if j.self = 0 then
      j.others.foldl (fun s q =>
        s.flitTo (j.nodes.getD q 0) "FRAME_START" [f.ctx, s.age f.arrived, f.ix]) s
    else s

/-- The frame that a follower runs next (R237): of the context and age that `FRAME_START` gave. -/
def State.followerFrame (s : State) (c age : Nat) : Frame :=
  { ctx := c, spool := ((s.ctx? c).map Ctx.spool).getD 0, ix := 2 ^ 17 + c, opcode := 0,
    force := false, payloadAddr := 0, payloadLen := 0, resultMax := 0, resultAddr := 0, userTag := 0,
    sealSeq := 0, arrived := s.us - age, stage := .ready, follower := true }

/-- `FRAME_ADMIT` (R198, R197, R237, R149). -/
def execFrameAdmit (b : BindIx) (s : State) : Result :=
  match s.binding? b.val with
  | none => .next s
  | some x =>
    if !s.admits b x then .next s
    else match (s.job? b.val).filter (fun j => j.self != 0) with
      | some j =>
        match j.start with
        | some (c, age) =>
          if s.ctxAdmits c ∧ (s.ctx? c).any (fun y => y.binding == b.val) then
            let f := s.followerFrame c age
            let s := s.setJob b.val { j with start := none }
            .next ((s.setFrames (s.bnd.frames ++ [f])).startFrame b.val x f)
          else .next s
        | none => .next s
      | none =>
        match s.urgent (s.readyFrames b.val) with
        | none => .next s
        | some f =>
          if s.passedOver f then .next (s.endFrame f 7)
          else .next ((s.startFrame b.val x f).frameStart b.val f)

/-! ### Completion -/

/-- The state update of a shadowed context after a frame (R247). -/
def State.afterFrame (s : State) (c : Nat) : State :=
  let st := s.rd F.CTX_SHADOW_STATUS_STATE c
  if s.rd F.CTX_SHADOW_ROLE c = 1 ∧ (st = 1 ∨ st = 2) then s.sendUpdate c false else s

/-- The running frame of a binding ends: its transfers are dropped, parity marks cleared (R39). -/
def State.leavePartition (s : State) (b c : Nat) (x : Binding) : State :=
  let s := s.setBinding b { x with running := none }
  { s with
    hbm := { s.hbm with xfers := s.hbm.xfers.filter fun t => t.ctx != some c }
    arr := { s.arr with parity := s.arr.parity.filter fun e => !x.parts.contains (e.1 / 4096) } }

/-- A frame's state header (R137), and whether it ran as a refresh frame. -/
def State.writeHeader (s : State) (f : Frame) (p : Nat) (r : FrameResult) : Bool × State :=
  match s.planOf f.ctx, s.ctx? f.ctx with
  | some plan, some x =>
    (refreshed plan f.decision x.delta r, s.headerWrite f.ctx p plan f.decision r)
  | _, _ => (false, s)

/-- `FRAME_COMPLETE` (R23, R137, R177, R191, R247, R329): results, header, completion entry. -/
def execFrameComplete (b : BindIx) (r : FrameResult) (s : State) : Result :=
  match s.binding? b.val with
  | none => .next s
  | some x =>
    match x.running.bind fun c => s.firstAt c (fun f => f.stage == .running) with
    | none => .next s
    | some f =>
      let s := s.leavePartition b.val f.ctx x
      let h := s.writeHeader f (x.parts.headD b.val) r
      let big := decide (f.resultMax < r.cipher.length) && !f.follower
      let s := if big || f.follower then h.2 else h.2.hostSend (.hostWrite f.resultAddr r.cipher)
      let s := s.setFrame { f with refresh := h.1, resultBytes := r.cipher.length }
      let s := s.endFrame f (if big then 8 else 0)
      .next (s.afterFrame f.ctx).settle

/-- `FRAME_BUDGET_EXPIRE` (R485): a context abort with detail 1. -/
def execFrameBudgetExpire (b : BindIx) (s : State) : Result := .next (s.abortWith b b.val 1)

/-- `SPOOL_IRQ_TIMER` (R271). -/
def execSpoolIrqTimer (sp : SpoolIx) (s : State) : Result :=
  let x := s.spool sp.val
  if s.on F.SPOOL_IRQ_EN sp.val ∧ s.rd F.SPOOL_IRQ_TIME_US sp.val ≠ 0 ∧ x.unsent ≠ 0 then
    .next ((s.msixSend sp.val).setSpool sp.val { x with unsent := 0, msgAt := s.us + 1 })
  else .next s

end Sys2Proof.Machine
end

