-- ==== Sys2Proof/Machine/Power.lean ====
section
/-! DEFINITION. The power input, the breaker, the rails and start-up of the compute die, and `FRONT_N`
(13_power_input_and_sequencing; the power cycle of R496). -/

namespace Sys2Proof.Machine

/-! ### Settings (R392; voltages of the record in 10 mV) -/

def cfgUvOn : Setting := ⟨0x05, 0, 2, 4600⟩
def cfgUvOff : Setting := ⟨0x05, 2, 2, 4200⟩
def cfgOvOff : Setting := ⟨0x05, 4, 2, 6000⟩
def cfgFrontLow : Setting := ⟨0x05, 6, 2, 4600⟩
def cfgFrontHigh : Setting := ⟨0x05, 8, 2, 4800⟩
def cfgFrontSlope : Setting := ⟨0x05, 12, 1, 40⟩
def cfgPsuWarnEn : Setting := ⟨0x05, 13, 1, 1⟩
def cfgFetPlim : Setting := ⟨0x05, 18, 2, 120⟩
def cfgInrushImax : Setting := ⟨0x05, 20, 1, 20⟩
def cfgFetMode : Setting := ⟨0x05, 21, 1, 0⟩
def cfgFetRth : Setting := ⟨0x05, 22, 2, 50⟩
def cfgFetTau : Setting := ⟨0x05, 24, 2, 20⟩
def cfgFetTmax : Setting := ⟨0x05, 26, 1, 125⟩
def cfgRetries : Setting := ⟨0x05, 27, 1, 3⟩
def cfgFetRdson : Setting := ⟨0x05, 30, 2, 1500⟩
def cfgTopUs : Setting := ⟨0x05, 34, 2, 100⟩
def cfgBackoff1 : Setting := ⟨0x05, 36, 2, 10⟩
def cfgBackoffMult : Setting := ⟨0x05, 38, 1, 4⟩

/-- Points of the breaker curve: current in mA, time in µs (R392, R400). -/
def State.curve (s : State) : List (Nat × Nat) :=
  match s.stw.draft.find? (·.type == 5) with
  | some r => (List.range (numAt r.body 39 1)).map fun k =>
      (100 * numAt r.body (40 + 4 * k) 2, 10 * numAt r.body (42 + 4 * k) 2)
  | none => [(42000, 0), (50000, 100000), (65000, 10000), (85000, 1000)]

/-- The bands of the curve (R400): threshold in mA, limit in units of 0.05 µs. -/
def State.bands (s : State) : List (Nat × Nat) :=
  let c := s.curve
  let limits := (c.drop 1).map (·.2) ++ [s.cfg cfgTopUs]
  c.zip limits |>.map fun x => (x.1.1, 20 * x.2)

/-! ### Readings -/

/-- A user-calibrated voltage in mV (R365, R390). -/
def State.volts (s : State) (channel mv : Nat) : Nat := (s.calibrate 3 channel mv).toNat

/-- A calibrated reading of a voltage channel, as its register shows it. -/
def State.vch (s : State) (channel : Nat) : Nat := s.rd F.PWR_VCH_DATA_MV channel

/-- A number rounded to the unit of a register, halves away from zero (R365), from a unit `d` times
finer. -/
def toUnit (d n : Nat) : Nat := (2 * n + d) / (2 * d)

/-- Energy added to the package counter, in 0.1 µJ (R431). -/
def State.addEnergy (s : State) (e : Nat) : State :=
  let sum := s.rd I.energyFrac 0 + e
  (s.bumpBy F.PWR_ENERGY 0 (sum / 10000)).wr I.energyFrac 0 (sum % 10000)

/-- The readings of one breaker sample (R389-R391) in the registers that show them; the current is
calibrated in 10 mA. -/
def State.readSample (s : State) (x : BreakerIn) : State :=
  let s := s.wr F.PWR_VCH_DATA_MV 0 (s.volts 0 x.vin)
  let s := s.wr F.PWR_VCH_DATA_MV 1 (s.volts 1 x.vout)
  let s := s.wr F.PWR_VCH_DATA_MV 10 (s.volts 10 x.aux33)
  let s := s.wr F.PWR_VCH_DATA_MV 11 (s.volts 11 x.vgs)
  let amps := (s.calibrate 2 0 (toUnit 10 x.iout)).toNat
  let s := (s.wr F.HSW_MEAS_IOUT 0 amps).wr F.HSW_MEAS_VOUT 0 (toUnit 10 (s.vch 1))
  let s := (s.wr F.PWR_INPUT_VIN 0 (toUnit 10 (s.vch 0))).wr F.PWR_INPUT_PSU_WARN 0 (bit x.psuWarn)
  s.addEnergy x.auxEnergy

/-! ### The FET temperature (R405) -/

/-- A reading of a sensor in °C. -/
def State.sensorC (s : State) (k : Nat) : Rat :=
  ((BitVec.ofNat 16 (s.rd F.THM_SENSOR_DATA_TEMP k)).toInt : Rat) / 64

/-- `THERM3` gives the FET temperature. -/
def State.fetMeasured (s : State) : Bool :=
  s.cfg cfgFetMode == 0 && s.on F.THM_SENSOR_DATA_VALID 89

/-- The FET temperature: measured, or modelled above the inlet air. -/
def State.fetTemp (s : State) : Rat :=
  if s.fetMeasured then s.sensorC 89
  else
    let air := if s.on F.THM_SENSOR_DATA_VALID 86 ∧ s.hasFn 5 0 then s.sensorC 86 else 55
    air + s.pwr.fetRise

/-- A rational number rounded to the nearest whole one, halves away from zero; 0 when negative. -/
def roundNat (q : Rat) : Nat := (q + 1 / 2).floor.toNat

/-- Dissipation of the pass FET, W (R405): the model of the inrush holds until it is fully enhanced. -/
def State.fetWatts (s : State) : Rat :=
  let amps : Rat := (s.rd F.HSW_MEAS_IOUT 0 : Rat) / 100
  let st := s.rd F.HSW_STATE_STATE 0
  if st = 1 ∨ st = 2 then ((s.vch 0 - s.vch 1 : Nat) : Rat) / 1000 * amps
  else if st = 3 then amps * amps * (s.cfg cfgFetRdson : Rat) / 1000000
  else 0

/-- One breaker sample of the FET model, and `PWR_FET` (R405). -/
def State.sampleFet (s : State) : State :=
  let p := s.fetWatts
  let rise := s.pwr.fetRise
  let rise := rise + (p * (s.cfg cfgFetRth : Rat) / 100 - rise) / (100 * (s.cfg cfgFetTau : Rat))
  let s : State := { s with pwr := { s.pwr with fetRise := rise } }
  let m := s.fetMeasured
  let src := if m then 0 else if s.cfg cfgFetMode = 1 then 1 else 2
  let moved := s.on I.fetMeasured 0 && src == 2
  let s := if moved then (s.classC 405 0).record 7 4 [0] else s
  let s := (s.wr I.fetMeasured 0 (bit m)).wr F.PWR_FET_SOURCE 0 src
  (s.wr F.PWR_FET_TEMP_C 0 (min 255 (roundNat s.fetTemp))).wr F.PWR_FET_POWER_W 0 (min 1023 (roundNat p))

/-! ### Off, and on again -/

/-- The gate pulled down and every rail off (R401, R417); a reset in progress ends with the power. -/
def State.channelOff (s : State) : State := (s.cutPower.wr I.chipStep 0 0).wr I.gateLimit 0 0

/-- The back-off after the `r`-th trip, in 0.1 s (R402). -/
def State.backoff (s : State) (r : Nat) : Nat := s.cfg cfgBackoff1 * s.cfg cfgBackoffMult ^ (r - 1)

/-- A wait of the input sequence, in 0.1 s, as `PWR_SEQ.WAIT` shows it. -/
def State.waitFor (s : State) (tenths : Nat) : State := s.wr I.waitEnd 0 (s.us + 100000 * tenths)

/-- A trip of the main channel (R402, R403): a retry after a back-off, or the latch. -/
def State.trip (s : State) (cause band : Nat) : State :=
  let s := (s.wr F.HSW_STATE_LAST_TRIP 0 cause).bump F.HSW_TRIPS_TRIPS 0
  let s := if cause = 1 then s.wr F.HSW_STATE_BAND 0 band else s
  let used := s.rd F.HSW_STATE_RETRIES 0
  let s := s.channelOff
  if used < s.cfg cfgRetries then
    let s := (s.wr F.HSW_STATE_RETRIES 0 (used + 1)).wr F.HSW_STATE_STATE 0 4
    let s := ((s.wr F.PWR_SEQ_STEP 0 7).wr I.backoffOut 0 0).wr I.backoffOver 0 0
    (s.waitFor (s.backoff (used + 1))).fault 51 cause
  else ((s.bump F.HSW_TRIPS_LATCHES 0).fault 4 cause).fault 51 cause

/-- The inrush begins (R396). -/
def State.startInrush (s : State) : State :=
  let s := (s.wr F.HSW_STATE_STATE 0 1).wr F.PWR_SEQ_STEP 0 3
  ((s.wr I.gate 0 1).wr I.cycleWait 0 0).wr I.backoffOver 0 0

/-- VOUT has reached 0.95 × VIN. -/
def State.nearInput (s : State) : Bool := decide (95 * s.vch 0 ≤ 100 * s.vch 1)

/-- During the inrush: the current limit of the gate drive, and full enhancement when VOUT has reached
0.95 × VIN (R396). -/
def State.inrush (s : State) : State :=
  if s.rd F.HSW_STATE_STATE 0 ≠ 1 then s
  else if s.nearInput then
    ((s.wr F.HSW_STATE_STATE 0 2).wr F.PWR_SEQ_STEP 0 4).wr I.gate 0 2
  else
    let imax := 1000 * s.cfg cfgInrushImax
    let drop := s.vch 0 - s.vch 1
    s.wr I.gateLimit 0 (if drop = 0 then imax else min imax (1000000 * s.cfg cfgFetPlim / drop))

/-- VIN is in window (R393). -/
def State.inWindow (s : State) : Bool := s.rd F.PWR_INPUT_WINDOW 0 == 1

/-- The step of a start from the insertion delay (R394). -/
def State.fromInsertion (s : State) : State :=
  (s.wr F.HSW_STATE_STATE 0 0).wr F.PWR_SEQ_STEP 0 (if s.inWindow then 2 else 1)

/-- The FET temperature lets a channel that tripped on it start again (R406). -/
def State.fetCool (s : State) : Bool :=
  s.rd F.HSW_STATE_LAST_TRIP 0 != 5 || decide (s.fetTemp < (s.cfg cfgFetTmax : Rat) - 20)

/-- The restart after a back-off (R402, R406). -/
def State.restart (s : State) : State :=
  if s.on I.backoffOut 0 ∨ !s.inWindow then (s.wr I.backoffOver 0 0).fromInsertion
  else if s.fetCool then s.startInrush
  else s.wr I.backoffOver 0 1

/-! ### The input window -/

/-- Whether VIN is in window in this sample (R393). -/
def State.windowNow (s : State) (v : Nat) : Bool :=
  let top := 10 * s.cfg cfgOvOff
  if s.inWindow then decide (10 * s.cfg cfgUvOff ≤ v ∧ v ≤ top)
  else decide (10 * s.cfg cfgUvOn ≤ v ∧ v ≤ top - (if s.on I.ovExit 0 then 1000 else 0))

/-- An input cut-off (R395): not a trip; the hold-up is measured (R419). -/
def State.cutoff (s : State) : State :=
  let s := if s.on F.PWR_INPUT_FRONT 0 then
      s.wr F.PWR_FRONT_HOLDUP 0 (min 0xFFFF ((s.us - s.rd I.frontAt 0) / 10))
    else s
  let s := (s.channelOff.wr F.HSW_STATE_STATE 0 0).wr F.PWR_SEQ_STEP 0 1
  (s.classC 395 0).record 8 2 s.powerData

/-- VIN has left its window (R394, R395, R402). -/
def State.leftWindow (s : State) : State :=
  if s.rd I.gate 0 ≠ 0 then s.cutoff
  else
    let st := s.rd F.PWR_SEQ_STEP 0
    if st = 2 then s.wr F.PWR_SEQ_STEP 0 1
    else if st = 7 ∨ s.rd F.HSW_STATE_STATE 0 = 4 then s.wr I.backoffOut 0 1
    else s

/-- The window in this sample, and the starts that wait for it (R393, R394, R402, R496). -/
def State.sampleWindow (s : State) : State :=
  let v := s.vch 0
  let was := s.inWindow
  let now := s.windowNow v
  let above := decide (10 * s.cfg cfgOvOff < v)
  let s := if was ∧ !now ∧ above then s.wr I.ovExit 0 1 else if now then s.wr I.ovExit 0 0 else s
  let s := s.wr F.PWR_INPUT_WINDOW 0 (if now then 1 else if above ∨ s.on I.ovExit 0 then 2 else 0)
  let s := if was ∧ !now then s.leftWindow else s
  let st := s.rd F.PWR_SEQ_STEP 0
  if st = 1 ∧ now then s.wr F.PWR_SEQ_STEP 0 2
  else if st = 7 ∧ s.on I.backoffOver 0 then s.restart
  else if st = 10 ∧ s.on I.cycleWait 0 ∧ now then s.startInrush
  else s

/-! ### The breaker -/

/-- The band timers after one sample (R400), with factory-calibrated current. -/
def State.sampleBands (s : State) (ma : Nat) : State :=
  if s.rd I.gate 0 = 0 then s
  else s.bands.zipIdx.foldl (fun s b =>
    let t := s.rd I.bandTimer (b.2 + 1)
    s.wr I.bandTimer (b.2 + 1) (if b.1.1 < ma then t + 200 else t - 25)) s

/-- The first band whose timer has reached its limit. -/
def State.bandDue (s : State) : Option Nat :=
  (s.bands.zipIdx.find? fun b => decide (b.1.2 ≤ s.rd I.bandTimer (b.2 + 1))).map (·.2 + 1)

/-- `FET_TMAX` is reached. -/
def State.fetHot (s : State) : Bool := decide ((s.cfg cfgFetTmax : Rat) ≤ s.fetTemp)

/-- A fault timer runs in this sample (R397). -/
def State.faultTimer (s : State) (ma : Nat) : Bool := s.bands.any (fun b => decide (b.1 < ma)) || s.fetHot

/-! ### Rails -/

def railNominal : Nat → Nat
  | 0 => 1200
  | 1 => 900
  | 2 => 1800
  | 3 => 1050
  | _ => 750

/-- A rail enabled (R410); before `VDD_CORE` its voltage is commanded. -/
def State.enableRail (s : State) (r : Nat) : State :=
  let s := if r = 6 then (s.wr I.vcoreCmd 0 750).send (.pmbus 6 "VOUT_COMMAND" 750) else s
  let s := (s.wr F.PWR_RAIL_DATA_EN r 1).wr F.PWR_RAIL_DATA_STATE r 1
  s.wr I.railNow 0 r

/-- The rail sequence starts (R410, R412): the regulators' `VOUT_MODE` is read. -/
def State.startRails (s : State) : State :=
  let s := (List.range 7).foldl (fun s r => s.send (.pmbus r "VOUT_MODE" 0)) s
  s.enableRail 0

/-- No rail is enabled. -/
def State.railsOff (s : State) : Bool := (List.range 7).all fun r => !s.on F.PWR_RAIL_DATA_EN r

/-- All seven rails are good. -/
def State.railsGood (s : State) : Bool := (List.range 7).all fun r => s.rd F.PWR_RAIL_DATA_STATE r == 2

/-- `PG_OUT` and the step that follows it (R398, R410): the first rail is enabled in the sample after. -/
def State.samplePg (s : State) (ma : Nat) : State :=
  let pg := s.on F.HSW_STATE_PG 0
  let gate := s.rd I.gate 0
  let vgs := s.vch 11
  let output := s.inWindow && decide (s.vch 0 ≤ s.vch 1 + 1000)
  let s := if s.rd F.HSW_STATE_STATE 0 = 2 ∧ 8000 ≤ vgs then s.wr F.HSW_STATE_STATE 0 3 else s
  if pg then
    if gate = 0 ∨ !output ∨ vgs < 7000 then s.wr F.HSW_STATE_PG 0 0
    else if s.rd F.PWR_SEQ_STEP 0 = 5 ∧ s.rd I.railNow 0 = 7 ∧ s.railsOff then s.startRails
    else s
  else if gate ≠ 0 ∧ 8000 ≤ vgs ∧ output ∧ !s.faultTimer ma then
    let s := (s.wr F.HSW_STATE_PG 0 1).wr I.pgAt 0 s.us
    if s.rd F.PWR_SEQ_STEP 0 = 4 then s.wr F.PWR_SEQ_STEP 0 5 else s
  else s

/-- A rail failure (R411): a class B fault and the rails off in reverse order, or with a second one
before 60 s of good rails the safe state. -/
def State.railFail (s : State) (r : Nat) : State :=
  let st := s.rd F.PWR_SEQ_STEP 0
  if st ≠ 5 ∧ st ≠ 6 then s
  else
    let calm := s.railsGood && !s.within (s.rd I.railsGoodAt 0) 60000000
    let n := if calm then 1 else s.rd F.PWR_SEQ_RAIL_FAILS 0 + 1
    let s := (s.bump F.PWR_RAIL_DATA_FAULTS r).wr F.PWR_SEQ_RAIL_FAILS 0 (min 3 n)
    if 2 ≤ n then (s.fault 6 r).fault 52 r
    else
      let on := ((List.range 7).filter (s.on F.PWR_RAIL_DATA_EN)).length
      let s := (s.fault 52 r).wr F.PWR_RAIL_DATA_STATE r 3
      let s := ((s.wr I.dieUp 0 0).wr I.chipStep 0 0).dieLost false
      let s := ((s.wr F.PWR_SEQ_STEP 0 11).wr I.railNow 0 7).wr I.railDown 0 on
      (s.waitFor 100).disableRail

/-! ### `FRONT_N` -/

/-- What begins the front condition in this sample (R418): `low`: `PSU_WARN_N` is low. -/
def State.frontBegins (s : State) (low : Bool) : Bool :=
  let v := s.vch 0
  let slope := match s.pwr.vin.drop 24 with
    | old :: _ => decide (v + 25 * s.cfg cfgFrontSlope < old)
    | [] => false
  decide (v < 10 * s.cfg cfgFrontLow) || slope ||
    (low && s.on I.psuWarnPrev 0 && s.cfg cfgPsuWarnEn == 1)

/-- The front condition in this sample (R418). -/
def State.sampleFront (s : State) (low : Bool) : State :=
  let begins := s.frontBegins low
  let v := s.vch 0
  let s : State := { s with pwr := { s.pwr with vin := (v :: s.pwr.vin).take 25 } }
  let s := s.wr I.psuWarnPrev 0 (bit low)
  let s := if begins then s.wr F.PWR_INPUT_FRONT_OWN 0 1 else s
  s.wr I.frontQuiet 0 (bit (!begins && decide (10 * s.cfg cfgFrontHigh < v)))

/-! ### The commands -/

/-- `BREAKER_SAMPLE` (R389, R393-R398, R400, R405, R406, R418).  A band timer that has reached its limit
trips the channel by `BAND_TRIP`. -/
def execBreakerSample (x : BreakerIn) (s : State) : Result :=
  let s := (s.readSample x).sampleFet
  let s := s.sampleWindow
  let s := if s.rd I.gate 0 ≠ 0 ∧ s.fetHot then s.trip 5 0
    else ((s.inrush).sampleBands x.iout).samplePg x.iout
  .next (s.sampleFront x.psuWarn)

/-- `INSERTION_DELAY_END` (R394, R396). -/
def execInsertionDelayEnd (s : State) : Result :=
  if s.rd F.PWR_SEQ_STEP 0 = 2 ∧ s.inWindow then .next s.startInrush.inrush else .next s

/-- `INRUSH_WINDOW_END` (R396). -/
def execInrushWindowEnd (s : State) : Result :=
  if s.rd F.HSW_STATE_STATE 0 ≠ 1 then .next s
  else if s.nearInput then .next s.inrush
  else .next (s.trip (if 10 * s.vch 1 < s.vch 0 then 3 else 4) 0)

/-- `MAIN_ENHANCE_TIMEOUT` (R407): 2 ms after the command for full enhancement. -/
def execMainEnhanceTimeout (s : State) : Result :=
  if s.rd F.HSW_STATE_STATE 0 = 2 then
    let s := (s.bump F.HSW_TRIPS_DAMAGED 0).bump F.HSW_TRIPS_LATCHES 0
    .next ((s.wr I.gateLimit 0 0).fault 5 0)
  else .next s

/-- `FAST_TRIP` (R399, R396): cause short during the inrush. -/
def execFastTrip (s : State) : Result :=
  if s.rd I.gate 0 = 0 then .next s
  else .next (s.trip (if s.rd F.HSW_STATE_STATE 0 = 1 then 3 else 2) 0)

/-- `BAND_TRIP` (R400, R401). -/
def execBandTrip (s : State) : Result :=
  match s.bandDue with
  | some b => if s.rd I.gate 0 = 0 then .next s else .next (s.trip 1 b)
  | none => .next s

/-- `BACKOFF_END` (R402, R406); in the safe state the restart waits for its end (R482). -/
def execBackoffEnd (s : State) : Result :=
  if s.rd F.HSW_STATE_STATE 0 ≠ 4 then .next s
  else if s.rd F.PWR_SEQ_STEP 0 = 7 then .next s.restart
  else .next (s.wr I.backoffOver 0 1)

/-- `LATCH_CLR` (R403, R482): over SMBus, or over the host window while the compute die is powered. -/
def execLatchClr (path : Path) (s : State) : Result :=
  let reaches := path == .smbus || (path == .host && s.on I.dieUp 0)
  let st := s.rd F.HSW_STATE_STATE 0
  if reaches ∧ (st = 5 ∨ st = 6) then
    let src := if st = 5 then 4 else 5
    let s := (s.wr F.HSW_STATE_RETRIES 0 0).wr F.HSW_STATE_STATE 0 0
    .next (((s.wr F.PWR_SEQ_STEP 0 9).causeEnds src).clearStatus src)
  else .next s

/-- `RETRY_COUNT_RESET` (R404). -/
def execRetryCountReset (s : State) : Result :=
  if s.on F.HSW_STATE_PG 0 then .next (s.wr F.HSW_STATE_RETRIES 0 0) else .next s

/-- `AUX_SWITCH_TEST` (R408): `mv`, factory-calibrated. -/
def execAuxSwitchTest (k : Fin 8) (mv : Nat) (s : State) : Result :=
  let s := s.wr F.PWR_VCH_DATA_MV (2 + k.val) (s.volts (2 + k.val) mv)
  let s := s.wr F.HSW_MEAS_VOUT (1 + k.val) (toUnit 10 (s.vch (2 + k.val)))
  if 2000 < mv then
    if s.rd I.auxRunAt k.val = 0 then .next (s.wr I.auxRunAt k.val (s.us + 1)) else .next s
  else .next (((s.wr I.auxRunAt k.val 0).wr I.auxDamaged k.val 0).causeEnds (42 + k.val))

/-- `AUX_DAMAGED` (R408): the run has lasted 100 ms. -/
def execAuxDamaged (k : Fin 8) (s : State) : Result :=
  if s.rd I.auxRunAt k.val ≠ 0 ∧ !s.on I.auxDamaged k.val then
    let s := (s.wr I.auxDamaged k.val 1).bump F.HSW_TRIPS_DAMAGED (1 + k.val)
    .next (s.fault (42 + k.val) 0)
  else .next s

/-- `RAIL_POLL` (R409, R410): `powerGood`: `STATUS_WORD` shows no `POWER_GOOD#`. -/
def execRailPoll (mv : Nat) (powerGood : Bool) (s : State) : Result :=
  let r := s.rd I.railNow 0
  if r = 7 ∨ s.rd F.PWR_RAIL_DATA_STATE r ≠ 1 then .next s
  else
    let s := (s.send (.pmbus r "READ_VOUT" 0)).wr F.PWR_RAIL_DATA_VOUT_MV r mv
    let nominal := if r = 6 then s.rd I.vcoreCmd 0 else railNominal r
    if powerGood ∧ 95 * nominal ≤ 100 * mv ∧ 100 * mv ≤ 105 * nominal then
      let s := s.wr F.PWR_RAIL_DATA_STATE r 2
      .next (if r = 6 then (s.wr I.railNow 0 7).wr I.railsGoodAt 0 s.us else s)
    else .next s

/-- `RAIL_DWELL_END` (R410). -/
def execRailDwellEnd (s : State) : Result :=
  let r := s.rd I.railNow 0
  if r < 6 ∧ s.rd F.PWR_RAIL_DATA_STATE r = 2 then .next (s.enableRail (r + 1)) else .next s

/-- `RAIL_START_TIMEOUT` (R410, R411). -/
def execRailStartTimeout (s : State) : Result :=
  let r := s.rd I.railNow 0
  if r < 7 ∧ s.rd F.PWR_RAIL_DATA_STATE r = 1 then .next (s.railFail r) else .next s

/-- `REVERSE_ORDER_RAIL_DISABLE` (R411, R417): in a power cycle the pass FET follows the last rail. -/
def execReverseOrderRailDisable (s : State) : Result :=
  if s.rd I.railDown 0 ≠ 0 then .next s.disableRail
  else if s.rd F.PWR_SEQ_STEP 0 = 10 ∧ s.rd I.gate 0 ≠ 0 then
    .next ((s.channelOff.wr F.HSW_STATE_STATE 0 0).waitFor 20)
  else .next s

/-- `RAIL_RETRY_TIMER` (R411): at the latest now every rail is off. -/
def execRailRetryTimer (s : State) : Result :=
  if s.rd F.PWR_SEQ_STEP 0 = 11 then
    let s := s.wrAll F.PWR_RAIL_DATA_EN (List.range 7) 0
    let s := (s.wrAll F.PWR_RAIL_DATA_STATE (List.range 7) 0).wr I.railDown 0 0
    let s := s.wr F.PWR_SEQ_STEP 0 5
    .next (if s.on F.HSW_STATE_PG 0 then s.startRails else s)
  else .next s

/-- `POWER_CYCLE_RESTART` (R417, R496): the pass FET has been held off for 2 s. -/
def execPowerCycleRestart (s : State) : Result :=
  if s.rd F.PWR_SEQ_STEP 0 = 10 ∧ s.rd I.gate 0 = 0 then
    .next (if s.inWindow then s.startInrush else s.wr I.cycleWait 0 1)
  else .next s

/-- Class C partner violations of a regulator (R413, R18). -/
def State.regulatorFails (s : State) (r n : Nat) : State :=
  (List.range n).foldl (fun s _ => s.classC 413 r) s

/-- `PMB_ALERT` (R413): the status of every regulator read, then `CLEAR_FAULTS` sent. -/
def execPmbAlert (answers : List RailAnswer) (s : State) : Result :=
  let s := answers.foldl (fun s a =>
    let r := a.rail.val
    let s := (s.send (.pmbus r "STATUS_WORD" 0)).regulatorFails r a.fails.val
    match a.status with
    | .clear | .silent => s
    | .warning => s.classC 413 r
    | .fault => if s.on F.PWR_RAIL_DATA_EN r then s.railFail r else s) s
  .next ((List.range 7).foldl (fun s r => s.send (.pmbus r "CLEAR_FAULTS" 0)) s)

/-- `PMBUS_TELEMETRY_POLL` (R412, R431): `VDD_CORE` every 1 ms, the other rails every 10 ms. -/
def execPmbusTelemetryPoll (x : RailReading) (s : State) : Result :=
  if !s.railsGood then .next s
  else
    let r := x.rail.val
    let s := (s.send (.pmbus r "READ_VOUT" 0)).send (.pmbus r "READ_IOUT" 0)
    let s := s.regulatorFails r x.fails.val
    match x.reading with
    | some (mv, da) =>
      let s := (s.wr F.PWR_RAIL_DATA_VOUT_MV r mv).wr F.PWR_RAIL_IOUT_IOUT r da
      .next (s.addEnergy (mv * da * (if r = 6 then 1 else 10)))
    | none => .next s

/-- `PMBUS_CORE_SILENT` (R413). -/
def execPmbusCoreSilent (s : State) : Result :=
  if s.railsGood then .next (s.railFail 6) else .next s

/-- A `VOUT_COMMAND` write starts. -/
def State.commandCore (s : State) (mv : Nat) : State :=
  (s.wr I.vcoreNow 0 mv).send (.pmbus 6 "VOUT_COMMAND" mv)

/-- A request of the compute die for a `VDD_CORE` value (R414). -/
def State.requestCore (s : State) (mv : Nat) : State :=
  let v := max 550 (min 800 mv)
  if s.rd I.vcoreNow 0 = 0 then s.commandCore v
  else { s with pwr := { s.pwr with voutWaiting := some v } }

/-- `VCORE_REQUEST` (R414). -/
def execVcoreRequest (mv : Nat) (s : State) : Result :=
  if s.on I.dieUp 0 then .next (s.requestCore mv) else .next s

/-- `VOUT_COMMAND_WRITE_DONE` (R414). -/
def execVoutCommandWriteDone (s : State) : Result :=
  let v := s.rd I.vcoreNow 0
  if v = 0 then .next s
  else
    let s := (s.wr I.vcoreCmd 0 v).wr I.vcoreNow 0 0
    match s.pwr.voutWaiting with
    | some w =>
      let s : State := { s with pwr := { s.pwr with voutWaiting := none } }
      .next (s.commandCore w)
    | none => .next s

/-! ### The compute die leaves reset -/

/-- The storage of a fixed-region bolt exchanged with that of bolt `r` (R97). -/
def State.exchangeBolts (s : State) (f r : Nat) : State :=
  let old := s.storage f
  let s := s.setBolt f { s.bolt f with exchanged := some r }
  s.setBolt r { s.bolt r with state := .retired, owner := 0, exchanged := some old }

/-- One entry of record 0x0A or of the overflow list applied to the compute die (R54, R97, R105, R113). -/
def State.applyRetirement (s : State) (r : Retirement) : State :=
  match r with
  | .core _ _ _ | .cluster _ _ => s
  | .bank q g b =>
    let i := q.val * 32 + g.val
    let s := s.wr I.bankFailing (bankIx i b.val) 1
    if s.on I.spareUsed i then s else (s.wr I.spareUsed i 1).wr I.sparedBank i b.val
  | .bolt b none => s.retireBolt b.val
  | .bolt b (some f) => s.exchangeBolts f.val b.val
  | .row g c bank row =>
    if (g.val, c.val, bank, row) ∈ s.hbm.rows then s
    else
      let rows := s.hbm.rows ++ [(g.val, c.val, bank, row)]
      State.bump { s with hbm := { s.hbm with rows := rows } } F.HBM_GRP_REPAIR_PENDING g.val
  | .extent e => { s with hbm := { s.hbm with retired := s.hbm.retired ++ [e.val] } }

/-- The exchanges that a chip reset makes (R97): with the highest-numbered FREE bolt of the quadrant; with
none, the fault is raised again. -/
def State.makeExchanges (s : State) : State :=
  let s := s.stw.exchange.foldl (fun s f =>
    match ((List.finRange 256).filter fun b => b.val / 64 == f / 64 && s.boltFree b.val).getLast? with
    | some r => (s.exchangeBolts f r.val).retire (.bolt r (some (Fin.ofNat 256 f)))
    | none => s.fault 83 f) s
  { s with stw := { s.stw with exchange := [] } }

/-- The links that a configuration uses (R222): bench, small tray of `n` packages, tray, paired trays. -/
def linkUsed (config n slot k : Nat) : Bool :=
  match config with
  | 0 => false
  | 1 => decide (k < 7) && decide (partner slot k < n)
  | 2 => decide (k < 7) || k == 9
  | _ => true

/-- What the steward writes into the weft window (R222, R253: from records 0x01 and 0x0C). -/
def State.weftCfg (s : State) : State :=
  let node := s.rd F.STW_STATUS_NODE 0
  let s := (List.range 10).foldl (fun s k =>
    let s := s.wr F.WEFT_LINK_STATE_EXPECT k (expectNode node k)
    if linkUsed (s.cfg cfgConfig) (s.cfg ⟨0x01, 1, 1, 8⟩) (node % 8) k then s
    else s.wr F.WEFT_LINK_STATE_STATE k 6) s
  let s := s.wr F.WEFT_CFG_NODE 0 node
  let s := s.wr F.WEFT_CFG_CONFIG 0 (s.cfg cfgConfig)
  let s := s.wr F.WEFT_CFG_SYMPATHY 0 (field (s.cfg cfgFlags) 1 1)
  s.wr F.WEFT_CFG_STEP_TIMEOUT_MS 0 (s.cfgIn cfgStepTimeout 1 1000)

/-- The partitions' shares of the power and their first budgets (R423, from record 0x06). -/
def State.shares (s : State) : State :=
  (List.range 16).foldl (fun s p =>
    let f := s.cfg (cfgFraction p)
    let b := (s.cfg cfgCapW - s.cfg cfgReserveW) * f
    ((s.wr F.PART_CAP_FRACTION_FRACTION p f).wr I.budget p b).wr F.PART_POWER_BUDGET_W p (toUnit 256 b)) s

/-- `COMPUTE_DIE_RESET_RELEASE` (R415, R494 step 4, R12, R32, R54, R57, R320, R363). -/
def execComputeDieResetRelease (s : State) : Result :=
  let afterReset := s.rd I.chipStep 0 == 2
  let ready := s.rd F.PWR_SEQ_STEP 0 == 5 && s.railsGood
  if afterReset ∨ ready then
    let s := (s.wr I.dieUp 0 1).wr I.linkAt 0 s.us
    let s := if afterReset then s.wr I.chipStep 0 3 else (s.wr F.PWR_SEQ_STEP 0 6).weftCfg
    let s := (s.shares.wr I.bootCount 0 (s.rd I.bootCount 0 + 1)).wr F.SEC_STATUS_BOOT_KEY 0 1
    let handed := s.stw.repair ++ s.stw.overflow
    let s : State := { s with arr := { s.arr with user := handed }, thm := { s.thm with subs := [] } }
    let s := (handed.foldl State.applyRetirement s).makeExchanges
    .next ((List.finRange 16).foldl State.readMaps s)
  else .next s

/-- `HBM_TRAINED` (R415, R494 step 6, R113): queued rows are repaired; `lost`: for each queued row of
a bank without a repair row left, the extent that holds it. -/
def execHbmTrained (lost : List (Fin 10240)) (s : State) : Result :=
  if s.on I.dieUp 0 ∧ !s.on F.HBM_GRP_STATE_TRAINED 0 then
    let s := s.wrAll F.HBM_GRP_STATE_TRAINED (List.range 16) 1
    .next ((List.range 16).foldl (State.repairRows · · lost) s)
  else .next s

/-! ### The hold-up warning -/

/-- `FRONT_N_ASSERT` (R418, R419). -/
def execFrontNAssert (s : State) : Result :=
  if s.on F.PWR_INPUT_FRONT 0 then .next s
  else
    let s := ((s.wr F.PWR_INPUT_FRONT 0 1).bump F.PWR_FRONT_COUNT 0).wr I.frontAt 0 s.us
    .next (((s.event 10 [1]).record 8 1 s.powerData).queueCheckpoint 2)

/-- `FRONT_N_DEASSERT` (R200, R273): intake resumes; a steward whose own front condition holds keeps the
pin low. -/
def execFrontNDeassert (s : State) : Result :=
  if !s.on F.PWR_INPUT_FRONT 0 ∨ s.on F.PWR_INPUT_FRONT_OWN 0 then .next s
  else
    let s := (s.wr F.PWR_INPUT_FRONT 0 0).event 10 [0]
    .next ((s.bnd.spools.map (·.1)).foldl State.fetchNext s)

/-- `FRONT_HOLD_END` (R418). -/
def execFrontHoldEnd (s : State) : Result :=
  if s.on I.frontQuiet 0 then .next (s.wr F.PWR_INPUT_FRONT_OWN 0 0) else .next s

end Sys2Proof.Machine
end

