-- ==== Sys2Proof/Machine/Thermal.lean ====
section
/-! DEFINITION. The power cap, droop and the gust limiter, energy counters, sensors, warnings, thermal
throttle and the thermal trip (14_power_and_thermal_control), and the package's cooling demand (R455). -/

namespace Sys2Proof.Machine

/-! ### Throttles (R426) -/

/-- `PART_THROTTLE` of a partition from its three throttles. -/
def State.setThrottle (s : State) (p : Nat) : State :=
  let cap := s.rd I.capThr p
  let thermal := s.rd F.PART_POWER_THERMAL_PCT p
  let symp := s.rd I.sympThr p
  let s := s.wr F.PART_THROTTLE_PCT p (max cap (max thermal symp))
  let s := s.wr F.PART_THROTTLE_CAUSE_CAP p (bit (cap != 0 || s.rd I.capIssue p != 256))
  (s.wr F.PART_THROTTLE_CAUSE_THERMAL p (bit (thermal != 0))).wr F.PART_THROTTLE_CAUSE_SYMPATHY p
    (bit (symp != 0))

/-- Partitions whose array domain is on. -/
def State.arraysOn (s : State) : List Nat := (List.range 16).filter (s.on F.PART_STATE_ARR_ON)

/-- The `VDD_CORE` value that the compute die asks for (R426): that of the fastest partition clock in use,
and `HEAVY_MV` more while a hint is in force. -/
def State.askCore (s : State) : State :=
  let t := s.arraysOn.foldl (fun m p => min m (s.rd F.PART_THROTTLE_PCT p)) 100
  let heavy := if s.arraysOn.any fun p => s.rd I.hintAt p != 0 then s.cfg cfgHeavyMv else 0
  s.requestCore (Config.coreMv (11 * (100 - t)) + heavy)

/-! ### Cap and budgets -/

/-- The effective cap, W (R422). -/
def State.effectiveCap (s : State) : Nat :=
  let cap := s.cfg cfgCapW
  let limit (c w : Nat) : Nat := if w = 0 then c else min c w
  let c := limit (limit cap (s.rd F.PWR_CAP_HOST_W 0)) (s.rd F.PWR_CAP_BMC_W 0)
  min cap (max c (s.cfg cfgReserveW + 200))

/-- The budgets of the partitions from the effective cap and the uncore power (R423). -/
def State.setBudgets (s : State) : State :=
  let u := s.rd F.PWR_PKG_UNCORE_W 0
  let reserve := s.cfg cfgReserveW
  let s := s.wr F.PWR_CAP_STATUS_UNCORE_OVER 0 (bit (decide (reserve < u)))
  (List.range 16).foldl (fun s p =>
    let b := (s.effectiveCap - max reserve u) * s.rd F.PART_CAP_FRACTION_FRACTION p
    (s.wr I.budget p b).wr F.PART_POWER_BUDGET_W p (min 2047 (toUnit 256 b))) s

/-- `CAP_WRITE` (R422, R448): the host's field in the host window, the BMC's over SMBus. -/
def execCapWrite (path : Path) (v : Word) (s : State) : Result :=
  match path with
  | .host =>
    if s.on I.dieUp 0 then .next (s.wr F.PWR_CAP_HOST_W 0 (field v.toNat 11 0)).setBudgets else .next s
  | .smbus => .next (s.wr F.PWR_CAP_BMC_W 0 (field v.toNat 27 16)).setBudgets
  | _ => .next s

/-- `BUDGET_UPDATE` (R423): package power and uncore power measured over the last 10 ms, W. -/
def execBudgetUpdate (packageW uncoreW : Nat) (s : State) : Result :=
  .next ((s.wr F.PWR_PKG_PACKAGE_W 0 (min 0xFFFF packageW)).wr F.PWR_PKG_UNCORE_W 0
    (min 0xFFFF uncoreW)).setBudgets

/-- The user gain of an energy coefficient (R433). -/
def State.gain (s : State) (k : Nat) : Int := (s.calibration 4 k).1

/-- The values of the throttle sub-zones in the last sample. -/
def State.subNow (s : State) : List (Option Int) := s.thm.subs.headD []

/-- A partition's corrected estimate (R424): nJ in 1 µs, from its activity counts by coefficient. -/
def State.estimate (s : State) (p : Nat) (activity : List Nat) : Nat :=
  let mv := s.rd I.vcoreCmd 0
  let dynamic : Rat := (activity.take 16).zipIdx.foldl (fun e x =>
    if 8 ≤ x.2 ∧ x.2 ≤ 10 then e
    else e + (x.1 : Rat) * Config.energyCoef x.2 * ((s.gain x.2 : Rat) / 0x4000)) 0
  let scale : Rat := ((mv : Rat) / (Config.refMv : Rat)) ^ 2
  let temp := ((s.subNow.getD p none).getD 0)
  let leak := Config.leakage mv temp [s.gain 8, s.gain 9, s.gain 10]
  ((dynamic * scale + leak) * (s.rd F.PWR_CORR_CORR 0 : Rat) / 128).floor.toNat

/-- Energy in nJ added to a 64-bit counter in mJ whose part of a mJ is kept beside it (R431). -/
def State.addNj (s : State) (f frac : Fld) (i n : Nat) : State :=
  let sum := s.rd frac i + n
  (s.bumpBy f i (sum / 1000000)).wr frac i (sum % 1000000)

/-- `CAP_CONTROL` (R424, R431): one step of a partition's cap controller. -/
def execCapControl (p : Part) (activity : List Nat) (s : State) : Result :=
  let p := p.val
  if !s.on F.PART_STATE_ARR_ON p then .next s
  else
    let e := s.estimate p activity
    let s := (s.addNj F.PART_ENERGY I.partFrac p e).wr I.msEnergy p (s.rd I.msEnergy p + e)
    let cap := s.rd I.capThr p
    let issue := s.rd I.capIssue p
    let aboveCap := decide (1000 * s.rd I.budget p < 256 * e)
    let under := decide (256 * e < 1000 * s.rd I.budget p)
    let s :=
      if aboveCap then
        if cap < 90 then s.wr I.capThr p (cap + 1) else s.wr I.capIssue p (max 16 (issue - 1))
      else if under then
        if issue < 256 then s.wr I.capIssue p (issue + 1) else s.wr I.capThr p (cap - 1)
      else s
    .next (s.setThrottle p)

/-- `CORR_UPDATE` (R425): the `VDD_CORE` power read and the sum it is compared with, in mW; none when the
regulator does not answer. -/
def execCorrUpdate (measured : Option (Nat × Nat)) (s : State) : Result :=
  match measured with
  | none => .next s
  | some (read, sum) =>
    if sum = 0 then .next s
    else
      let ratio := (2 * 128 * read + sum) / (2 * sum)
      let c := s.rd F.PWR_CORR_CORR 0
      let c := if c < ratio then c + 1 else if ratio < c then c - 1 else c
      .next (s.wr F.PWR_CORR_CORR 0 (max 96 (min 160 c)))

/-- `ENERGY_APPORTION` (R432): the cycles of the contexts that were active in the millisecond. -/
def execEnergyApportion (p : Part) (cycles : List (CtxIx × Nat)) (s : State) : Result :=
  let e := s.rd I.msEnergy p.val
  let total := (cycles.map (·.2)).sum
  let s := (s.wr I.msEnergy p.val 0).wr F.PART_POWER_EST_W p.val (min 2047 (toUnit 1000000 e))
  .next (cycles.foldl (fun s x =>
    match s.ctx? x.1.val with
    | some c => s.addNj F.SPOOL_ENERGY I.spoolFrac c.spool (e * x.2 / total)
    | none => s) s)

/-! ### Droop -/

/-- `DROOP` (R427): the clock period doubles; `CAUSE_DROOP` shows it for 1 ms. -/
def execDroop (p : Part) (s : State) : Result :=
  if s.on F.PART_STATE_ARR_ON p.val then
    .next (((s.wr I.droopSlow p.val 1).wr I.droopAt p.val (s.us + 1)).bump F.PART_GUST_DROOPS p.val)
  else .next s

/-- `DROOP_RECOVER` (R427). -/
def execDroopRecover (p : Part) (s : State) : Result := .next (s.wr I.droopSlow p.val 0)

/-! ### The gust limiter -/

/-- A partition's part in a step: number, units that it needs, current of a unit in µA. -/
abbrev Ramp := Nat × Nat × Nat

/-- Units granted to ramping partitions out of a current in µA (R429): what each needs, or an equal share;
what a partition leaves goes to the others. -/
def shareOut : Nat → Nat → List Ramp → List (Nat × Nat)
  | 0, _, _ => []
  | _, _, [] => []
  | n + 1, left, rs =>
    let share := left / rs.length
    let small := rs.filter fun r => decide (r.2.1 * r.2.2 ≤ share)
    let big := rs.filter fun r => decide (share < r.2.1 * r.2.2)
    if small.isEmpty then rs.map fun r => (r.1, share / r.2.2)
    else small.map (fun r => (r.1, r.2.1)) ++
      shareOut n (left - (small.map fun r => r.2.1 * r.2.2).sum) big

/-- Units by which the issue fraction may change in one step (R428). -/
def State.stepUnits (s : State) (unit : Nat) : Nat := 10000 * s.cfg cfgGustPart / unit

/-- A hint of a partition met by a step (R430): its pre-ramp begins when the ramp no longer fits into the
time left, and it ends when its phase issues at the target. -/
def State.stepHint (s : State) (p : Nat) (x : GustIn) : State :=
  let since := s.rd I.hintAt p
  let target := s.rd I.hintTarget p
  if since = 0 then s
  else if target ≤ x.demand.val then ((s.wr I.hintAt p 0).wr F.PART_GUST_PRERAMP p 0).askCore
  else
    let left := since - 1 + s.rd I.hintLead p - s.us
    let ramping := 1 + (s.arraysOn.filter fun q => q != p && s.on F.PART_GUST_PRERAMP q).length
    let units := max 1 (min (s.stepUnits x.unit) (100000 * s.cfg cfgGustPkg / ramping / x.unit))
    let steps := (target - s.rd F.PART_GUST_ISSUE p + units - 1) / units
    if 10 * left ≤ steps then s.wr F.PART_GUST_PRERAMP p 1 else s

/-- The issue fraction that a partition moves toward. -/
def State.wantIssue (s : State) (p : Nat) (x : GustIn) : Nat :=
  let ahead := if s.on F.PART_GUST_PRERAMP p then s.rd I.hintTarget p else 0
  max 16 (min (s.rd I.capIssue p) (max x.demand.val ahead))

/-- `GUST_STEP` (R428-R430): what each partition's limiter meets, P0 first. -/
def execGustStep (xs : List GustIn) (s : State) : Result :=
  let ps := s.arraysOn.filter (· < xs.length)
  let inp (p : Nat) : GustIn :=
    let x := xs.getD p ⟨0, 1⟩
    { x with unit := max 1 x.unit }
  let s := ps.foldl (fun s p => s.stepHint p (inp p)) s
  let ramps : List Ramp := ps.filterMap fun p =>
    let n := min (s.wantIssue p (inp p) - s.rd F.PART_GUST_ISSUE p) (s.stepUnits (inp p).unit)
    if n = 0 then none else some (p, n, (inp p).unit)
  let grants := shareOut 17 (100000 * s.cfg cfgGustPkg) ramps
  .next (ps.foldl (fun s p =>
    let f := s.rd F.PART_GUST_ISSUE p
    let want := s.wantIssue p (inp p)
    let d := (inp p).demand.val
    let up := ((grants.find? (·.1 == p)).map (·.2)).getD 0
    let f := if want < f then f - min (f - want) (s.stepUnits (inp p).unit) else f + up
    let s := (s.wr F.PART_GUST_ISSUE p f).wr F.PART_GUST_FILL p (bit (decide (max 16 d < f)))
    s.wr F.PART_THROTTLE_CAUSE_GUST p (bit (decide (f < d)))) s)

/-- `HEAVY_AHEAD` (R430): lead time in µs and target fraction in 1/256; it replaces an earlier hint. -/
def execHeavyAhead (p : Part) (lead target : Nat) (s : State) : Result :=
  let p := p.val
  if s.on F.PART_STATE_ARR_ON p then
    let s := ((s.wr I.hintAt p (s.us + 1)).wr I.hintLead p lead).wr I.hintTarget p (max 16 (min 256 target))
    .next (s.wr F.PART_GUST_PRERAMP p 0).askCore
  else .next s

/-- `HINT_TIMEOUT` (R430): the phase has not started 50 µs after its expected start. -/
def execHintTimeout (p : Part) (s : State) : Result :=
  if s.rd I.hintAt p.val ≠ 0 then
    .next ((s.wr I.hintAt p.val 0).wr F.PART_GUST_PRERAMP p.val 0).askCore
  else .next s

/-! ### Sensors (R435) -/

def sensorZone (k : Nat) : Nat := if k < 78 then 0 else if k < 86 then 1 else k - 84

/-- The throttle sub-zone of a sensor: 0-15 partitions, 16 Beam, 17 I/O, 18-25 the stacks; 26: none. -/
def subZone (k : Nat) : Nat :=
  if k < 64 then k / 4 else if k < 72 then 16 else if k < 78 then 17 else if k < 86 then k - 60 else 26

/-- The sensors of a sub-zone. -/
def subMembers (z : Nat) : List Nat := (List.range 86).filter fun k => subZone k == z

/-- The zone of a sub-zone. -/
def zoneOfSub (z : Nat) : Nat := if z < 18 then 0 else 1

/-- The stacks have trained (R436, R441). -/
def State.hbmUp (s : State) : Bool := s.on I.dieUp 0 && s.on F.HBM_GRP_STATE_TRAINED 0

/-- The sensor gives readings: compute-die sensors while the die is up, stacks once HBM has trained,
thermistors unless their pin holds another function. -/
def State.readable (s : State) (k : Nat) : Bool :=
  if k < 78 then s.on I.dieUp 0 else if k < 86 then s.hbmUp
  else if k < 89 then s.hasFn 5 (k - 86) else true

/-- The sensor is failed (R443). -/
def State.sensorBad (s : State) (k : Nat) : Bool := s.rd F.THM_SENSOR_DATA_CAUSE k != 0

/-- The sensor has given a reading and is not failed. -/
def State.sensorOk (s : State) (k : Nat) : Bool := s.on F.THM_SENSOR_DATA_VALID k

/-- A sensor's last valid reading, in 1/64 °C. -/
def State.sensorTemp (s : State) (k : Nat) : Int := (BitVec.ofNat 16 (s.rd F.THM_SENSOR_DATA_TEMP k)).toInt

/-- A temperature as a register of 16 bits holds it. -/
def tempBits (v : Int) : Nat := (BitVec.ofInt 16 (max (-32768) (min 32767 v))).toNat

def maxInt : List Int → Option Int
  | [] => none
  | x :: l => some (l.foldl max x)

/-- The level whose floor a sub-zone's or the rate-of-rise rule keeps (R445; 26: rate of rise). -/
def State.floorOf (s : State) (z : Nat) : Nat :=
  s.thm.floors.foldl (fun m f => if f.2.1 = z then max m f.2.2 else m) 0

/-- The registers that show floors (R445). -/
def State.showFloors (s : State) : State :=
  let fs := s.thm.floors
  let s := (List.range 90).foldl (fun s k =>
    s.wr F.THM_SENSOR_DATA_FLOOR_SRC k (bit (fs.any (·.1 == k)))) s
  (List.range 16).foldl (fun s p =>
    s.wr F.PART_POWER_FLOOR p (bit (fs.any fun f => f.2.1 == p || 16 ≤ f.2.1))) s

/-- A sensor fails (R443, R445). -/
def State.sensorFails (s : State) (k cause : Nat) : State :=
  let z := subZone k
  let ofSub := if s.thm.top.contains k ∧ s.rd I.thrLevel z ≠ 0 then [(k, z, s.rd I.thrLevel z)] else []
  let ofRor := if s.rorMode ∧ s.thm.topZone.contains k ∧ s.rd I.rorLevel 0 ≠ 0 then
      [(k, 26, s.rd I.rorLevel 0)] else []
  let s : State := { s with thm := { s.thm with
    floors := s.thm.floors ++ ofSub ++ ofRor, passSince := Tab.put s.thm.passSince k 0 0 } }
  let s := (s.wr F.THM_SENSOR_DATA_CAUSE k cause).wr F.THM_SENSOR_DATA_VALID k 0
  ((s.bump F.THM_SENSOR_DATA_FAILS k).fault 50 k).showFloors

/-- A failed sensor is valid again (R443). -/
def State.sensorRecovers (s : State) (k : Nat) : State :=
  let s : State := { s with thm := { s.thm with
    validSince := Tab.put s.thm.validSince k (s.us + 1) 0, passSince := Tab.put s.thm.passSince k 0 0 } }
  let s := s.wr F.THM_SENSOR_DATA_CAUSE k 0
  if (List.range 90).any s.sensorBad then s else s.causeEnds 50

/-- Floors whose sensors have been valid again for 60 s end (R445). -/
def State.expireFloors (s : State) : State :=
  let fs := s.thm.floors.filter fun f =>
    let since := Tab.get s.thm.validSince f.1 0
    s.sensorBad f.1 || since == 0 || s.within (since - 1) 60000000
  (State.showFloors { s with thm := { s.thm with floors := fs } })

/-- The calibrated readings of one sample, by sensor (R365, R366). -/
abbrev Sample := List Reading

def State.calibrated (s : State) (xs : Sample) : Sample :=
  (List.range 90).map fun k =>
    if s.readable k then ((xs.getD k none).map fun v => s.calibrate 1 k v) else none

/-- A reading between −40 °C and 150 °C (R443). -/
def inSensorRange (v : Int) : Bool := decide (-2560 ≤ v ∧ v ≤ 9600)

/-- A reading disagrees with the others of its sub-zone in this sample (R443). -/
def State.disagrees (s : State) (xs : Sample) (k : Nat) (v : Int) : Bool :=
  let others := (subMembers (subZone k)).filterMap fun j =>
    if j = k ∨ s.sensorBad j then none else (xs.getD j none).filter inSensorRange
  s.cfg cfgSensorMode == 1 && decide (2 ≤ others.length) &&
    match maxInt others with
    | some m => decide (64 * s.cfg cfgCrossLimit < (v - m).natAbs)
    | none => false

/-- One sensor's reading taken (R443): failures by range have come before. -/
def State.takeReading (s : State) (xs : Sample) (k : Nat) : State :=
  match (xs.getD k none).filter inSensorRange with
  | none =>
    let s : State := { s with thm := { s.thm with cross := Tab.put s.thm.cross k 0 0 } }
    { s with thm := { s.thm with passSince := Tab.put s.thm.passSince k 0 0 } }
  | some v =>
    let dis := s.disagrees xs k v
    let n := if dis then Tab.get s.thm.cross k 0 + 1 else 0
    let s : State := { s with thm := { s.thm with cross := Tab.put s.thm.cross k n 0 } }
    if s.sensorBad k then
      let since := Tab.get s.thm.passSince k 0
      if dis then { s with thm := { s.thm with passSince := Tab.put s.thm.passSince k 0 0 } }
      else if since = 0 then
        { s with thm := { s.thm with passSince := Tab.put s.thm.passSince k (s.us + 1) 0 } }
      else if s.within (since - 1) 10000000 then s
      else
        let s := s.sensorRecovers k
        (s.wr F.THM_SENSOR_DATA_TEMP k (tempBits v)).wr F.THM_SENSOR_DATA_VALID k 1
    else if dis ∧ s.cfg cfgConsec ≤ n then s.sensorFails k 3
    else (s.wr F.THM_SENSOR_DATA_TEMP k (tempBits v)).wr F.THM_SENSOR_DATA_VALID k 1

/-- The readings of one sample taken, failures first (R443). -/
def State.takeSample (s : State) (xs : Sample) : State :=
  let s := (List.range 90).foldl (fun s k =>
    match xs.getD k none with
    | some v => if !inSensorRange v ∧ !s.sensorBad k then s.sensorFails k 1 else s
    | none => s) s
  (List.range 90).foldl (fun s k => s.takeReading xs k) s

/-! ### Values (R437, R444) -/

/-- What a sub-zone's sensors come to. -/
structure SubValue where
  value : Option Int := none
  top : List Nat := []
  hot : Bool := false
  subst : Bool := false
  deriving DecidableEq, Repr

/-- The value of a sub-zone with substituted values for failed sensors (R444). -/
def State.subValue (s : State) (z : Nat) : SubValue :=
  let ks := subMembers z
  let good := maxInt ((ks.filter s.sensorOk).map s.sensorTemp)
  let cool := s.cfg cfgSensorMode == 1 && good.isSome
  let stand : Int :=
    if cool then good.getD 0 + 64 * s.cfg cfgCrossAdd
    else max (64 * (s.thrLevel (zoneOfSub z) : Int)) (good.getD (-2560))
  let vals := ks.filterMap fun k =>
    if s.sensorBad k then some (k, stand) else if s.sensorOk k then some (k, s.sensorTemp k) else none
  let best := maxInt (vals.map (·.2))
  let bad := ks.any s.sensorBad
  { value := best, top := (vals.filter fun x => some x.2 == best).map (·.1)
    hot := bad && !cool, subst := bad }

/-- The estimate for zones 0 and 1 while the compute die is unpowered (R437). -/
def State.zoneEstimate (s : State) : Option Int := maxInt (([86, 88].filter s.sensorOk).map s.sensorTemp)

/-- The values of all sub-zones: an untrained stack takes the compute-die zone's (R436). -/
def State.subValues (s : State) : List SubValue :=
  if !s.on I.dieUp 0 then (List.range 26).map fun _ => { value := s.zoneEstimate }
  else
    let die := (List.range 18).map s.subValue
    let zone0 := maxInt (die.filterMap (·.value))
    die ++ (List.range 8).map fun k =>
      if s.hbmUp then s.subValue (18 + k) else { value := zone0 }

/-- The value of one of zones 2-5 (R444): a failed thermistor gives the warning level, a failed `THERM3`
the model of R405. -/
def State.extValue (s : State) (z : Nat) : Option Int :=
  let k := z + 84
  if s.sensorBad k then
    if z = 5 then some (roundNat (64 * s.fetTemp)) else some (64 * (s.warnLevel z : Int))
  else if s.sensorOk k then some (s.sensorTemp k) else none

/-- The six zones' values. -/
def zoneValues (s : State) (subs : List SubValue) : List (Option Int) :=
  let zone (l : List SubValue) : Option Int := maxInt (l.filterMap (·.value))
  [zone (subs.take 18), zone (subs.drop 18)] ++ (List.range 4).map fun k => s.extValue (k + 2)

/-- The samples kept: those that the rates and the runs of samples need. -/
def keepZones (now : Nat) : Nat → List (Nat × List (Option Int)) → List (Nat × List (Option Int))
  | _, [] => []
  | n, x :: l => if 8 ≤ n ∧ x.1 + 250000 ≤ now then [x] else x :: keepZones now (n + 1) l

/-- The values of one sample recorded and shown (R435, R437, R444). -/
def State.showValues (s : State) (subs : List SubValue) : State :=
  let zs := zoneValues s subs
  let s := (List.range 6).foldl (fun s z =>
    let subst := if z = 0 then (subs.take 18).any (·.subst) else if z = 1 then (subs.drop 18).any (·.subst)
      else s.sensorBad (z + 84)
    let s := s.wr F.THM_ZONE_TEMP_TEMP z (tempBits ((zs.getD z none).getD 0))
    (s.wr F.THM_ZONE_TEMP_SUBST z (bit subst)).wr F.THM_ZONE_TEMP_ESTIMATED z
      (bit (decide (z < 2) && !s.on I.dieUp 0))) s
  let tops (z : Nat) (l : List SubValue) : List Nat :=
    (l.filter fun x => x.value == zs.getD z none).flatMap (·.top)
  { s with thm := { s.thm with
    subs := (subs.map (·.value) :: s.thm.subs).take 8
    zones := keepZones s.us 0 ((s.us, zs) :: s.thm.zones)
    top := subs.flatMap (·.top)
    topZone := tops 0 (subs.take 18) ++ tops 1 (subs.drop 18) } }

/-- The last `CONSEC` values of a zone or sub-zone; none unless that many samples had a value. -/
def State.lastValues (s : State) (l : List (Option Int)) : Option (List Int) :=
  let n := s.cfg cfgConsec
  let vs := (l.take n).filterMap id
  if vs.length = n then some vs else none

/-- Warnings (R438). -/
def State.setWarnings (s : State) : State :=
  (List.range 6).foldl (fun s z =>
    match s.lastValues (s.thm.zones.map fun x => x.2.getD z none) with
    | none => s
    | some vs =>
      let w : Int := 64 * (s.warnLevel z : Int)
      if !s.on F.THM_ZONE_TEMP_WARN z then
        if vs.all fun v => decide (w ≤ v) then (s.wr F.THM_ZONE_TEMP_WARN z 1).classC 438 z else s
      else if vs.all fun v => decide (v < w - 64 * (s.warnHys z : Int)) then s.wr F.THM_ZONE_TEMP_WARN z 0
      else s) s

/-- A zone's rise over a window (R440): 1/64 °C, and the µs between the two samples. -/
def State.rise (s : State) (z window : Nat) : Option (Int × Nat) :=
  match s.thm.zones with
  | [] => none
  | now :: past =>
    match past.find? fun x => decide (x.1 + window ≤ now.1) with
    | some old =>
      match now.2.getD z none, old.2.getD z none with
      | some a, some b => if now.1 = old.1 then none else some (a - b, now.1 - old.1)
      | _, _ => none
    | none => none

/-- A rate reaches a limit in 0.1 °C/s. -/
def reaches (r : Option (Int × Nat)) (tenths : Nat) : Bool :=
  match r with
  | some (d, t) => decide ((64 * tenths * t : Nat) ≤ 10000000 * d)
  | none => false

/-- A rate is below half a limit. -/
def belowHalf (r : Option (Int × Nat)) (tenths : Nat) : Bool :=
  match r with
  | some (d, t) => decide (20000000 * d < (64 * tenths * t : Nat))
  | none => false

/-- Since when a condition has held in every sample. -/
def State.heldSince (s : State) (m : SMap Nat) (z : Nat) (now : Bool) : SMap Nat :=
  if !now then Tab.put m z 0 0
  else if Tab.get m z 0 = 0 then Tab.put m z (s.us + 1) 0 else m

/-- A condition has held for a time, in µs. -/
def State.heldFor (s : State) (m : SMap Nat) (z us : Nat) : Bool :=
  Tab.get m z 0 != 0 && !s.within (Tab.get m z 0 - 1) us

/-- A thermal trip or a rate-of-rise shutdown (R440, R441). -/
def State.tripped (s : State) (src detail : Nat) : State :=
  let s := ((s.wr F.THM_STATUS_TRIPPED 0 1).wr F.THM_STATUS_RESTART_WAIT 0 1).bump F.THM_STATUS_TRIPS 0
  let s := s.wr F.THM_STATUS_ROR_SHUT 0 (bit (src == 3))
  let s : State := { s with thm := { s.thm with trippedAt := s.us } }
  s.fault src detail

/-- The rates of a sample, and the rate-of-rise rules (R440, R437). -/
def State.setRates (s : State) : State :=
  let s := (List.range 6).foldl (fun s z =>
    let r := match s.rise z 250000 with
      | some (d, t) => roundAway (d * 62500) t
      | none => 0
    s.wr F.THM_ZONE_TEMP_RATE z ((BitVec.ofInt 8 (max (-128) (min 127 r))).toNat)) s
  if !s.rorMode then s
  else if !s.on I.dieUp 0 then
    { s with thm := { s.thm with rising := [], calm := [], shutting := [] } }
  else (List.range 2).foldl (fun s z =>
    let r := s.rise z 250000
    let up := s.heldSince s.thm.rising z (reaches r (s.cfg cfgRorThr))
    let down := s.heldSince s.thm.calm z (belowHalf r (s.cfg cfgRorThr))
    let shut := s.heldSince s.thm.shutting z (reaches (s.rise z 50000) (s.cfg cfgRorShut))
    let s : State := { s with thm := { s.thm with rising := up, calm := down, shutting := shut } }
    if s.heldFor shut z (10000 * s.cfg cfgRorShutMs) ∧ !s.on F.THM_STATUS_TRIPPED 0 then s.tripped 3 z
    else s) s

/-! ### Trip sets (R446) -/

/-- What the loss of its sensors leaves of a partition without a binding. -/
def State.downUnbound (s : State) (p : Nat) : State :=
  let s := s.partOff p 7
  (s.fault 86 p).event 5 (le 1 p ++ le 1 (s.rd F.PART_CLUSTERS_OK_CLUSTERS_OK p))

/-- A partition without enough valid trip-set sensors (R446): powered down until the next compute-die
power-up; a bind that it is part of ends with `NO_PARTITION`.  A reset in progress goes on. -/
def State.sensorDown (s : State) (p : Nat) : State :=
  if s.on F.PART_POWER_SENSOR_DOWN p then s
  else
    let s := s.wr F.PART_POWER_SENSOR_DOWN p 1
    if s.inReset p then s
    else match s.partBinding? p, s.bnd.cmd with
      | some (b, _), some (.bind c) =>
        if c = b then (s.failBind b 0x06).downUnbound p
        else (s.abortRunning b).settle.cannotRun b p 7
      | some (b, _), _ => (s.abortRunning b).settle.cannotRun b p 7
      | none, some (.rebound parts _ _ _) =>
        if parts.contains p then ((s.parkParts parts).endCmd 0x06).downUnbound p else s.downUnbound p
      | none, _ => s.downUnbound p

/-- The sensors of trip sets that are not failed. -/
def State.validIn (s : State) (ks : List Nat) : Nat := ks.countP fun k => !s.sensorBad k

/-- Trip sets with too few valid sensors (R446). -/
def State.checkTripSets (s : State) : State :=
  if !s.on I.dieUp 0 then s
  else
    let s := (List.range 16).foldl (fun s p => if s.validIn (subMembers p) < 2 then s.sensorDown p else s) s
    let gone := ([0, 1].filter fun d => decide (s.validIn (subMembers (16 + d)) < 2)) ++
      ((List.range 8).filter fun k => s.validIn [78 + k, 8 * k, 8 * k + 4] == 0).map (· + 2)
    let new := gone.filter fun d => !s.thm.lost.contains d
    let s : State := { s with thm := { s.thm with lost := gone } }
    new.foldl (fun s d => s.fault 10 d) s

/-! ### Demand (R455) -/

/-- A demand table at a temperature in 1/64 °C. -/
def curveAt (v : Int) : List (Nat × Nat) → Nat
  | [] => 100
  | [p] => p.2
  | p :: q :: l =>
    if v ≤ 64 * (p.1 : Int) then p.2
    else if v < 64 * (q.1 : Int) then
      let num := (v - 64 * (p.1 : Int)).toNat * (q.2 - p.2)
      let den := 64 * (q.1 - p.1)
      p.2 + (num + den - 1) / den
    else curveAt v (q :: l)

/-- A failed sensor is treated as hot (R444). -/
def State.hotSensor (s : State) (subs : List SubValue) : Bool :=
  subs.any (·.hot) || [86, 87, 88, 89].any s.sensorBad

/-- A fan fault's bit is set; a pump or flow fault's is (R455, R474). -/
def State.holdsFanFault (s : State) : Bool := (List.range 6).any fun k => s.statusBit (32 + k)
def State.holdsPumpFault (s : State) : Bool := (List.range 4).any fun k => s.statusBit (38 + k)

/-- Some sub-zone has a level above 0, or a rate-of-rise throttle holds. -/
def State.throttling (s : State) : Bool :=
  (List.range 26).any (fun z => s.rd I.thrLevel z != 0) || s.rd I.rorLevel 0 != 0

/-- The package's fan and pump demand (R455). -/
def State.setDemand (s : State) (subs : List SubValue) : State :=
  let zs := zoneValues s subs
  let demandOf (t : Nat) : Nat := ([0, 1, 2, 4].zipIdx.map fun z =>
    match zs.getD z.1 none with
    | some v => curveAt v (s.demandTable (t + z.2))
    | none => 100).foldl max 0
  let warn := (List.range 6).any (s.on F.THM_ZONE_TEMP_WARN)
  let fan := if warn then max (demandOf 0) (s.cfg cfgWarnFan) else demandOf 0
  let pump := if warn then max (demandOf 4) (s.cfg cfgWarnPump) else demandOf 4
  let fan := if s.throttling || s.hotSensor subs || s.holdsFanFault then 100 else fan
  let pump := if s.throttling || s.holdsPumpFault then 100 else pump
  (s.wr F.COOL_STATUS_FAN_DEMAND 0 fan).wr F.COOL_STATUS_PUMP_DEMAND 0 pump

/-! ### Applied duty (R456) -/

/-- The bus is not used, or no other node of the side is heard: only the own demand counts (R378). -/
def State.alone (s : State) : Bool := s.cfg cfgConfig == 0 || s.rd F.STW_STATUS_ROLE 0 == 3

/-- The largest demand in the heartbeats of the own side registered in the last 300 ms: byte 4 for fans,
byte 5 for pumps. -/
def State.sideDemand (s : State) (byte : Nat) : Nat :=
  let node := s.rd F.STW_STATUS_NODE 0
  s.hzn.nodes.foldl (fun m x =>
    if x.1 / 8 = node / 8 ∧ !s.on I.quarantine x.1 ∧ s.within x.2.at' 300001 then max m (numAt x.2.hb byte 1)
    else m) 0

/-- The duty that a driving steward applies (R456): its floor, what is asked for, and the override. -/
def State.dutyParts (s : State) (pump : Bool) : Nat × Nat :=
  let own := s.rd (if pump then F.COOL_STATUS_PUMP_DEMAND else F.COOL_STATUS_FAN_DEMAND) 0
  let others := if s.alone then 0 else s.sideDemand (if pump then 5 else 4)
  let base := max (s.cfg (if pump then cfgPumpMin else cfgFanMin)) (max own others)
  let ovr := if pump then max (s.rd F.COOL_OVR_PUMP_HOST 0) (s.rd F.COOL_OVR_PUMP_BMC 0)
    else max (s.rd F.COOL_OVR_FAN_HOST 0) (s.rd F.COOL_OVR_FAN_BMC 0)
  (base, ovr)

/-- The applied duty of the fans or the pumps: a rise at once, a fall of at most `FAN_FALL` % per second
(R451, R456). -/
def State.applyDuty (s : State) (pump : Bool) : State :=
  let f := if pump then F.COOL_STATUS_PUMP_DUTY else F.COOL_STATUS_FAN_DUTY
  let i := if pump then 1 else 0
  let duty := s.rd f 0
  let p := s.dutyParts pump
  let target := min 100 (max p.1 p.2)
  if s.on I.holdFull 0 then (s.wr f 0 100).wr I.fanFallAt i s.us
  else if !s.on I.driving 0 then s.wr f 0 0
  else if duty ≤ target then (s.wr f 0 target).wr I.fanFallAt i s.us
  else
    let rate := s.cfg cfgFanFall
    let since := s.rd I.fanFallAt i
    let fall := (s.us - since) * rate / 1000000
    if fall = 0 then s
    else (s.wr f 0 (max target (duty - fall))).wr I.fanFallAt i (since + (fall * 1000000 + rate - 1) / rate)

/-- The pumps' duty, and whether an override raises a duty. -/
def State.applyPump (s : State) : State :=
  let raises := [false, true].any fun pump =>
    let p := s.dutyParts pump
    decide (p.1 < p.2)
  (s.applyDuty true).wr F.COOL_STATUS_OVERRIDE 0 (bit (s.on I.driving 0 && raises))

/-- The sampling rate from the next sample on (R436). -/
def State.setSampling (s : State) (zs : List (Option Int)) : State :=
  let near (z level margin : Nat) : Bool :=
    match zs.getD z none with
    | some v => decide (64 * ((level : Int) - margin) ≤ v)
    | none => false
  let thr (z : Nat) : Bool := near z (s.thrLevel z) (s.cfg cfgNearThr)
  let trip (z : Nat) : Bool := near z (s.tripLevel z) (s.cfg cfgNearTrip)
  let s := (List.range 2).foldl (fun s z => s.wr F.THM_ZONE_TEMP_NEAR z (bit (thr z || trip z))) s
  s.wr F.THM_STATUS_SAMPLE 0 (if trip 0 || trip 1 then 2
    else if thr 0 || thr 1 || (s.rorMode && s.on I.dieUp 0) then 1 else 0)

/-! ### The commands -/

/-- `SENSOR_SAMPLE` (R436-R438, R440, R443-R446, R455): factory-calibrated readings by `SENSOR_SEL`, none
where a sensor returned no conversion. -/
def execSensorSample (xs : List Reading) (s : State) : Result :=
  let s := (s.takeSample (s.calibrated xs)).expireFloors
  let subs := s.subValues
  let s := (s.showValues subs).setWarnings.setRates.checkTripSets
  let zs := zoneValues s subs
  let hot := zs.any fun v =>
    match v with
    | some v => decide (64 * (s.cfg cfgRestartC : Int) < v)
    | none => false
  let cool := if hot then 0 else if s.thm.coolSince = 0 then s.us + 1 else s.thm.coolSince
  let s : State := { s with thm := { s.thm with coolSince := cool } }
  .next ((s.setSampling zs).setDemand subs).applyPump

/-- `SENSOR_NO_CONVERSION` (R443). -/
def execSensorNoConversion (k : Fin 90) (s : State) : Result :=
  if s.readable k.val ∧ !s.sensorBad k.val then .next (s.sensorFails k.val 2).checkTripSets else .next s

/-- The level of a sub-zone at an evaluation (R439). -/
def State.nextLevel (s : State) (z : Nat) : Nat :=
  let level := s.rd I.thrLevel z
  let zone := zoneOfSub z
  match s.lastValues (s.thm.subs.map fun x => x.getD z none) with
  | none => level
  | some vs =>
    let thr : Int := 64 * (s.thrLevel zone : Int)
    let hys : Int := 64 * (s.cfg (cfgLevel zone 3) : Int)
    if vs.all fun v => decide (thr ≤ v) then min (level + s.cfg cfgThrStep) (s.cfg cfgThrMax)
    else if vs.all fun v => decide (v < thr - hys) then max (level - s.cfg cfgThrStep) (s.floorOf z)
    else level

/-- The rate-of-rise level at an evaluation (R440). -/
def State.nextRor (s : State) : Nat :=
  let level := s.rd I.rorLevel 0
  if (List.range 2).any fun z => s.heldFor s.thm.rising z (10000 * s.cfg cfgRorThrMs) then
    min (level + s.cfg cfgThrStep) (s.cfg cfgThrMax)
  else if (List.range 2).all fun z => s.heldFor s.thm.calm z 1000000 then
    max (level - s.cfg cfgThrStep) (s.floorOf 26)
  else level

/-- The thermal throttle of a partition (R439, R440). -/
def State.thermalPct (s : State) (p : Nat) : Nat :=
  if s.rorMode then s.rd I.rorLevel 0
  else ([p, 16, 17] ++ (List.range 8).map (· + 18)).foldl (fun m z => max m (s.rd I.thrLevel z)) 0

/-- `THROTTLE_EVAL` (R439, R440; R437 while the compute die is unpowered). -/
def execThrottleEval (s : State) : Result :=
  let s :=
    if !s.on I.dieUp 0 then
      let s := (s.wrAll I.thrLevel (List.range 26) 0).wr I.rorLevel 0 0
      { s with thm := { s.thm with floors := [] } }
    else
      let s := s.expireFloors
      if s.rorMode then s.wr I.rorLevel 0 s.nextRor
      else
        let ls := (List.range 26).map s.nextLevel
        ls.zipIdx.foldl (fun s x => s.wr I.thrLevel x.2 x.1) s
  let above (a n : Nat) : Bool :=
    (List.range n).any (fun k => s.rd I.thrLevel (a + k) != 0) || s.rd I.rorLevel 0 != 0
  let s := (s.wr F.THM_ZONE_TEMP_THROTTLING 0 (bit (above 0 18))).wr F.THM_ZONE_TEMP_THROTTLING 1
    (bit (above 18 8))
  if !s.on I.dieUp 0 then .next s
  else .next ((List.range 16).foldl (fun s p =>
    (s.wr F.PART_POWER_THERMAL_PCT p (s.thermalPct p)).setThrottle p) s)

/-- A comparator that can fire (R441, R443): a failed sensor's is masked; sensors 8k and 8k + 4 stand in
for a failed or untrained stack. -/
def State.armed (s : State) : Comparator → Bool
  | .die k => s.on I.dieUp 0 && !s.sensorBad k.val
  | .stack k =>
    s.on I.dieUp 0 && (if s.hbmUp && !s.sensorBad (78 + k.val) then true
      else !s.sensorBad (8 * k.val) || !s.sensorBad (8 * k.val + 4))

/-- `THERMTRIP` (R441). -/
def execThermtrip (x : Comparator) (s : State) : Result :=
  if !s.armed x then .next s
  else match x with
    | .die k => .next (s.tripped 1 k.val)
    | .stack k => .next (s.tripped 2 k.val)

/-- `THERMAL_RESTART` (R442, R482): the time of the restart conditions has passed. -/
def execThermalRestart (s : State) : Result :=
  let others := (List.range 14).any fun k => !(k == 1 || k == 2 || k == 3) && s.statusBit k
  let zs := (s.thm.zones.headD (0, [])).2
  let noValue := zs.getD 0 none == none && zs.getD 1 none == none
  if s.on F.THM_STATUS_TRIPPED 0 ∧ !others ∧ (noValue ∨ s.thm.coolSince ≠ 0) then
    let s := (s.wr F.THM_STATUS_TRIPPED 0 0).wr F.THM_STATUS_RESTART_WAIT 0 0
    .next ([1, 2, 3].foldl (fun s k => (s.causeEnds k).clearStatus k) s)
  else .next s

end Sys2Proof.Machine
end

