-- ==== Sys2Proof/Machine/Cooling.lean ====
section
/-! DEFINITION. Fans, pumps, flow meters and leak inputs (15_cooling_and_leaks). -/

namespace Sys2Proof.Machine

/-! ### Channels -/

/-- The number of a channel: fans 0-5, pumps 6-7. -/
def chIx : Channel → Nat
  | .fan k => k.val
  | .pump k => 6 + k.val

def isPump : Channel → Bool
  | .fan _ => false
  | .pump _ => true

/-- The number of a channel among its kind. -/
def chNo : Channel → Nat
  | .fan k => k.val
  | .pump k => k.val

def allChannels : List Channel := (List.finRange 6).map .fan ++ (List.finRange 2).map .pump

/-- Fields of `FAN_STATUS` and `PUMP_STATUS`, by channel. -/
def chState (c : Channel) : Fld := if isPump c then F.PUMP_STATUS_STATE else F.FAN_STATUS_STATE
def chMisses (c : Channel) : Fld := if isPump c then F.PUMP_STATUS_MISSES else F.FAN_STATUS_MISSES
def chRetry (c : Channel) : Fld := if isPump c then F.PUMP_STATUS_RETRY else F.FAN_STATUS_RETRY
def chRpm (c : Channel) : Fld := if isPump c then F.PUMP_STATUS_RPM else F.FAN_STATUS_RPM
def chFaults (c : Channel) : Fld := if isPump c then F.PUMP_STATUS_FAULTS else F.FAN_STATUS_FAULTS

/-- The fault source of a channel (R474). -/
def chSource (c : Channel) : Nat := 32 + chIx c

def State.present (s : State) (c : Channel) : Bool :=
  (s.cfg (if isPump c then cfgPumpPresent else cfgFanPresent)).testBit (chNo c)

/-- The channel's tach or flow input has lost its pin (R369, R462). -/
def State.noTach (s : State) (c : Channel) : Bool :=
  if isPump c then !s.hasFn 3 (chNo c) || !s.hasFn 4 (chNo c) else !s.hasFn 1 (chNo c)

def State.chIs (s : State) (c : Channel) (n : Nat) : Bool := s.rd (chState c) (chNo c) == n

/-- The channel is held at 100 % by this steward (R349, R369, R451, R458, R459, R461, R462). -/
def State.chFull (s : State) (c : Channel) : Bool :=
  s.on I.holdFull 0 || (s.present c &&
    (s.on I.spinDue (chIx c) || s.chIs c 2 || s.chIs c 3 || s.chIs c 4 || s.chIs c 5 ||
     (isPump c && !s.hasFn 2 (chNo c)) ||
     (if isPump c then s.holdsPumpFault else s.holdsFanFault)))

/-- The channels when the Draft comes into force (R458, R462): a spin-up is due on each present one. -/
def State.startChannels (s : State) : State :=
  allChannels.foldl (fun s c =>
    if !s.present c then s.wr (chState c) (chNo c) 0
    else if s.noTach c then s.wr (chState c) (chNo c) 5
    else (s.wr (chState c) (chNo c) 1).wr I.spinDue (chIx c) 1) s

/-! ### Edges -/

def State.edges (s : State) (k : Nat) : List Nat := Tab.get s.cool.edges k []

def State.setEdges (s : State) (k : Nat) (es : List Nat) : State :=
  { s with cool := { s.cool with edges := Tab.put s.cool.edges k es [] } }

def State.minRpm (s : State) (c : Channel) : Nat := s.cfg (if isPump c then cfgPumpMinRpm else cfgTachMinRpm)
def State.ppr (s : State) (c : Channel) : Nat := s.cfg (if isPump c then cfgPumpPpr else cfgFanPpr)

/-- Three edges that pass a spin-up (R458). -/
def State.spinPasses (s : State) (c : Channel) (es : List Nat) : Bool :=
  match es with
  | [a, _, b] =>
    decide (a - b ≤ (if isPump c then 1000000 else 1000 * s.cfg cfgStretchMs)) &&
      decide (s.minRpm c * s.ppr c * (a - b) ≤ 120000000)
  | _ => false

/-- An edge of a fan or pump tach. -/
def State.chEdge (s : State) (c : Channel) : State :=
  let k := chIx c
  if s.chIs c 2 then
    let es := (s.us :: s.edges k).take 3
    let s := s.setEdges k es
    if s.spinPasses c es then s.wr I.spinPass k 1 else s
  else if (s.chIs c 1 || s.chIs c 4) && (isPump c || s.on I.stretch 0) then s.setEdges k (s.us :: s.edges k)
  else s

/-- `TACH_EDGE` (R453, R458, R464, R465). -/
def execTachEdge (x : TachInput) (s : State) : Result :=
  match x with
  | .fan k => .next (s.chEdge (.fan k))
  | .pump k => .next (s.chEdge (.pump k))
  | .flow k => if s.hasFn 4 k.val then .next (s.setEdges (8 + k.val) (s.us :: s.edges (8 + k.val))) else .next s

/-! ### Drive -/

/-- Steward ticks of the fan period (R452). -/
def State.fanPeriod (s : State) : Nat :=
  let hz := s.cfg cfgFanHz
  (2 * 32768 + hz) / (2 * hz)

/-- `FAN_PERIOD_START` (R452, R456): the applied duty, and each fan switch's ticks in the period. -/
def execFanPeriodStart (s : State) : Result :=
  let s := (s.applyDuty false).applyPump.wr I.periodAt 0 s.us
  let p := s.fanPeriod
  .next ((List.finRange 6).foldl (fun s k =>
    let c : Channel := .fan k
    let on :=
      if s.chFull c then p
      else if !s.present c ∨ !s.on I.driving 0 then 0
      else if s.on I.stretch 0 then p
      else toUnit 100 (p * s.rd F.COOL_STATUS_FAN_DUTY 0)
    s.wr I.fanOn k.val on) s)

/-- `STRETCH_WINDOW_OPEN` (R453): by a driving steward, or one that holds a fan fault (R461). -/
def execStretchWindowOpen (s : State) : Result :=
  let fans : List Channel := (List.finRange 6).map .fan
  if s.on I.driving 0 ∨ fans.any (fun c => s.chIs c 4) then
    let s := fans.foldl (fun s c => if s.chIs c 2 then s else s.setEdges (chIx c) []) s
    let s := fans.foldl (fun s c => if s.present c then s.wr I.fanOn (chNo c) s.fanPeriod else s) s
    .next (s.wr I.stretch 0 1)
  else .next s

/-- One measurement of a channel (R453, R460, R461, R464). -/
def State.measured (s : State) (c : Channel) (valid : Bool) (rpm : Nat) : State :=
  let k := chIx c
  let i := chNo c
  let s := if valid ∨ isPump c then s.wr (chRpm c) i (min 0xFFFF rpm) else s
  if s.chIs c 4 then
    if !valid then s.wr I.goods k 0
    else if s.rd I.goods k < 2 then s.wr I.goods k (s.rd I.goods k + 1)
    else
      let s := ((s.wr I.goods k 0).wr I.misses k 0).wr (chMisses c) i 0
      ((s.wr I.coolRetry k 0).wr (chRetry c) i 0).wr (chState c) i 1 |>.causeEnds (chSource c)
  else if valid then (s.wr I.misses k 0).wr (chMisses c) i 0
  else if !s.on I.driving 0 then s
  else
    let n := s.rd I.misses k + 1
    let s := (s.wr I.misses k (min 15 n)).wr (chMisses c) i (min 3 n)
    if s.cfg cfgMissConsec ≤ n then (s.wr I.spinDue k 1).wr I.coolRetry k 0 else s

/-- The measurement of a stretch window (R453): newest edge first. -/
def State.windowSpeed (s : State) (c : Channel) : Bool × Nat :=
  let es := s.edges (chIx c)
  match es, es.getLast? with
  | t :: _ :: _, some first =>
    let span := t - first
    let num := 60000000 * (es.length - 1)
    (decide (s.minRpm c * s.ppr c * span ≤ num), if span = 0 then 0xFFFF else toUnit (s.ppr c * span) num)
  | _, _ => (false, 0)

/-- `STRETCH_WINDOW_END` (R453, R460, R461). -/
def execStretchWindowEnd (s : State) : Result :=
  if !s.on I.stretch 0 then .next s
  else
    let s := s.wr I.stretch 0 0
    .next ((List.finRange 6).foldl (fun s k =>
      let c : Channel := .fan k
      if (s.chIs c 1 ∧ !s.on I.spinDue k.val) ∨ s.chIs c 4 then
        let m := s.windowSpeed c
        (s.measured c m.1 m.2).setEdges k.val []
      else s) s)

/-! ### Overrides -/

/-- `COOL_OVERRIDE_WRITE` (R457, R471): the host's fields in the host window, the BMC's over SMBus; without
effect on a steward that is not driving. -/
def execCoolOverrideWrite (path : Path) (v : Word) (s : State) : Result :=
  let n := v.toNat
  if !s.on I.driving 0 then .next s
  else match path with
    | .host =>
      if s.on I.dieUp 0 then
        .next ((s.wr F.COOL_OVR_FAN_HOST 0 (min 100 (field n 6 0))).wr F.COOL_OVR_PUMP_HOST 0
          (min 100 (field n 14 8))).applyPump
      else .next s
    | .smbus =>
      .next ((s.wr F.COOL_OVR_FAN_BMC 0 (min 100 (field n 22 16))).wr F.COOL_OVR_PUMP_BMC 0
        (min 100 (field n 30 24))).applyPump
    | _ => .next s

/-- `OVERRIDE_EXPIRE` (R457): the host's overrides, or the BMC's. -/
def execOverrideExpire (bmc : Bool) (s : State) : Result :=
  if bmc then .next ((s.wr F.COOL_OVR_FAN_BMC 0 0).wr F.COOL_OVR_PUMP_BMC 0 0).applyPump
  else .next ((s.wr F.COOL_OVR_FAN_HOST 0 0).wr F.COOL_OVR_PUMP_HOST 0 0).applyPump

/-! ### Spin-ups -/

/-- A spin-up begins; a pump's flow is not tested until its grace has passed (R465). -/
def State.spinUp (s : State) (c : Channel) : State :=
  let k := chIx c
  let s := ((s.wr (chState c) (chNo c) 2).wr I.spinPass k 0).setEdges k []
  match c with
  | .fan _ => s
  | .pump j => ((s.wr F.PUMP_FLOW_TESTED j.val 0).wr F.PUMP_FLOW_LOWS j.val 0).wr I.flowLow j.val 0

/-- `SPINUP_START` (R458, R460). -/
def execSpinupStart (c : Channel) (s : State) : Result :=
  if s.on I.spinDue (chIx c) then .next ((s.wr I.spinDue (chIx c) 0).spinUp c) else .next s

/-- `SPINUP_END` (R458, R459, R461). -/
def execSpinupEnd (c : Channel) (s : State) : Result :=
  let k := chIx c
  let i := chNo c
  if !s.chIs c 2 then .next s
  else if s.on I.spinPass k then
    let s := ((s.wr (chState c) i 1).wr I.coolRetry k 0).wr (chRetry c) i 0
    .next ((s.wr I.misses k 0).wr (chMisses c) i 0)
  else if s.rd I.coolRetry k < s.cfg cfgCoolRetries then .next (s.wr (chState c) i 3)
  else
    let s := ((s.wr (chState c) i 4).wr I.goods k 0).bump (chFaults c) i
    let f := if isPump c then F.COOL_STATUS_PUMP_DEMAND else F.COOL_STATUS_FAN_DEMAND
    .next ((s.fault (chSource c) 0).wr f 0 100).applyPump

/-- `RETRY_WAIT_END` (R459). -/
def execRetryWaitEnd (c : Channel) (s : State) : Result :=
  if s.chIs c 3 then
    let n := s.rd I.coolRetry (chIx c) + 1
    .next (((s.wr I.coolRetry (chIx c) n).wr (chRetry c) (chNo c) (min 3 n)).spinUp c)
  else .next s

/-! ### Pumps and flows -/

/-- `PUMP_SPEED_SECOND` (R464). -/
def execPumpSpeedSecond (s : State) : Result :=
  .next ((List.finRange 2).foldl (fun s k =>
    let c : Channel := .pump k
    if (s.chIs c 1 ∧ !s.on I.spinDue (chIx c)) ∨ s.chIs c 4 then
      let n := 60 * (s.edges (chIx c)).length
      let valid := decide (s.minRpm c * s.ppr c ≤ n)
      (s.measured c valid (toUnit (s.ppr c) n)).setEdges (chIx c) []
    else s) s)

/-- A tested flow reading (R465). -/
def State.flowReading (s : State) (k : Nat) (low : Bool) : State :=
  if low then
    let n := s.rd I.flowLow k + 1
    let s := ((s.wr I.flowLow k (min 15 n)).wr F.PUMP_FLOW_LOWS k (min 3 n)).wr I.flowGood k 0
    if s.cfg cfgMissConsec ≤ n ∧ !s.on F.PUMP_FLOW_FLOW_FAULT k then
      let s := ((s.wr F.PUMP_FLOW_FLOW_FAULT k 1).bump F.PUMP_FLOW_FAULTS k).fault (40 + k) 0
      (s.wr F.COOL_STATUS_PUMP_DEMAND 0 100).applyPump
    else s
  else
    let s := (s.wr I.flowLow k 0).wr F.PUMP_FLOW_LOWS k 0
    if !s.on F.PUMP_FLOW_FLOW_FAULT k then s
    else if s.rd I.flowGood k < 2 then s.wr I.flowGood k (s.rd I.flowGood k + 1)
    else ((s.wr I.flowGood k 0).wr F.PUMP_FLOW_FLOW_FAULT k 0).causeEnds (40 + k)

/-- `FLOW_SECOND` (R465): flows in 0.1 L/min. -/
def execFlowSecond (s : State) : Result :=
  .next ((List.finRange 2).foldl (fun s k =>
    if s.present (.pump k) ∧ s.hasFn 4 k.val then
      let n := 600 * (s.edges (8 + k.val)).length
      let s := (s.wr F.PUMP_FLOW_FLOW k.val (min 0xFFFF (toUnit (s.cfg cfgFlowK) n))).setEdges (8 + k.val) []
      if s.on F.PUMP_FLOW_TESTED k.val then
        s.flowReading k.val (decide (n < s.cfg cfgFlowMin * s.cfg cfgFlowK))
      else s
    else s) s)

/-- `FLOW_GRACE_END` (R465): the pump's spin-up sequence has ended `FLOW_GRACE` ago. -/
def execFlowGraceEnd (k : Fin 2) (s : State) : Result :=
  let c : Channel := .pump k
  if (s.chIs c 1 ∧ !s.on I.spinDue (chIx c)) ∨ s.chIs c 4 then .next (s.wr F.PUMP_FLOW_TESTED k.val 1)
  else .next s

/-! ### Leaks -/

def leakFld (z : Nat) : Fld :=
  if z = 0 then F.LEAK_STATUS_ZONE0 else if z = 1 then F.LEAK_STATUS_ZONE1 else F.LEAK_STATUS_ZONE2

/-- A leak input classified anew (R466, R467): 0 dry, 1 wet, 2 open. -/
def State.leakChange (s : State) (z new : Nat) : State :=
  let old := s.rd (leakFld z) 0
  let act := s.cfg (cfgLeakAction z)
  let s := if old = 1 then (s.causeEnds (7 + z)).causeEnds (53 + z)
    else if old = 2 then s.causeEnds (56 + z) else s
  let s := s.wr (leakFld z) 0 new
  let s := if new = 1 then s.bump F.LEAK_STATUS_WET_EVENTS 0 else s
  let warn := (List.range 3).any fun y => s.rd (leakFld y) 0 == 1 && s.cfg (cfgLeakAction y) != 0
  let s := s.wr F.LEAK_STATUS_WARN 0 (bit warn)
  if new = 1 ∧ act = 1 then s.fault (53 + z) 0
  else if new = 1 ∧ act = 2 then s.fault (7 + z) 0
  else if new = 2 ∧ act ≠ 0 then s.fault (56 + z) 0
  else s

/-- What a sample of a rope shows (R466). -/
def State.ropeNow (s : State) (z ohm : Nat) : Nat :=
  if ohm < s.cfg (cfgRopeWet z) then 1 else if s.cfg (cfgRopeOpen z) < ohm then 2 else 0

/-- `LEAK_SAMPLE` (R466, R467): resistances in 10 Ω, and the level of `LEAK_FLOAT`; not evaluated on bare
defaults. -/
def execLeakSample (rope0 rope1 : Nat) (float : Bool) (s : State) : Result :=
  let s := (s.wr F.LEAK_OHM_ROPE0 0 (min 0xFFFF rope0)).wr F.LEAK_OHM_ROPE1 0 (min 0xFFFF rope1)
  if s.bare then .next s
  else
    let raws := [s.ropeNow 0 rope0, s.ropeNow 1 rope1, bit (bit float == s.cfg cfgFloatWet)]
    .next (raws.zipIdx.foldl (fun s x =>
      let run := Tab.get s.cool.leak x.2 (3, 0)
      let n := if run.1 = x.1 then min 15 (run.2 + 1) else 1
      let s : State := { s with cool := { s.cool with leak := Tab.put s.cool.leak x.2 (x.1, n) (3, 0) } }
      if s.cfg cfgLeakConsec ≤ n ∧ s.rd (leakFld x.2) 0 ≠ x.1 then s.leakChange x.2 x.1 else s) s)

end Sys2Proof.Machine
end

