-- ==== Sys2Proof/Machine/Faults.lean ====
section
/-! DEFINITION. The fault collector and the reset levels (16_faults_and_recovery). -/

namespace Sys2Proof.Machine

/-! ### The collector -/

/-- `FAULT_REGISTER` (R473-R476, R481): a source is detected. -/
def execFaultRegister (src : Fin 96) (detail : Nat) (s : State) : Result := .next (s.fault src.val detail)

/-- A message over the Selvage link has arrived (R479). -/
def State.linkHeard (s : State) : State := s.wr I.linkAt 0 s.us

/-- `SELVAGE_FAULT_MSG` (R475, R478): the compute die's sources, and a mismatch of the subordinate
collector's copies. -/
def execSelvageFaultMsg (src : Fin 96) (detail : Nat) (s : State) : Result :=
  if s.on I.dieUp 0 ∧ (64 ≤ src.val ∨ src.val = 0) then .next (s.linkHeard.fault src.val detail)
  else .next s

/-- `KEEP_ALIVE` (R479). -/
def execKeepAlive (s : State) : Result := if s.on I.dieUp 0 then .next s.linkHeard else .next s

/-- `SELVAGE_LINK_TIMEOUT` (R479): 10 ms without a message while the compute die is out of reset. -/
def execSelvageLinkTimeout (s : State) : Result :=
  if s.on I.dieUp 0 ∧ s.rd I.linkAt 0 + 10000 ≤ s.us then .next (s.fault 11 0) else .next s

/-- `COLLECTOR_MISMATCH` (R478). -/
def execCollectorMismatch (s : State) : Result := .next (s.fault 0 0)

/-- A write to `FAULT_STATUS`k (R480): each bit written 1 whose cause has ended is cleared. -/
def State.clearFaults (s : State) (k : Nat) (v : Word) : State :=
  (List.range 32).foldl (fun s j =>
    let src := 32 * k + j
    if v.toNat.testBit j ∧ faultClass src ≠ 0 ∧ s.statusBit src ∧ !s.on I.causeOn src then s.clearStatus src
    else s) s

/-- `FAULT_STATUS_CLEAR` (R480, R476, R477, R482): through the host window while the compute die is powered,
or over SMBus. -/
def execFaultStatusClear (path : Path) (k : Fin 4) (v : Word) (s : State) : Result :=
  match path with
  | .host => if s.on I.dieUp 0 then .next (s.clearFaults k.val v) else .next s
  | .smbus => .next (s.clearFaults k.val v)
  | _ => .next s

/-! ### Engine resets -/

/-- `DMA_HANG` (R486): a non-empty queue has completed no burst for 1 ms. -/
def execDmaHang (g : HomeGroup) (s : State) : Result :=
  if s.hbm.xfers.any (fun t => t.group == g.val) ∧ !s.inReset g.val ∧ s.rd I.chipStep 0 = 0 then
    .next (s.engineReset (.dmaReset g))
  else .next s

/-- `WEFT_ENDPOINT_HANG` (R486): the message layer of the endpoint is reset. -/
def execWeftEndpointHang (k : LinkIx) (s : State) : Result :=
  if s.linkUp k.val then .next (s.engineReset (.weftReset k)) else .next s

/-- `DECODE_ENGINE_HANG` (R486): a payload not ended 1 ms after the bound of R216. -/
def execDecodeEngineHang (e : EngineIx) (s : State) : Result :=
  if s.bnd.frames.any fun f => f.stage == .decoding e.val then .next (s.engineReset (.decodeReset e))
  else .next s

/-- The four kinds of engine resets of R483. -/
def isEngineReset (t : RecTarget) : Bool :=
  match t with
  | .clusterReset _ _ | .dmaReset _ | .decodeReset _ | .weftReset _ => true
  | _ => false

/-- `ENGINE_RESET_DONE` (R486): the engine takes work again. -/
def execEngineResetDone (t : RecTarget) (s : State) : Result :=
  if isEngineReset t ∧ t ∈ s.recoveries then
    match t with
    | .clusterReset p _ => .next ((s.endRecovery t).wr I.faultLive p.val 0)
    | _ => .next (s.endRecovery t)
  else .next s

/-! ### Resets that are decided -/

/-- `HEDDLE_UE` (R486): a partition reset of cause 2. -/
def execHeddleUe (p : Part) (s : State) : Result :=
  if s.on I.dieUp 0 then .next (s.partReset p 2) else .next s

/-- `CTRL_UE` (R487): a chip reset of trigger 6. -/
def execCtrlUe (s : State) : Result := .next (s.chipReset 6)

/-- An engine that a context abort of the binding waits for (R483). -/
def State.partOfAbort (s : State) (b : Nat) (t : RecTarget) : Bool :=
  match t, s.binding? b with
  | .clusterReset p _, some x => x.parts.contains p.val
  | .dmaReset _, some _ | .weftReset _, some _ => true
  | _, _ => false

/-- A recovery level has missed its bound, and the next level acts (R483): `engines`, for a context abort,
are the engine resets of the engines that have not completed their part. -/
def State.missedBound (s : State) (t : RecTarget) (engines : List RecTarget) : State :=
  match t with
  | .contextAbort b => (engines.filter (s.partOfAbort b.val)).foldl State.engineReset (s.endRecovery t)
  | .clusterReset p _ => (s.endRecovery t).partReset p 1
  | .dmaReset g => (s.endRecovery t).partReset g 1
  | .decodeReset _ => (s.endRecovery t).chipReset 6
  | .weftReset k => (s.endRecovery t).linkDown k.val
  | .partReset _ => (s.endRecovery t).chipReset 1
  | .chipReset => s.powerCycle

/-- `RECOVERY_BOUND_EXPIRE` (R483, R486, R487, R496). -/
def execRecoveryBoundExpire (t : RecTarget) (engines : List RecTarget) (s : State) : Result :=
  let running := match t with
    | .chipReset => s.rd I.chipStep 0 != 0
    | _ => s.recoveries.contains t
  if running then .next (s.missedBound t engines) else .next s

/-! ### Partition reset -/

/-- Every lease of a group becomes LOST, that of the firmware reserve (R109, R493) among them, and with it
what it holds (R123, R125, R493): a bundle reads from
its other copy, and a context whose state lies in the group runs its next frame as a refresh frame of
cause 1.  A shadowed context will fetch its carried tensors from the twin; any other's take their initial
values, and its decode state is broken (R155, R217). -/
def State.loseGroup (s : State) (g : Nat) : State :=
  let inGroup (id : Nat) : Bool := (s.lease? id).any fun l => l.group == g
  let hit := (s.bnd.ctxs.map (·.1)).filter fun c => (s.ctxGroups c).contains g
  let n := (s.hbm.leases.filter fun l => l.2.group == g).length + 1
  let leases := s.hbm.leases.map fun l => if l.2.group = g then (l.1, { l.2 with state := .lost }) else l
  let bundles := s.bnd.bundles.map fun h =>
    (h.1, { h.2 with lost1 := h.2.lost1 || inGroup h.2.copy1, lost2 := h.2.lost2 || inGroup h.2.copy2 })
  let s : State := { s with
    hbm := { s.hbm with leases := leases }, bnd := { s.bnd with bundles := bundles } }
  let s := s.wr F.HBM_GRP_STATE_LOST_LEASES g (min 255 n)
  hit.foldl (fun s c =>
    let s := s.addCause c 1
    match s.ctx? c with
    | some x =>
      if s.rd F.CTX_SHADOW_ROLE c = 1 then s
      else (s.setCtx c { x with delta := x.delta.setCarried [] true }).breakDecode c
    | none => s) s

/-- `PARTITION_RESET_DRAIN` (R492 steps 2-3): the generation advances, both domains are gated, the key slots
are destroyed and the group's DMA engine is reset. -/
def execPartitionResetDrain (p : Part) (s : State) : Result :=
  if s.recoveries.contains (.partReset p) ∧ s.rd F.PART_STATE_STATE p.val = 5 then
    let s := (s.advanceGen p.val).wr F.PART_STATE_STATE p.val 6
    let s := (s.wr F.PART_STATE_ARR_ON p.val 0).wr F.PART_STATE_MEM_ON p.val 0
    let s := ((s.wr F.HBM_GRP_STATE_TRAINED p.val 0).clearArray p.val).resetDma p.val
    .next ((s.wr F.PART_STATE_SWEEP_DUE p.val 1).loseGroup p.val).settle
  else .next s

/-- LOST leases of a group get fresh keys and are ACTIVE again (R123). -/
def State.rekey (s : State) (g : Nat) : State :=
  (s.hbm.leases.filter fun l => l.2.group == g && l.2.state == .lost).foldl (fun s l =>
    let k := s.hbm.nextKey
    let s : State := { s with hbm := { s.hbm with nextKey := k + 1 } }
    s.setLease l.1 { l.2 with key := k, state := .active }) s

/-- The rebuild of a lost bundle copy starts when its group is up again (R125), on the firmware queue. -/
def State.startRebuild (s : State) (g : Nat) : State :=
  s.bnd.bundles.foldl (fun s h =>
    let lost := if h.2.lost1 then h.2.copy1 else h.2.copy2
    if h.2.lost1 ≠ h.2.lost2 ∧ (s.lease? lost).any fun l => l.group == g then
      { s with hbm := { s.hbm with xfers := s.hbm.xfers ++ [⟨g, 17, h.2.hdr.storeBytes, none, some h.1⟩] } }
    else s) s

/-- Shadowed contexts whose state lies in the group ask the twin for their carried tensors (R158, R218). -/
def State.startFetches (s : State) (g : Nat) : State :=
  (s.bnd.ctxs.map (·.1)).foldl (fun s c =>
    match s.ctx? c with
    | some x =>
      if s.rd F.CTX_SHADOW_ROLE c = 1 ∧ (s.ctxGroups c).contains g then
        (s.setCtx c { x with fetching := true }).messageTo (s.node ^^^ 8) "fetch request"
          [s.rd F.CTX_SHADOW_TWIN_CTX c]
      else s
    | none => s) s

/-- `PARTITION_MEM_UP` (R492 step 4, R113, R123, R129): the channels are trained and queued repairs made;
`lost`: for each queued row of a bank without a repair row left, the extent that holds it. -/
def execPartitionMemUp (p : Part) (lost : List (Fin 10240)) (s : State) : Result :=
  let g := p.val
  if s.recoveries.contains (.partReset p) ∧ s.rd F.PART_STATE_STATE g = 6 ∧ !s.on F.PART_STATE_MEM_ON g then
    let s := (s.wr F.HBM_GRP_STATE_TRAINED g 1).repairRows g lost
    let s := ((s.wr F.PART_STATE_MEM_ON g 1).wr F.HBM_GRP_STATE_ERASED g 1).rekey g
    let s := (s.startRebuild g).startFetches g
    let window := s.hbm.leases.any fun l => l.2.group == g && l.2.use == .hdm && !l.2.exts.isEmpty
    let s := if window then
        (s.wr F.HDM_STATUS_LOST 0 (setBit (s.rd F.HDM_STATUS_LOST 0) g)).event 2 (le 2 (2 ^ g))
      else s
    .next (s.event 4 (le 1 g ++ le 1 (s.rd F.PART_RECOVERY_RESET_CAUSE g)))
  else .next s

/-- A bundle's copy that was lost in a group is rebuilt (R125). -/
def State.rebuilt (s : State) (g handle : Nat) : State :=
  match s.bundle? handle with
  | none => s
  | some h =>
    let up (id : Nat) : Bool := (s.lease? id).any fun l => l.group == g
    let left := s.hbm.xfers.filter fun t => t.copyOf != some handle || t.group != g
    let s : State := { s with hbm := { s.hbm with xfers := left } }
    s.setBundle handle { h with lost1 := h.lost1 && !up h.copy1, lost2 := h.lost2 && !up h.copy2 }

/-- A partition is bound again to its binding as its reset ends (R492 step 5, R493): with its bundle's copy
rebuilt and the sweep run; it is BOUND at once unless a copy in another group is still to be rebuilt. -/
def State.rebind (s : State) (b : Nat) (x : Binding) (p : Part) (failed : List (Cluster × CoreIx))
    (dur : Nat) : State :=
  let s := ((s.rebuilt p.val x.handle).sweepResult p failed dur).bindAgain b p.val
  let s := if (s.job? b).isSome then s.wr F.WEFT_JOB_STATE_STATE b 1 else s
  let whole := (s.bundle? x.handle).any fun h => !h.lost1 && !h.lost2
  if s.rd F.PART_STATE_STATE p.val = 2 ∧ whole then
    let s := s.partBound p.val
    match s.binding? b with
    | some y => if y.phase = .loading then s.setBinding b { y with phase := .bound } else s
    | none => s
  else s

/-- What becomes of the partition as its reset ends (R492 steps 5-6, R493, R446). -/
def State.restored (s : State) (p : Part) (failed : List (Cluster × CoreIx)) (dur : Nat) : State :=
  match s.partBinding? p.val with
  | none =>
    s.partOff p.val
      (if s.on F.PART_POWER_SENSOR_DOWN p.val ∨ s.rd F.PART_CLUSTERS_OK_CLUSTERS_OK p.val < 96 then 7 else 0)
  | some (b, x) =>
    if s.on F.PART_POWER_SENSOR_DOWN p.val then s.cannotRun b p.val 7
    else if x.phase = .unbinding then s.wr F.PART_STATE_STATE p.val 4
    else if (s.bundle? x.handle).any fun h => h.lost1 && h.lost2 then (s.dropBinding b).partOff p.val 0
    else s.rebind b x p failed dur

/-- A command held until the reset of its partitions is complete goes on (R181). -/
def State.resumeHeld (s : State) : State :=
  match s.bnd.cmd with
  | some (.held again b desc) =>
    match s.binding? b with
    | some x => if x.parts.any s.inReset then s else s.unbindCmd again b desc
    | none => s.unbindCmd again b desc
  | _ => s

/-- `PARTITION_RESET_COMPLETE` (R492 steps 5-6, R493): `failed` and `dur`, the results of the sweep. -/
def execPartitionResetComplete (p : Part) (failed : List (Cluster × CoreIx)) (dur : Nat) (s : State) :
    Result :=
  if s.recoveries.contains (.partReset p) ∧ s.rd F.PART_STATE_STATE p.val = 6 ∧ s.on F.PART_STATE_MEM_ON p.val then
    let s := ((s.endRecovery (.partReset p)).wr I.faultLive p.val 0).restored p failed dur
    .next s.resumeHeld.settle
  else .next s

/-! ### Chip reset -/

/-- Bolts of fixed regions whose bank has failed beyond the group's spare (R97, R105). -/
def State.badFixed (s : State) : List Nat :=
  (List.range 256).filter fun b =>
    fixedUse b != 0 && (List.range 33).any fun k =>
      let g := s.groupOf b
      s.on I.bankFailing (bankIx g k) && s.rd I.sparedBank g != k && s.rd I.copyBank g != k

/-- `COMPUTE_DIE_RESET_ASSERT` (R494 step 3): every domain but `PD_WEFTIO` is off. -/
def execComputeDieResetAssert (s : State) : Result :=
  if s.rd I.chipStep 0 = 1 then
    let s : State := { s with stw := { s.stw with exchange := s.badFixed } }
    .next (((s.wr I.chipStep 0 2).wr I.dieUp 0 0).dieLost true)
  else .next s

/-- `CHIP_RESET_COMPLETE` (R494 step 7): every home group is trained. -/
def execChipResetComplete (s : State) : Result :=
  if s.rd I.chipStep 0 = 3 ∧ (List.range 16).all (s.on F.HBM_GRP_STATE_TRAINED) then
    .next (s.wr I.chipStep 0 0)
  else .next s

end Sys2Proof.Machine
end

