-- ==== Sys2Proof/Machine/RegTable.lean ====
section
/-! DEFINITION. The register map: for each register its window and offset, what its instances are
selected by, and its fields with their access codes (the register tables of the chapters). -/

namespace Sys2Proof.Machine

/-- The register windows (R264, R268, R384). -/
inductive Window where
  | part | mem | ctx | cmd | spool | dec | weft | hostif | status | fw | sec | stw | tray | mbx | smb
  | msix
  deriving DecidableEq, Repr

/-- What a register's instances are, by the select or index register that chooses them (R8).
`path`: one copy for each access path (R9). -/
inductive InstKind where
  | none | part | ctx | spool | fan | pump | hsw | sensor | zone | link
  | cluster | extent | bolt | engine | route | binding | bias | vch | rail | path
  deriving DecidableEq, Repr

/-- The access codes of R4 (no register of the manual's tables carries RW-P). -/
inductive Access where
  | ro | rw | w1c | wo | rof
  deriving DecidableEq, Repr

/-- A plain register, or a half of a LO/HI pair (R7). -/
inductive Half where
  | plain | pairLo | pairHi
  deriving DecidableEq, Repr

structure FldDesc where
  fld : Fld
  access : Access
  deriving DecidableEq, Repr

structure RegDesc where
  win : Window
  offset : Nat
  inst : InstKind
  count : Nat
  stride : Nat
  half : Half
  fields : List FldDesc
  deriving DecidableEq, Repr

/-- The register map. -/
def regDesc : Reg → RegDesc
  | .PART_SEL => ⟨.part, 0x0, .path, 1, 4, .plain,
      [⟨F.PART_SEL_SEL, .rw⟩]⟩
  | .CTX_SEL => ⟨.ctx, 0x0, .path, 1, 4, .plain,
      [⟨F.CTX_SEL_SEL, .rw⟩]⟩
  | .SPOOL_SEL => ⟨.spool, 0x0, .path, 1, 4, .plain,
      [⟨F.SPOOL_SEL_SEL, .rw⟩]⟩
  | .LINK_SEL => ⟨.weft, 0x0, .path, 1, 4, .plain,
      [⟨F.LINK_SEL_SEL, .rw⟩]⟩
  | .PART_STATE => ⟨.part, 0x4, .part, 1, 4, .plain,
      [⟨F.PART_STATE_STATE, .ro⟩, ⟨F.PART_STATE_SWEEP_DUE, .ro⟩, ⟨F.PART_STATE_ARR_ON, .ro⟩, ⟨F.PART_STATE_MEM_ON, .ro⟩]⟩
  | .PART_LEASE_OWNER => ⟨.part, 0x8, .part, 1, 4, .plain,
      [⟨F.PART_LEASE_OWNER_OWNER, .ro⟩]⟩
  | .PART_CLUSTERS_OK => ⟨.part, 0xc, .part, 1, 4, .plain,
      [⟨F.PART_CLUSTERS_OK_CLUSTERS_OK, .ro⟩, ⟨F.PART_CLUSTERS_OK_VARIANT, .ro⟩]⟩
  | .PART_GEN => ⟨.part, 0x10, .part, 1, 4, .plain,
      [⟨F.PART_GEN_GEN, .ro⟩, ⟨F.PART_GEN_STALE_DROPS, .ro⟩]⟩
  | .PART_FAULT_CTX => ⟨.part, 0x14, .part, 1, 4, .plain,
      [⟨F.PART_FAULT_CTX_CTX, .ro⟩, ⟨F.PART_FAULT_CTX_LEVEL, .ro⟩, ⟨F.PART_FAULT_CTX_CAUSE, .ro⟩, ⟨F.PART_FAULT_CTX_CLUSTER, .ro⟩, ⟨F.PART_FAULT_CTX_VALID, .w1c⟩]⟩
  | .PART_CAP_FRACTION => ⟨.part, 0x18, .part, 1, 4, .plain,
      [⟨F.PART_CAP_FRACTION_FRACTION, .ro⟩]⟩
  | .PART_THROTTLE => ⟨.part, 0x1c, .part, 1, 4, .plain,
      [⟨F.PART_THROTTLE_PCT, .ro⟩, ⟨F.PART_THROTTLE_CAUSE_CAP, .ro⟩, ⟨F.PART_THROTTLE_CAUSE_DROOP, .ro⟩, ⟨F.PART_THROTTLE_CAUSE_THERMAL, .ro⟩, ⟨F.PART_THROTTLE_CAUSE_GUST, .ro⟩, ⟨F.PART_THROTTLE_CAUSE_SYMPATHY, .ro⟩]⟩
  | .PART_ENERGY_LO => ⟨.part, 0x20, .part, 1, 4, .pairLo,
      [⟨F.PART_ENERGY, .ro⟩]⟩
  | .PART_ENERGY_HI => ⟨.part, 0x24, .part, 1, 4, .pairHi,
      [⟨F.PART_ENERGY, .ro⟩]⟩
  | .PART_CTRL => ⟨.part, 0x28, .part, 1, 4, .plain,
      [⟨F.PART_CTRL_SWEEP_NEXT, .rw⟩, ⟨F.PART_CTRL_AUTO_REPAIR, .rw⟩]⟩
  | .PART_SWEEP_STATUS => ⟨.part, 0x2c, .part, 1, 4, .plain,
      [⟨F.PART_SWEEP_STATUS_DONE, .ro⟩, ⟨F.PART_SWEEP_STATUS_PASS, .ro⟩, ⟨F.PART_SWEEP_STATUS_CORES_FAILED, .ro⟩, ⟨F.PART_SWEEP_STATUS_CLUSTERS_RETIRED, .ro⟩, ⟨F.PART_SWEEP_STATUS_DURATION, .ro⟩]⟩
  | .PART_REPAIR => ⟨.part, 0x30, .part, 1, 4, .plain,
      [⟨F.PART_REPAIR_SPARES_LEFT, .ro⟩, ⟨F.PART_REPAIR_PENDING, .ro⟩, ⟨F.PART_REPAIR_FACTORY_SPARES_USED, .rof⟩, ⟨F.PART_REPAIR_USER_RETIRED, .ro⟩]⟩
  | .PART_CL_INDEX => ⟨.part, 0x34, .path, 1, 4, .plain,
      [⟨F.PART_CL_INDEX_INDEX, .rw⟩]⟩
  | .PART_CL_DATA => ⟨.part, 0x38, .cluster, 1, 4, .plain,
      [⟨F.PART_CL_DATA_MAPPED, .ro⟩, ⟨F.PART_CL_DATA_RETIRED, .ro⟩, ⟨F.PART_CL_DATA_SPARE_FREE, .ro⟩, ⟨F.PART_CL_DATA_LOGICAL, .ro⟩]⟩
  | .PART_CL_RETIRED => ⟨.part, 0x3c, .cluster, 1, 4, .plain,
      [⟨F.PART_CL_RETIRED_CORES, .ro⟩]⟩
  | .PART_CL_PENDING => ⟨.part, 0x40, .cluster, 1, 4, .plain,
      [⟨F.PART_CL_PENDING_CORES, .ro⟩, ⟨F.PART_CL_PENDING_CE_CORE, .ro⟩, ⟨F.PART_CL_PENDING_CE_LEVEL, .ro⟩]⟩
  | .PART_ARITH_STATUS => ⟨.part, 0x44, .part, 1, 4, .plain,
      [⟨F.PART_ARITH_STATUS_SAT_COUNT, .ro⟩, ⟨F.PART_ARITH_STATUS_NAN_COUNT, .ro⟩]⟩
  | .PART_ARITH_CTRL => ⟨.part, 0x48, .part, 1, 4, .plain,
      [⟨F.PART_ARITH_CTRL_SR_FIXED, .rw⟩]⟩
  | .BEAM_SUMMARY => ⟨.mem, 0x0, .none, 1, 4, .plain,
      [⟨F.BEAM_SUMMARY_FREE, .ro⟩, ⟨F.BEAM_SUMMARY_LEASED, .ro⟩, ⟨F.BEAM_SUMMARY_RETIRED, .ro⟩, ⟨F.BEAM_SUMMARY_FIXED, .ro⟩]⟩
  | .BEAM_ECC => ⟨.mem, 0x4, .none, 1, 4, .plain,
      [⟨F.BEAM_ECC_CE, .ro⟩, ⟨F.BEAM_ECC_UE, .ro⟩, ⟨F.BEAM_ECC_SPARINGS, .ro⟩]⟩
  | .BEAM_SPARES => ⟨.mem, 0x8, .none, 1, 4, .plain,
      [⟨F.BEAM_SPARES_Q0, .ro⟩, ⟨F.BEAM_SPARES_Q1, .ro⟩, ⟨F.BEAM_SPARES_Q2, .ro⟩, ⟨F.BEAM_SPARES_Q3, .ro⟩]⟩
  | .BEAM_BOLT_INDEX => ⟨.mem, 0xc, .path, 1, 4, .plain,
      [⟨F.BEAM_BOLT_INDEX_INDEX, .rw⟩]⟩
  | .BEAM_BOLT_DATA => ⟨.mem, 0x10, .bolt, 1, 4, .plain,
      [⟨F.BEAM_BOLT_DATA_STATE, .ro⟩, ⟨F.BEAM_BOLT_DATA_OWNER, .ro⟩, ⟨F.BEAM_BOLT_DATA_FIXED_USE, .ro⟩, ⟨F.BEAM_BOLT_DATA_RETIRE_ON_RELEASE, .ro⟩, ⟨F.BEAM_BOLT_DATA_SPARE_USED, .ro⟩, ⟨F.BEAM_BOLT_DATA_EXCHANGED, .ro⟩]⟩
  | .BEAM_LEASE_VIOL => ⟨.mem, 0x14, .none, 1, 4, .plain,
      [⟨F.BEAM_LEASE_VIOL_COUNT, .ro⟩]⟩
  | .HDM_CFG => ⟨.mem, 0x18, .none, 1, 4, .plain,
      [⟨F.HDM_CFG_SIZE_GIB, .rw⟩, ⟨F.HDM_CFG_APPLY, .wo⟩, ⟨F.HDM_CFG_ACTIVE, .ro⟩, ⟨F.HDM_CFG_ERR, .w1c⟩, ⟨F.HDM_CFG_CUR_GIB, .ro⟩]⟩
  | .HDM_STATUS => ⟨.mem, 0x1c, .none, 1, 4, .plain,
      [⟨F.HDM_STATUS_LOST, .w1c⟩]⟩
  | .HBM_GRP_EXTENTS => ⟨.part, 0x4c, .part, 1, 4, .plain,
      [⟨F.HBM_GRP_EXTENTS_FREE, .ro⟩, ⟨F.HBM_GRP_EXTENTS_LEASED, .ro⟩, ⟨F.HBM_GRP_EXTENTS_RETIRED, .ro⟩]⟩
  | .HBM_GRP_KEYS => ⟨.part, 0x50, .part, 1, 4, .plain,
      [⟨F.HBM_GRP_KEYS_USED, .ro⟩, ⟨F.HBM_GRP_KEYS_FREE, .ro⟩]⟩
  | .HBM_GRP_ECC => ⟨.part, 0x54, .part, 1, 4, .plain,
      [⟨F.HBM_GRP_ECC_CE, .ro⟩, ⟨F.HBM_GRP_ECC_UE, .ro⟩]⟩
  | .HBM_GRP_REPAIR => ⟨.part, 0x58, .part, 1, 4, .plain,
      [⟨F.HBM_GRP_REPAIR_PENDING, .ro⟩, ⟨F.HBM_GRP_REPAIR_DONE, .ro⟩, ⟨F.HBM_GRP_REPAIR_FAILED, .ro⟩]⟩
  | .HBM_GRP_STATE => ⟨.part, 0x5c, .part, 1, 4, .plain,
      [⟨F.HBM_GRP_STATE_TRAINED, .ro⟩, ⟨F.HBM_GRP_STATE_ERASED, .w1c⟩, ⟨F.HBM_GRP_STATE_LOST_LEASES, .ro⟩]⟩
  | .HBM_EXT_INDEX => ⟨.part, 0x60, .path, 1, 4, .plain,
      [⟨F.HBM_EXT_INDEX_INDEX, .rw⟩]⟩
  | .HBM_EXT_DATA => ⟨.part, 0x64, .extent, 1, 4, .plain,
      [⟨F.HBM_EXT_DATA_STATE, .ro⟩, ⟨F.HBM_EXT_DATA_OWNER, .ro⟩, ⟨F.HBM_EXT_DATA_SLOT, .ro⟩]⟩
  | .CTX_DELTA_POLICY => ⟨.ctx, 0x40, .ctx, 1, 4, .plain,
      [⟨F.CTX_DELTA_POLICY_ENABLE, .rw⟩, ⟨F.CTX_DELTA_POLICY_STAGGER, .rw⟩, ⟨F.CTX_DELTA_POLICY_FORCE_REFRESH, .wo⟩, ⟨F.CTX_DELTA_POLICY_REFRESH_ON_TAKEOVER, .rw⟩, ⟨F.CTX_DELTA_POLICY_THRESH_SCALE, .rw⟩, ⟨F.CTX_DELTA_POLICY_PEAK_FACTOR, .rw⟩, ⟨F.CTX_DELTA_POLICY_SCENE_CUT, .rw⟩]⟩
  | .CTX_REFRESH_EVERY => ⟨.ctx, 0x44, .ctx, 1, 4, .plain,
      [⟨F.CTX_REFRESH_EVERY_N, .rw⟩, ⟨F.CTX_REFRESH_EVERY_COUNTDOWN, .ro⟩]⟩
  | .CTX_DELTA_STATUS => ⟨.ctx, 0x48, .ctx, 1, 4, .plain,
      [⟨F.CTX_DELTA_STATUS_PLAN, .ro⟩, ⟨F.CTX_DELTA_STATUS_STATE_VALID, .ro⟩, ⟨F.CTX_DELTA_STATUS_CARRIED_INIT, .w1c⟩, ⟨F.CTX_DELTA_STATUS_NAN_SEEN, .w1c⟩, ⟨F.CTX_DELTA_STATUS_LAST_CAUSE, .ro⟩, ⟨F.CTX_DELTA_STATUS_LAST_CHANGED, .ro⟩, ⟨F.CTX_DELTA_STATUS_REFRESHES, .ro⟩]⟩
  | .CTX_DELTA_SEQ => ⟨.ctx, 0x4c, .ctx, 1, 4, .plain,
      [⟨F.CTX_DELTA_SEQ_SEQ, .ro⟩]⟩
  | .CTX_DELTA_TILES_LO => ⟨.ctx, 0x50, .ctx, 1, 4, .pairLo,
      [⟨F.CTX_DELTA_TILES, .ro⟩]⟩
  | .CTX_DELTA_TILES_HI => ⟨.ctx, 0x54, .ctx, 1, 4, .pairHi,
      [⟨F.CTX_DELTA_TILES, .ro⟩]⟩
  | .CTX_DELTA_SKIPPED_LO => ⟨.ctx, 0x58, .ctx, 1, 4, .pairLo,
      [⟨F.CTX_DELTA_SKIPPED, .ro⟩]⟩
  | .CTX_DELTA_SKIPPED_HI => ⟨.ctx, 0x5c, .ctx, 1, 4, .pairHi,
      [⟨F.CTX_DELTA_SKIPPED, .ro⟩]⟩
  | .CMD_ADDR_LO => ⟨.cmd, 0x0, .none, 1, 4, .pairLo,
      [⟨F.CMD_ADDR, .rw⟩]⟩
  | .CMD_ADDR_HI => ⟨.cmd, 0x4, .none, 1, 4, .pairHi,
      [⟨F.CMD_ADDR, .rw⟩]⟩
  | .CMD_GO => ⟨.cmd, 0x8, .none, 1, 4, .plain,
      [⟨F.CMD_GO_GO, .wo⟩]⟩
  | .CMD_STATUS => ⟨.cmd, 0xc, .none, 1, 4, .plain,
      [⟨F.CMD_STATUS_BUSY, .ro⟩, ⟨F.CMD_STATUS_DONE, .w1c⟩, ⟨F.CMD_STATUS_REASON, .ro⟩, ⟨F.CMD_STATUS_BINDING, .ro⟩]⟩
  | .CMD_MISSING0 => ⟨.cmd, 0x10, .none, 1, 4, .plain,
      [⟨F.CMD_MISSING0_BOLTS, .ro⟩, ⟨F.CMD_MISSING0_PARTITIONS, .ro⟩]⟩
  | .CMD_MISSING1 => ⟨.cmd, 0x14, .none, 1, 4, .plain,
      [⟨F.CMD_MISSING1_EXTENTS, .ro⟩, ⟨F.CMD_MISSING1_DECODE_UNITS, .ro⟩, ⟨F.CMD_MISSING1_KEY_SLOTS, .ro⟩]⟩
  | .CMD_RESULT => ⟨.cmd, 0x18, .none, 1, 4, .plain,
      [⟨F.CMD_RESULT_HANDLE, .ro⟩, ⟨F.CMD_RESULT_SPILL_LEVEL, .ro⟩]⟩
  | .CTX_STATE => ⟨.ctx, 0x4, .ctx, 1, 4, .plain,
      [⟨F.CTX_STATE_STATE, .ro⟩, ⟨F.CTX_STATE_HOLD_CAUSE, .ro⟩, ⟨F.CTX_STATE_QUEUED, .ro⟩]⟩
  | .CTX_BUNDLE => ⟨.ctx, 0x8, .ctx, 1, 4, .plain,
      [⟨F.CTX_BUNDLE_BUNDLE, .ro⟩, ⟨F.CTX_BUNDLE_BINDING, .ro⟩, ⟨F.CTX_BUNDLE_OWNER, .ro⟩]⟩
  | .CTX_SPOOL => ⟨.ctx, 0xc, .ctx, 1, 4, .plain,
      [⟨F.CTX_SPOOL_SPOOL, .ro⟩, ⟨F.CTX_SPOOL_LATE_POLICY, .rw⟩]⟩
  | .CTX_DEADLINE_US => ⟨.ctx, 0x10, .ctx, 1, 4, .plain,
      [⟨F.CTX_DEADLINE_US_DEADLINE, .rw⟩]⟩
  | .CTX_FRAMES_DONE => ⟨.ctx, 0x14, .ctx, 1, 4, .plain,
      [⟨F.CTX_FRAMES_DONE_COUNT, .ro⟩]⟩
  | .CTX_FRAMES_LATE => ⟨.ctx, 0x18, .ctx, 1, 4, .plain,
      [⟨F.CTX_FRAMES_LATE_COUNT, .ro⟩]⟩
  | .CTX_FRAMES_FAILED => ⟨.ctx, 0x1c, .ctx, 1, 4, .plain,
      [⟨F.CTX_FRAMES_FAILED_COUNT, .ro⟩]⟩
  | .CTX_SHADOW => ⟨.ctx, 0x20, .ctx, 1, 4, .plain,
      [⟨F.CTX_SHADOW_EN, .rw⟩, ⟨F.CTX_SHADOW_ROLE, .ro⟩, ⟨F.CTX_SHADOW_ACK_PENDING, .ro⟩, ⟨F.CTX_SHADOW_TWIN_CTX, .ro⟩]⟩
  | .CTX_LAST_AGE => ⟨.ctx, 0x24, .ctx, 1, 4, .plain,
      [⟨F.CTX_LAST_AGE_AGE_US, .ro⟩]⟩
  | .CTX_SPILL => ⟨.ctx, 0x28, .ctx, 1, 4, .plain,
      [⟨F.CTX_SPILL_LEVEL, .ro⟩, ⟨F.CTX_SPILL_SLOWDOWN_PCT, .ro⟩]⟩
  | .SPOOL_BASE_LO => ⟨.spool, 0x4, .spool, 1, 4, .pairLo,
      [⟨F.SPOOL_BASE, .rw⟩]⟩
  | .SPOOL_BASE_HI => ⟨.spool, 0x8, .spool, 1, 4, .pairHi,
      [⟨F.SPOOL_BASE, .rw⟩]⟩
  | .SPOOL_CQ_BASE_LO => ⟨.spool, 0xc, .spool, 1, 4, .pairLo,
      [⟨F.SPOOL_CQ_BASE, .rw⟩]⟩
  | .SPOOL_CQ_BASE_HI => ⟨.spool, 0x10, .spool, 1, 4, .pairHi,
      [⟨F.SPOOL_CQ_BASE, .rw⟩]⟩
  | .SPOOL_SIZE => ⟨.spool, 0x14, .spool, 1, 4, .plain,
      [⟨F.SPOOL_SIZE_SQ_LOG2, .rw⟩, ⟨F.SPOOL_SIZE_CQ_LOG2, .rw⟩, ⟨F.SPOOL_SIZE_OPEN, .ro⟩]⟩
  | .SPOOL_HEAD => ⟨.spool, 0x18, .spool, 1, 4, .plain,
      [⟨F.SPOOL_HEAD_INDEX, .ro⟩]⟩
  | .SPOOL_TAIL => ⟨.spool, 0x1c, .spool, 1, 4, .plain,
      [⟨F.SPOOL_TAIL_INDEX, .ro⟩]⟩
  | .SPOOL_CQ_HEAD => ⟨.spool, 0x20, .spool, 1, 4, .plain,
      [⟨F.SPOOL_CQ_HEAD_INDEX, .ro⟩]⟩
  | .SPOOL_CQ_TAIL => ⟨.spool, 0x24, .spool, 1, 4, .plain,
      [⟨F.SPOOL_CQ_TAIL_INDEX, .ro⟩]⟩
  | .SPOOL_OWNER => ⟨.spool, 0x28, .spool, 1, 4, .plain,
      [⟨F.SPOOL_OWNER_OWNER, .ro⟩]⟩
  | .SPOOL_ENERGY_LO => ⟨.spool, 0x2c, .spool, 1, 4, .pairLo,
      [⟨F.SPOOL_ENERGY, .ro⟩]⟩
  | .SPOOL_ENERGY_HI => ⟨.spool, 0x30, .spool, 1, 4, .pairHi,
      [⟨F.SPOOL_ENERGY, .ro⟩]⟩
  | .SPOOL_STATUS => ⟨.spool, 0x34, .spool, 1, 4, .plain,
      [⟨F.SPOOL_STATUS_BAD_ENTRIES, .ro⟩, ⟨F.SPOOL_STATUS_CQ_STALLS, .ro⟩]⟩
  | .DEC_FREE => ⟨.dec, 0x0, .none, 1, 4, .plain,
      [⟨F.DEC_FREE_Q0, .ro⟩, ⟨F.DEC_FREE_Q1, .ro⟩, ⟨F.DEC_FREE_Q2, .ro⟩, ⟨F.DEC_FREE_Q3, .ro⟩]⟩
  | .DEC_JPEG_FREE => ⟨.dec, 0x4, .none, 1, 4, .plain,
      [⟨F.DEC_JPEG_FREE_Q0, .ro⟩, ⟨F.DEC_JPEG_FREE_Q2, .ro⟩]⟩
  | .DEC_INDEX => ⟨.dec, 0x8, .path, 1, 4, .plain,
      [⟨F.DEC_INDEX_INDEX, .rw⟩]⟩
  | .DEC_DATA => ⟨.dec, 0xc, .engine, 1, 4, .plain,
      [⟨F.DEC_DATA_GRANTED, .ro⟩, ⟨F.DEC_DATA_BUSY, .ro⟩, ⟨F.DEC_DATA_BINDINGS, .ro⟩, ⟨F.DEC_DATA_ENDED, .ro⟩]⟩
  | .CTX_DECODE => ⟨.ctx, 0x60, .ctx, 1, 4, .plain,
      [⟨F.CTX_DECODE_FAILS, .ro⟩, ⟨F.CTX_DECODE_LAST_CAUSE, .ro⟩, ⟨F.CTX_DECODE_BROKEN, .ro⟩, ⟨F.CTX_DECODE_SOURCE, .ro⟩, ⟨F.CTX_DECODE_DISCARDS, .ro⟩]⟩
  | .CTX_INPUT => ⟨.ctx, 0x64, .ctx, 1, 4, .plain,
      [⟨F.CTX_INPUT_CODEC, .rw⟩]⟩
  | .WEFT_CFG => ⟨.weft, 0x4, .none, 1, 4, .plain,
      [⟨F.WEFT_CFG_NODE, .ro⟩, ⟨F.WEFT_CFG_CONFIG, .ro⟩, ⟨F.WEFT_CFG_SYMPATHY, .ro⟩, ⟨F.WEFT_CFG_STEP_TIMEOUT_MS, .rw⟩]⟩
  | .WEFT_LINK_STATE => ⟨.weft, 0x8, .link, 1, 4, .plain,
      [⟨F.WEFT_LINK_STATE_STATE, .ro⟩, ⟨F.WEFT_LINK_STATE_PEER, .ro⟩, ⟨F.WEFT_LINK_STATE_EXPECT, .ro⟩, ⟨F.WEFT_LINK_STATE_BAD_LANE, .ro⟩, ⟨F.WEFT_LINK_STATE_DOWNS, .ro⟩]⟩
  | .WEFT_LINK_ERR => ⟨.weft, 0xc, .link, 1, 4, .plain,
      [⟨F.WEFT_LINK_ERR_FEC_CORR, .ro⟩, ⟨F.WEFT_LINK_ERR_CRC_ERR, .ro⟩, ⟨F.WEFT_LINK_ERR_REPLAYS, .ro⟩]⟩
  | .WEFT_LINK_UNITS => ⟨.weft, 0x10, .link, 1, 4, .plain,
      [⟨F.WEFT_LINK_UNITS_FREE, .ro⟩, ⟨F.WEFT_LINK_UNITS_SHADOW_RSV, .ro⟩, ⟨F.WEFT_LINK_UNITS_HOLDERS, .ro⟩]⟩
  | .WEFT_ROUTE_INDEX => ⟨.weft, 0x14, .path, 1, 4, .plain,
      [⟨F.WEFT_ROUTE_INDEX_DEST, .rw⟩]⟩
  | .WEFT_ROUTE_DATA => ⟨.weft, 0x18, .route, 1, 4, .plain,
      [⟨F.WEFT_ROUTE_DATA_LINK, .ro⟩, ⟨F.WEFT_ROUTE_DATA_VIA, .ro⟩, ⟨F.WEFT_ROUTE_DATA_HOPS, .ro⟩, ⟨F.WEFT_ROUTE_DATA_VALID, .ro⟩, ⟨F.WEFT_ROUTE_DATA_ALTERNATE, .ro⟩]⟩
  | .WEFT_BIND_INDEX => ⟨.weft, 0x1c, .path, 1, 4, .plain,
      [⟨F.WEFT_BIND_INDEX_BINDING, .rw⟩]⟩
  | .WEFT_JOB_STATE => ⟨.weft, 0x20, .binding, 1, 4, .plain,
      [⟨F.WEFT_JOB_STATE_STATE, .ro⟩, ⟨F.WEFT_JOB_STATE_EPOCH, .ro⟩, ⟨F.WEFT_JOB_STATE_HANDLE, .ro⟩, ⟨F.WEFT_JOB_STATE_STRETCH_PCT, .ro⟩, ⟨F.WEFT_JOB_STATE_LOSSES, .ro⟩]⟩
  | .WEFT_JOB_PEERS => ⟨.weft, 0x24, .binding, 1, 4, .plain,
      [⟨F.WEFT_JOB_PEERS_EXPECTED, .ro⟩, ⟨F.WEFT_JOB_PEERS_JOINED, .ro⟩]⟩
  | .WEFT_ACCEPT => ⟨.weft, 0x28, .binding, 1, 4, .plain,
      [⟨F.WEFT_ACCEPT_EN, .rw⟩, ⟨F.WEFT_ACCEPT_SPOOL, .rw⟩, ⟨F.WEFT_ACCEPT_COPIES, .ro⟩]⟩
  | .WEFT_VIOL => ⟨.weft, 0x2c, .none, 1, 4, .plain,
      [⟨F.WEFT_VIOL_COUNT, .ro⟩, ⟨F.WEFT_VIOL_STALE, .ro⟩]⟩
  | .CTX_SHADOW_STATUS => ⟨.ctx, 0x68, .ctx, 1, 4, .plain,
      [⟨F.CTX_SHADOW_STATUS_STATE, .ro⟩, ⟨F.CTX_SHADOW_STATUS_ERR, .ro⟩, ⟨F.CTX_SHADOW_STATUS_PRIMARY_CTX, .ro⟩, ⟨F.CTX_SHADOW_STATUS_LAPSES, .ro⟩]⟩
  | .HOST_LINK => ⟨.hostif, 0x0, .none, 1, 4, .plain,
      [⟨F.HOST_LINK_MODE, .ro⟩, ⟨F.HOST_LINK_WIDTH, .ro⟩, ⟨F.HOST_LINK_SPEED, .ro⟩, ⟨F.HOST_LINK_DOWNS, .ro⟩]⟩
  | .HOST_ERR => ⟨.hostif, 0x4, .none, 1, 4, .plain,
      [⟨F.HOST_ERR_UR, .ro⟩, ⟨F.HOST_ERR_CA, .ro⟩, ⟨F.HOST_ERR_POISON_IN, .ro⟩, ⟨F.HOST_ERR_TIMEOUTS, .ro⟩]⟩
  | .HOST_EVQ_BASE_LO => ⟨.hostif, 0x8, .none, 1, 4, .pairLo,
      [⟨F.HOST_EVQ_BASE, .rw⟩]⟩
  | .HOST_EVQ_BASE_HI => ⟨.hostif, 0xc, .none, 1, 4, .pairHi,
      [⟨F.HOST_EVQ_BASE, .rw⟩]⟩
  | .HOST_EVQ_SIZE => ⟨.hostif, 0x10, .none, 1, 4, .plain,
      [⟨F.HOST_EVQ_SIZE_LOG2, .rw⟩, ⟨F.HOST_EVQ_SIZE_EN, .rw⟩, ⟨F.HOST_EVQ_SIZE_OVF, .w1c⟩, ⟨F.HOST_EVQ_SIZE_LOST, .ro⟩]⟩
  | .HOST_BIAS_INDEX => ⟨.hostif, 0x14, .path, 1, 4, .plain,
      [⟨F.HOST_BIAS_INDEX_UNIT, .rw⟩]⟩
  | .HOST_BIAS_DATA => ⟨.hostif, 0x18, .bias, 1, 4, .plain,
      [⟨F.HOST_BIAS_DATA_DEVICE, .rw⟩, ⟨F.HOST_BIAS_DATA_FLIPS, .ro⟩]⟩
  | .SPOOL_IRQ => ⟨.spool, 0x38, .spool, 1, 4, .plain,
      [⟨F.SPOOL_IRQ_EN, .rw⟩, ⟨F.SPOOL_IRQ_COUNT, .rw⟩, ⟨F.SPOOL_IRQ_TIME_US, .rw⟩]⟩
  | .HOST_STATUS => ⟨.status, 0x0, .none, 1, 4, .plain,
      [⟨F.HOST_STATUS_FW_UP, .ro⟩, ⟨F.HOST_STATUS_FRONT, .ro⟩, ⟨F.HOST_STATUS_WQ_DEPTH, .ro⟩, ⟨F.HOST_STATUS_WQ_DROPS, .ro⟩]⟩
  | .HOST_EVQ_HEAD => ⟨.status, 0x8, .none, 1, 4, .plain,
      [⟨F.HOST_EVQ_HEAD_INDEX, .rw⟩]⟩
  | .HOST_EVQ_TAIL => ⟨.status, 0xc, .none, 1, 4, .plain,
      [⟨F.HOST_EVQ_TAIL_INDEX, .ro⟩]⟩
  | .FW_STATE => ⟨.fw, 0x0, .none, 1, 4, .plain,
      [⟨F.FW_STATE_STATE, .ro⟩]⟩
  | .FW_IDENT_VER => ⟨.fw, 0x4, .none, 1, 4, .plain,
      [⟨F.FW_IDENT_VER_VERSION, .ro⟩]⟩
  | .FW_LOAD_ADDR_LO => ⟨.fw, 0x8, .none, 1, 4, .pairLo,
      [⟨F.FW_LOAD_ADDR, .rw⟩]⟩
  | .FW_LOAD_ADDR_HI => ⟨.fw, 0xc, .none, 1, 4, .pairHi,
      [⟨F.FW_LOAD_ADDR, .rw⟩]⟩
  | .FW_LOAD_LEN => ⟨.fw, 0x10, .none, 1, 4, .plain,
      [⟨F.FW_LOAD_LEN_LEN, .rw⟩]⟩
  | .FW_LOAD => ⟨.fw, 0x14, .none, 1, 4, .plain,
      [⟨F.FW_LOAD_GO, .wo⟩]⟩
  | .FW_STAGE => ⟨.fw, 0x18, .none, 1, 4, .plain,
      [⟨F.FW_STAGE_GO, .wo⟩]⟩
  | .FW_ACTIVATE => ⟨.fw, 0x1c, .none, 1, 4, .plain,
      [⟨F.FW_ACTIVATE_ACTIVATE, .wo⟩, ⟨F.FW_ACTIVATE_CANCEL, .wo⟩]⟩
  | .FW_RESULT => ⟨.fw, 0x20, .none, 1, 4, .plain,
      [⟨F.FW_RESULT_REASON, .ro⟩, ⟨F.FW_RESULT_STAGED, .ro⟩, ⟨F.FW_RESULT_ACT_PENDING, .ro⟩, ⟨F.FW_RESULT_DEFERRED, .ro⟩, ⟨F.FW_RESULT_TAKEOVER, .w1c⟩, ⟨F.FW_RESULT_RESIDENT, .ro⟩]⟩
  | .FW_RESTARTS => ⟨.fw, 0x24, .none, 1, 4, .plain,
      [⟨F.FW_RESTARTS_COUNT, .ro⟩, ⟨F.FW_RESTARTS_IN_WINDOW, .ro⟩, ⟨F.FW_RESTARTS_LAST_CAUSE, .ro⟩, ⟨F.FW_RESTARTS_READ_TIMEOUTS, .ro⟩]⟩
  | .FW_LOG_BASE_LO => ⟨.fw, 0x28, .none, 1, 4, .pairLo,
      [⟨F.FW_LOG_BASE, .rw⟩]⟩
  | .FW_LOG_BASE_HI => ⟨.fw, 0x2c, .none, 1, 4, .pairHi,
      [⟨F.FW_LOG_BASE, .rw⟩]⟩
  | .FW_LOG_SIZE => ⟨.fw, 0x30, .none, 1, 4, .plain,
      [⟨F.FW_LOG_SIZE_LOG2, .rw⟩, ⟨F.FW_LOG_SIZE_EN, .rw⟩, ⟨F.FW_LOG_SIZE_LOST, .ro⟩]⟩
  | .FW_LOG_HEAD => ⟨.fw, 0x34, .none, 1, 4, .plain,
      [⟨F.FW_LOG_HEAD_INDEX, .rw⟩]⟩
  | .FW_LOG_TAIL => ⟨.fw, 0x38, .none, 1, 4, .plain,
      [⟨F.FW_LOG_TAIL_INDEX, .ro⟩]⟩
  | .FW_TRACE_EN => ⟨.fw, 0x3c, .none, 1, 4, .plain,
      [⟨F.FW_TRACE_EN_GROUPS, .rw⟩, ⟨F.FW_TRACE_EN_LEVEL, .rw⟩]⟩
  | .FW_IDENT_DIGEST => ⟨.fw, 0x40, .none, 16, 4, .plain,
      [⟨F.FW_IDENT_DIGEST_DIGEST, .ro⟩]⟩
  | .SEC_STATUS => ⟨.sec, 0x0, .none, 1, 4, .plain,
      [⟨F.SEC_STATUS_OWNERS, .ro⟩, ⟨F.SEC_STATUS_ID_FAIL, .ro⟩, ⟨F.SEC_STATUS_DRBG_STOP, .ro⟩, ⟨F.SEC_STATUS_BOOT_KEY, .ro⟩]⟩
  | .SEC_AUTH => ⟨.sec, 0x4, .none, 1, 4, .plain,
      [⟨F.SEC_AUTH_CMD_FAILS, .ro⟩, ⟨F.SEC_AUTH_OPEN_FAILS, .ro⟩, ⟨F.SEC_AUTH_PAYLOAD_FAILS, .ro⟩]⟩
  | .PRES_CMD => ⟨.stw, 0xc00, .none, 1, 4, .plain,
      [⟨F.PRES_CMD_OPCODE, .wo⟩, ⟨F.PRES_CMD_CANCEL, .wo⟩]⟩
  | .PRES_STATUS => ⟨.stw, 0xc04, .none, 1, 4, .plain,
      [⟨F.PRES_STATUS_STATE, .ro⟩, ⟨F.PRES_STATUS_RESULT, .ro⟩, ⟨F.PRES_STATUS_PATH, .ro⟩, ⟨F.PRES_STATUS_OPCODE, .ro⟩, ⟨F.PRES_STATUS_WAIT_S, .ro⟩]⟩
  | .PRES_GRANT => ⟨.stw, 0xc08, .none, 1, 4, .plain,
      [⟨F.PRES_GRANT_JMP_GRANT, .ro⟩, ⟨F.PRES_GRANT_SEAL_GRANT, .ro⟩, ⟨F.PRES_GRANT_BTN_DOWN, .ro⟩, ⟨F.PRES_GRANT_JMP_FITTED, .ro⟩, ⟨F.PRES_GRANT_LOOP_OPEN, .ro⟩, ⟨F.PRES_GRANT_SEAL_READY, .ro⟩, ⟨F.PRES_GRANT_SEAL_SLOTS, .ro⟩, ⟨F.PRES_GRANT_GRANT_LEFT_S, .ro⟩]⟩
  | .PRES_DATA => ⟨.stw, 0xc10, .path, 16, 4, .plain,
      [⟨F.PRES_DATA_DATA, .rw⟩]⟩
  | .PRES_RESULT => ⟨.stw, 0xc50, .none, 8, 4, .plain,
      [⟨F.PRES_RESULT_FP, .ro⟩]⟩
  | .STW_STATUS => ⟨.stw, 0x0, .none, 1, 4, .plain,
      [⟨F.STW_STATUS_DRAFT, .ro⟩, ⟨F.STW_STATUS_BARE_CAUSE, .ro⟩, ⟨F.STW_STATUS_CLK_RC, .ro⟩, ⟨F.STW_STATUS_NODE, .ro⟩, ⟨F.STW_STATUS_ROLE, .ro⟩, ⟨F.STW_STATUS_GENERATION, .ro⟩]⟩
  | .STW_CONFLICTS => ⟨.stw, 0x4, .none, 1, 4, .plain,
      [⟨F.STW_CONFLICTS_PIN_LOST, .ro⟩, ⟨F.STW_CONFLICTS_POOL_LOST, .ro⟩, ⟨F.STW_CONFLICTS_TIMERS_FREE, .ro⟩, ⟨F.STW_CONFLICTS_BUFFERS_FREE, .ro⟩]⟩
  | .DRAFT_STG_ADDR => ⟨.stw, 0x8, .none, 1, 4, .plain,
      [⟨F.DRAFT_STG_ADDR_ADDR, .rw⟩]⟩
  | .DRAFT_STG_DATA => ⟨.stw, 0xc, .none, 1, 4, .plain,
      [⟨F.DRAFT_STG_DATA_DATA, .wo⟩]⟩
  | .DRAFT_CTRL => ⟨.stw, 0x10, .none, 1, 4, .plain,
      [⟨F.DRAFT_CTRL_BEGIN, .wo⟩, ⟨F.DRAFT_CTRL_COMMIT, .wo⟩, ⟨F.DRAFT_CTRL_ABORT, .wo⟩, ⟨F.DRAFT_CTRL_STATE, .ro⟩, ⟨F.DRAFT_CTRL_PATH, .ro⟩, ⟨F.DRAFT_CTRL_RESULT, .ro⟩]⟩
  | .HZN_STATUS => ⟨.stw, 0x600, .none, 1, 4, .plain,
      [⟨F.HZN_STATUS_VIOL, .ro⟩, ⟨F.HZN_STATUS_QUARANTINED, .ro⟩]⟩
  | .HZN_RQ_CTRL => ⟨.stw, 0x604, .none, 1, 4, .plain,
      [⟨F.HZN_RQ_CTRL_ADDR, .rw⟩, ⟨F.HZN_RQ_CTRL_NODE, .rw⟩, ⟨F.HZN_RQ_CTRL_WRITE, .rw⟩, ⟨F.HZN_RQ_CTRL_COUNT, .rw⟩, ⟨F.HZN_RQ_CTRL_GO, .wo⟩]⟩
  | .HZN_RQ_STATUS => ⟨.stw, 0x608, .none, 1, 4, .plain,
      [⟨F.HZN_RQ_STATUS_STATE, .ro⟩, ⟨F.HZN_RQ_STATUS_STATUS, .ro⟩]⟩
  | .HZN_RQ_BUF => ⟨.stw, 0x620, .none, 8, 4, .plain,
      [⟨F.HZN_RQ_BUF_DATA, .rw⟩]⟩
  | .TH_SUMMARY => ⟨.tray, 0x0, .none, 1, 4, .plain,
      [⟨F.TH_SUMMARY_LEAD, .ro⟩, ⟨F.TH_SUMMARY_STANDBY, .ro⟩, ⟨F.TH_SUMMARY_LEAD_VALID, .ro⟩, ⟨F.TH_SUMMARY_STANDBY_VALID, .ro⟩, ⟨F.TH_SUMMARY_PRESENT, .ro⟩]⟩
  | .TH_NODE_STATUS => ⟨.tray, 0x100, .none, 16, 16, .plain,
      [⟨F.TH_NODE_STATUS_PRESENT, .ro⟩, ⟨F.TH_NODE_STATUS_HB0, .ro⟩, ⟨F.TH_NODE_STATUS_HB1, .ro⟩, ⟨F.TH_NODE_STATUS_QUARANTINED, .ro⟩, ⟨F.TH_NODE_STATUS_THROTTLE, .ro⟩, ⟨F.TH_NODE_STATUS_AGE, .ro⟩]⟩
  | .TH_NODE_THERMAL => ⟨.tray, 0x104, .none, 16, 16, .plain,
      [⟨F.TH_NODE_THERMAL_DIE_C, .ro⟩, ⟨F.TH_NODE_THERMAL_HBM_C, .ro⟩, ⟨F.TH_NODE_THERMAL_FAN_DEMAND, .ro⟩, ⟨F.TH_NODE_THERMAL_PUMP_DEMAND, .ro⟩]⟩
  | .TH_NODE_POWER => ⟨.tray, 0x108, .none, 16, 16, .plain,
      [⟨F.TH_NODE_POWER_INPUT_W, .ro⟩, ⟨F.TH_NODE_POWER_FAN_CMD, .ro⟩, ⟨F.TH_NODE_POWER_PUMP_CMD, .ro⟩]⟩
  | .MBX_CTRL => ⟨.mbx, 0x2000, .path, 1, 4, .plain,
      [⟨F.MBX_CTRL_LEN, .rw⟩, ⟨F.MBX_CTRL_GO, .wo⟩]⟩
  | .MBX_STATUS => ⟨.mbx, 0x2004, .path, 1, 4, .plain,
      [⟨F.MBX_STATUS_STATE, .ro⟩, ⟨F.MBX_STATUS_LEN, .ro⟩]⟩
  | .MBX_DATA => ⟨.mbx, 0x2800, .path, 512, 4, .plain,
      [⟨F.MBX_DATA_DATA, .rw⟩]⟩
  | .SMB_STATUS => ⟨.smb, 0x3000, .none, 1, 4, .plain,
      [⟨F.SMB_STATUS_DISCARDS, .ro⟩, ⟨F.SMB_STATUS_TIMEOUTS, .ro⟩]⟩
  | .HSW_SEL => ⟨.stw, 0x100, .path, 1, 4, .plain,
      [⟨F.HSW_SEL_SEL, .rw⟩]⟩
  | .HSW_STATE => ⟨.stw, 0x104, .hsw, 1, 4, .plain,
      [⟨F.HSW_STATE_STATE, .ro⟩, ⟨F.HSW_STATE_PG, .ro⟩, ⟨F.HSW_STATE_LAST_TRIP, .ro⟩, ⟨F.HSW_STATE_BAND, .ro⟩, ⟨F.HSW_STATE_RETRIES, .ro⟩]⟩
  | .HSW_MEAS => ⟨.stw, 0x108, .hsw, 1, 4, .plain,
      [⟨F.HSW_MEAS_IOUT, .ro⟩, ⟨F.HSW_MEAS_VOUT, .ro⟩]⟩
  | .HSW_TRIPS => ⟨.stw, 0x10c, .hsw, 1, 4, .plain,
      [⟨F.HSW_TRIPS_TRIPS, .ro⟩, ⟨F.HSW_TRIPS_LATCHES, .ro⟩, ⟨F.HSW_TRIPS_DAMAGED, .ro⟩]⟩
  | .HSW_CTRL => ⟨.stw, 0x110, .none, 1, 4, .plain,
      [⟨F.HSW_CTRL_LATCH_CLR, .wo⟩]⟩
  | .PWR_INPUT => ⟨.stw, 0x114, .none, 1, 4, .plain,
      [⟨F.PWR_INPUT_VIN, .ro⟩, ⟨F.PWR_INPUT_FRONT, .ro⟩, ⟨F.PWR_INPUT_FRONT_OWN, .ro⟩, ⟨F.PWR_INPUT_PSU_WARN, .ro⟩, ⟨F.PWR_INPUT_WINDOW, .ro⟩]⟩
  | .PWR_FET => ⟨.stw, 0x118, .none, 1, 4, .plain,
      [⟨F.PWR_FET_TEMP_C, .ro⟩, ⟨F.PWR_FET_SOURCE, .ro⟩, ⟨F.PWR_FET_POWER_W, .ro⟩]⟩
  | .PWR_FRONT => ⟨.stw, 0x11c, .none, 1, 4, .plain,
      [⟨F.PWR_FRONT_COUNT, .ro⟩, ⟨F.PWR_FRONT_HOLDUP, .ro⟩]⟩
  | .PWR_VCH_INDEX => ⟨.stw, 0x120, .path, 1, 4, .plain,
      [⟨F.PWR_VCH_INDEX_INDEX, .rw⟩]⟩
  | .PWR_VCH_DATA => ⟨.stw, 0x124, .vch, 1, 4, .plain,
      [⟨F.PWR_VCH_DATA_MV, .ro⟩]⟩
  | .PWR_RAIL_INDEX => ⟨.stw, 0x128, .path, 1, 4, .plain,
      [⟨F.PWR_RAIL_INDEX_INDEX, .rw⟩]⟩
  | .PWR_RAIL_DATA => ⟨.stw, 0x12c, .rail, 1, 4, .plain,
      [⟨F.PWR_RAIL_DATA_VOUT_MV, .ro⟩, ⟨F.PWR_RAIL_DATA_STATE, .ro⟩, ⟨F.PWR_RAIL_DATA_EN, .ro⟩, ⟨F.PWR_RAIL_DATA_FAULTS, .ro⟩]⟩
  | .PWR_RAIL_IOUT => ⟨.stw, 0x130, .rail, 1, 4, .plain,
      [⟨F.PWR_RAIL_IOUT_IOUT, .ro⟩]⟩
  | .PWR_SEQ => ⟨.stw, 0x134, .none, 1, 4, .plain,
      [⟨F.PWR_SEQ_STEP, .ro⟩, ⟨F.PWR_SEQ_RAIL_FAILS, .ro⟩, ⟨F.PWR_SEQ_WAIT, .ro⟩]⟩
  | .PWR_CAP => ⟨.stw, 0x200, .none, 1, 4, .plain,
      [⟨F.PWR_CAP_HOST_W, .rw⟩, ⟨F.PWR_CAP_BMC_W, .rw⟩]⟩
  | .PWR_CAP_STATUS => ⟨.stw, 0x204, .none, 1, 4, .plain,
      [⟨F.PWR_CAP_STATUS_EFFECTIVE_W, .ro⟩, ⟨F.PWR_CAP_STATUS_DRAFT_W, .ro⟩, ⟨F.PWR_CAP_STATUS_UNCORE_OVER, .ro⟩]⟩
  | .PWR_PKG => ⟨.stw, 0x208, .none, 1, 4, .plain,
      [⟨F.PWR_PKG_PACKAGE_W, .ro⟩, ⟨F.PWR_PKG_UNCORE_W, .ro⟩]⟩
  | .PWR_ENERGY_LO => ⟨.stw, 0x20c, .none, 1, 4, .pairLo,
      [⟨F.PWR_ENERGY, .ro⟩]⟩
  | .PWR_ENERGY_HI => ⟨.stw, 0x210, .none, 1, 4, .pairHi,
      [⟨F.PWR_ENERGY, .ro⟩]⟩
  | .PWR_CORR => ⟨.stw, 0x214, .none, 1, 4, .plain,
      [⟨F.PWR_CORR_CORR, .ro⟩]⟩
  | .THM_STATUS => ⟨.stw, 0x218, .none, 1, 4, .plain,
      [⟨F.THM_STATUS_MODE, .ro⟩, ⟨F.THM_STATUS_SAMPLE, .ro⟩, ⟨F.THM_STATUS_SENSOR_MODE, .ro⟩, ⟨F.THM_STATUS_TRIPPED, .ro⟩, ⟨F.THM_STATUS_RESTART_WAIT, .ro⟩, ⟨F.THM_STATUS_ROR_SHUT, .ro⟩, ⟨F.THM_STATUS_TRIPS, .ro⟩, ⟨F.THM_STATUS_RESTART_LEFT_S, .ro⟩]⟩
  | .ZONE_SEL => ⟨.stw, 0x220, .path, 1, 4, .plain,
      [⟨F.ZONE_SEL_SEL, .rw⟩]⟩
  | .THM_ZONE_TEMP => ⟨.stw, 0x224, .zone, 1, 4, .plain,
      [⟨F.THM_ZONE_TEMP_TEMP, .ro⟩, ⟨F.THM_ZONE_TEMP_WARN, .ro⟩, ⟨F.THM_ZONE_TEMP_THROTTLING, .ro⟩, ⟨F.THM_ZONE_TEMP_NEAR, .ro⟩, ⟨F.THM_ZONE_TEMP_SUBST, .ro⟩, ⟨F.THM_ZONE_TEMP_ESTIMATED, .ro⟩, ⟨F.THM_ZONE_TEMP_RATE, .ro⟩]⟩
  | .THM_ZONE_LIMITS => ⟨.stw, 0x228, .zone, 1, 4, .plain,
      [⟨F.THM_ZONE_LIMITS_WARN_C, .ro⟩, ⟨F.THM_ZONE_LIMITS_THR_C, .ro⟩, ⟨F.THM_ZONE_LIMITS_TRIP_C, .ro⟩]⟩
  | .SENSOR_SEL => ⟨.stw, 0x230, .path, 1, 4, .plain,
      [⟨F.SENSOR_SEL_SEL, .rw⟩]⟩
  | .THM_SENSOR_DATA => ⟨.stw, 0x234, .sensor, 1, 4, .plain,
      [⟨F.THM_SENSOR_DATA_TEMP, .ro⟩, ⟨F.THM_SENSOR_DATA_VALID, .ro⟩, ⟨F.THM_SENSOR_DATA_CAUSE, .ro⟩, ⟨F.THM_SENSOR_DATA_TRIP_ARMED, .ro⟩, ⟨F.THM_SENSOR_DATA_FLOOR_SRC, .ro⟩, ⟨F.THM_SENSOR_DATA_FAILS, .ro⟩]⟩
  | .PART_POWER => ⟨.part, 0x68, .part, 1, 4, .plain,
      [⟨F.PART_POWER_BUDGET_W, .ro⟩, ⟨F.PART_POWER_EST_W, .ro⟩, ⟨F.PART_POWER_THERMAL_PCT, .ro⟩, ⟨F.PART_POWER_FLOOR, .ro⟩, ⟨F.PART_POWER_SENSOR_DOWN, .ro⟩]⟩
  | .PART_GUST => ⟨.part, 0x6c, .part, 1, 4, .plain,
      [⟨F.PART_GUST_ISSUE, .ro⟩, ⟨F.PART_GUST_FILL, .ro⟩, ⟨F.PART_GUST_PRERAMP, .ro⟩, ⟨F.PART_GUST_DROOPS, .ro⟩]⟩
  | .FAN_SEL => ⟨.stw, 0x300, .path, 1, 4, .plain,
      [⟨F.FAN_SEL_SEL, .rw⟩]⟩
  | .FAN_STATUS => ⟨.stw, 0x304, .fan, 1, 4, .plain,
      [⟨F.FAN_STATUS_STATE, .ro⟩, ⟨F.FAN_STATUS_FULL, .ro⟩, ⟨F.FAN_STATUS_MISSES, .ro⟩, ⟨F.FAN_STATUS_RETRY, .ro⟩, ⟨F.FAN_STATUS_RPM, .ro⟩, ⟨F.FAN_STATUS_FAULTS, .ro⟩]⟩
  | .COOL_OVR => ⟨.stw, 0x308, .none, 1, 4, .plain,
      [⟨F.COOL_OVR_FAN_HOST, .rw⟩, ⟨F.COOL_OVR_PUMP_HOST, .rw⟩, ⟨F.COOL_OVR_FAN_BMC, .rw⟩, ⟨F.COOL_OVR_PUMP_BMC, .rw⟩]⟩
  | .COOL_STATUS => ⟨.stw, 0x30c, .none, 1, 4, .plain,
      [⟨F.COOL_STATUS_FAN_DEMAND, .ro⟩, ⟨F.COOL_STATUS_PUMP_DEMAND, .ro⟩, ⟨F.COOL_STATUS_FAN_DUTY, .ro⟩, ⟨F.COOL_STATUS_PUMP_DUTY, .ro⟩, ⟨F.COOL_STATUS_OVERRIDE, .ro⟩]⟩
  | .PUMP_SEL => ⟨.stw, 0x310, .path, 1, 4, .plain,
      [⟨F.PUMP_SEL_SEL, .rw⟩]⟩
  | .PUMP_STATUS => ⟨.stw, 0x314, .pump, 1, 4, .plain,
      [⟨F.PUMP_STATUS_STATE, .ro⟩, ⟨F.PUMP_STATUS_FULL, .ro⟩, ⟨F.PUMP_STATUS_MISSES, .ro⟩, ⟨F.PUMP_STATUS_RETRY, .ro⟩, ⟨F.PUMP_STATUS_RPM, .ro⟩, ⟨F.PUMP_STATUS_FAULTS, .ro⟩]⟩
  | .PUMP_FLOW => ⟨.stw, 0x318, .pump, 1, 4, .plain,
      [⟨F.PUMP_FLOW_FLOW, .ro⟩, ⟨F.PUMP_FLOW_FLOW_FAULT, .ro⟩, ⟨F.PUMP_FLOW_TESTED, .ro⟩, ⟨F.PUMP_FLOW_LOWS, .ro⟩, ⟨F.PUMP_FLOW_FAULTS, .ro⟩]⟩
  | .LEAK_STATUS => ⟨.stw, 0x320, .none, 1, 4, .plain,
      [⟨F.LEAK_STATUS_ZONE0, .ro⟩, ⟨F.LEAK_STATUS_ZONE1, .ro⟩, ⟨F.LEAK_STATUS_ZONE2, .ro⟩, ⟨F.LEAK_STATUS_WARN, .ro⟩, ⟨F.LEAK_STATUS_SHUTDOWN, .ro⟩, ⟨F.LEAK_STATUS_WET_EVENTS, .ro⟩]⟩
  | .LEAK_OHM => ⟨.stw, 0x324, .none, 1, 4, .plain,
      [⟨F.LEAK_OHM_ROPE0, .ro⟩, ⟨F.LEAK_OHM_ROPE1, .ro⟩]⟩
  | .FAULT_STATUS0 => ⟨.stw, 0x400, .none, 1, 4, .plain,
      [⟨F.FAULT_STATUS0_CLASS_A, .w1c⟩]⟩
  | .FAULT_STATUS1 => ⟨.stw, 0x404, .none, 1, 4, .plain,
      [⟨F.FAULT_STATUS1_STEWARD_B, .w1c⟩]⟩
  | .FAULT_STATUS2 => ⟨.stw, 0x408, .none, 1, 4, .plain,
      [⟨F.FAULT_STATUS2_COMPUTE_B, .w1c⟩]⟩
  | .FAULT_STATUS3 => ⟨.stw, 0x40c, .none, 1, 4, .plain,
      []⟩
  | .FAULT_FIRST_SRC => ⟨.stw, 0x410, .none, 1, 4, .plain,
      [⟨F.FAULT_FIRST_SRC_SOURCE, .ro⟩, ⟨F.FAULT_FIRST_SRC_CLASS, .ro⟩, ⟨F.FAULT_FIRST_SRC_DETAIL, .ro⟩, ⟨F.FAULT_FIRST_SRC_VALID, .ro⟩]⟩
  | .FAULT_OVF => ⟨.stw, 0x414, .none, 1, 4, .plain,
      [⟨F.FAULT_OVF_OVF, .ro⟩, ⟨F.FAULT_OVF_LATER, .ro⟩]⟩
  | .FAULT_CLASSC => ⟨.stw, 0x418, .none, 1, 4, .plain,
      [⟨F.FAULT_CLASSC_COUNT, .ro⟩]⟩
  | .FAULT_ESC => ⟨.stw, 0x41c, .none, 1, 4, .plain,
      [⟨F.FAULT_ESC_CHIP_RESETS, .ro⟩, ⟨F.FAULT_ESC_POWER_CYCLES, .ro⟩, ⟨F.FAULT_ESC_IN_WINDOW, .ro⟩, ⟨F.FAULT_ESC_SAFE, .ro⟩]⟩
  | .PART_RECOVERY => ⟨.part, 0x70, .part, 1, 4, .plain,
      [⟨F.PART_RECOVERY_ABORTS, .ro⟩, ⟨F.PART_RECOVERY_ENGINE_RESETS, .ro⟩, ⟨F.PART_RECOVERY_PART_RESETS, .ro⟩, ⟨F.PART_RECOVERY_DETAIL, .ro⟩, ⟨F.PART_RECOVERY_RESET_CAUSE, .ro⟩]⟩
  | .LOG_INDEX => ⟨.stw, 0x500, .path, 1, 4, .plain,
      [⟨F.LOG_INDEX_INDEX, .rw⟩, ⟨F.LOG_INDEX_AREA, .rw⟩, ⟨F.LOG_INDEX_STATE, .ro⟩, ⟨F.LOG_INDEX_READY, .ro⟩]⟩
  | .LOG_STATUS => ⟨.stw, 0x504, .none, 1, 4, .plain,
      [⟨F.LOG_STATUS_CIRC_COUNT, .ro⟩, ⟨F.LOG_STATUS_TORN, .ro⟩, ⟨F.LOG_STATUS_LOST, .ro⟩]⟩
  | .LOG_PERM => ⟨.stw, 0x508, .none, 1, 4, .plain,
      [⟨F.LOG_PERM_PERM_USED, .ro⟩, ⟨F.LOG_PERM_SEAL_USED, .ro⟩, ⟨F.LOG_PERM_QUEUED, .ro⟩]⟩
  | .LOG_SEQ => ⟨.stw, 0x50c, .none, 1, 4, .plain,
      [⟨F.LOG_SEQ_NEXT, .ro⟩]⟩
  | .LOG_TIME => ⟨.stw, 0x510, .none, 1, 4, .plain,
      [⟨F.LOG_TIME_OP_TIME, .ro⟩]⟩
  | .LOG_CYCLES => ⟨.stw, 0x514, .none, 1, 4, .plain,
      [⟨F.LOG_CYCLES_CYCLES, .ro⟩]⟩
  | .LOG_DATA => ⟨.stw, 0x520, .path, 16, 4, .plain,
      [⟨F.LOG_DATA_DATA, .ro⟩]⟩
  | .MSIX_TABLE => ⟨.msix, 0x800000, .none, 4104, 4, .plain, []⟩
  | .MSIX_PBA => ⟨.msix, 0x808000, .none, 34, 4, .plain, []⟩

end Sys2Proof.Machine
end

