-- ==== Sys2Proof/Machine/Flags.lean ====
section
/-! DEFINITION. What the registers show: instances chosen by select registers (R8-R11), the fields that
follow from other state, and the register words. -/

namespace Sys2Proof.Machine

/-! ### Instances -/

/-- The selection of a path, when it lies within its valid range (R8, R11). -/
def State.selected (s : State) (p : Path) (f : Fld) (n : Nat) : Option Nat :=
  let v := s.rd f (pathIx p)
  if v < n then some v else none

/-- The instance that a path's select registers choose; none: out of range (R8, R11). -/
def State.instOf (s : State) (p : Path) : InstKind → Option Nat
  | .none => some 0
  | .part => s.selected p F.PART_SEL_SEL 16
  | .ctx => s.selected p F.CTX_SEL_SEL 40960
  | .spool => s.selected p F.SPOOL_SEL_SEL 1024
  | .fan => s.selected p F.FAN_SEL_SEL 6
  | .pump => s.selected p F.PUMP_SEL_SEL 2
  | .hsw => s.selected p F.HSW_SEL_SEL 9
  | .sensor => s.selected p F.SENSOR_SEL_SEL 90
  | .zone => s.selected p F.ZONE_SEL_SEL 6
  | .link => s.selected p F.LINK_SEL_SEL 10
  | .cluster =>
    match s.selected p F.PART_SEL_SEL 16, s.selected p F.PART_CL_INDEX_INDEX 100 with
    | some a, some c => some (clusterIx a c)
    | _, _ => none
  | .extent =>
    match s.selected p F.PART_SEL_SEL 16, s.selected p F.HBM_EXT_INDEX_INDEX 640 with
    | some a, some e => some (a * 640 + e)
    | _, _ => none
  | .bolt => s.selected p F.BEAM_BOLT_INDEX_INDEX 256
  | .engine => s.selected p F.DEC_INDEX_INDEX 32
  | .route => s.selected p F.WEFT_ROUTE_INDEX_DEST 16
  | .binding => s.selected p F.WEFT_BIND_INDEX_BINDING 16
  | .bias => some (s.rd F.HOST_BIAS_INDEX_UNIT (pathIx p))
  | .vch => s.selected p F.PWR_VCH_INDEX_INDEX 12
  | .rail => s.selected p F.PWR_RAIL_INDEX_INDEX 7
  | .path => some (pathIx p)

/-- A context register of a slot that is FREE (R201), or a delta register of a context without a delta
plan (R159). -/
def State.hiddenCtx (s : State) (r : Reg) (c : Nat) : Bool :=
  match r with
  | .CTX_SEL | .CTX_STATE => false
  | .CTX_DELTA_POLICY | .CTX_REFRESH_EVERY | .CTX_DELTA_STATUS | .CTX_DELTA_SEQ | .CTX_DELTA_TILES_LO
  | .CTX_DELTA_TILES_HI | .CTX_DELTA_SKIPPED_LO | .CTX_DELTA_SKIPPED_HI =>
    s.rd F.CTX_STATE_STATE c == 0 || (s.planOf c).isNone
  | _ => s.rd F.CTX_STATE_STATE c == 0

/-- The instance of register `n` of a run that an access on a path reaches; none: it reads 0 and ignores
writes (R11, R159, R201). -/
def State.regInst (s : State) (p : Path) (r : Reg) (n : Nat) : Option Nat :=
  let d := regDesc r
  if n < d.count then
    match s.instOf p d.inst with
    | some i => if d.win = .ctx ∧ s.hiddenCtx r i then none else some (i * d.count + n)
    | none => none
  else none

/-! ### Fields that follow from other state -/

/-- The code of a bolt state (R116). -/
def boltCode : BoltState → Nat
  | .free => 0
  | .leased => 1
  | .draining => 2
  | .zeroing => 3
  | .fixed => 4
  | .retired => 5

/-- `BEAM_SUMMARY`: bolts whose state code lies in a list. -/
def State.boltsIn (s : State) (codes : List Nat) : Nat :=
  (List.range 256).countP fun b => codes.contains (boltCode (s.bolt b).state)

/-- `BEAM_SPARES`: bank groups of a quadrant whose spare is unused. -/
def State.sparesIn (s : State) (q : Nat) : Nat :=
  (List.range 32).countP fun g => !s.on I.spareUsed (32 * q + g)

/-- `HBM_EXT_DATA` of extent `e` of group `g`: state, owner, slot (R109, R120). -/
def State.extView (s : State) (g e : Nat) : Nat × Nat × Nat :=
  if 624 ≤ e then (if s.on F.PART_STATE_MEM_ON g then 1 else 2, 0xFFFE, 0)
  else match s.hbm.leases.find? fun l => l.2.group == g && l.2.exts.contains e with
    | some l =>
      (if l.2.state = .lost then 2 else 1, if l.2.use = .hdm then 0xFFFF else l.2.owner, l.2.slot)
    | none => (if s.hbm.retired.contains (g * 640 + e) then 3 else 0, 0, 0)

/-- Extents of a group RETIRED and in no lease. -/
def State.retiredExts (s : State) (g : Nat) : Nat :=
  (List.range 624).countP fun e => (s.extView g e).1 == 3

/-- The core of a cluster with the highest correctable-error level, the lowest on a tie, and the level. -/
def State.ceView (s : State) (i : Nat) : Nat × Nat :=
  (List.range 17).foldl (fun m k =>
    let l := s.rd I.ceLevel (i * 32 + k)
    if m.2 < l then (k, l) else m) (0, 0)

/-- `PART_REPAIR` of a partition: spares left, cores pending, factory spares used, user retirements. -/
def State.repairView (s : State) (p : Nat) : Nat × Nat × Nat × Nat :=
  let cs := List.range 100
  (cs.countP fun c => s.clusterOk p c && (s.goodCores p c).length == 17,
   min 127 (cs.map fun c => popCount 17 (s.rd F.PART_CL_PENDING_CORES (clusterIx p c))).sum,
   cs.countP fun c => Config.factoryRetired p c != 0,
   min 127 (s.stw.repair.countP fun r =>
     match r with
     | .core p' _ _ => p'.val == p
     | _ => false))

/-- Free units of a quadrant's video, and of its JPEG engines (R208, R209). -/
def State.unitsFree (s : State) (es : List Nat) : Nat := (es.map s.engineFree).sum

/-- Bindings that hold units on an engine. -/
def State.holders (s : State) (e : Nat) : Nat := s.bnd.bindings.countP fun b => b.2.unitsOn e != 0

/-- An engine is decoding a payload. -/
def State.engineBusy (s : State) (e : Nat) : Bool := s.bnd.frames.any fun f => f.stage == .decoding e

/-- Whole seconds, rounded up, until a model time. -/
def State.secondsTo (s : State) (t : Nat) : Nat := (t - s.us + 999999) / 1000000

/-- `PRES_GRANT.GRANT_LEFT_S`: of the longer active grant of 600 s (R331). -/
def State.grantLeft (s : State) : Nat :=
  let left (f at' : Fld) : Nat := if s.on f 0 then s.secondsTo (s.rd at' 0 + 600000000) else 0
  max (left F.PRES_GRANT_JMP_GRANT I.jmpAt) (left F.PRES_GRANT_SEAL_GRANT I.sealAt)

/-- `PRES_STATUS.WAIT_S`: seconds left of the 60 s for a press (R336). -/
def State.pressLeft (s : State) : Nat :=
  match s.stw.armed with
  | some a => if s.rd F.PRES_STATUS_STATE 0 = 1 then s.secondsTo (a.at' + 60000000) else 0
  | none => 0

/-- `THM_STATUS.RESTART_LEFT_S` (R442). -/
def State.restartLeft (s : State) : Nat :=
  let rs := s.cfg cfgRestartS * 1000000
  let zs := (s.thm.zones.headD (0, [])).2
  if !s.on F.THM_STATUS_RESTART_WAIT 0 then 0
  else if zs.getD 0 none = none ∧ zs.getD 1 none = none then s.secondsTo (s.thm.trippedAt + 5 * rs)
  else
    let cool := if s.thm.coolSince = 0 then s.us else s.thm.coolSince - 1
    s.secondsTo (max (s.thm.trippedAt + rs) (cool + rs))

/-- The state of an auxiliary switch (R449-R452): damaged, held or switched fully on, switching, off. -/
def State.auxState (s : State) (k : Nat) : Nat :=
  if s.on I.auxDamaged k then 6
  else if h : k < 6 then
    let on := s.rd I.fanOn k
    if s.chFull (.fan ⟨k, h⟩) ∨ (on ≠ 0 ∧ s.fanPeriod ≤ on) then 8 else if on ≠ 0 then 7 else 0
  else if h : k - 6 < 2 then
    if s.on I.driving 0 ∨ s.chFull (.pump ⟨k - 6, h⟩) then 8 else 0
  else 0

/-- A sensor's hardware comparator is armed; `THERM0`-`THERM3` have none (R441). -/
def State.comparatorArmed (s : State) (k : Nat) : Bool :=
  if h : k < 78 then s.armed (.die ⟨k, h⟩)
  else if h : k - 78 < 8 then s.armed (.stack ⟨k - 78, h⟩) else false

/-! ### The steward's heartbeat (R374) -/

/-- The steward may be lead or standby (R358, R376). -/
def State.leadCapable (s : State) : Bool := (s.cfg cfgFlags).testBit 0 && !s.on I.ownHeard 0

/-- A class B fault of the node's own auxiliary switches, or of its fan and pump drive, is uncleared. -/
def State.driveFault (s : State) : Bool :=
  ((List.range 8).map (32 + ·) ++ (List.range 8).map (42 + ·)).any s.statusBit

/-- The node is healthy (after R374). -/
def State.healthy (s : State) : Bool :=
  !s.bare && !s.on F.FAULT_ESC_SAFE 0 && !s.classASet && !s.driveFault

/-- A zone value in whole °C, 0-255. -/
def State.zoneC (s : State) (z : Nat) : Nat :=
  ((BitVec.ofNat 16 (s.rd F.THM_ZONE_TEMP_TEMP z)).toInt / 64).toNat

/-- Sympathetic commands as a lead's heartbeat carries them: four, each a handle and a throttle. -/
def sympathyBytes (l : List (Nat × Nat)) : List Byte :=
  ((l ++ List.replicate 4 (0xFFFF, 0)).take 4).flatMap fun (e : Nat × Nat) => le 2 e.1 ++ le 1 e.2

/-- The steward's own heartbeat. -/
def State.heartbeat (s : State) : List Byte :=
  let role := s.rd F.STW_STATUS_ROLE 0
  let drives := role == 1 || role == 2
  let powered := s.on I.dieUp 0 || s.rd I.chipStep 0 != 0
  let b0 := role + 4 * bit s.leadCapable + 8 * bit s.healthy + 16 * bit powered +
    32 * s.rd F.FAULT_ESC_SAFE 0 + 64 * s.rd F.PWR_INPUT_FRONT 0
  let classB := s.rd F.FAULT_STATUS1_STEWARD_B 0 != 0 || s.rd F.FAULT_STATUS2_COMPUTE_B 0 != 0
  let b1 := bit s.classASet + 2 * bit classB + 4 * s.rd F.LEAK_STATUS_WARN 0 + 8 * (s.cfg cfgConfig % 4)
  let duty (f : Fld) : Nat := if drives then s.rd f 0 else 0
  [b0, b1, s.zoneC 0, s.zoneC 1, s.rd F.COOL_STATUS_FAN_DEMAND 0, s.rd F.COOL_STATUS_PUMP_DEMAND 0,
    s.rd I.noticePct 0, duty F.COOL_STATUS_FAN_DUTY, duty F.COOL_STATUS_PUMP_DUTY, 0].map
      (fun n => BitVec.ofNat 8 (min n 255)) ++
  le 2 ((s.us - s.rd I.periodAt 0) * 32768 / 1000000) ++ le 2 (s.rd F.PWR_PKG_PACKAGE_W 0) ++
  ((s.stw.notice ++ List.replicate 4 0xFFFF).take 4).flatMap (le 2) ++
  sympathyBytes (if role = 1 then s.stw.sympathy else []) ++ le 6 0

/-! ### Tray health (R380) -/

/-- The configuration has a block for the node: it lies within the packages of the Draft. -/
def State.inTray (s : State) (n : Nat) : Bool := decide (n < s.cfg cfgPackages)

/-- The steward's own node, once a Draft or bare defaults are in force. -/
def State.isOwn (s : State) (n : Nat) : Bool :=
  n == s.rd F.STW_STATUS_NODE 0 && s.rd F.STW_STATUS_DRAFT 0 != 0

def State.hznNode (s : State) (n : Nat) : HznNode := Tab.get s.hzn.nodes n {}

/-- A heartbeat of the node has been registered within the last 300 ms (R13, R377, R380). -/
def State.nodeHeard (s : State) (n : Nat) : Bool :=
  let x := s.hznNode n
  !x.hb.isEmpty && s.within x.at' 300001

def State.nodePresent (s : State) (n : Nat) : Bool := s.isOwn n || (s.nodeHeard n && !s.on I.quarantine n)

/-- The heartbeat that a node's block shows: its own state for the node itself, else the last registered. -/
def State.nodeHb (s : State) (n : Nat) : List Byte :=
  if s.isOwn n then s.heartbeat else (s.hznNode n).hb

/-- Age of a node's last heartbeat in 10 ms, saturating; 0xFF before the first. -/
def State.nodeAge (s : State) (n : Nat) : Nat :=
  if s.isOwn n then 0
  else if (s.hznNode n).hb.isEmpty then 255 else min 255 ((s.us - (s.hznNode n).at') / 10000)

/-- The fields of a node's block. -/
def State.nodeView (s : State) (n : Nat) : List (Fld × Nat) :=
  let hb := s.nodeHb n
  let b (k : Nat) : Nat := numAt hb k 1
  let fs := [(F.TH_NODE_STATUS_PRESENT, bit (s.nodePresent n)), (F.TH_NODE_STATUS_HB0, b 0),
    (F.TH_NODE_STATUS_HB1, b 1), (F.TH_NODE_STATUS_QUARANTINED, s.rd I.quarantine n),
    (F.TH_NODE_STATUS_THROTTLE, b 6), (F.TH_NODE_STATUS_AGE, s.nodeAge n),
    (F.TH_NODE_THERMAL_DIE_C, b 2), (F.TH_NODE_THERMAL_HBM_C, b 3), (F.TH_NODE_THERMAL_FAN_DEMAND, b 4),
    (F.TH_NODE_THERMAL_PUMP_DEMAND, b 5), (F.TH_NODE_POWER_INPUT_W, numAt hb 12 2),
    (F.TH_NODE_POWER_FAN_CMD, b 7), (F.TH_NODE_POWER_PUMP_CMD, b 8)]
  if s.inTray n then fs else fs.map fun x => (x.1, 0)

/-! ### Views -/

/-- The fields of a register's instance that follow from other state. -/
def State.view (s : State) (r : Reg) (i : Nat) : List (Fld × Nat) :=
  match r with
  | .BEAM_SUMMARY => [(F.BEAM_SUMMARY_FREE, s.boltsIn [0]), (F.BEAM_SUMMARY_LEASED, s.boltsIn [1, 2, 3]),
      (F.BEAM_SUMMARY_RETIRED, s.boltsIn [5]), (F.BEAM_SUMMARY_FIXED, s.boltsIn [4])]
  | .BEAM_SPARES => [(F.BEAM_SPARES_Q0, s.sparesIn 0), (F.BEAM_SPARES_Q1, s.sparesIn 1),
      (F.BEAM_SPARES_Q2, s.sparesIn 2), (F.BEAM_SPARES_Q3, s.sparesIn 3)]
  | .BEAM_BOLT_DATA =>
    let x := s.bolt i
    [(F.BEAM_BOLT_DATA_STATE, boltCode x.state), (F.BEAM_BOLT_DATA_OWNER, x.owner),
      (F.BEAM_BOLT_DATA_FIXED_USE, fixedUse i),
      (F.BEAM_BOLT_DATA_RETIRE_ON_RELEASE, bit x.retireOnRelease),
      (F.BEAM_BOLT_DATA_SPARE_USED, s.rd I.spareUsed (s.groupOf i)),
      (F.BEAM_BOLT_DATA_EXCHANGED, bit x.exchanged.isSome)]
  | .HBM_GRP_EXTENTS =>
    let leased := 16 + (s.leasedExts i).length
    let retired := s.retiredExts i
    [(F.HBM_GRP_EXTENTS_FREE, 640 - leased - retired), (F.HBM_GRP_EXTENTS_LEASED, leased),
      (F.HBM_GRP_EXTENTS_RETIRED, retired)]
  | .HBM_GRP_KEYS =>
    let used := 1 + (s.usedSlots i).eraseDups.length
    [(F.HBM_GRP_KEYS_USED, used), (F.HBM_GRP_KEYS_FREE, 256 - used)]
  | .HBM_EXT_DATA =>
    let x := s.extView (i / 640) (i % 640)
    [(F.HBM_EXT_DATA_STATE, x.1), (F.HBM_EXT_DATA_OWNER, x.2.1), (F.HBM_EXT_DATA_SLOT, x.2.2)]
  | .PART_STATE => [(F.PART_STATE_SWEEP_DUE, bit (s.sweepDue i))]
  | .PART_THROTTLE =>
    [(F.PART_THROTTLE_CAUSE_DROOP,
      bit (s.rd I.droopAt i != 0 && s.within (s.rd I.droopAt i - 1) 1000))]
  | .PART_REPAIR =>
    let x := s.repairView i
    [(F.PART_REPAIR_SPARES_LEFT, x.1), (F.PART_REPAIR_PENDING, x.2.1),
      (F.PART_REPAIR_FACTORY_SPARES_USED, x.2.2.1), (F.PART_REPAIR_USER_RETIRED, x.2.2.2)]
  | .PART_CL_PENDING =>
    let x := s.ceView i
    [(F.PART_CL_PENDING_CE_CORE, x.1), (F.PART_CL_PENDING_CE_LEVEL, x.2)]
  | .CTX_STATE => if s.rd F.CTX_STATE_STATE i = 4 then [] else [(F.CTX_STATE_HOLD_CAUSE, 0)]
  | .DEC_FREE => [(F.DEC_FREE_Q0, s.unitsFree (videoEngines 0)), (F.DEC_FREE_Q1, s.unitsFree (videoEngines 1)),
      (F.DEC_FREE_Q2, s.unitsFree (videoEngines 2)), (F.DEC_FREE_Q3, s.unitsFree (videoEngines 3))]
  | .DEC_JPEG_FREE => [(F.DEC_JPEG_FREE_Q0, s.unitsFree (jpegEngines 0)),
      (F.DEC_JPEG_FREE_Q2, s.unitsFree (jpegEngines 2))]
  | .DEC_DATA => [(F.DEC_DATA_GRANTED, engineUnits i - s.engineFree i),
      (F.DEC_DATA_BUSY, bit (s.engineBusy i)), (F.DEC_DATA_BINDINGS, s.holders i)]
  | .WEFT_LINK_UNITS => [(F.WEFT_LINK_UNITS_FREE, s.linkFree i),
      (F.WEFT_LINK_UNITS_SHADOW_RSV, if i = 7 ∨ i = 8 then s.cfgIn cfgShadowRsv 0 48 else 0),
      (F.WEFT_LINK_UNITS_HOLDERS, s.bnd.bindings.countP fun b => b.2.links.contains i)]
  | .WEFT_ACCEPT => [(F.WEFT_ACCEPT_COPIES, s.weft.copies.countP fun c => c.2.binding == i)]
  | .HOST_STATUS => [(F.HOST_STATUS_FRONT, s.rd F.PWR_INPUT_FRONT 0),
      (F.HOST_STATUS_WQ_DEPTH, s.host.writeQueue.length)]
  | .HOST_BIAS_DATA => [(F.HOST_BIAS_DATA_DEVICE, bit (s.host.deviceBias.contains i)),
      (F.HOST_BIAS_DATA_FLIPS, s.rd F.HOST_BIAS_DATA_FLIPS 0)]
  | .FW_RESULT => [(F.FW_RESULT_DEFERRED, bit (s.on F.FW_RESULT_ACT_PENDING 0 && (s.updateBlocked || !s.on F.CMD_STATUS_BUSY 0)))]
  | .FW_RESTARTS => [(F.FW_RESTARTS_IN_WINDOW,
      min 7 (s.fw.crashes.countP fun t => s.within t 60000001))]
  | .SEC_STATUS => [(F.SEC_STATUS_OWNERS, s.bnd.owners.length)]
  | .PRES_STATUS => [(F.PRES_STATUS_WAIT_S, s.pressLeft)]
  | .PRES_GRANT => [(F.PRES_GRANT_BTN_DOWN, bit (Config.buttonLow s.us)),
      (F.PRES_GRANT_SEAL_SLOTS, s.rd F.LOG_PERM_SEAL_USED 0), (F.PRES_GRANT_GRANT_LEFT_S, s.grantLeft)]
  | .TH_SUMMARY => [(F.TH_SUMMARY_PRESENT, (List.range 16).countP fun n => s.inTray n && s.nodePresent n)]
  | .TH_NODE_STATUS | .TH_NODE_THERMAL | .TH_NODE_POWER => s.nodeView i
  | .HSW_STATE =>
    if i = 0 then []
    else [(F.HSW_STATE_STATE, s.auxState (i - 1)), (F.HSW_STATE_PG, 0), (F.HSW_STATE_LAST_TRIP, 0),
      (F.HSW_STATE_BAND, 0), (F.HSW_STATE_RETRIES, 0)]
  | .PWR_SEQ =>
    let st := s.rd F.PWR_SEQ_STEP 0
    [(F.PWR_SEQ_WAIT, if st = 7 ∨ st = 10 ∨ st = 11 then (s.rd I.waitEnd 0 - s.us + 99999) / 100000 else 0)]
  | .PWR_CAP_STATUS => [(F.PWR_CAP_STATUS_EFFECTIVE_W, s.effectiveCap),
      (F.PWR_CAP_STATUS_DRAFT_W, s.cfg cfgCapW)]
  | .THM_STATUS => [(F.THM_STATUS_MODE, bit s.rorMode), (F.THM_STATUS_SENSOR_MODE, s.cfg cfgSensorMode),
      (F.THM_STATUS_RESTART_LEFT_S, min 4095 s.restartLeft)]
  | .THM_ZONE_LIMITS => [(F.THM_ZONE_LIMITS_WARN_C, s.warnLevel i), (F.THM_ZONE_LIMITS_THR_C, s.thrLevel i),
      (F.THM_ZONE_LIMITS_TRIP_C, s.tripLevel i)]
  | .THM_SENSOR_DATA => [(F.THM_SENSOR_DATA_TRIP_ARMED, bit (s.comparatorArmed i))]
  | .FAN_STATUS => if h : i < 6 then [(F.FAN_STATUS_FULL, bit (s.chFull (.fan ⟨i, h⟩)))] else []
  | .PUMP_STATUS => if h : i < 2 then [(F.PUMP_STATUS_FULL, bit (s.chFull (.pump ⟨i, h⟩)))] else []
  | .FAULT_ESC => [(F.FAULT_ESC_IN_WINDOW, min 7 s.cyclesInWindow.length)]
  | .LOG_INDEX => if i = pathIx .horizon then [(F.LOG_INDEX_STATE, (s.logEntry 0 0).1), (F.LOG_INDEX_READY, 1)]
      else []
  | .LOG_STATUS => [(F.LOG_STATUS_CIRC_COUNT, s.circReadable.length), (F.LOG_STATUS_TORN, min 255 s.tornSlots)]
  | .LOG_PERM => [(F.LOG_PERM_QUEUED, s.stw.records.length)]
  | .LOG_TIME => [(F.LOG_TIME_OP_TIME, s.opTime)]
  | .LOG_DATA =>
    let path := i / 16
    let bs := if path = pathIx .horizon then (s.logEntry 0 0).2 else Tab.get s.stw.logData path []
    [(F.LOG_DATA_DATA, numAt bs (4 * (i % 16)) 4)]
  | _ => []

/-- The value that a field of a register's instance shows. -/
def State.fieldView (s : State) (r : Reg) (i : Nat) (f : Fld) : Nat :=
  match (s.view r i).find? fun x => x.1 == f with
  | some x => x.2 % f.size
  | none => s.rd f (if f = F.HOST_BIAS_DATA_FLIPS then 0 else i)

/-- Where a field stands in its register's word: the halves of a pair hold its low and high 32 bits. -/
def fieldWord (h : Half) (f : Fld) (v : Nat) : Nat :=
  match h with
  | .plain => v * 2 ^ f.lo
  | .pairLo => v % 2 ^ 32
  | .pairHi => v / 2 ^ 32

/-- A word of the MSI-X table (R268): address low and high, data, vector control of each vector. -/
def State.msixWord (s : State) (n : Nat) : Nat :=
  let v := n / 4
  match n % 4 with
  | 0 => s.rd I.msixAddr v % 2 ^ 32
  | 1 => s.rd I.msixAddr v / 2 ^ 32
  | 2 => s.rd I.msixData v
  | _ => s.rd I.msixControl v

/-- The word of a register's instance: its readable fields in their bits, 0 in the others (R4, R6). -/
def State.instWord (s : State) (r : Reg) (i : Nat) : Nat :=
  match r with
  | .MSIX_TABLE => s.msixWord i
  | .MSIX_PBA => ofBits fun k => s.on I.msixPending (32 * i + k)
  | _ =>
    let d := regDesc r
    (d.fields.map fun x =>
      if x.access = .wo then 0 else fieldWord d.half x.fld (s.fieldView r i x.fld)).sum
where
  ofBits (p : Nat → Bool) : Nat := ((List.range 32).map fun k => if p k then 2 ^ k else 0).sum

/-- The current word of a register as an access on a path sees it; 0 when the selection is out of range
(R11). -/
def State.regWord (s : State) (p : Path) (r : Reg) (n : Nat) : Nat :=
  match s.regInst p r n with
  | some i => s.instWord r i
  | none => 0

end Sys2Proof.Machine
end

