-- ==== Sys2Proof/Machine/Memory.lean ====
section
/-! DEFINITION. The Beam and HBM: accesses, scrubbing, sparing, DMA bursts and the HDM window
(04_beam_and_hbm). -/

namespace Sys2Proof.Machine

/-! ### Beam accesses -/

/-- For which owner a requester asks (R101): a partition for its lease owner. -/
def State.reqOwner (s : State) (r : BeamReq) : Nat :=
  match r.who with
  | .part p => s.rd F.PART_LEASE_OWNER_OWNER p.val
  | _ => r.owner

/-- The access check (R101, R116): the owner's LEASED bolts, and fixed regions for everything but
partitions. -/
def State.beamAllowed (s : State) (r : BeamReq) : Bool :=
  let x := s.bolt r.bolt.val
  match x.state with
  | .leased => x.owner == s.reqOwner r
  | .fixed => match r.who with
    | .part _ => false
    | _ => true
  | _ => false

/-- A partition's Heddle port is fenced (R491). -/
def State.portFenced (s : State) (r : BeamReq) : Bool :=
  match r.who with
  | .part p => s.inReset p.val
  | _ => false

/-- The answer of a read. -/
def State.beamAnswer (s : State) (r : BeamReq) (bs : List Byte) : State :=
  match r.write with
  | some _ => s
  | none => s.send (.line r.bolt.val r.line.val bs)

/-- A running frame's context takes an error of its own access or transfer: the partition's frame is
aborted with a detail of R485. -/
def State.abortFor (s : State) (p detail : Nat) : State :=
  match s.partBinding? p with
  | some (b, _) => if h : b < 16 then s.abortWith ⟨b, h⟩ p detail else s
  | none => s

/-- A transfer ends with an error to the context that queued it (R101, R486, R491): its running frame
fails `ABORTED`. -/
def State.failTransfer (s : State) (ctx : Option CtxIx) : State :=
  match ctx with
  | none => s
  | some c =>
    match s.ctx? c.val with
    | some x => if (s.binding? x.binding).bind Binding.running = some c.val then
        (s.abortRunning x.binding).settle else s
    | none => s

/-- A refused access (R101, R119): counted, answered with zeros, and held against the requester. -/
def State.beamRefuse (s : State) (r : BeamReq) : State :=
  let s := (s.bump F.BEAM_LEASE_VIOL_COUNT 0).beamAnswer r (List.replicate 64 0)
  match r.who with
  | .part p => s.abortFor p.val 2
  | .dma _ => s.failTransfer r.ctx
  | _ => s

/-- A granted read's ECC outcome (R102, R103). -/
def State.beamEcc (s : State) (r : BeamReq) : State :=
  let b := r.bolt.val
  let g : BankGroup := Fin.ofNat 128 (s.groupOf b)
  let bank := s.bankOf b r.line.val
  match r.ecc with
  | .clean => s
  | .corrected => s.bankCe g bank
  | .uncorrectable => (s.setPoison b r.line.val true).bankUe g bank

/-- `BEAM_ACCESS` (R101-R105): checked, then granted or refused. -/
def execBeamAccess (r : BeamReq) (s : State) : Result :=
  let b := r.bolt.val
  let l := r.line.val
  if s.portFenced r then .next (s.beamAnswer r (List.replicate 64 0))
  else if !s.beamAllowed r then .next (s.beamRefuse r)
  else match r.write with
    | some bs =>
      let bs := bs.take 64
      let s := if bs.length = 64 then s.setPoison b l false else s
      .next (s.beamWrite b (l * 64) bs)
    | none =>
      let s := s.beamEcc r
      let s := s.beamAnswer r (s.beamLine b l)
      if s.poisoned b l then
        match r.who with
        | .part p => .next (s.abortFor p.val 3)
        | _ => .next s
      else .next s

/-- `BANK_SPARE_SWITCH` (R103 step 3): accesses switch to the spare; the bank is queued for record
0x0A. -/
def execBankSpareSwitch (g : BankGroup) (s : State) : Result :=
  let k := s.rd I.copyBank g.val
  if h : k < 33 then
    let s := ((s.wr I.spareUsed g.val 1).wr I.sparedBank g.val k).wr I.copyBank g.val 33
    .next ((s.bump F.BEAM_ECC_SPARINGS 0).retire
      (.bank (Fin.ofNat 4 (g.val / 32)) (Fin.ofNat 32 g.val) ⟨k, h⟩))
  else .next s

/-- `BANK_CE_DECAY` (R103, R113): the level falls by 1 every 60 s, never below 0. -/
def execBankCeDecay (b : BankId) (s : State) : Result :=
  match b with
  | .beam g k => .next (s.wr I.beamLevel (bankIx g.val k.val) (s.rd I.beamLevel (bankIx g.val k.val) - 1))
  | .hbm g c k =>
    let i := hbmBankIx g.val c.val k.val
    .next (s.wr I.hbmLevel i (s.rd I.hbmLevel i - 1))

/-- `BEAM_SCRUB` (R106): counts and sparing as for any read; a line in which a write intervened keeps
what the write stored. -/
def execBeamScrub (g : BankGroup) (bank : Fin 33) (line : Fin 1024) (ecc : Ecc) (intervened : Bool)
    (s : State) : Result :=
  -- the place of the bank's lines among the 32 of the group (R95)
  let place := if bank.val = 32 then s.rd I.sparedBank g.val else bank.val
  let idle := place = 33 ∨ (bank.val ≠ 32 ∧ s.on I.spareUsed g.val ∧ s.rd I.sparedBank g.val = bank.val)
  if idle then .next s
  else match ecc with
    | .clean => .next s
    | .corrected => .next (s.bankCe g bank)
    | .uncorrectable =>
      let key := (2 * g.val + line.val / 512) * 16384 + line.val % 512 * 32 + place
      let m := if intervened then s.beam.poison else Tab.put s.beam.poison key true false
      .next (State.bankUe { s with beam := { s.beam with poison := m } } g bank)

/-! ### HBM -/

/-- A correctable error of an HBM bank (R111, R113). -/
def State.hbmCe (s : State) (g : HomeGroup) (x : HbmRow) : State :=
  let i := hbmBankIx g.val x.chan.val x.bank.val
  let s := (s.bump F.HBM_GRP_ECC_CE g.val).wr I.hbmLevel i (min 8 (s.rd I.hbmLevel i + 1))
  if s.rd I.hbmLevel i = 8 then s.queueRow g x.chan x.bank.val x.row else s

/-- An uncorrectable error of an HBM line (R111, R113). -/
def State.hbmUe (s : State) (g : HomeGroup) (x : HbmRow) : State :=
  (s.bump F.HBM_GRP_ECC_UE g.val).queueRow g x.chan x.bank.val x.row

/-- `HBM_SCRUB` (R112): a line of a group (its number), read without its key. -/
def execHbmScrub (g : HomeGroup) (line : Nat) (loc : HbmRow) (ecc : Ecc) (intervened : Bool)
    (s : State) : Result :=
  if s.inReset g.val then .next s
  else match ecc with
    | .clean => .next s
    | .corrected => .next (s.hbmCe g loc)
    | .uncorrectable =>
      let m := if intervened then s.hbm.poison
        else Tab.put s.hbm.poison (g.val * 2 ^ 30 + line % 2 ^ 30) true false
      .next (State.hbmUe { s with hbm := { s.hbm with poison := m } } g loc)

/-- The next non-empty queue of a group's DMA engine, round-robin (R110). -/
def State.nextQueue? (s : State) (g : Nat) : Option Nat :=
  let from' := s.rd I.dmaNext g
  ((List.range 19).map fun k => (from' + k) % 19).find? fun q =>
    s.hbm.xfers.any fun t => t.group == g && t.queue == q

/-- The oldest transfer of a queue moved by a burst of 256 B; a transfer with nothing left is complete. -/
def burst (g q : Nat) : List Xfer → List Xfer
  | [] => []
  | t :: l =>
    if t.group = g ∧ t.queue = q then
      if t.left ≤ 256 then l else { t with left := t.left - 256 } :: l
    else t :: burst g q l

/-- `HBM_DMA_BURST` (R110, R111): one burst of the next non-empty queue; poisoned data aborts the
context whose transfer consumes it. -/
def execHbmDmaBurst (g : HomeGroup) (loc : HbmRow) (ecc : Ecc) (s : State) : Result :=
  if s.inReset g.val then .next s
  else match s.nextQueue? g.val with
    | none => .next s
    | some q =>
      let ctx := (s.hbm.xfers.find? fun t => t.group == g.val && t.queue == q).bind Xfer.ctx
      let left := burst g.val q s.hbm.xfers
      let s : State := { s with hbm := { s.hbm with xfers := left } }
      let s := s.wr I.dmaNext g.val ((q + 1) % 19)
      match ecc with
      | .clean => .next s
      | .corrected => .next (s.hbmCe g loc)
      | .uncorrectable =>
        let s := s.hbmUe g loc
        match ctx.bind s.ctx? with
        | some x =>
          if (s.binding? x.binding).bind Binding.running = ctx ∧ q < 16 then .next (s.abortFor q 3)
          else .next s
        | none => .next s

/-- `BUNDLE_COPY_REBUILT` (R125): the rebuilt copy serves again. -/
def execBundleCopyRebuilt (h : Nat) (s : State) : Result :=
  match s.bundle? h with
  | some x =>
    if x.lost1 ≠ x.lost2 then
      let left := s.hbm.xfers.filter fun t => t.copyOf != some h
      let s : State := { s with hbm := { s.hbm with xfers := left } }
      .next (s.setBundle h { x with lost1 := false, lost2 := false })
    else .next s
  | none => .next s

/-! ### The HDM window -/

/-- The leases of the window in place. -/
def State.hdmLeases (s : State) : List (Nat × Lease) := s.hbm.leases.filter fun l => l.2.use == .hdm

/-- The state without the window: its leases ended, its contents erased, every unit in host bias
(R128, R276). -/
def State.dropHdm (s : State) : State :=
  let left := s.hbm.leases.filter fun l => l.2.use != .hdm
  { s with hbm := { s.hbm with leases := left }, host := { s.host with deviceBias := [] } }

/-- The window of `n` GiB made on free extents (R127): in each group the `n` lowest-numbered. -/
def State.makeHdm (s : State) (n : Nat) : State :=
  if n = 0 then s
  else (List.range 16).foldl (fun s g => (s.newLease g 0xFFFF ((s.freeExts g).take n) 1 .hdm).2) s

/-- A resize of the window (R128): refused with `ERR` while a partition is FENCED or RESET, while the
decoder is committed (R275), or when a group has too few extents. -/
def State.resizeHdm (s : State) : State :=
  let n := s.rd F.HDM_CFG_SIZE_GIB 0
  let bare := s.dropHdm
  let room := (List.range 16).all fun g => decide (n ≤ (bare.freeExts g).length)
  if (List.range 16).any s.inReset || s.on I.hdmCommitted 0 || !room then s.wr F.HDM_CFG_ERR 0 1
  else
    ((bare.makeHdm n).wr F.HDM_CFG_CUR_GIB 0 n).wr F.HDM_CFG_ACTIVE 0 (bit (n != 0))

/-- `HDM_APPLY` (R128, R132): a write to `HDM_CFG` whose `APPLY` is 1 resizes the window to the
`SIZE_GIB` it carries (above 512: 512). -/
def execHdmApply (v : Word) (s : State) : Result :=
  let s := s.wr F.HDM_CFG_SIZE_GIB 0 (min 512 (field v.toNat 9 0))
  let s := if v.getLsbD 18 then s.wr F.HDM_CFG_ERR 0 0 else s
  .next (if v.getLsbD 16 then s.resizeHdm else s)

end Sys2Proof.Machine
end

