-- ==== Sys2Proof/Machine/Host.lean ====
section
/-! DEFINITION. The CXL port: training and loss of the link, protocol errors, failed host reads, the
event queue, the HDM window as the host sees it, bias units and DOE (09_host_interface). -/

namespace Sys2Proof.Machine

/-! ### The link -/

/-- The host reaches the device: the compute die is up and the link is not down. -/
def State.hostReach (s : State) : Bool := s.on I.dieUp 0 && s.rd F.HOST_LINK_MODE 0 != 2

/-- Requests to the host held so far go out in order (R260, R284); a link that runs as PCIe carries
none (R259). -/
def State.sendHeld (s : State) : State :=
  if s.rd F.HOST_LINK_MODE 0 = 1 then { s with host := { s.host with heldOut := [] } }
  else if s.rd F.HOST_LINK_MODE 0 = 0 ∧ s.on I.bme 0 then
    s.host.heldOut.foldl State.send { s with host := { s.host with heldOut := [] } }
  else s

/-- The link is in L0 again (R260). -/
def State.linkBack (s : State) : State :=
  ((s.wr F.HOST_LINK_MODE 0 (s.rd I.pcieOnly 0)).bump F.HOST_LINK_DOWNS 0).sendHeld

/-- `HOST_LINK_TRAINED` (R258, R259): `narrow` and `slow` are the steps of width and rate below x16 at
32 GT/s. -/
def execHostLinkTrained (pcie : Bool) (narrow slow : Fin 3) (s : State) : Result :=
  if !s.on I.dieUp 0 then .next s
  else
    let width := 16 / 2 ^ narrow.val
    let rate := 5 - slow.val
    let down := s.rd F.HOST_LINK_MODE 0 == 2
    let s := (s.wr F.HOST_LINK_WIDTH 0 width).wr F.HOST_LINK_SPEED 0 rate
    let s := (s.wr I.pcieOnly 0 (bit pcie)).wr F.HOST_LINK_MODE 0 (bit pcie)
    let s := if pcie then s.fault 84 0 else s.causeEnds 84
    let s := if narrow.val + slow.val = 0 then s
      else (s.classC 258 0).event 9 (le 1 width ++ le 1 rate)
    .next ((if down then s.bump F.HOST_LINK_DOWNS 0 else s).sendHeld)

/-- `HOST_LINK_DOWN` (R260). -/
def execHostLinkDown (s : State) : Result :=
  if s.on I.dieUp 0 then .next (s.wr F.HOST_LINK_MODE 0 2) else .next s

/-- `HOST_LINK_UP` (R260): the link returns to L0 in time. -/
def execHostLinkUp (s : State) : Result :=
  if s.rd F.HOST_LINK_MODE 0 = 2 then .next s.linkBack else .next s

/-- `HOST_LINK_DOWN_TIMEOUT` (R260, R487). -/
def execHostLinkDownTimeout (s : State) : Result :=
  if s.rd F.HOST_LINK_MODE 0 = 2 then .next (s.chipReset 5) else .next s

/-- `HOST_RESET` (R261, R487). -/
def execHostReset (_k : HostResetKind) (s : State) : Result := .next (s.chipReset 7)

/-- `PERST_ASSERT` (R415). -/
def execPerstAssert (s : State) : Result := .next (s.chipReset 7)

/-! ### Protocol errors and failed reads -/

/-- `BAR_BAD_ACCESS` (R263): a read completes with completer abort, a write is dropped. -/
def execBarBadAccess (write : Bool) (s : State) : Result :=
  if !s.hostReach then .next s
  else
    let s := (s.bump F.HOST_ERR_CA 0).classC 263 0
    .next (if write then s else s.send (.noData .host "completer abort"))

/-- `HOST_BAD_REQUEST` (R257, R279, R282). -/
def execHostBadRequest (k : BadRequest) (s : State) : Result :=
  if !s.hostReach then .next s
  else match k with
    | .unsupportedNonPosted | .unadvertised =>
      .next (((s.bump F.HOST_ERR_UR 0).classC 282 0).send (.noData .host "unsupported request"))
    | .unsupportedPosted => .next ((s.bump F.HOST_ERR_UR 0).classC 282 0)
    | .poisonedWrite => .next ((s.bump F.HOST_ERR_POISON_IN 0).classC 282 0)
    | .doeError inst => .next (((s.bump F.HOST_ERR_UR 0).classC 279 0).wr I.doeError inst.val 1)

/-- `HOST_READ_FAIL` (R283): what the failed read was for decides its effect. -/
def execHostReadFail (how : ReadFail) (k : HostReadFor) (s : State) : Result :=
  match k with
  | .payload c =>
    match s.firstAt c.val (fun f => f.stage == .payload) with
    | some f => .next ((s.countRead how).endFrame f 0x0A)
    | none => .next s
  | .bundle desc tagOk =>
    let x := Desc.of desc
    if s.ready then
      .next ((s.countRead how).command desc tagOk (x.ownerOk && x.groupOk) false
        fun _ s => s.endCmd 0x02)
    else .next s
  | .descriptor => if s.ready then .next ((s.countRead how).endCmd 0x01) else .next s
  | .entry sp =>
    if s.canTake sp.val then .next ((s.countRead how).entryFailed sp.val) else .next s
  | .fwImage =>
    if s.fw.reading.isSome then .next (s.countRead how).imageReadFailed else .next s

/-- `BUS_MASTER_ENABLE` (R284): when it returns to 1, what waited is sent in order and spool engines go
on. -/
def execBusMasterEnable (on : Bool) (s : State) : Result :=
  if !s.on I.dieUp 0 then .next s
  else if on then
    .next ((List.range 1024).foldl State.fetchNext ((s.wr I.bme 0 1).sendHeld))
  else .next (s.wr I.bme 0 0)

/-! ### The event queue -/

/-- A write to `HOST_EVQ_SIZE` (R274, R286): `LOG2` is fixed while `EN` is 1; a write of 1 to `EN` sets
head and tail to 0. -/
def State.writeEvq (s : State) (v : Word) : State :=
  let log2 := max 4 (min 12 (field v.toNat 3 0))
  let s := if s.on F.HOST_EVQ_SIZE_EN 0 then s else s.wr F.HOST_EVQ_SIZE_LOG2 0 log2
  let s := if v.getLsbD 9 then s.wr F.HOST_EVQ_SIZE_OVF 0 0 else s
  if v.getLsbD 8 then
    ((s.wr F.HOST_EVQ_HEAD_INDEX 0 0).wr F.HOST_EVQ_TAIL_INDEX 0 0).wr F.HOST_EVQ_SIZE_EN 0 1
  else s.wr F.HOST_EVQ_SIZE_EN 0 0

/-- `EVQ_ENABLE` (R274, R286). -/
def execEvqEnable (v : Word) (s : State) : Result :=
  if s.on I.dieUp 0 then .next (s.writeEvq v) else .next s

/-- `EVQ_HEAD_WRITE` (R274, R286): a head that moves backwards or beyond the tail is ignored. -/
def execEvqHeadWrite (v : Word) (s : State) : Result :=
  let new := v.toNat % 2 ^ 17
  let head := s.rd F.HOST_EVQ_HEAD_INDEX 0
  if !s.hostReach ∨ ringDist (s.rd F.HOST_EVQ_TAIL_INDEX 0) head < ringDist new head then .next s
  else .next (s.wr F.HOST_EVQ_HEAD_INDEX 0 new)

/-! ### The HDM window -/

/-- `HDM_DECODER_COMMIT` (R275): `bytes` is the decoder's size. -/
def execHdmDecoderCommit (bytes : Nat) (s : State) : Result :=
  if !s.on I.dieUp 0 then .next s
  else
    let ok := bytes == s.rd F.HDM_CFG_CUR_GIB 0 * 2 ^ 30 && bytes != 0
    .next ((s.wr I.hdmCommitted 0 (bit ok)).wr I.hdmError 0 (bit !ok))

/-- The committed size in bytes (R275). -/
def State.hdmBytes (s : State) : Nat :=
  if s.on I.hdmCommitted 0 then s.rd F.HDM_CFG_CUR_GIB 0 * 2 ^ 30 else 0

/-- Home group and group byte address of a window offset's line, and the window's key there (R127). -/
def State.hdmLine (s : State) (offset : Nat) : Option (Nat × Nat × Nat) :=
  let g := offset / 4096 % 16
  let b := offset / 65536 * 4096 + offset % 4096 / 64 * 64
  (s.hdmLeases.find? fun l => l.2.group == g).map fun l =>
    (g, l.2.exts.getD (b / 2 ^ 26) 0 * 2 ^ 26 + b % 2 ^ 26, l.2.key)

/-- A host access to a unit in device bias moves it to host bias (R276). -/
def State.flipBias (s : State) (offset : Nat) : State :=
  let u := offset / 2 ^ 26
  if u ∈ s.host.deviceBias then
    let s : State := { s with host := { s.host with deviceBias := s.host.deviceBias.filter (· != u) } }
    s.bump F.HOST_BIAS_DATA_FLIPS 0
  else s

/-- The poison mark of a line of HBM. -/
def State.setHbmPoison (s : State) (g a : Nat) (v : Bool) : State :=
  { s with hbm := { s.hbm with poison := Tab.put s.hbm.poison (g * 2 ^ 30 + a / 64) v false } }

/-- The ECC outcome of a read of a line of HBM (R111, R113). -/
def State.hbmEcc (s : State) (g : HomeGroup) (a : Nat) (loc : HbmRow) (ecc : Ecc) : State :=
  match ecc with
  | .clean => s
  | .corrected => s.hbmCe g loc
  | .uncorrectable => (s.setHbmPoison g.val a true).hbmUe g loc

/-- A poisoned CXL.mem answer, recorded as a class C fault of a rule. -/
def State.memPoison (s : State) (rule : Nat) : State :=
  (s.classC rule 0).send (.noData .host "poison")

/-- `CXL_MEM_READ` (R275, R276, R278, R491). -/
def execCxlMemRead (offset : Nat) (loc : HbmRow) (ecc : Ecc) (s : State) : Result :=
  if !s.on I.dieUp 0 ∨ s.rd F.HOST_LINK_MODE 0 ≠ 0 then .next s
  else if s.hdmBytes ≤ offset then .next (s.memPoison 275)
  else
    let s := s.flipBias offset
    match s.hdmLine offset with
    | none => .next (s.memPoison 275)
    | some (g, a, key) =>
      if s.inReset g then .next (s.memPoison 491)
      else
        let s := s.hbmEcc (Fin.ofNat 16 g) a loc ecc
        if Tab.get s.hbm.poison (g * 2 ^ 30 + a / 64) false then
          .next (s.send (.noData .host "poison"))
        else
          .next (s.send (.block .host
            ((List.range 64).map fun k => s.hbmByte (hbmPlace key g a + k))))

/-- `CXL_MEM_WRITE` (R275, R276, R282, R491). -/
def execCxlMemWrite (x : MemReq) (s : State) : Result :=
  if !s.on I.dieUp 0 ∨ s.rd F.HOST_LINK_MODE 0 ≠ 0 then .next s
  else if s.hdmBytes ≤ x.offset then .next (s.classC 275 1)
  else
    let s := s.flipBias x.offset
    match s.hdmLine x.offset with
    | none => .next (s.classC 275 1)
    | some (g, a, key) =>
      if s.inReset g then .next (s.classC 491 1)
      else
        let s := if x.poison then (s.bump F.HOST_ERR_POISON_IN 0).classC 282 1 else s
        .next ((s.hbmWrite (hbmPlace key g a) (padTo 64 x.data)).setHbmPoison g a x.poison)

/-- A bias unit in device or host bias (R276, R277). -/
def State.setBias (s : State) (u : Nat) (device : Bool) : State :=
  let rest := s.host.deviceBias.filter (· != u)
  { s with host := { s.host with deviceBias := if device then rest ++ [u] else rest } }

/-- `BIAS_SET` (R277, R285). -/
def execBiasSet (path : Path) (v : Word) (s : State) : Result :=
  let u := s.rd F.HOST_BIAS_INDEX_UNIT (pathIx path)
  if u < 16 * s.rd F.HDM_CFG_CUR_GIB 0 then .next (s.setBias u (v.getLsbD 0)) else .next s

/-! ### DOE -/

/-- A DOE response ready in an instance. -/
def State.doeReady (s : State) (inst : Nat) (bs : List Byte) : State :=
  { s with host := { s.host with doe := Tab.insert s.host.doe inst bs } }

/-- The protocols of an instance (R279), in the order of discovery: vendor and type. -/
def doeProtocols (inst : Nat) : List (Nat × Nat) :=
  [(0x0001, 0), if inst = 0 then (0x1E98, 2) else (0x1F2A, 1)]

/-- `DOE_DISCOVERY` (R279): the protocol at an index, and the next index, 0 after the last. -/
def execDoeDiscovery (inst : Fin 2) (index : Fin 256) (s : State) : Result :=
  if !s.hostReach then .next s
  else
    let p := (doeProtocols inst.val).getD index.val (0xFFFF, 0)
    let next := if index.val = 0 then 1 else 0
    .next (s.doeReady inst.val (doeObject 0x0001 0 (le 2 p.1 ++ le 1 p.2 ++ le 1 next)))

/-- The CDAT's structures for a window of `n` GiB (R280). -/
def cdatEntries (n : Nat) : List Byte :=
  if n = 0 then []
  else
    let dslbis (kind base v : Nat) : List Byte :=
      [1, 0] ++ le 2 24 ++ [0, 0] ++ le 1 kind ++ [0] ++ le 8 base ++ le 2 v ++ le 6 0
    ([0, 0] ++ le 2 24 ++ le 4 0 ++ le 8 0 ++ le 8 (n * 2 ^ 30)) ++
    dslbis 1 1000 600 ++ dslbis 2 1000 600 ++ dslbis 4 1 50000 ++ dslbis 5 1 50000 ++
    ([5, 0] ++ le 2 24 ++ [0, 1] ++ le 2 0 ++ le 8 0 ++ le 8 (n * 2 ^ 30))

/-- The whole CDAT with its checksum (R280); its sequence number is not stated. -/
def cdatTable (n seq : Nat) : List Byte :=
  let es := cdatEntries n
  let head (sum : Nat) : List Byte := le 4 (16 + es.length) ++ [1] ++ le 1 sum ++ le 6 0 ++ le 4 seq
  let total := ((head 0 ++ es).map BitVec.toNat).sum
  head ((256 - total % 256) % 256) ++ es

/-- `CDAT_READ` (R279, R280). -/
def execCdatRead (s : State) : Result :=
  if !s.hostReach then .next s
  else
    let d := s.draw
    .next (d.2.doeReady 0
      (doeObject 0x1E98 2 ([0, 0] ++ le 2 0xFFFF ++ cdatTable (d.2.rd F.HDM_CFG_CUR_GIB 0) d.1)))

/-- An abort in the tick of a response undoes what the request changed (R281). -/
def State.undoDoe (s : State) : State :=
  match s.host.doeUndo with
  | some (t, o, before) =>
    if t = s.us then
      let owners := match before with
        | some x => Tab.insert s.bnd.owners o x
        | none => Tab.drop s.bnd.owners o
      { s with bnd := { s.bnd with owners := owners } }
    else s
  | none => s

/-- `DOE_ABORT` (R279, R281): the response, a request that waits and the error bit are discarded. -/
def execDoeAbort (inst : Fin 2) (s : State) : Result :=
  let s := s.wr I.doeError inst.val 0
  if inst.val = 0 then
    .next { s with host := { s.host with doe := Tab.drop s.host.doe 0 } }
  else
    let s := s.undoDoe
    .next { s with host := { s.host with
      doe := Tab.drop s.host.doe 1, doeHeld := none, doeClose := none, doeUndo := none } }

end Sys2Proof.Machine
end

