-- ==== Sys2Proof/Machine/Horizon.lean ====
section
/-! DEFINITION. The Horizon bus: frames, turns, violations, roles (12, R371-R379), throttle notices and
sympathetic commands (R242-R244), and the steward's clock (R345). -/

namespace Sys2Proof.Machine

/-! ### Sending -/

/-- The bus is served: a configuration with a bus, from step 6 of the start-up on (R348, R371). -/
def State.listens (s : State) : Bool := s.rd F.STW_STATUS_DRAFT 0 != 0 && s.cfg cfgConfig != 0

/-- The steward sends frames: not on bare defaults (R349). -/
def State.transmits (s : State) : Bool := !s.bare && s.cfg cfgConfig != 0

/-- A frame of node `n` with an attachment of a kind; kind 0: none (R373). -/
def hznFrame (n kind : Nat) (hb att : List Byte) : List Byte :=
  let body := le 1 (n % 16 + 16) ++ le 1 kind ++ le 1 (hb.length + att.length) ++ hb ++ att
  0xD5 :: (body ++ le 4 (crc32c body))

/-- `HZN_RQ_CTRL.COUNT`: values outside 1-8 are taken as the nearer end. -/
def State.rqCount (s : State) : Nat := max 1 (min 8 (s.rd F.HZN_RQ_CTRL_COUNT 0))

/-- The attachment of the waiting register request (R375, R387). -/
def State.rqAttachment (s : State) : List Byte :=
  let n := s.rqCount
  let w := s.rd F.HZN_RQ_CTRL_WRITE 0
  le 1 (s.rd F.HZN_RQ_CTRL_NODE 0) ++ le 1 (s.rd I.rqIdent 0) ++ le 1 n ++ le 1 (1 + w) ++
  le 2 (s.rd F.HZN_RQ_CTRL_ADDR 0) ++ le 2 0 ++
  (if w = 1 then (List.range n).flatMap fun k => le 4 (s.rd F.HZN_RQ_BUF_DATA k) else [])

/-- Handles that a heartbeat's throttle notice names (R242). -/
def noticeHandles (hb : List Byte) : List Nat :=
  ((List.range 4).map fun k => numAt hb (14 + 2 * k) 2).filter (· != 0xFFFF)

/-- A node's throttle notice registered (R242, R243): what it says of each job that it names replaces what
the node said before. -/
def State.takeNotice (s : State) (n : Nat) (hb : List Byte) : State :=
  let hs := noticeHandles hb
  let kept := s.weft.notices.filter fun e => !(e.1 == n && hs.contains e.2.1)
  let new := hs.map fun h => (n, h, numAt hb 6 1, s.us)
  { s with weft := { s.weft with notices := kept ++ new } }.restretch

/-- The throttle that a lead's sympathetic command asks of a job's other participants (R244). -/
def State.sympathyFor (s : State) (handle : Nat) : Nat :=
  let t := s.weft.notices.foldl (fun m e =>
    if e.2.1 == handle && s.within e.2.2.2 50000 then max m e.2.2.1 else m) 0
  t - s.cfgIn cfgSympathyMargin 0 50

/-- The job handle of the binding that holds a partition. -/
def State.jobOfPart (s : State) (p : Nat) : Option Nat :=
  match s.partBinding? p with
  | some (b, _) => if (s.job? b).isSome then some (s.rd F.WEFT_JOB_STATE_HANDLE b) else none
  | none => none

/-- The lead's commands applied to the partitions of the jobs they name; a partition of no such job has no
sympathetic throttle (R244). -/
def State.sympathise (s : State) (cmds : List (Nat × Nat)) : State :=
  (List.range 16).foldl (fun s p =>
    let pct := match s.jobOfPart p with
      | some h => cmds.foldl (fun m c => if c.1 = h then max m c.2 else m) 0
      | none => 0
    (s.wr I.sympThr p (min 100 pct)).setThrottle p) s

/-- The lead's commands changed: its own partitions follow with those of its side (R244, R379). -/
def State.setSympathy (s : State) (l : List (Nat × Nat)) : State :=
  State.sympathise { s with stw := { s.stw with sympathy := l } } l

/-- The lead's response to a notice that names jobs (R244): a command is raised at once, and lowered by
`SYMPATHY_LIFT`. -/
def State.respond (s : State) (handles : List Nat) : State :=
  if s.rd F.STW_STATUS_ROLE 0 ≠ 1 ∨ !(s.cfg cfgFlags).testBit 1 then s
  else
    s.setSympathy (handles.foldl (fun l h =>
      let n := s.sympathyFor h
      let now := l.foldl (fun m e => if e.1 = h then max m e.2 else m) 0
      if now < n then l.filter (fun e => e.1 != h) ++ [(h, n)] else l) s.stw.sympathy)

/-- The steward's turn (R372-R375): its frame, with its own request or its oldest answer. -/
def State.sendFrame (s : State) : State :=
  if !s.transmits then s
  else
    let n := s.rd F.STW_STATUS_NODE 0
    let hb := s.heartbeat
    let s := (s.takeNotice n hb).respond (noticeHandles hb)
    if s.on I.rqWaiting 0 then
      (s.send (.horizon (hznFrame n 1 hb s.rqAttachment))).wr I.rqWaiting 0 0
    else match s.hzn.replies with
      | a :: rest =>
        State.send { s with hzn := { s.hzn with replies := rest } } (.horizon (hznFrame n 2 hb a))
      | [] => s.send (.horizon (hznFrame n 0 hb []))

/-- The opener: no frame from a lower node registered in the last 30 ms (R372). -/
def State.isOpener (s : State) : Bool :=
  !(s.hzn.nodes.any fun x =>
    decide (x.1 < s.rd F.STW_STATUS_NODE 0) && !x.2.hb.isEmpty && s.within x.2.at' 30001)

/-- `HZN_ROUND_START` (R372). -/
def execHznRoundStart (s : State) : Result := .next (if s.isOpener then s.sendFrame else s)

/-- `HZN_TURN` (R372). -/
def execHznTurn (s : State) : Result := .next s.sendFrame

/-- `SYMPATHY_LIFT` (R244): the lead's command for a job falls to what the notices still ask. -/
def execSympathyLift (job : BitVec 12) (s : State) : Result :=
  let rest := s.stw.sympathy.filter fun e => e.1 != job.toNat
  let held := s.stw.sympathy.any fun e => e.1 == job.toNat
  let n := s.sympathyFor job.toNat
  .next (s.setSympathy (if held ∧ 0 < n then rest ++ [(job.toNat, n)] else rest))

/-! ### Receiving -/

/-- A frame is well formed (R373, R376): SYNC, version, KIND, LEN and CRC. -/
def frameOk (bs : List Byte) : Bool :=
  let len := numAt bs 3 1
  let kind := numAt bs 2 1
  decide (bs.length = 8 + len) && numAt bs 0 1 == 0xD5 && numAt bs 1 1 / 16 == 1 && decide (kind ≤ 2) &&
  (if kind = 0 then len == 40 else decide (48 ≤ len ∧ len ≤ 80)) &&
  numAt bs (4 + len) 4 == crc32c ((bs.drop 1).take (3 + len))

/-- A frame discarded and counted against a node; eight within 10 s quarantine it (R376, R14). -/
def State.hznViolation (s : State) (n : Nat) : State :=
  let s := (s.bump F.HZN_STATUS_VIOL 0).classC 376 n
  let l := (s.hzn.viol.filter fun v => s.within v.2 10000001) ++ [(n, s.us)]
  if l.countP (fun v => v.1 == n) < 8 then { s with hzn := { s.hzn with viol := l } }
  else
    let nodes := Tab.put s.hzn.nodes n { s.hznNode n with since := 0 } {}
    let s : State := { s with hzn := { s.hzn with viol := l.filter (fun v => v.1 != n), nodes := nodes } }
    (s.wr I.quarantine n 1).wr F.HZN_STATUS_QUARANTINED 0 (setBit (s.rd F.HZN_STATUS_QUARANTINED 0) n)

/-- A heartbeat says that its sender is lead-capable and healthy. -/
def hbEligible (hb : List Byte) : Bool := (numAt hb 0 1).testBit 2 && (numAt hb 0 1).testBit 3

/-- A heartbeat registered (R377): the node stays eligible without a break as long as its heartbeats say
so and are at most 300 ms apart. -/
def State.takeHeartbeat (s : State) (n : Nat) (hb : List Byte) : State :=
  let x := s.hznNode n
  let since :=
    if !hbEligible hb then 0 else if x.since ≠ 0 ∧ s.nodeHeard n then x.since else s.us + 1
  { s with hzn := { s.hzn with nodes := Tab.put s.hzn.nodes n ⟨hb, s.us, since⟩ {} } }

/-- The sympathetic commands of a lead's heartbeat. -/
def hbSympathy (hb : List Byte) : List (Nat × Nat) :=
  ((List.range 4).map fun k => (numAt hb (22 + 3 * k) 2, numAt hb (24 + 3 * k) 1)).filter (·.1 != 0xFFFF)

/-- What a heartbeat of the lead of the own side brings (R244, R378): its commands, and the standby's
period at its phase; `len` is the frame's length in bytes of 2.5 µs. -/
def State.followLead (s : State) (hb : List Byte) (len : Nat) : State :=
  let s := s.sympathise (hbSympathy hb)
  if s.rd F.STW_STATUS_ROLE 0 = 2 then
    s.wr I.periodAt 0 (s.us - len * 5 / 2 - numAt hb 10 2 * 1000000 / 32768)
  else s

/-- A steward that lost its role goes on driving until it has registered two heartbeats of the new lead and
of the new standby (R378). -/
def State.leaveDrive (s : State) (n role : Nat) : State :=
  if s.rd F.STW_STATUS_ROLE 0 ≠ 0 ∨ !s.on I.driving 0 then s
  else
    let s :=
      if role = 1 ∧ n = s.rd F.TH_SUMMARY_LEAD 0 then s.bump I.noRole 0
      else if role = 2 ∧ n = s.rd F.TH_SUMMARY_STANDBY 0 then s.bump I.noRole 1 else s
    if 2 ≤ s.rd I.noRole 0 ∧ (2 ≤ s.rd I.noRole 1 ∨ !s.on F.TH_SUMMARY_STANDBY_VALID 0) then
      s.wr I.driving 0 0
    else s

/-- A good frame of another node (R242-R244, R376-R378, R456). -/
def State.takeFrameOf (s : State) (n : Nat) (bs : List Byte) : State :=
  let hb := (bs.drop 4).take 40
  let role := numAt hb 0 1 % 4
  let s := ((s.takeHeartbeat n hb).takeNotice n hb).respond (noticeHandles hb)
  if n / 8 ≠ s.rd F.STW_STATUS_NODE 0 / 8 then s
  else
    let s := if role = 1 then s.followLead hb bs.length else s
    (s.leaveDrive n role).applyPump

/-- `HZN_FRAME_RX` (R373, R376): a frame in the turn of node `turn`; `inTurn`: it started within it.  An
attachment it carries is a command of its own. -/
def execHznFrameRx (turn : Node) (inTurn : Bool) (bytes : List Byte) (s : State) : Result :=
  if !s.listens ∨ s.on I.quarantine turn.val then .next s
  else
    let src := numAt bytes 1 1 % 16
    let ok := frameOk bytes
    let self := ok && src == s.rd F.STW_STATUS_NODE 0
    let s := if self then (s.fault 61 0).wr I.ownHeard 0 1 else s
    if !ok ∨ !inTurn ∨ src ≠ turn.val then .next (s.hznViolation turn.val)
    else .next (if self then s else s.takeFrameOf src bytes)

/-- `QUARANTINE_END` (R376). -/
def execQuarantineEnd (node : Node) (s : State) : Result :=
  .next ((s.wr I.quarantine node.val 0).wr F.HZN_STATUS_QUARANTINED 0
    (clearBit (s.rd F.HZN_STATUS_QUARANTINED 0) node.val))

/-! ### Requests of this node (R375, R387) -/

/-- `HZN_RQ_SEND`: a write of `HZN_RQ_CTRL.GO`, ignored while busy. -/
def execHznRqSend (s : State) : Result :=
  if !s.hostReach ∨ s.rd F.HZN_RQ_STATUS_STATE 0 = 1 then .next s
  else
    let s := ((s.wr F.HZN_RQ_STATUS_STATE 0 1).wr F.HZN_RQ_STATUS_STATUS 0 0).wr I.rqWaiting 0 1
    .next (s.wr I.rqIdent 0 ((s.rd I.rqIdent 0 + 1) % 256))

/-- `HZN_RQ_TIMEOUT`: 300 ms after the request was sent. -/
def execHznRqTimeout (s : State) : Result :=
  if s.rd F.HZN_RQ_STATUS_STATE 0 = 1 ∧ !s.on I.rqWaiting 0 then .next (s.wr F.HZN_RQ_STATUS_STATE 0 3)
  else .next s

/-- `HZN_REGISTER_RESPONSE`: a response of `source` to this node's pending request. -/
def execHznRegisterResponse (source : Node) (attachment : List Byte) (s : State) : Result :=
  let a := attachment
  if s.rd F.HZN_RQ_STATUS_STATE 0 = 1 ∧ !s.on I.rqWaiting 0 ∧ numAt a 0 1 = s.rd F.STW_STATUS_NODE 0 ∧
      source.val = s.rd F.HZN_RQ_CTRL_NODE 0 ∧ numAt a 1 1 = s.rd I.rqIdent 0 then
    let s := (s.wr F.HZN_RQ_STATUS_STATE 0 2).wr F.HZN_RQ_STATUS_STATUS 0 (numAt a 6 1)
    let n := if numAt a 3 1 = 1 ∧ numAt a 6 1 = 0 then min 8 (numAt a 2 1) else 0
    .next ((List.range n).foldl (fun s k => s.wr F.HZN_RQ_BUF_DATA k (numAt a (8 + 4 * k) 4)) s)
  else .next s

/-! ### Roles (R377-R379) -/

/-- Nodes of the own side other than the own. -/
def State.sideNodes (s : State) : List Nat :=
  let own := s.rd F.STW_STATUS_NODE 0
  (List.range 16).filter fun n => n / 8 == own / 8 && n != own

/-- A node is eligible (R377). -/
def State.eligible (s : State) (n : Nat) : Bool :=
  s.nodeHeard n && !s.on I.quarantine n && hbEligible (s.hznNode n).hb

/-- It has been for 500 ms without a break. -/
def State.longEligible (s : State) (n : Nat) : Bool :=
  let x := s.hznNode n
  s.eligible n && x.since != 0 && decide (x.since - 1 + 500000 ≤ s.us)

/-- The candidates, ascending. -/
def State.candidates (s : State) : List Nat :=
  let own := s.rd F.STW_STATUS_NODE 0
  let cand := (List.range 16).filter fun n =>
    (s.sideNodes.contains n && s.longEligible n) || (n == own && s.leadCapable && s.healthy)
  if cand.isEmpty then s.sideNodes.filter s.eligible else cand

/-- The steward's own role: 0 member, 1 lead, 2 standby, 3 isolated. -/
def State.ownRole (s : State) (cand : List Nat) : Nat :=
  let own := s.rd F.STW_STATUS_NODE 0
  if s.cfg cfgConfig = 0 ∨ !(s.sideNodes.any s.nodePresent) then 3
  else if cand[0]? = some own then 1 else if cand[1]? = some own then 2 else 0

/-- `ROLE_DECIDE` (R377-R379, R503): a change of role is recorded; a steward with a role drives. -/
def execRoleDecide (s : State) : Result :=
  if s.rd F.STW_STATUS_DRAFT 0 = 0 then .next s
  else
    let cand := s.candidates
    let role := s.ownRole cand
    let lead := cand.getD 0 0
    let standby := cand.getD 1 0
    let moved := lead != s.rd F.TH_SUMMARY_LEAD 0 || standby != s.rd F.TH_SUMMARY_STANDBY 0
    let old := s.rd F.STW_STATUS_ROLE 0
    let s := (s.wr F.TH_SUMMARY_LEAD 0 lead).wr F.TH_SUMMARY_STANDBY 0 standby
    let s := (s.wr F.TH_SUMMARY_LEAD_VALID 0 (bit (0 < cand.length))).wr F.TH_SUMMARY_STANDBY_VALID 0
      (bit (1 < cand.length))
    let s := if moved then (s.wr I.noRole 0 0).wr I.noRole 1 0 else s
    let s := s.wr F.STW_STATUS_ROLE 0 role
    let s := if role ≠ 0 then s.wr I.driving 0 1 else s
    let s := if old = 1 ∧ role ≠ 1 then { s with stw := { s.stw with sympathy := [] } } else s
    let s := if old = role then s else s.record 9 role [BitVec.ofNat 8 lead, BitVec.ofNat 8 standby]
    .next s.applyPump

/-! ### The steward's clock (R345) -/

/-- `CRYSTAL_SWITCH`: the crystal clocks the steward. -/
def execCrystalSwitch (s : State) : Result := .next ((s.wr I.crystal 0 1).wr F.STW_STATUS_CLK_RC 0 0)

/-- `CRYSTAL_FAIL`: back to the RC oscillator. -/
def execCrystalFail (s : State) : Result :=
  if s.on I.crystal 0 then .next (((s.wr I.crystal 0 0).wr F.STW_STATUS_CLK_RC 0 1).classC 345 0)
  else .next s

/-- `SMB_CLOCK_TIMEOUT` (R381): the transaction ends; the pointer stays. -/
def execSmbClockTimeout (s : State) : Result := .next (s.bump F.SMB_STATUS_TIMEOUTS 0)

end Sys2Proof.Machine
end

