-- ==== Sys2Proof/Machine/Access.lean ====
section
/-! DEFINITION. Register accesses: what each path reaches, the effect of a write to each register, LO/HI
pairs (R4-R12), the host window's write queue (R264-R266, R289, R290), register requests over the Horizon
bus (R375) and the SMBus target (R381-R385). -/

namespace Sys2Proof.Machine

/-! ### What a path reaches -/

/-- The select and index registers (R8, R63, R130, R220, R253, R285, R420). -/
def isSelect : Reg → Bool
  | .PART_SEL | .CTX_SEL | .SPOOL_SEL | .LINK_SEL | .PART_CL_INDEX | .BEAM_BOLT_INDEX | .HBM_EXT_INDEX
  | .DEC_INDEX | .WEFT_ROUTE_INDEX | .WEFT_BIND_INDEX | .HOST_BIAS_INDEX | .HSW_SEL | .PWR_VCH_INDEX
  | .PWR_RAIL_INDEX | .ZONE_SEL | .SENSOR_SEL | .FAN_SEL | .PUMP_SEL => true
  | _ => false

/-- Registers of the steward window that exist only in the host window (R387). -/
def hostOnly : Reg → Bool
  | .HZN_RQ_CTRL | .HZN_RQ_STATUS | .HZN_RQ_BUF => true
  | _ => false

/-- Windows of BAR0 held by hardware (R264); `CMD_STATUS` is too. -/
def hwHeld (r : Reg) : Bool :=
  let w := (regDesc r).win
  w == .fw || w == .stw || w == .tray || r == .CMD_STATUS

/-- SMBus is served from step 6 of the start-up on (R348, R349, R358). -/
def State.smbServes (s : State) : Bool :=
  s.rd F.STW_STATUS_DRAFT 0 != 0 && (s.bare || (s.cfg cfgFlags).testBit 3)

/-- The map of the SMBus and Horizon register spaces holds the register (R384, R387). -/
def inMap (r : Reg) (horizon : Bool) : Bool :=
  let w := (regDesc r).win
  (w == .stw && !hostOnly r) || w == .tray || w == .mbx || (w == .smb && !horizon)

/-- An access on a path reaches the register: its window is on the path, powered, and served (R259, R264,
R268, R285, R349, R384). -/
def State.reaches (s : State) (p : Path) (r : Reg) : Bool :=
  let w := (regDesc r).win
  let pcie := s.rd F.HOST_LINK_MODE 0 == 1
  match p with
  | .host => s.hostReach && w != .status && w != .mbx && w != .smb && w != .msix &&
      (!pcie || w == .fw || w == .stw)
  | .bar2 => s.hostReach && (w == .status || r == .CMD_STATUS || (w == .msix && !pcie))
  | .smbus => s.smbServes && inMap r false
  | .horizon => s.listens && inMap r true
  | .firmware => s.on I.dieUp 0 && w != .status && w != .mbx && w != .smb && w != .msix && !hostOnly r

/-- A path may write the register: the Horizon bus writes the presence block and the mailbox only (R375);
the steward's registers are read-only in the firmware view but for its own selections (R9, R514), and so are
the WO fields of the firmware window. -/
def State.mayWrite (s : State) (p : Path) (r : Reg) : Bool :=
  let d := regDesc r
  s.reaches p r &&
  match p with
  | .horizon => d.win == .mbx || (d.win == .stw && decide (0xC00 ≤ d.offset))
  | .firmware => !(d.win == .stw || d.win == .tray) || isSelect r || r == .LOG_INDEX
  | _ => true

/-! ### Writes -/

/-- The state that a meaning answers. -/
def State.after (s : State) (f : State → Result) : State :=
  match f s with
  | .next t => t
  | _ => s

/-- The value that a written word gives a field: whole, or one half of a pair (R7). -/
def writtenField (h : Half) (f : Fld) (old : Nat) (v : Word) : Nat :=
  match h with
  | .plain => field v.toNat f.hi f.lo
  | .pairLo => old / 2 ^ 32 * 2 ^ 32 + v.toNat
  | .pairHi => old % 2 ^ 32 + v.toNat * 2 ^ 32

/-- The value that a field takes for a written one: aligned addresses, ring sizes and counts within their
range (R202, R286, R314, R388). -/
def taken (f : Fld) (n : Nat) : Nat :=
  if f ∈ [F.CMD_ADDR, F.FW_LOAD_ADDR] then n / 64 * 64
  else if f ∈ [F.SPOOL_BASE, F.SPOOL_CQ_BASE, F.HOST_EVQ_BASE, F.FW_LOG_BASE] then n / 4096 * 4096
  else if f ∈ [F.SPOOL_SIZE_SQ_LOG2, F.SPOOL_SIZE_CQ_LOG2] then max 4 (min 16 n)
  else if f = F.SPOOL_IRQ_COUNT then max 1 n
  else if f = F.HZN_RQ_CTRL_COUNT then max 1 (min 8 n)
  else n

/-- A write to one field by its access code (R4); WO fields act where their register says. -/
def State.writeField (s : State) (h : Half) (i : Nat) (v : Word) (x : FldDesc) : State :=
  let new := writtenField h x.fld (s.rd x.fld i) v
  match x.access with
  | .rw => s.wr x.fld i (taken x.fld new)
  | .w1c => s.wr x.fld i (s.rd x.fld i &&& (x.fld.size - 1 - new))
  | _ => s

/-- A write to every field of a register's instance by its access code (R4, R6). -/
def State.writeFields (s : State) (r : Reg) (i : Nat) (v : Word) : State :=
  (regDesc r).fields.foldl (fun s x => s.writeField (regDesc r).half i v x) s

/-- The LO/HI pairs whose instance a select register selects (R7). -/
def pairsOf : Reg → List Fld
  | .PART_SEL => [F.PART_ENERGY]
  | .CTX_SEL => [F.CTX_DELTA_TILES, F.CTX_DELTA_SKIPPED]
  | .SPOOL_SEL => [F.SPOOL_BASE, F.SPOOL_CQ_BASE, F.SPOOL_ENERGY]
  | _ => []

/-- The place of a path's latch of a pair. -/
def latchKey (p : Path) (f : Fld) : Nat := f.id * 8 + pathIx p

/-- A write to a select or index register: the path's selection, and its latches of the pairs (R7, R9). -/
def State.writeSelect (s : State) (p : Path) (r : Reg) (v : Word) : State :=
  let s := s.writeFields r (pathIx p) v
  { s with latches := (pairsOf r).foldl (fun m f => Tab.put m (latchKey p f) 0 0) s.latches }

/-- A write to `CTX_DELTA_POLICY` (R148, R155). -/
def State.writePolicy (s : State) (p : Path) (c : Nat) (v : Word) : State :=
  let was := s.on F.CTX_DELTA_POLICY_ENABLE c
  let s := s.writeFields .CTX_DELTA_POLICY c v
  let s := if !was ∧ v.getLsbD 0 then s.addCause c 7 else s
  if v.getLsbD 2 then s.after (execCtxForceRefresh p) else s

/-- A write to `CTX_SHADOW` (R246); a write of 0 to `EN` ends the shadowing. -/
def State.writeShadow (s : State) (p : Path) (c : Nat) (v : Word) : State :=
  if v.getLsbD 0 then s.after (execCtxShadowEnable p)
  else if s.rd F.CTX_STATE_STATE c = 6 then s
  else
    let s := (s.wr F.CTX_SHADOW_EN c 0).wr F.CTX_SHADOW_ACK_PENDING c 0
    (s.wr F.CTX_SHADOW_ROLE c 0).wr F.CTX_SHADOW_STATUS_STATE c 0

/-- A write to `PRES_CMD` (R334-R338): a cancel, or an opcode. -/
def State.writePresCmd (s : State) (p : Path) (v : Word) : State :=
  if v.getLsbD 8 then s.after (execPresCancel p)
  else match field v.toNat 7 0 with
    | 1 => s.after (execPresClearEventLog p)
    | 2 => s.after (execPresEnrolOwnerKey p (Config.validKey ((s.presData p).take 57)))
    | 3 => s.after (execPresRemoveOwner p)
    | 4 => s.after (execPresRewriteProtected p)
    | 5 => s.after (execPresReadIdentity p)
    | op => s.after (execPresBadOpcode p (BitVec.ofNat 8 op))

/-- A write to `DRAFT_CTRL` (R361, R362). -/
def State.writeDraftCtrl (s : State) (p : Path) (v : Word) : State :=
  let s := if v.getLsbD 0 then s.after (execDraftBegin p) else s
  let s := if v.getLsbD 1 then s.after (execDraftCommit p) else s
  if v.getLsbD 2 then s.after (execDraftAbort p) else s

/-- A write to a mailbox (R385): ignored while it is busy. -/
def State.writeMailbox (s : State) (r : Reg) (path i : Nat) (v : Word) : State :=
  if s.rd F.MBX_STATUS_STATE path = 1 then s
  else
    let s := s.writeFields r i v
    if r = .MBX_CTRL ∧ v.getLsbD 31 then s.wr F.MBX_STATUS_STATE path 1 else s

/-- A write to a word of the MSI-X table (R268, R270): a message held by the mask goes out when the vector
is unmasked. -/
def State.writeMsix (s : State) (n : Nat) (v : Word) : State :=
  let k := n / 4
  let a := s.rd I.msixAddr k
  match n % 4 with
  | 0 => s.wr I.msixAddr k (writtenField .pairLo I.msixAddr a v)
  | 1 => s.wr I.msixAddr k (writtenField .pairHi I.msixAddr a v)
  | 2 => s.wr I.msixData k v.toNat
  | _ =>
    let s := s.wr I.msixControl k v.toNat
    if !v.getLsbD 0 ∧ s.on I.msixPending k then (s.wr I.msixPending k 0).hostSend (.msix k) else s

/-- A write to the firmware window (R292-R299, R309, R313); WO fields ignore writes in the firmware view. -/
def State.writeFw (s : State) (p : Path) (r : Reg) (i : Nat) (v : Word) : State :=
  let act := p != .firmware
  match r with
  | .FW_LOAD => if act && v.getLsbD 0 then s.after execFwLoad else s
  | .FW_STAGE => if act && v.getLsbD 0 then s.after execFwStage else s
  | .FW_ACTIVATE =>
    let s := if act && v.getLsbD 0 then s.after execFwActivate else s
    if act && v.getLsbD 1 then s.after execFwActivateCancel else s
  | .FW_LOG_BASE_LO | .FW_LOG_BASE_HI => if s.on F.FW_LOG_SIZE_EN 0 then s else s.writeFields r i v
  | .FW_LOG_SIZE => s.after (execFwLogEnable v)
  | .FW_LOG_HEAD => s.after (execFwLogHeadWrite v)
  | _ => s.writeFields r i v

/-- A write to the steward window, which a path may make. -/
def State.writeStw (s : State) (p : Path) (r : Reg) (i : Nat) (v : Word) : State :=
  match r with
  | .PRES_CMD => s.writePresCmd p v
  | .DRAFT_STG_DATA => s.after (execDraftStgDataWrite p v)
  | .DRAFT_CTRL => s.writeDraftCtrl p v
  | .HZN_RQ_CTRL =>
    let s := s.writeFields r i v
    if v.getLsbD 31 then s.after execHznRqSend else s
  | .HSW_CTRL => if v.getLsbD 0 then s.after (execLatchClr p) else s
  | .PWR_CAP => s.after (execCapWrite p v)
  | .COOL_OVR => s.after (execCoolOverrideWrite p v)
  | .FAULT_STATUS0 => s.after (execFaultStatusClear p 0 v)
  | .FAULT_STATUS1 => s.after (execFaultStatusClear p 1 v)
  | .FAULT_STATUS2 => s.after (execFaultStatusClear p 2 v)
  | .FAULT_STATUS3 => s.after (execFaultStatusClear p 3 v)
  | .LOG_INDEX => s.after (execLogFetch p v)
  | _ => s.writeFields r i v

/-- A write to the windows of the compute die, which a path may make. -/
def State.writeDie (s : State) (p : Path) (r : Reg) (i : Nat) (v : Word) : State :=
  match r with
  | .PART_CTRL => s.after (execPartCtrlWrite p v)
  | .PART_FAULT_CTX =>
    let s := s.writeFields r i v
    if v.getLsbD 31 then s.wr I.faultLive i 0 else s
  | .HDM_CFG => s.after (execHdmApply v)
  | .CTX_DELTA_POLICY => s.writePolicy p i v
  | .CTX_REFRESH_EVERY => s.wr F.CTX_REFRESH_EVERY_N i (max 1 (min 4096 (field v.toNat 12 0)))
  | .CTX_SHADOW => s.writeShadow p i v
  | .CTX_INPUT => s.after (execCtxInputWrite p v)
  | .CMD_GO => if v.getLsbD 0 then s.after (execCmdGo p) else s
  | .SPOOL_BASE_LO | .SPOOL_BASE_HI | .SPOOL_CQ_BASE_LO | .SPOOL_CQ_BASE_HI | .SPOOL_SIZE =>
    if s.on F.SPOOL_SIZE_OPEN i then s else s.writeFields r i v
  | .SPOOL_IRQ => (s.writeFields r i v).spoolDue i
  | .WEFT_CFG => s.wr F.WEFT_CFG_STEP_TIMEOUT_MS i (max 1 (min 1000 (field v.toNat 17 8)))
  | .WEFT_ACCEPT => s.after (execWeftAcceptWrite p v)
  | .HOST_EVQ_BASE_LO | .HOST_EVQ_BASE_HI => if s.on F.HOST_EVQ_SIZE_EN 0 then s else s.writeFields r i v
  | .HOST_EVQ_SIZE => s.after (execEvqEnable v)
  | .HOST_EVQ_HEAD => s.after (execEvqHeadWrite v)
  | .HOST_BIAS_DATA => s.after (execBiasSet p v)
  | _ => s.writeFields r i v

/-- A write that arrives at register `n` of a run on a path (R4, R11). -/
def State.writeReg (s : State) (p : Path) (r : Reg) (n : Nat) (v : Word) : State :=
  if !s.mayWrite p r then s
  else if isSelect r then s.writeSelect p r v
  else match s.regInst p r n with
    | none => s
    | some i =>
      match (regDesc r).win with
      | .fw => s.writeFw p r i v
      | .stw => s.writeStw p r i v
      | .mbx => s.writeMailbox r (pathIx p) i v
      | .msix => if r = .MSIX_TABLE then s.writeMsix i v else s
      | _ => s.writeDie p r i v

/-- `REGISTER_WRITE` (R4-R6, R11). -/
def execRegisterWrite (p : Path) (r : Reg) (n : Nat) (v : Word) (s : State) : Result :=
  .next (s.writeReg p r n v)

/-- `SELECT_WRITE` (R7, R9, R10). -/
def execSelectWrite (p : Path) (r : Reg) (v : Word) (s : State) : Result :=
  .next (if isSelect r ∧ s.mayWrite p r then s.writeSelect p r v else s)

/-! ### Reads -/

/-- The 64-bit field of a pair's half. -/
def pairFld (r : Reg) : Fld := ((regDesc r).fields.map FldDesc.fld).headD F.PART_ENERGY

/-- The other half of the pair whose LO half is given. -/
def hiOf : Reg → Reg
  | .PART_ENERGY_LO => .PART_ENERGY_HI
  | .CTX_DELTA_TILES_LO => .CTX_DELTA_TILES_HI
  | .CTX_DELTA_SKIPPED_LO => .CTX_DELTA_SKIPPED_HI
  | .CMD_ADDR_LO => .CMD_ADDR_HI
  | .SPOOL_BASE_LO => .SPOOL_BASE_HI
  | .SPOOL_CQ_BASE_LO => .SPOOL_CQ_BASE_HI
  | .SPOOL_ENERGY_LO => .SPOOL_ENERGY_HI
  | .HOST_EVQ_BASE_LO => .HOST_EVQ_BASE_HI
  | .FW_LOAD_ADDR_LO => .FW_LOAD_ADDR_HI
  | .FW_LOG_BASE_LO => .FW_LOG_BASE_HI
  | .PWR_ENERGY_LO => .PWR_ENERGY_HI
  | r => r

/-- A path's latch of a pair: valid when it holds the latched half plus 1 (R7). -/
def State.latch (s : State) (p : Path) (f : Fld) : Nat := Tab.get s.latches (latchKey p f) 0

def State.setLatch (s : State) (p : Path) (f : Fld) (x : Nat) : State :=
  { s with latches := Tab.put s.latches (latchKey p f) x 0 }

/-- A read of a register on a path: its word, and what the read does to the latch of a pair (R4, R7). -/
def State.readReg (s : State) (p : Path) (r : Reg) (n : Nat) : Nat × State :=
  let f := pairFld r
  match (regDesc r).half with
  | .plain => (s.regWord p r n, s)
  | .pairLo => (s.regWord p r n, s.setLatch p f (s.regWord p (hiOf r) n + 1))
  | .pairHi =>
    let x := s.latch p f
    if x = 0 then (s.regWord p r n, s) else (x - 1, s.setLatch p f 0)

/-- What a read on a path answers: 0 where the path does not reach the register (R264, R384), ones for a
firmware-held window that firmware does not serve (R266). -/
def State.readOn (s : State) (p : Path) (r : Reg) (n : Nat) : Nat × State :=
  if !s.reaches p r then (0, s)
  else if p = .host ∧ !hwHeld r ∧ !s.on F.HOST_STATUS_FW_UP 0 then (0xFFFFFFFF, s)
  else s.readReg p r n

/-- A read answered on its path. -/
def State.answerRead (s : State) (p : Path) (r : Reg) (n : Nat) : State :=
  let x := s.readOn p r n
  x.2.send (.word p (BitVec.ofNat 32 x.1 : Word).toNat)

/-- `LO_READ` (R7). -/
def execLoRead (p : Path) (r : Reg) (s : State) : Result :=
  .next (if (regDesc r).half = .pairLo then s.answerRead p r 0 else s)

/-- `HI_READ` (R7). -/
def execHiRead (p : Path) (r : Reg) (s : State) : Result :=
  .next (if (regDesc r).half = .pairHi then s.answerRead p r 0 else s)

/-! ### The write queue of the host window (R265, R266, R289, R290) -/

def State.enqueue (s : State) (r : Reg) (n : Nat) (v : Word) : State :=
  { s with host := { s.host with writeQueue := s.host.writeQueue ++ [(r, n, v)] } }

/-- A write of 1 to `CMD_GO` registered in the write queue (R164, R168, R265): `BUSY` at once; its
descriptor is read when the write is applied. -/
def State.registerGo (s : State) : State :=
  let s : State := { s with bnd := { s.bnd with cmd := some .waiting } }
  let s := s.wr F.CMD_STATUS_BUSY 0 1
  if s.on F.HOST_STATUS_FW_UP 0 then (s.wr I.cmdPaused 0 (bit s.emergency)).wr I.cmdDeferred 0 2
  else s.wr I.cmdDeferred 0 1

/-- `BAR0_WRITE` (R164, R265): into the write queue of 256, or dropped, counted and recorded. -/
def execBar0Write (r : Reg) (n : Nat) (v : Word) (s : State) : Result :=
  if !s.reaches .host r then .next s
  else if 256 ≤ s.host.writeQueue.length then .next ((s.bump F.HOST_STATUS_WQ_DROPS 0).classC 265 0)
  else if r = .CMD_GO ∧ n = 0 ∧ v.getLsbD 0 then
    if s.on F.CMD_STATUS_BUSY 0 then .next ((s.classC 164 0).enqueue r n 0)
    else .next (s.registerGo.enqueue r n v)
  else .next (s.enqueue r n v)

/-- A write of the queue applied at its register. -/
def State.applyWrite (s : State) (r : Reg) (n : Nat) (v : Word) : State :=
  if r = .CMD_GO then
    if v.getLsbD 0 ∧ s.bnd.cmd = some .waiting then
      if s.rd I.cmdDeferred 0 = 2 then s.readDesc
      else if s.rd I.cmdDeferred 0 = 1 then s.startCmd else s
    else s
  else s.writeReg .host r n v

/-- Reads whose earlier writes have all been applied are answered, oldest first (R266). -/
def State.answerDue (s : State) : State :=
  let left := s.host.pendingReads.map fun x => (x.1, x.2.1, x.2.2 - 1)
  let s : State := { s with host := { s.host with pendingReads := left.filter fun x => x.2.2 != 0 } }
  (left.filter fun x => x.2.2 == 0).foldl (fun s x => s.answerRead .host x.1 x.2.1) s

/-- `BAR0_WRITE_APPLY` (R265, R290): firmware applies the write at the head; hardware applies one to a window
it holds, also while firmware does not serve. -/
def execBar0WriteApply (s : State) : Result :=
  match s.host.writeQueue with
  | [] => .next s
  | (r, n, v) :: rest =>
    if hwHeld r || s.on F.HOST_STATUS_FW_UP 0 then
      let s : State := { s with host := { s.host with writeQueue := rest } }
      .next (s.applyWrite r n v).answerDue
    else .next s

/-- `BAR0_READ` (R266): hardware-held registers at once; firmware-held ones after the writes before it. -/
def execBar0Read (r : Reg) (n : Nat) (s : State) : Result :=
  if !s.hostReach then .next s
  else if hwHeld r ∨ !s.reaches .host r ∨ !s.on F.HOST_STATUS_FW_UP 0 ∨ s.host.writeQueue.isEmpty then
    .next (s.answerRead .host r n)
  else .next { s with host := { s.host with
    pendingReads := s.host.pendingReads ++ [(r, n, s.host.writeQueue.length)] } }

/-- `BAR0_READ_TIMEOUT` (R289): the oldest read not answered is, and counted. -/
def execBar0ReadTimeout (s : State) : Result :=
  match s.host.pendingReads with
  | [] => .next s
  | _ :: rest =>
    let s : State := { s with host := { s.host with pendingReads := rest } }
    .next ((s.bump F.FW_RESTARTS_READ_TIMEOUTS 0).send (.word .host 0xFFFFFFFF))

/-! ### The SMBus and Horizon register spaces (R384) -/

/-- The registers of the map. -/
def mapRegs : List Reg :=
  [.STW_STATUS, .STW_CONFLICTS, .DRAFT_STG_ADDR, .DRAFT_STG_DATA, .DRAFT_CTRL, .HSW_SEL, .HSW_STATE,
    .HSW_MEAS, .HSW_TRIPS, .HSW_CTRL, .PWR_INPUT, .PWR_FET, .PWR_FRONT, .PWR_VCH_INDEX, .PWR_VCH_DATA,
    .PWR_RAIL_INDEX, .PWR_RAIL_DATA, .PWR_RAIL_IOUT, .PWR_SEQ, .PWR_CAP, .PWR_CAP_STATUS, .PWR_PKG,
    .PWR_ENERGY_LO, .PWR_ENERGY_HI, .PWR_CORR, .THM_STATUS, .ZONE_SEL, .THM_ZONE_TEMP, .THM_ZONE_LIMITS,
    .SENSOR_SEL, .THM_SENSOR_DATA] ++
  [.FAN_SEL, .FAN_STATUS, .COOL_OVR, .COOL_STATUS, .PUMP_SEL, .PUMP_STATUS, .PUMP_FLOW, .LEAK_STATUS,
    .LEAK_OHM, .FAULT_STATUS0, .FAULT_STATUS1, .FAULT_STATUS2, .FAULT_STATUS3, .FAULT_FIRST_SRC, .FAULT_OVF,
    .FAULT_CLASSC, .FAULT_ESC, .LOG_INDEX, .LOG_STATUS, .LOG_PERM, .LOG_SEQ, .LOG_TIME, .LOG_CYCLES,
    .LOG_DATA, .HZN_STATUS, .PRES_CMD, .PRES_STATUS, .PRES_GRANT, .PRES_DATA, .PRES_RESULT, .TH_SUMMARY,
    .TH_NODE_STATUS, .TH_NODE_THERMAL, .TH_NODE_POWER, .MBX_CTRL, .MBX_STATUS, .MBX_DATA, .SMB_STATUS]

/-- The address of register 0 of a run in the map; the mailbox's and `SMB_STATUS`'s offsets are addresses. -/
def mapBase (r : Reg) : Nat :=
  let d := regDesc r
  if d.win = .tray then 0x1000 + d.offset else d.offset

/-- The register at an address of the map, and its number in its run. -/
def locate (a : Nat) : Option (Reg × Nat) :=
  (mapRegs.find? fun r =>
    let d := regDesc r
    decide (mapBase r ≤ a ∧ a < mapBase r + d.count * d.stride) && (a - mapBase r) % d.stride == 0).map
      fun r => (r, (a - mapBase r) / (regDesc r).stride)

/-- A read at an address of the map; other addresses read 0. -/
def State.readAt (s : State) (p : Path) (a : Nat) : Nat × State :=
  match locate a with
  | some (r, n) => s.readOn p r n
  | none => (0, s)

/-- A write at an address of the map; other addresses ignore it. -/
def State.writeAt (s : State) (p : Path) (a : Nat) (v : Word) : State :=
  match locate a with
  | some (r, n) => s.writeReg p r n v
  | none => s

/-- `n` registers read in order from an address: their bytes. -/
def State.readRun (s : State) (p : Path) (a : Nat) : Nat → List Byte × State
  | 0 => ([], s)
  | n + 1 =>
    let x := s.readAt p (a % 2 ^ 16)
    let y := x.2.readRun p (a + 4) n
    (le 4 x.1 ++ y.1, y.2)

/-- Registers written in order from an address. -/
def State.writeRun (s : State) (p : Path) (a : Nat) : Nat → List Byte → State
  | 0, _ => s
  | n + 1, bs =>
    (s.writeAt p (a % 2 ^ 16) (BitVec.ofNat 32 (ofLe (bs.take 4)))).writeRun p (a + 4) n (bs.drop 4)

/-! ### SMBus (R381-R383) -/

/-- A write is discarded, counted and recorded (R383). -/
def State.smbDiscard (s : State) : State := (s.bump F.SMB_STATUS_DISCARDS 0).classC 383 0

/-- A write's packet passes (R383): its PEC, and its last byte. -/
def State.smbPacketOk (s : State) (pec : SmbPec) (whole : Bool) : Bool :=
  whole && match pec with
    | .good => true
    | .bad => false
    | .none => s.bare || !(s.cfg cfgFlags).testBit 2

/-- `SMB_SET_POINTER` (R382, R383): bits [1:0] are taken as 0. -/
def execSmbSetPointer (ptr : BitVec 16) (pec : SmbPec) (whole : Bool) (s : State) : Result :=
  if !s.smbServes then .next s
  else if !s.smbPacketOk pec whole then .next s.smbDiscard
  else .next (s.wr I.smbPtr 0 (ptr.toNat / 4 * 4))

/-- `SMB_BLOCK_WRITE` (R382, R383): consecutive registers from the pointer, which advances by the count. -/
def execSmbBlockWrite (count : Nat) (bytes : List Byte) (pec : SmbPec) (whole : Bool) (s : State) : Result :=
  if !s.smbServes then .next s
  else if !s.smbPacketOk pec whole ∨ count < 4 ∨ 32 < count ∨ count % 4 ≠ 0 ∨ bytes.length ≠ count then
    .next s.smbDiscard
  else
    let a := s.rd I.smbPtr 0
    .next ((s.writeRun .smbus a (count / 4) bytes).wr I.smbPtr 0 ((a + count) % 2 ^ 16))

/-- A block read of `n` registers: the count, the bytes, the pointer moved on. -/
def State.smbRead (s : State) (n : Nat) : State :=
  if !s.smbServes then s
  else
    let a := s.rd I.smbPtr 0
    let x := s.readRun .smbus a n
    (x.2.wr I.smbPtr 0 ((a + 4 * n) % 2 ^ 16)).send (.block .smbus (le 1 (4 * n) ++ x.1))

/-- `SMB_BLOCK_READ` (R382): one register. -/
def execSmbBlockRead (s : State) : Result := .next (s.smbRead 1)

/-- `SMB_BLOCK_READ8` (R382): eight registers. -/
def execSmbBlockRead8 (s : State) : Result := .next (s.smbRead 8)

/-! ### Register requests over the Horizon bus (R375) -/

/-- The status of a request: 1 bad address or count, 2 not writable, 0 done. -/
def rqStatus (op addr count : Nat) : Nat :=
  let last := addr + 4 * count
  if count < 1 ∨ 8 < count ∨ addr % 4 ≠ 0 ∨ 0x3000 < last ∨ op < 1 ∨ 2 < op then 1
  else if op = 2 ∧ !(decide (0xC00 ≤ addr ∧ last ≤ 0x1000) || decide (0x2000 ≤ addr)) then 2 else 0

/-- `HZN_REGISTER_REQUEST`: a request of another node to this one is carried out and its answer waits for a
turn, in the order of registration. -/
def execHznRegisterRequest (source : Node) (attachment : List Byte) (s : State) : Result :=
  let a := attachment
  if !s.listens ∨ s.on I.quarantine source.val ∨ numAt a 0 1 ≠ s.rd F.STW_STATUS_NODE 0 then .next s
  else
    let count := numAt a 2 1
    let op := numAt a 3 1
    let addr := numAt a 4 2
    let st := rqStatus op addr count
    let x := if st = 0 ∧ op = 1 then s.readRun .horizon addr count else ([], s)
    let s := if st = 0 ∧ op = 2 then x.2.writeRun .horizon addr count (a.drop 8) else x.2
    let reply := le 1 source.val ++ le 1 (numAt a 1 1) ++ le 1 count ++ le 1 op ++ le 2 addr ++ le 1 st ++
      le 1 0 ++ x.1
    .next { s with hzn := { s.hzn with replies := s.hzn.replies ++ [reply] } }

end Sys2Proof.Machine
end

