-- ==== Sys2Proof/Machine/Arith.lean ====
section
/-! DEFINITION. Steps of the matrix engine and the vector unit (03_arithmetic). -/

namespace Sys2Proof.Machine

/-! ### Scratch -/

/-- Bytes written into a core's scratch of 24 KiB (R35): an address beyond it does not exist.  A line
written whole has new check bits, so its poison mark goes. -/
def State.scratchWrite (s : State) (c : CoreId) (off : Nat) (bs : List Byte) : State :=
  let base := coreIx c * 2 ^ 15
  let bs := bs.take (24576 - off)
  let m := bs.zipIdx.foldl (fun m x => Tab.put m (base + off + x.2) x.1 0) s.arr.scratch
  let whole (k : Nat) : Bool :=
    k / 512 == coreIx c && decide (off ≤ k % 512 * 64 ∧ k % 512 * 64 + 64 ≤ off + bs.length)
  let marks := Tab.clear whole s.arr.scratchPoison
  { s with arr := { s.arr with scratch := m, scratchPoison := marks } }

def State.scratchByte (s : State) (c : CoreId) (off : Nat) : Byte :=
  Tab.get s.arr.scratch (coreIx c * 2 ^ 15 + off) 0

/-- 4-bit codes packed two to a byte, the even index in bits [3:0] (R74, R78). -/
def packNibbles : List Nat → List Byte
  | [] => []
  | [a] => [BitVec.ofNat 8 (a % 16)]
  | a :: b :: l => BitVec.ofNat 8 (a % 16 + 16 * (b % 16)) :: packNibbles l

def codeBytes (n : Nat) (cs : List Nat) : List Byte := cs.flatMap (le n)

/-- Saturations and NaNs counted in `PART_ARITH_STATUS` (R76, R80, R83, R84, R87, R89). -/
def State.countArith (s : State) (c : CoreId) (sat nan : Nat) : State :=
  (s.bumpBy F.PART_ARITH_STATUS_SAT_COUNT c.part.val sat).bumpBy
    F.PART_ARITH_STATUS_NAN_COUNT c.part.val nan

/-! ### The matrix engine -/

def State.accEntry (s : State) (c : CoreId) (e : Nat) : Nat := Tab.get s.arr.acc (coreIx c * 1024 + e) 0

def State.setAcc (s : State) (c : CoreId) (e v : Nat) : State :=
  { s with arr := { s.arr with acc := Tab.put s.arr.acc (coreIx c * 1024 + e) v 0 } }

/-- The products of a pass for one weight column (R81 step 1). -/
def products (p : PassPair) (act col : PassVec) : List Num :=
  (List.range (passK p)).map fun k =>
    (actVal p act.scale (act.codes.getD k 0)).mul (wVal p col.scale (col.codes.getD k 0))

/-- The products of an INT8 pass for one weight column (R84). -/
def intProducts (act col : PassVec) : List Int :=
  (List.range 16).map fun k => toSigned 8 (act.codes.getD k 0) * toSigned 8 (col.codes.getD k 0)

/-- One accumulator entry updated by a pass (R81-R84). -/
def State.passColumn (s : State) (c : CoreId) (x : Pass) (col : PassVec) (e : Nat) : State :=
  let old := s.accEntry c e
  match x.pair with
  | .int8 =>
    let r := ia32Pass old (intProducts x.act col)
    (s.setAcc c e r.1).countArith c (bit r.2) 0
  | _ =>
    let r := fa32Pass old (products x.pair x.act col)
    (s.setAcc c e r.1).countArith c (bit r.2.1) (bit r.2.2)

/-- The weight registers hold the columns of a pass (R45). -/
def State.loadWeights (s : State) (c : CoreId) (cols : List PassVec) : State :=
  let m := (cols.take 16).zipIdx.foldl (fun m x =>
    x.1.codes.zipIdx.foldl (fun m y =>
      if y.2 < 32 then Tab.put m (coreIx c * 512 + x.2 * 32 + y.2) y.1 0 else m) m) s.arr.weights
  { s with arr := { s.arr with weights := m } }

/-- `MATRIX_PASS` (R69, R81-R84): one update of the accumulator entries of one activation vector. -/
def execMatrixPass (c : CoreId) (x : Pass) (s : State) : Result :=
  .next (x.cols.zipIdx.foldl (fun s y =>
    if x.entry.val + y.2 < 1024 then s.passColumn c x y.1 (x.entry.val + y.2) else s)
    (s.loadWeights c x.cols))

/-! ### Encodings and conversions -/

/-- The 32 FP32 words of a block; words that are not given are 0. -/
def block32 (x : List Word) : List Nat := ((x.map BitVec.toNat) ++ List.replicate 32 0).take 32

/-- `MX_ENCODE` (R75, R76, R74). -/
def execMxEncode (c : CoreId) (fmt : MxFmt) (x : List Word) (dst sdst : Nat) (s : State) : Result :=
  let b := mxBlock fmt (block32 x)
  let bytes := if fmt = .e2m1 then packNibbles b.codes else codeBytes 1 b.codes
  .next (((s.scratchWrite c dst bytes).scratchWrite c sdst (le 1 b.scale)).countArith c b.sat b.nan)

/-- `DQ4_ENCODE` (R79, R80, R78). -/
def execDq4Encode (c : CoreId) (x : List Word) (dst sdst : Nat) (s : State) : Result :=
  let b := dq4Block (block32 x)
  .next (((s.scratchWrite c dst (packNibbles b.codes)).scratchWrite c sdst (le 1 b.scale)).countArith
    c b.sat b.nan)

/-- A NaN word whose sign and fraction the manual does not fix. -/
def State.drawNan (s : State) : Nat × State :=
  let r := s.draw
  (bit (r.1 % 2 == 1) * 2 ^ 31 + 0x7F800000 + max 1 (r.1 / 2 % 2 ^ 23), r.2)

/-- A word of FP32 that the manual does not fix. -/
def State.drawWord (s : State) : Nat × State := let r := s.draw; (r.1 % 2 ^ 32, r.2)

/-- A number to FP32 (R89: exact, NaN and infinity kept).  Which NaN, and what a value that FP32 does not
hold becomes, the manual does not fix. -/
def State.toFp32 (s : State) (x : Num) : Nat × State :=
  match x with
  | .nan _ => s.drawNan
  | .inf neg => (fp32.signed neg (255 * 2 ^ 23), s)
  | .fin neg m e =>
    let mag := fp32.round m e
    match fp32.decode mag with
    | .fin _ n f => if dyLe m e n f && dyLe n f m e then (fp32.signed neg mag, s) else s.drawWord
    | _ => s.drawWord

/-- One conversion (R89): the code, its saturations and NaNs, and the state after the draws. -/
def State.convert (s : State) (k : Conv) (sat : Bool) (x : Nat) : Converted × State :=
  match k with
  | .toBf16 => (convFp bf16 sat x, s)
  | .toE4m3 => (convFp e4m3 sat x, s)
  | .toE5m2 => (convFp e5m2 sat x, s)
  | .toInt8 => (convToInt8 x, s)
  | .ia32ToFp32 =>
    let v := toSigned 32 x
    ({ code := fp32.signed (decide (v < 0)) (fp32.round v.natAbs 0) }, s)
  | .toFp32 src scale =>
    let r := s.toFp32 ((elemVal src x).scaled scale)
    ({ code := r.1 }, r.2)

/-- Bytes of one result of a conversion. -/
def convWidth : Conv → Nat
  | .toBf16 => 2
  | .toE4m3 | .toE5m2 | .toInt8 => 1
  | .ia32ToFp32 | .toFp32 _ _ => 4

/-- `VECTOR_CONVERT` (R89): each word converted, the results written in order. -/
def execVectorConvert (c : CoreId) (k : Conv) (sat : Bool) (x : List Word) (dst : Nat) (s : State) :
    Result :=
  let r := x.foldl (fun (a : List Converted × State) w =>
    let y := a.2.convert k sat w.toNat
    (a.1 ++ [y.1], y.2)) ([], s)
  let s := r.2.scratchWrite c dst (codeBytes (convWidth k) (r.1.map Converted.code))
  .next (s.countArith c (r.1.map Converted.sat).sum (r.1.map Converted.nan).sum)

/-- The seed of a lane's generator (R88): fixed, by logical cluster and core, or from the entropy source
and never 0. -/
def State.laneSeed (s : State) (c : CoreId) (lane : Nat) : Nat :=
  let p := c.part.val
  let i := clusterIx p c.cluster.val
  if s.on I.srFixed p then
    let cl := s.rd F.PART_CL_DATA_LOGICAL i
    let core := popCount c.core.val (s.rd F.PART_CL_DATA_MAPPED i)
    0x9E3779B9 ^^^ (p * 2 ^ 24 ||| cl * 2 ^ 16 ||| core * 2 ^ 8 ||| lane)
  else max 1 (Config.free (s.rd I.srSeed p) / 2 ^ (32 * (coreIx c % 4096 * 16 + lane)) % 2 ^ 32)

/-- The generator of a lane. -/
def State.lane (s : State) (c : CoreId) (lane : Nat) : Nat :=
  Tab.get s.arr.xorshift (coreIx c * 16 + lane) (s.laneSeed c lane)

/-- `DS24_WRITEBACK` (R87, R88): the lane's generator advances once; three bytes, little-endian (R86). -/
def execDs24Writeback (c : CoreId) (lane : Fin 16) (x : Word) (dst : Nat) (s : State) : Result :=
  let g := xorshift (s.lane c lane.val)
  let m := Tab.put s.arr.xorshift (coreIx c * 16 + lane.val) g (s.laneSeed c lane.val)
  let s : State := { s with arr := { s.arr with xorshift := m } }
  let r := ds24Write x.toNat (g % 256)
  .next ((s.scratchWrite c dst (le 3 r.code)).countArith c r.sat 0)

/-! ### Vector operations (R90) -/

/-- A result that the manual bounds and does not fix: any word that meets the bound; `near` is one. -/
def State.drawNear (s : State) (ok : Nat → Bool) (nearest : Nat) : Nat × State :=
  let r := s.drawWord
  (if ok r.1 then r.1 else nearest, r.2)

/-- An exact result correctly rounded to FP32. -/
def State.rounded (s : State) (x : Num) : Nat × State :=
  match x with
  | .nan _ => s.drawNan
  | .inf neg => (fp32.signed neg (255 * 2 ^ 23), s)
  | .fin neg m e => (fpOf neg m e, s)

/-- Minimum or maximum (R90): the non-NaN operand; of two zeros of opposite signs, either. -/
def State.minMax (s : State) (max : Bool) (x y : Nat) : Nat × State :=
  let nx := (fp32.decode x).isNan
  let ny := (fp32.decode y).isNan
  if nx && ny then s.drawNan
  else if nx then (y, s)
  else if ny then (x, s)
  else if rank x = rank y ∧ x ≠ y then
    let r := s.draw
    (if r.1 % 2 = 0 then x else y, r.2)
  else (if (decide (rank x ≤ rank y)) != max then x else y, s)

/-- The integer square root of a number below 2^128, by bits. -/
def isqrt (n : Nat) : Nat :=
  (List.range 64).foldl (fun r k =>
    let t := r + 2 ^ (63 - k)
    if t * t ≤ n then t else r) 0

/-- The square root of `m · 2^e` to 30 bits or more, as significand and exponent. -/
def rootOf (m : Nat) (e : Int) : Nat × Int :=
  if e % 2 = 0 then (isqrt (m * 2 ^ 60), e / 2 - 30)
  else (isqrt (2 * m * 2 ^ 60), (e - 1) / 2 - 30)

/-- A quotient bounded to `tol` ulp (R90); a division by zero or beyond FP32's range has no stated
result. -/
def State.quotient (s : State) (neg : Bool) (m : Nat) (e : Int) (n : Nat) (f : Int) (tol : Nat) :
    Nat × State :=
  if n = 0 then s.drawWord
  else
    let sh := 64 + Nat.log2 n
    let q := m * 2 ^ sh / n
    let best := fpOf neg q (e - f - sh)
    if fp32.overflows (best % 2 ^ 31) then s.drawWord
    else s.drawNear (fun c => near c neg m n (e - f) tol (quotUlp m n (e - f))) best

/-- One element of a vector operation that is no comparison. -/
def State.vectorElem (s : State) (op : VOp) (x y z : Nat) : Nat × State :=
  let a := fp32.decode x
  let b := fp32.decode y
  match op with
  | .add => s.rounded (a.add b)
  | .sub => s.rounded (a.add b.neg)
  | .mul => s.rounded (a.mul b)
  | .fma => s.rounded ((a.mul b).add (fp32.decode z))
  | .min => s.minMax false x y
  | .max => s.minMax true x y
  | .compare _ => (0, s)
  | .div =>
    if a.isNan || b.isNan then s.drawNan
    else match a, b with
      | .fin na m e, .fin nb n f => s.quotient (na != nb) m e n f 2
      | _, _ => s.drawWord
  | .recip =>
    match a with
    | .nan _ => s.drawNan
    | .fin na m e => s.quotient na 1 0 m e 1
    | .inf _ => s.drawWord
  | .sqrt =>
    match a with
    | .nan _ => s.drawNan
    | .fin neg m e =>
      if m = 0 then s.drawNear (fun c => near c false 0 1 0 2 (-149)) x
      else if neg then s.drawWord
      else let r := rootOf m e; s.drawNear (fun c => nearRoot false c m e 2) (fpOf false r.1 r.2)
    | .inf _ => s.drawWord
  | .rsqrt =>
    match a with
    | .nan _ => s.drawNan
    | .fin neg m e =>
      if m = 0 ∨ neg then s.drawWord
      else
        let r := rootOf m e
        s.drawNear (fun c => nearRoot true c m e 1) (fpOf false (2 ^ 120 / r.1) (-120 - r.2))
    | .inf _ => s.drawWord
  | .exp2 =>
    match a with
    | .nan _ => s.drawNan
    | .fin neg m e =>
      -- R90 bounds the result on normal inputs and results
      let p := fxExp2 (fxOf neg m e)
      let best := fpOf false p.1 p.2
      if x % 2 ^ 31 < 2 ^ 23 ∨ best < 2 ^ 23 ∨ fp32.overflows best then s.drawWord
      else s.drawNear (fun c => nearExp2 c neg m e) best
    | .inf _ => s.drawWord
  | .log2 =>
    match a with
    | .nan _ => s.drawNan
    | .fin neg m e =>
      if neg ∨ x < 2 ^ 23 then s.drawWord
      else
        let k := Nat.log2 m
        let v : Int := (e + k) * fxOne + fxLog2 (m * fxOne / 2 ^ k)
        s.drawNear (fun c => nearLog2 c m e) (fpOf (decide (v < 0)) v.natAbs (-120))
    | .inf _ => s.drawWord
  | .fn f =>
    match a with
    | .nan _ => s.drawNan
    | .fin neg m e =>
      let v := fxFunction f neg m e
      s.drawNear (fun c => nearFunction f c neg m e) (fpOf (decide (v < 0)) v.natAbs (-120))
    | .inf _ => s.drawWord

/-- An operand word of a vector operation as FP32: a BF16 code is the upper half of a word. -/
def vectorWord (half : Bool) (w : Word) : Nat := if half then w.toNat % 2 ^ 16 * 2 ^ 16 else w.toNat

/-- `VECTOR_OP` (R90): element by element; a comparison sets predicate bits from `dst` on (R38), every
other operation writes its results to scratch, at BF16 rounded once more. -/
def execVectorOp (c : CoreId) (op : VOp) (half : Bool) (x y z : List Word) (dst : Nat) (s : State) :
    Result :=
  match op with
  | .compare k =>
    let m := (List.range 8).foldl (fun m i =>
      if dst ≤ i ∧ i - dst < x.length then
        let r := compareFp k (vectorWord half (x.getD (i - dst) 0)) (vectorWord half (y.getD (i - dst) 0))
        if r then setBit m i else clearBit m i
      else m) (Tab.get s.arr.preds (coreIx c) 0)
    .next { s with arr := { s.arr with preds := Tab.put s.arr.preds (coreIx c) m 0 } }
  | _ =>
    let r := x.zipIdx.foldl (fun (a : List Nat × State) w =>
      let v := a.2.vectorElem op (vectorWord half w.1) (vectorWord half (y.getD w.2 0))
        (vectorWord half (z.getD w.2 0))
      (a.1 ++ [v.1], v.2)) ([], s)
    let bytes := if half then codeBytes 2 (r.1.map fun v => (convFp bf16 false v).code)
      else codeBytes 4 r.1
    .next (r.2.scratchWrite c dst bytes)

/-! ### Selections (R33, R91) -/

/-- Candidates with their indices in descending order of value, ties in ascending order of index. -/
def ranked (x : List Word) : List (Word × Nat) :=
  sortBy (fun a b => decide (rank b.1.toNat ≤ rank a.1.toNat)) x.zipIdx

/-- `TOP_K` (R33, R91): the K largest of at most 65,536 candidates, written as words in descending order
and then their indices. -/
def execTopK (c : CoreId) (k : Fin 257) (x : List Word) (dst : Nat) (s : State) : Result :=
  let best := (ranked (x.take 65536)).take k.val
  .next (s.scratchWrite c dst
    (codeBytes 4 (best.map fun e => e.1.toNat) ++ codeBytes 4 (best.map fun e => e.2)))

/-- `COMPACTION` (R33): the elements of at most 65,536 that the mask keeps, in their order. -/
def execCompaction (c : CoreId) (x : List Word) (mask : List Bool) (dst : Nat) (s : State) : Result :=
  let kept := ((x.take 65536).zip mask).filterMap fun e => if e.2 then some e.1.toNat else none
  .next (s.scratchWrite c dst (codeBytes 4 kept))

end Sys2Proof.Machine
end

