-- ==== Sys2Proof/Machine/StartUp.lean ====
section
/-! DEFINITION. Auxiliary power: the start-up of the steward, the Draft coming into force, and the loss of
`AUX_3V3` (R315, R319, R331, R348-R369, R505-R513, R522, R523). -/

namespace Sys2Proof.Machine

/-- Power-on reset of the Selvage die: everything at its reset value but the flash, and what the model itself
counts and keeps. -/
def State.powerOnReset (s : State) : State :=
  let t : State := { State.reset with
    pending := s.pending
    us := s.us
    free := s.free
    out := s.out
    stw := { State.reset.stw with flash := s.stw.flash } }
  t.wr I.bootCount 0 (s.rd I.bootCount 0)

/-- `AUX_POWER_UP` (R319, R348, R349, R522): the power-on reset is released; `idOk`: the identity key passes
its check. -/
def execAuxPowerUp (idOk : Bool) (s : State) : Result :=
  let s := s.powerOnReset.wr I.auxUpAt 0 s.us
  .next (if idOk then s else (s.wr F.SEC_STATUS_ID_FAIL 0 1).fault 59 0)

/-! ### The Draft (R355-R369) -/

/-- The bank that R355 chooses: the usable one of the higher generation. -/
def State.chosenBank (s : State) : Option Nat :=
  let a := s.bank 0
  let b := s.bank 1
  if a.usable && b.usable then some (if a.generation < b.generation then 1 else 0)
  else if a.usable then some 0 else if b.usable then some 1 else none

/-- The node number (after R371; R357): the slot, and 8 more on side B; 0 in the bench configuration. -/
def State.nodeNumber (s : State) (slot : Nat) : Nat :=
  if s.bare then slot
  else if s.cfg cfgConfig = 0 then 0
  else slot + 8 * (if s.cfg cfgConfig = 3 then s.cfg cfgSide else 0)

/-- The jumper sampled as the Draft read ends (R331, R369). -/
def State.sampleJumper (s : State) (fitted : Bool) : State :=
  if fitted && s.hasFn 7 0 then
    ((s.wr F.PRES_GRANT_JMP_FITTED 0 1).wr F.PRES_GRANT_JMP_GRANT 0 1).wr I.jmpAt 0 s.us
  else s

/-- Count, operating time and places in the log restored (R505-R507); with an unusable flash the count is 1. -/
def State.restoreTime (s : State) (flashOk : Bool) : State :=
  if flashOk then s.restoreLog else s.wr F.LOG_CYCLES_CYCLES 0 1

/-- Bare defaults kept until the next auxiliary power-up (R349, R350, R355): class A source 13. -/
def State.stayBare (s : State) (x : DraftIn) (cause : Nat) : State :=
  let s := (s.wr F.STW_STATUS_DRAFT 0 3).wr F.STW_STATUS_BARE_CAUSE 0 cause
  let s := (s.wr F.STW_STATUS_NODE 0 x.slot.val).wr F.STW_STATUS_ROLE 0 3
  ((s.restoreTime x.flashOk).sampleJumper x.jumper).fault 13 cause

/-- The settings of a bank in force (R315, R348 step 6, R354, R360, R368). -/
def State.takeDraft (s : State) (b : Nat) : State :=
  let k := s.bank b
  let repair := ((bodyOf k.draft 0x0A).map fun body => (repairEntries body).filterMap entryOf).getD []
  let s : State := { s with stw := { s.stw with
    draft := k.draft
    draftMeas := Config.shake256 (k.header ++ k.area)
    repair := repair } }
  let s := (s.wr F.STW_STATUS_DRAFT 0 (1 + b)).wr F.STW_STATUS_GENERATION 0 (k.generation % 2 ^ 16)
  (s.wr I.draftBank 0 b).wr I.draftGen 0 k.generation

/-- The start of service with a Draft (R348 step 6, R378, R416, R458, R506, R511). -/
def State.startService (s : State) : State :=
  let ops := s.stw.records.map fun _ => FlashOp.record
  let s : State := { s with stw := { s.stw with flashOps := s.stw.flashOps ++ ops } }
  let s := s.record 7 1
    (le 1 (s.rd F.STW_STATUS_DRAFT 0) ++ le 3 0 ++ le 4 (s.rd I.draftGen 0))
  let s := ((s.queueCheckpoint 3).wr F.STW_STATUS_ROLE 0 3).wr I.driving 0 1
  let s := s.startChannels
  if s.on F.FAULT_ESC_SAFE 0 then s
  else (s.wr I.holdFull 0 0).wr F.PWR_SEQ_STEP 0 1

/-- `DRAFT_IN_FORCE` (R348 steps 4-6): the bank chosen and checked, its settings in force, or bare defaults
kept. -/
def execDraftInForce (x : DraftIn) (s : State) : Result :=
  if s.rd F.STW_STATUS_DRAFT 0 ≠ 0 ∨ s.on I.porHeld 0 then .next s
  else
    let s := (s.wr I.slot 0 x.slot.val).wr I.flashSuspend 0 (bit x.suspend)
    if !x.flashOk then .next (s.stayBare x 1)
    else match s.chosenBank with
      | none => .next (s.stayBare x 2)
      | some b =>
        if !(s.bank b).checked x.slot.val then
          let s := (s.wr I.draftBank 0 b).wr I.draftGen 0 (s.bank b).generation
          .next (s.stayBare x 3)
        else
          let s := s.takeDraft b
          let s := (s.wr F.STW_STATUS_NODE 0 (s.nodeNumber x.slot.val)).restoreTime true
          .next ((s.setPins.sampleJumper x.jumper).startService)

/-! ### Loss of auxiliary power (R504, R511, R513, R522, R523) -/

/-- The flash operation that the loss of power interrupts: a record's or a checkpoint's slot torn, an entry
or a bank without its last byte. -/
def State.tearFlash (s : State) : State :=
  let other := bankBase s.otherBank
  match s.stw.flashOps with
  | .record :: _ =>
    match s.stw.records with
    | r :: _ => s.program (circAt (s.rd I.circPos 0) + 1) (le 1 r.type)
    | [] => s
  | .checkpoint kind :: _ => s.program (ckptAt (s.rd I.ckptPos 0) + 1) (le 1 kind)
  | .retirement :: _ =>
    match s.stw.retireQueue, s.erasedEntry? s.bankInUse with
    | r :: _, some a => s.program a ((retirementHead r).take 11)
    | _, _ => s
  | .presence :: _ => s.eraseFlash other 0x20000
  | .commit :: _ => s
  | [] => if s.rd F.DRAFT_CTRL_STATE 0 = 1 then s.eraseFlash other 0x20000 else s

/-- `AUX_POWER_LOSS`: power-on reset asserts; `torn`: it interrupts the flash operation in progress. -/
def execAuxPowerLoss (torn : Bool) (s : State) : Result :=
  let s := (if torn then s.tearFlash else s).powerOnReset
  .next ((s.wr I.holdFull 0 0).wr I.porHeld 0 1)

end Sys2Proof.Machine
end

