-- ==== Sys2Proof/Machine/Dispatch.lean ====
section
/-! DEFINITION. The dispatch of commands to their meanings: one arm per constructor. -/

namespace Sys2Proof.Machine

def exec (i : Instr) (s : State) : Host.Outcome State Fault Refusal :=
  match i with
  | .registerWrite p r n v => Sys2Proof.Machine.execRegisterWrite p r n v s
  | .selectWrite p r v => Sys2Proof.Machine.execSelectWrite p r v s
  | .loRead p r => Sys2Proof.Machine.execLoRead p r s
  | .hiRead p r => Sys2Proof.Machine.execHiRead p r s
  | .scratchCe c => Sys2Proof.Machine.execScratchCe c s
  | .ceLevelDecay c => Sys2Proof.Machine.execCeLevelDecay c s
  | .scratchUe c line => Sys2Proof.Machine.execScratchUe c line s
  | .residueMismatch c => Sys2Proof.Machine.execResidueMismatch c s
  | .instrParityError c line => Sys2Proof.Machine.execInstrParityError c line s
  | .contextAbortDone b => Sys2Proof.Machine.execContextAbortDone b s
  | .repairRebind p => Sys2Proof.Machine.execRepairRebind p s
  | .partCtrlWrite path v => Sys2Proof.Machine.execPartCtrlWrite path v s
  | .matrixPass c x => Sys2Proof.Machine.execMatrixPass c x s
  | .mxEncode c fmt x dst sdst => Sys2Proof.Machine.execMxEncode c fmt x dst sdst s
  | .dq4Encode c x dst sdst => Sys2Proof.Machine.execDq4Encode c x dst sdst s
  | .vectorConvert c k sat x dst => Sys2Proof.Machine.execVectorConvert c k sat x dst s
  | .vectorOp c op bf16 x y z dst => Sys2Proof.Machine.execVectorOp c op bf16 x y z dst s
  | .ds24Writeback c lane x dst => Sys2Proof.Machine.execDs24Writeback c lane x dst s
  | .topK c k x dst => Sys2Proof.Machine.execTopK c k x dst s
  | .compaction c x mask dst => Sys2Proof.Machine.execCompaction c x mask dst s
  | .barrierArrive p step spans => Sys2Proof.Machine.execBarrierArrive p step spans s
  | .heavyAhead p lead target => Sys2Proof.Machine.execHeavyAhead p lead target s
  | .hintTimeout p => Sys2Proof.Machine.execHintTimeout p s
  | .beamAccess r => Sys2Proof.Machine.execBeamAccess r s
  | .bankSpareSwitch g => Sys2Proof.Machine.execBankSpareSwitch g s
  | .bankCeDecay b => Sys2Proof.Machine.execBankCeDecay b s
  | .beamScrub g bank line ecc intervened => Sys2Proof.Machine.execBeamScrub g bank line ecc intervened s
  | .hbmScrub g line loc ecc intervened => Sys2Proof.Machine.execHbmScrub g line loc ecc intervened s
  | .hbmDmaBurst g loc ecc => Sys2Proof.Machine.execHbmDmaBurst g loc ecc s
  | .boltDrainDone bolt => Sys2Proof.Machine.execBoltDrainDone bolt s
  | .boltZeroDone bolt => Sys2Proof.Machine.execBoltZeroDone bolt s
  | .hbmLeaseDrainEnd lease => Sys2Proof.Machine.execHbmLeaseDrainEnd lease s
  | .bundleCopyRebuilt h => Sys2Proof.Machine.execBundleCopyRebuilt h s
  | .hdmApply v => Sys2Proof.Machine.execHdmApply v s
  | .ctxForceRefresh path => Sys2Proof.Machine.execCtxForceRefresh path s
  | .twinFetchReply c st => Sys2Proof.Machine.execTwinFetchReply c st s
  | .twinFetchTimeout c => Sys2Proof.Machine.execTwinFetchTimeout c s
  | .cmdGo path => Sys2Proof.Machine.execCmdGo path s
  | .cmdDeferredStart => Sys2Proof.Machine.execCmdDeferredStart s
  | .cmdUnknownOpcode desc tagOk => Sys2Proof.Machine.execCmdUnknownOpcode desc tagOk s
  | .bundleLoad desc tagOk b => Sys2Proof.Machine.execBundleLoad desc tagOk b s
  | .bundleDrop desc tagOk => Sys2Proof.Machine.execBundleDrop desc tagOk s
  | .bind desc tagOk => Sys2Proof.Machine.execBind desc tagOk s
  | .sweepComplete p fault failed dur => Sys2Proof.Machine.execSweepComplete p fault failed dur s
  | .bindFirstInstruction b => Sys2Proof.Machine.execBindFirstInstruction b s
  | .unbind desc tagOk => Sys2Proof.Machine.execUnbind desc tagOk s
  | .unbindRelease b => Sys2Proof.Machine.execUnbindRelease b s
  | .rebind desc tagOk => Sys2Proof.Machine.execRebind desc tagOk s
  | .spoolOpen desc tagOk => Sys2Proof.Machine.execSpoolOpen desc tagOk s
  | .spoolClose desc tagOk => Sys2Proof.Machine.execSpoolClose desc tagOk s
  | .ctxOpen desc tagOk => Sys2Proof.Machine.execCtxOpen desc tagOk s
  | .ctxClose desc tagOk => Sys2Proof.Machine.execCtxClose desc tagOk s
  | .ctxMove desc tagOk => Sys2Proof.Machine.execCtxMove desc tagOk s
  | .ctxResume desc tagOk => Sys2Proof.Machine.execCtxResume desc tagOk s
  | .submissionDoorbell sp v => Sys2Proof.Machine.execSubmissionDoorbell sp v s
  | .completionDoorbell sp v => Sys2Proof.Machine.execCompletionDoorbell sp v s
  | .submissionEntry sp entry => Sys2Proof.Machine.execSubmissionEntry sp entry s
  | .spoolResume sp => Sys2Proof.Machine.execSpoolResume sp s
  | .entryReadRetry sp failed => Sys2Proof.Machine.execEntryReadRetry sp failed s
  | .payloadArrival c x => Sys2Proof.Machine.execPayloadArrival c x s
  | .decodeStart e => Sys2Proof.Machine.execDecodeStart e s
  | .decodeComplete e x => Sys2Proof.Machine.execDecodeComplete e x s
  | .decodeTimeLimit e => Sys2Proof.Machine.execDecodeTimeLimit e s
  | .decodeShareWindow e => Sys2Proof.Machine.execDecodeShareWindow e s
  | .rawConvert c => Sys2Proof.Machine.execRawConvert c s
  | .ctxInputWrite path v => Sys2Proof.Machine.execCtxInputWrite path v s
  | .frameAdmit b => Sys2Proof.Machine.execFrameAdmit b s
  | .frameComplete b x => Sys2Proof.Machine.execFrameComplete b x s
  | .spoolIrqTimer sp => Sys2Proof.Machine.execSpoolIrqTimer sp s
  | .frameBudgetExpire b => Sys2Proof.Machine.execFrameBudgetExpire b s
  | .linkTrainStart k farEnd => Sys2Proof.Machine.execLinkTrainStart k farEnd s
  | .linkTrained k => Sys2Proof.Machine.execLinkTrained k s
  | .identFlit k node config => Sys2Proof.Machine.execIdentFlit k node config s
  | .keyFlit k sigOk value => Sys2Proof.Machine.execKeyFlit k sigOk value s
  | .fecSecondCheck k counts => Sys2Proof.Machine.execFecSecondCheck k counts s
  | .laneBlockLockLoss k lane => Sys2Proof.Machine.execLaneBlockLockLoss k lane s
  | .laneSwapFlit k lane => Sys2Proof.Machine.execLaneSwapFlit k lane s
  | .linkRxTimeout k => Sys2Proof.Machine.execLinkRxTimeout k s
  | .flitCrcError k crc => Sys2Proof.Machine.execFlitCrcError k crc s
  | .nakFlit k value => Sys2Proof.Machine.execNakFlit k value s
  | .idleFlit k lack => Sys2Proof.Machine.execIdleFlit k lack s
  | .flitInvalid k => Sys2Proof.Machine.execFlitInvalid k s
  | .flitRelay k f => Sys2Proof.Machine.execFlitRelay k f s
  | .routeRecompute up => Sys2Proof.Machine.execRouteRecompute up s
  | .jobDataMsg m => Sys2Proof.Machine.execJobDataMsg m s
  | .joinFlit j => Sys2Proof.Machine.execJoinFlit j s
  | .joinSendTick b => Sys2Proof.Machine.execJoinSendTick b s
  | .joinWindowExpire b => Sys2Proof.Machine.execJoinWindowExpire b s
  | .barrierFlit h step participant => Sys2Proof.Machine.execBarrierFlit h step participant s
  | .frameStartFlit h c age frame => Sys2Proof.Machine.execFrameStartFlit h c age frame s
  | .stepTimeout b => Sys2Proof.Machine.execStepTimeout b s
  | .throttleNotice => Sys2Proof.Machine.execThrottleNotice s
  | .throttleNoticeLapse node job => Sys2Proof.Machine.execThrottleNoticeLapse node job s
  | .sympathyLift job => Sys2Proof.Machine.execSympathyLift job s
  | .ctxShadowEnable path => Sys2Proof.Machine.execCtxShadowEnable path s
  | .weftAcceptWrite path v => Sys2Proof.Machine.execWeftAcceptWrite path v s
  | .shadowRequestMsg node c measurement fp => Sys2Proof.Machine.execShadowRequestMsg node c measurement fp s
  | .shadowReplyMsg c cause slot => Sys2Proof.Machine.execShadowReplyMsg c cause slot s
  | .shadowUpdateMsg slot tagOk st => Sys2Proof.Machine.execShadowUpdateMsg slot tagOk st s
  | .shadowAckFlit c seq => Sys2Proof.Machine.execShadowAckFlit c seq s
  | .shadowAckTimeout c => Sys2Proof.Machine.execShadowAckTimeout c s
  | .shadowResync c => Sys2Proof.Machine.execShadowResync c s
  | .shadowRouteLost node => Sys2Proof.Machine.execShadowRouteLost node s
  | .fetchRequestMsg slot => Sys2Proof.Machine.execFetchRequestMsg slot s
  | .lapseNoticeMsg reason slot => Sys2Proof.Machine.execLapseNoticeMsg reason slot s
  | .twinTakeover node => Sys2Proof.Machine.execTwinTakeover node s
  | .hostLinkTrained pcie narrow slow => Sys2Proof.Machine.execHostLinkTrained pcie narrow slow s
  | .hostLinkDown => Sys2Proof.Machine.execHostLinkDown s
  | .hostLinkUp => Sys2Proof.Machine.execHostLinkUp s
  | .hostLinkDownTimeout => Sys2Proof.Machine.execHostLinkDownTimeout s
  | .hostReset k => Sys2Proof.Machine.execHostReset k s
  | .perstAssert => Sys2Proof.Machine.execPerstAssert s
  | .bar0Write r n v => Sys2Proof.Machine.execBar0Write r n v s
  | .bar0WriteApply => Sys2Proof.Machine.execBar0WriteApply s
  | .bar0Read r n => Sys2Proof.Machine.execBar0Read r n s
  | .bar0ReadTimeout => Sys2Proof.Machine.execBar0ReadTimeout s
  | .barBadAccess write => Sys2Proof.Machine.execBarBadAccess write s
  | .hostBadRequest k => Sys2Proof.Machine.execHostBadRequest k s
  | .hostReadFail how k => Sys2Proof.Machine.execHostReadFail how k s
  | .busMasterEnable on => Sys2Proof.Machine.execBusMasterEnable on s
  | .evqEnable v => Sys2Proof.Machine.execEvqEnable v s
  | .evqHeadWrite v => Sys2Proof.Machine.execEvqHeadWrite v s
  | .hdmDecoderCommit bytes => Sys2Proof.Machine.execHdmDecoderCommit bytes s
  | .cxlMemRead offset loc ecc => Sys2Proof.Machine.execCxlMemRead offset loc ecc s
  | .cxlMemWrite x => Sys2Proof.Machine.execCxlMemWrite x s
  | .biasSet path v => Sys2Proof.Machine.execBiasSet path v s
  | .doeDiscovery inst index => Sys2Proof.Machine.execDoeDiscovery inst index s
  | .cdatRead => Sys2Proof.Machine.execCdatRead s
  | .doeAbort inst => Sys2Proof.Machine.execDoeAbort inst s
  | .getIdentity path id => Sys2Proof.Machine.execGetIdentity path id s
  | .getAttestationReport path id r => Sys2Proof.Machine.execGetAttestationReport path id r s
  | .getPerBootKey path id => Sys2Proof.Machine.execGetPerBootKey path id s
  | .openOwner path id r => Sys2Proof.Machine.execOpenOwner path id r s
  | .closeOwner path id owner => Sys2Proof.Machine.execCloseOwner path id owner s
  | .fwLoad => Sys2Proof.Machine.execFwLoad s
  | .fwImageReceived img => Sys2Proof.Machine.execFwImageReceived img s
  | .fwServing => Sys2Proof.Machine.execFwServing s
  | .fwStage => Sys2Proof.Machine.execFwStage s
  | .fwActivate => Sys2Proof.Machine.execFwActivate s
  | .fwActivateCancel => Sys2Proof.Machine.execFwActivateCancel s
  | .handoffStart => Sys2Proof.Machine.execHandoffStart s
  | .handoffComplete => Sys2Proof.Machine.execHandoffComplete s
  | .watchdogExpire core => Sys2Proof.Machine.execWatchdogExpire core s
  | .fwCrash cause => Sys2Proof.Machine.execFwCrash cause s
  | .fwRestartComplete intact => Sys2Proof.Machine.execFwRestartComplete intact s
  | .ledgerCheckpoint => Sys2Proof.Machine.execLedgerCheckpoint s
  | .logEntry trace level core args => Sys2Proof.Machine.execLogEntry trace level core args s
  | .fwLogEnable v => Sys2Proof.Machine.execFwLogEnable v s
  | .fwLogHeadWrite v => Sys2Proof.Machine.execFwLogHeadWrite v s
  | .presencePress => Sys2Proof.Machine.execPresencePress s
  | .sealOpening => Sys2Proof.Machine.execSealOpening s
  | .sealReady => Sys2Proof.Machine.execSealReady s
  | .grantExpire ofSeal => Sys2Proof.Machine.execGrantExpire ofSeal s
  | .presClearEventLog path => Sys2Proof.Machine.execPresClearEventLog path s
  | .presEnrolOwnerKey path keyOk => Sys2Proof.Machine.execPresEnrolOwnerKey path keyOk s
  | .presRemoveOwner path => Sys2Proof.Machine.execPresRemoveOwner path s
  | .presRewriteProtected path => Sys2Proof.Machine.execPresRewriteProtected path s
  | .presReadIdentity path => Sys2Proof.Machine.execPresReadIdentity path s
  | .presBadOpcode path op => Sys2Proof.Machine.execPresBadOpcode path op s
  | .presCancel path => Sys2Proof.Machine.execPresCancel path s
  | .presArmExpire => Sys2Proof.Machine.execPresArmExpire s
  | .presWriteDone st => Sys2Proof.Machine.execPresWriteDone st s
  | .drbgHealthFail selvage => Sys2Proof.Machine.execDrbgHealthFail selvage s
  | .drbgReseed selvage => Sys2Proof.Machine.execDrbgReseed selvage s
  | .drbgStopTimeout => Sys2Proof.Machine.execDrbgStopTimeout s
  | .auxPowerUp idOk => Sys2Proof.Machine.execAuxPowerUp idOk s
  | .draftInForce x => Sys2Proof.Machine.execDraftInForce x s
  | .auxPowerLoss torn => Sys2Proof.Machine.execAuxPowerLoss torn s
  | .crystalSwitch => Sys2Proof.Machine.execCrystalSwitch s
  | .crystalFail => Sys2Proof.Machine.execCrystalFail s
  | .flashOpComplete st => Sys2Proof.Machine.execFlashOpComplete st s
  | .flashOpTimeout => Sys2Proof.Machine.execFlashOpTimeout s
  | .retirementAppend => Sys2Proof.Machine.execRetirementAppend s
  | .draftBegin path => Sys2Proof.Machine.execDraftBegin path s
  | .draftEraseDone st => Sys2Proof.Machine.execDraftEraseDone st s
  | .draftStgDataWrite path v => Sys2Proof.Machine.execDraftStgDataWrite path v s
  | .draftCommit path => Sys2Proof.Machine.execDraftCommit path s
  | .draftAbort path => Sys2Proof.Machine.execDraftAbort path s
  | .hznRoundStart => Sys2Proof.Machine.execHznRoundStart s
  | .hznTurn => Sys2Proof.Machine.execHznTurn s
  | .hznFrameRx turn inTurn bytes => Sys2Proof.Machine.execHznFrameRx turn inTurn bytes s
  | .quarantineEnd node => Sys2Proof.Machine.execQuarantineEnd node s
  | .hznRegisterRequest source attachment => Sys2Proof.Machine.execHznRegisterRequest source attachment s
  | .hznRegisterResponse source attachment => Sys2Proof.Machine.execHznRegisterResponse source attachment s
  | .hznRqSend => Sys2Proof.Machine.execHznRqSend s
  | .hznRqTimeout => Sys2Proof.Machine.execHznRqTimeout s
  | .roleDecide => Sys2Proof.Machine.execRoleDecide s
  | .smbSetPointer ptr pec whole => Sys2Proof.Machine.execSmbSetPointer ptr pec whole s
  | .smbBlockWrite count bytes pec whole => Sys2Proof.Machine.execSmbBlockWrite count bytes pec whole s
  | .smbBlockRead => Sys2Proof.Machine.execSmbBlockRead s
  | .smbBlockRead8 => Sys2Proof.Machine.execSmbBlockRead8 s
  | .smbClockTimeout => Sys2Proof.Machine.execSmbClockTimeout s
  | .breakerSample x => Sys2Proof.Machine.execBreakerSample x s
  | .insertionDelayEnd => Sys2Proof.Machine.execInsertionDelayEnd s
  | .inrushWindowEnd => Sys2Proof.Machine.execInrushWindowEnd s
  | .mainEnhanceTimeout => Sys2Proof.Machine.execMainEnhanceTimeout s
  | .fastTrip => Sys2Proof.Machine.execFastTrip s
  | .bandTrip => Sys2Proof.Machine.execBandTrip s
  | .backoffEnd => Sys2Proof.Machine.execBackoffEnd s
  | .latchClr path => Sys2Proof.Machine.execLatchClr path s
  | .retryCountReset => Sys2Proof.Machine.execRetryCountReset s
  | .auxSwitchTest k mv => Sys2Proof.Machine.execAuxSwitchTest k mv s
  | .auxDamaged k => Sys2Proof.Machine.execAuxDamaged k s
  | .railDwellEnd => Sys2Proof.Machine.execRailDwellEnd s
  | .railPoll mv powerGood => Sys2Proof.Machine.execRailPoll mv powerGood s
  | .railStartTimeout => Sys2Proof.Machine.execRailStartTimeout s
  | .railRetryTimer => Sys2Proof.Machine.execRailRetryTimer s
  | .pmbAlert answers => Sys2Proof.Machine.execPmbAlert answers s
  | .pmbusTelemetryPoll x => Sys2Proof.Machine.execPmbusTelemetryPoll x s
  | .pmbusCoreSilent => Sys2Proof.Machine.execPmbusCoreSilent s
  | .vcoreRequest mv => Sys2Proof.Machine.execVcoreRequest mv s
  | .computeDieResetRelease => Sys2Proof.Machine.execComputeDieResetRelease s
  | .hbmTrained lost => Sys2Proof.Machine.execHbmTrained lost s
  | .frontNAssert => Sys2Proof.Machine.execFrontNAssert s
  | .frontNDeassert => Sys2Proof.Machine.execFrontNDeassert s
  | .frontHoldEnd => Sys2Proof.Machine.execFrontHoldEnd s
  | .capWrite path v => Sys2Proof.Machine.execCapWrite path v s
  | .budgetUpdate packageW uncoreW => Sys2Proof.Machine.execBudgetUpdate packageW uncoreW s
  | .capControl p activity => Sys2Proof.Machine.execCapControl p activity s
  | .corrUpdate measured => Sys2Proof.Machine.execCorrUpdate measured s
  | .droop p => Sys2Proof.Machine.execDroop p s
  | .droopRecover p => Sys2Proof.Machine.execDroopRecover p s
  | .gustStep xs => Sys2Proof.Machine.execGustStep xs s
  | .energyApportion p cycles => Sys2Proof.Machine.execEnergyApportion p cycles s
  | .sensorSample xs => Sys2Proof.Machine.execSensorSample xs s
  | .sensorNoConversion k => Sys2Proof.Machine.execSensorNoConversion k s
  | .throttleEval => Sys2Proof.Machine.execThrottleEval s
  | .thermtrip x => Sys2Proof.Machine.execThermtrip x s
  | .thermalRestart => Sys2Proof.Machine.execThermalRestart s
  | .fanPeriodStart => Sys2Proof.Machine.execFanPeriodStart s
  | .stretchWindowOpen => Sys2Proof.Machine.execStretchWindowOpen s
  | .stretchWindowEnd => Sys2Proof.Machine.execStretchWindowEnd s
  | .coolOverrideWrite path v => Sys2Proof.Machine.execCoolOverrideWrite path v s
  | .overrideExpire bmc => Sys2Proof.Machine.execOverrideExpire bmc s
  | .spinupStart c => Sys2Proof.Machine.execSpinupStart c s
  | .spinupEnd c => Sys2Proof.Machine.execSpinupEnd c s
  | .retryWaitEnd c => Sys2Proof.Machine.execRetryWaitEnd c s
  | .pumpSpeedSecond => Sys2Proof.Machine.execPumpSpeedSecond s
  | .flowSecond => Sys2Proof.Machine.execFlowSecond s
  | .flowGraceEnd k => Sys2Proof.Machine.execFlowGraceEnd k s
  | .leakSample rope0 rope1 float => Sys2Proof.Machine.execLeakSample rope0 rope1 float s
  | .faultRegister src detail => Sys2Proof.Machine.execFaultRegister src detail s
  | .selvageFaultMsg src detail => Sys2Proof.Machine.execSelvageFaultMsg src detail s
  | .selvageLinkTimeout => Sys2Proof.Machine.execSelvageLinkTimeout s
  | .collectorMismatch => Sys2Proof.Machine.execCollectorMismatch s
  | .faultStatusClear path k v => Sys2Proof.Machine.execFaultStatusClear path k v s
  | .recoveryBoundExpire t engines => Sys2Proof.Machine.execRecoveryBoundExpire t engines s
  | .dmaHang g => Sys2Proof.Machine.execDmaHang g s
  | .weftEndpointHang k => Sys2Proof.Machine.execWeftEndpointHang k s
  | .decodeEngineHang e => Sys2Proof.Machine.execDecodeEngineHang e s
  | .heddleUe p => Sys2Proof.Machine.execHeddleUe p s
  | .ctrlUe => Sys2Proof.Machine.execCtrlUe s
  | .partitionResetDrain p => Sys2Proof.Machine.execPartitionResetDrain p s
  | .partitionMemUp p lost => Sys2Proof.Machine.execPartitionMemUp p lost s
  | .partitionResetComplete p failed dur => Sys2Proof.Machine.execPartitionResetComplete p failed dur s
  | .chipResetComplete => Sys2Proof.Machine.execChipResetComplete s
  | .powerCycleRestart => Sys2Proof.Machine.execPowerCycleRestart s
  | .eventRecordWrite => Sys2Proof.Machine.execEventRecordWrite s
  | .checkpointTimer => Sys2Proof.Machine.execCheckpointTimer s
  | .logFetch path v => Sys2Proof.Machine.execLogFetch path v s
  | .logFetchDone path => Sys2Proof.Machine.execLogFetchDone path s
  | .engineResetDone t => Sys2Proof.Machine.execEngineResetDone t s
  | .computeDieResetAssert => Sys2Proof.Machine.execComputeDieResetAssert s
  | .reverseOrderRailDisable => Sys2Proof.Machine.execReverseOrderRailDisable s
  | .tachEdge x => Sys2Proof.Machine.execTachEdge x s
  | .idleFlitSend k => Sys2Proof.Machine.execIdleFlitSend k s
  | .keepAlive => Sys2Proof.Machine.execKeepAlive s
  | .voutCommandWriteDone => Sys2Proof.Machine.execVoutCommandWriteDone s

end Sys2Proof.Machine
end

