-- ==== Sys2Proof/Machine/Step.lean ====
section
/-! DEFINITION. One step: the command at the front of the queue, or a µs that passes. -/

namespace Sys2Proof.Machine

/-- The state with a queue of commands. -/
def State.withPending (s : State) (q : List Instr) : State := { s with pending := q }

/-- With no command waiting, one µs of the model's own count passes (notes/assumptions/1); everything that
the manual ties to time is a command of its own. -/
def State.idle (s : State) : State := { s with us := s.us + 1 }

/-- The command at the front runs on the state with the queue's rest. -/
def step (s : State) : Host.Outcome State Fault Refusal :=
  match s.pending with
  | [] => .next s.idle
  | c :: rest => exec c (s.withPending rest)

/-- The state with the command that a word spells put at the front of its queue. -/
def State.withFetchWord (s : State) (nbits w : Nat) : State :=
  match decodeTableWord nbits w with
  | some c => s.withPending (c :: s.pending)
  | none => s

end Sys2Proof.Machine
end

