-- ==== Sys2Proof/Safety.lean ====
section
/-! DEFINITION. The words in which statements about the machine are made: completion, frames, the canonical
form of its tables. -/

namespace Sys2Proof.Machine

/-! ### Completion and frames -/

/-- A command completes: `exec` answers a next state, and that state has a property. -/
def Completes (c : Instr) (s : State) (P : State → Prop) : Prop :=
  ∃ t : State, exec c s = .next t ∧ P t

/-- Every place of the register file (registers and the model's internal fields) reads as before, but for
the places listed. -/
def SameBut (s t : State) (l : List (Fld × Nat)) : Prop :=
  ∀ (f : Fld) (i : Nat), (∀ x ∈ l, regKey f i ≠ regKey x.1 x.2) → t.rd f i = s.rd f i

/-- Every field but those listed reads as before, in every instance. -/
def SameButFields (s t : State) (l : List Fld) : Prop :=
  ∀ (f : Fld) (i : Nat), (∀ x ∈ l, f.id ≠ x.id) → t.rd f i = s.rd f i

/-- The whole state is as before, but for the listed places of the register file. -/
def OnlyRegs (s t : State) (l : List (Fld × Nat)) : Prop :=
  t = { s with regs := t.regs } ∧ SameBut s t l

/-- Every memory that the manual addresses holds what it held: the Beam, HBM, the cores' scratch, the
steward's flash, each with its poison marks. -/
def SameMemories (s t : State) : Prop :=
  t.beam.bytes = s.beam.bytes ∧ t.beam.poison = s.beam.poison ∧ t.hbm.bytes = s.hbm.bytes ∧
  t.hbm.poison = s.hbm.poison ∧ t.arr.scratch = s.arr.scratch ∧
  t.arr.scratchPoison = s.arr.scratchPoison ∧ t.stw.flash = s.stw.flash

/-! ### The canonical form -/

/-- A memory is in canonical form: addresses strictly rising, no entry equal to what an unlisted address
reads as (`d`). -/
def Memory.wf (d : Nat → Byte) (m : List Host.Cell) : Bool := Tab.wfFrom d 0 m

/-- Every memory of the device, and its poison marks, are in canonical form. -/
def State.memoriesOk (s : State) : Prop :=
  Memory.wf (fun _ => 0) s.beam.bytes = true ∧ Tab.wfFrom (fun _ => false) 0 s.beam.poison = true ∧
  Memory.wf Config.hbmUnwritten s.hbm.bytes = true ∧ Tab.wfFrom (fun _ => false) 0 s.hbm.poison = true ∧
  Memory.wf (fun _ => 0) s.arr.scratch = true ∧ Tab.wfFrom (fun _ => false) 0 s.arr.scratchPoison = true ∧
  Memory.wf (fun _ => 0) s.arr.ibuf = true ∧ Memory.wf (fun _ => 0xFF) s.stw.flash = true

end Sys2Proof.Machine
end

