-- ==== Sys2Proof/WellFormed.lean ====
section
/-! DEFINITION. Which commands are well formed: the operands that the manual's formats allow.  `exec` is
total and gives every command a meaning; an ill-formed one is a message that the hardware cannot be sent. -/

namespace Sys2Proof.WellFormed

open Sys2Proof.Machine

/-- Bytes from an offset lie in a core's scratch of 24 KiB (R35). -/
def inScratch (off len : Nat) : Bool := decide (off + len ≤ 24576)

/-- Bits of an element code. -/
def codeBits : Fmt → Nat
  | .fp32 => 32
  | .bf16 => 16
  | .ds24 => 24
  | .e2m1 | .dq4 => 4
  | .e4m3 | .e5m2 | .int8 | .mxint8 => 8

/-- Bits of the activation codes of a pair (R69). -/
def actBits : PassPair → Nat
  | .mxfp4 | .dq4 _ => 4
  | .bf16 => 16
  | _ => 8

/-- Bits of the weight codes of a pair (R69). -/
def weightBits : PassPair → Nat
  | .mxfp4 | .mxfp8mxfp4 _ | .dq4 .mxfp4 => 4
  | .bf16 => 16
  | _ => 8

/-- A vector of `n` codes of a width and an E8M0 scale. -/
def passVecWf (n bits : Nat) (v : PassVec) : Bool :=
  v.codes.length == n && v.codes.all (fun c => decide (c < 2 ^ bits)) && decide (v.scale < 256)

/-- A pass: at most 16 columns, whose entries exist (R38, R69). -/
def passWf (x : Pass) : Bool :=
  passVecWf (passK x.pair) (actBits x.pair) x.act &&
  x.cols.all (passVecWf (passK x.pair) (weightBits x.pair)) &&
  decide (0 < x.cols.length ∧ x.cols.length ≤ 16 ∧ x.entry.val + x.cols.length ≤ 1024)

/-- A conversion from a format names a scale only where it has one. -/
def convWf : Conv → Bool
  | .toFp32 _ scale => decide (scale < 256)
  | _ => true

def convCodeWf : Conv → Word → Bool
  | .toFp32 src _, w => decide (w.toNat < 2 ^ codeBits src)
  | _, _ => true

/-- The operands of a vector operation have one length; a comparison's bits exist (R38). -/
def vectorWf (op : VOp) (half : Bool) (x y z : List Word) (dst : Nat) : Bool :=
  let n := x.length
  let one := match op with
    | .recip | .rsqrt | .sqrt | .exp2 | .log2 | .fn _ => true
    | _ => y.length == n
  let two := match op with
    | .fma => z.length == n
    | _ => true
  let room := match op with
    | .compare _ => decide (dst + n ≤ 8)
    | _ => inScratch dst (n * if half then 2 else 4)
  one && two && room

/-- The state of a context as a shadow update or a fetch reply carries it. -/
def shadowWf (x : ShadowState) : Bool :=
  decide (x.countdown < 2 ^ 16 ∧ x.refreshEvery < 2 ^ 16 ∧ x.deadline < 2 ^ 32) &&
  x.accs.all (fun e => decide (e.2 < 2 ^ 24)) && x.refs.all fun e => decide (e.2 < 2 ^ 32)

/-- A bundle's header: at least one partition, a spill plan of at most 8 levels, a picture size of 16 bits
 (06, before R169; R176). -/
def bundleWf (h : BundleHdr) : Bool :=
  decide (1 ≤ h.partitions ∧ h.spill.length ≤ 8) &&
  decide (h.width < 2 ^ 16 ∧ h.height < 2 ^ 16)

/-- A decoded picture has a luma sample for each place. -/
def pictureWf (p : Picture) : Bool := p.y.length == p.width * p.height

/-- An attestation request: scope 0 or 1 (R321). -/
def reportWf (r : ReportReq) : Bool := decide (r.scope < 256 ∧ r.owner < 2 ^ 16 ∧ r.first < 2 ^ 16)

/-- A command is well formed. -/
def ok : Instr → Bool
  | .registerWrite _ r n _ => decide (n < (regDesc r).count)
  | .selectWrite _ r _ => isSelect r
  | .loRead _ r => (regDesc r).half == .pairLo
  | .hiRead _ r => (regDesc r).half == .pairHi
  | .scratchCe _ => true
  | .ceLevelDecay _ => true
  | .scratchUe _ _ => true
  | .residueMismatch _ => true
  | .instrParityError _ _ => true
  | .contextAbortDone _ => true
  | .repairRebind _ => true
  | .partCtrlWrite _ _ => true
  | .matrixPass _ x => passWf x
  | .mxEncode _ fmt x dst sdst =>
    x.length == 32 && inScratch dst (if fmt = .e2m1 then 16 else 32) && inScratch sdst 1
  | .dq4Encode _ x dst sdst => x.length == 32 && inScratch dst 16 && inScratch sdst 1
  | .vectorConvert _ k _ x dst =>
    convWf k && x.all (convCodeWf k) && inScratch dst (convWidth k * x.length)
  | .vectorOp _ op bf16 x y z dst => vectorWf op bf16 x y z dst
  | .ds24Writeback _ _ _ dst => inScratch dst 3
  | .topK _ k x dst => decide (x.length ≤ 65536) && inScratch dst (8 * min k.val x.length)
  | .compaction _ x mask dst =>
    decide (x.length ≤ 65536) && mask.length == x.length && inScratch dst (4 * mask.count true)
  | .barrierArrive _ step _ => decide (step < 2 ^ 32)
  | .heavyAhead _ _ target => decide (16 ≤ target ∧ target ≤ 256)
  | .hintTimeout _ => true
  | .beamAccess r =>
    decide (r.owner < 2 ^ 16) && (match r.write with | none => true | some bs => decide (0 < bs.length ∧ bs.length ≤ 64))
  | .bankSpareSwitch _ => true
  | .bankCeDecay _ => true
  | .beamScrub _ _ _ _ _ => true
  | .hbmScrub _ line _ _ _ => decide (line < 640 * 2 ^ 20)
  | .hbmDmaBurst _ _ _ => true
  | .boltDrainDone _ => true
  | .boltZeroDone _ => true
  | .hbmLeaseDrainEnd _ => true
  | .bundleCopyRebuilt _ => true
  | .hdmApply _ => true
  | .ctxForceRefresh _ => true
  | .twinFetchReply _ st => shadowWf st
  | .twinFetchTimeout _ => true
  | .cmdGo _ => true
  | .cmdDeferredStart => true
  | .cmdUnknownOpcode _ _ => true
  | .bundleLoad _ _ b => bundleWf b.hdr
  | .bundleDrop _ _ => true
  | .bind _ _ => true
  | .sweepComplete _ _ failed _ => failed.Nodup
  | .bindFirstInstruction _ => true
  | .unbind _ _ => true
  | .unbindRelease _ => true
  | .rebind _ _ => true
  | .spoolOpen _ _ => true
  | .spoolClose _ _ => true
  | .ctxOpen _ _ => true
  | .ctxClose _ _ => true
  | .ctxMove _ _ => true
  | .ctxResume _ _ => true
  | .submissionDoorbell _ _ => true
  | .completionDoorbell _ _ => true
  | .submissionEntry _ _ => true
  | .spoolResume _ => true
  | .entryReadRetry _ _ => true
  | .payloadArrival _ _ => true
  | .decodeStart _ => true
  | .decodeComplete _ x =>
    match x with | .picture pic _ _ => pictureWf pic | .failed c => decide (1 ≤ c.val)
  | .decodeTimeLimit _ => true
  | .decodeShareWindow _ => true
  | .rawConvert _ => true
  | .ctxInputWrite _ _ => true
  | .frameAdmit _ => true
  | .frameComplete _ x =>
    x.inputs.all (fun l => decide (0 < l.length)) && x.dense.all fun d => decide (0 < d.2.length)
  | .spoolIrqTimer _ => true
  | .frameBudgetExpire _ => true
  | .linkTrainStart _ _ => true
  | .linkTrained _ => true
  | .identFlit _ _ _ => true
  | .keyFlit _ _ _ => true
  | .fecSecondCheck _ counts => counts.length == 5
  | .laneBlockLockLoss _ _ => true
  | .laneSwapFlit _ _ => true
  | .linkRxTimeout _ => true
  | .flitCrcError _ _ => true
  | .nakFlit _ _ => true
  | .idleFlit _ _ => true
  | .flitInvalid _ => true
  | .flitRelay _ _ => true
  | .routeRecompute up => up.all fun e => decide (e.2 < 1024)
  | .jobDataMsg m => m.data.length == 64
  | .joinFlit j =>
    decide (j.tags.length ≤ 16 ∧ j.participant < j.count ∧ j.count ≤ 16) && j.tags.all fun t => decide (t < 64)
  | .joinSendTick _ => true
  | .joinWindowExpire _ => true
  | .barrierFlit _ step participant => decide (step < 2 ^ 32 ∧ participant < 16)
  | .frameStartFlit _ _ age frame => decide (age < 2 ^ 32 ∧ frame < 2 ^ 32)
  | .stepTimeout _ => true
  | .throttleNotice => true
  | .throttleNoticeLapse _ _ => true
  | .sympathyLift _ => true
  | .ctxShadowEnable _ => true
  | .weftAcceptWrite _ _ => true
  | .shadowRequestMsg _ _ _ _ => true
  | .shadowReplyMsg _ _ _ => true
  | .shadowUpdateMsg _ _ st => shadowWf st
  | .shadowAckFlit _ _ => true
  | .shadowAckTimeout _ => true
  | .shadowResync _ => true
  | .shadowRouteLost _ => true
  | .fetchRequestMsg _ => true
  | .lapseNoticeMsg _ _ => true
  | .twinTakeover _ => true
  | .hostLinkTrained _ _ _ => true
  | .hostLinkDown => true
  | .hostLinkUp => true
  | .hostLinkDownTimeout => true
  | .hostReset _ => true
  | .perstAssert => true
  | .bar0Write r n _ => decide (n < (regDesc r).count)
  | .bar0WriteApply => true
  | .bar0Read r n => decide (n < (regDesc r).count)
  | .bar0ReadTimeout => true
  | .barBadAccess _ => true
  | .hostBadRequest _ => true
  | .hostReadFail _ _ => true
  | .busMasterEnable _ => true
  | .evqEnable _ => true
  | .evqHeadWrite _ => true
  | .hdmDecoderCommit _ => true
  | .cxlMemRead offset _ _ => offset % 64 == 0
  | .cxlMemWrite x => x.offset % 64 == 0 && x.data.length == 64
  | .biasSet _ _ => true
  | .doeDiscovery _ _ => true
  | .cdatRead => true
  | .doeAbort _ => true
  | .getIdentity _ _ => true
  | .getAttestationReport _ _ r => reportWf r
  | .getPerBootKey _ _ => true
  | .openOwner _ _ _ => true
  | .closeOwner _ _ owner => decide (owner < 2 ^ 16)
  | .fwLoad => true
  | .fwImageReceived img => decide (img.secVersion < 2 ^ 16)
  | .fwServing => true
  | .fwStage => true
  | .fwActivate => true
  | .fwActivateCancel => true
  | .handoffStart => true
  | .handoffComplete => true
  | .watchdogExpire _ => true
  | .fwCrash _ => true
  | .fwRestartComplete _ => true
  | .ledgerCheckpoint => true
  | .logEntry _ _ _ args => decide (args.length = 5)
  | .fwLogEnable _ => true
  | .fwLogHeadWrite _ => true
  | .presencePress => true
  | .sealOpening => true
  | .sealReady => true
  | .grantExpire _ => true
  | .presClearEventLog _ => true
  | .presEnrolOwnerKey _ _ => true
  | .presRemoveOwner _ => true
  | .presRewriteProtected _ => true
  | .presReadIdentity _ => true
  | .presBadOpcode _ op => decide (op.toNat = 0 ∨ 5 < op.toNat)
  | .presCancel _ => true
  | .presArmExpire => true
  | .presWriteDone _ => true
  | .drbgHealthFail _ => true
  | .drbgReseed _ => true
  | .drbgStopTimeout => true
  | .auxPowerUp _ => true
  | .draftInForce _ => true
  | .auxPowerLoss _ => true
  | .crystalSwitch => true
  | .crystalFail => true
  | .flashOpComplete _ => true
  | .flashOpTimeout => true
  | .retirementAppend => true
  | .draftBegin _ => true
  | .draftEraseDone _ => true
  | .draftStgDataWrite _ _ => true
  | .draftCommit _ => true
  | .draftAbort _ => true
  | .hznRoundStart => true
  | .hznTurn => true
  | .hznFrameRx _ _ bytes => decide (bytes.length ≤ 88)
  | .quarantineEnd _ => true
  | .hznRegisterRequest _ attachment => decide (8 ≤ attachment.length)
  | .hznRegisterResponse _ attachment => decide (8 ≤ attachment.length)
  | .hznRqSend => true
  | .hznRqTimeout => true
  | .roleDecide => true
  | .smbSetPointer _ _ _ => true
  | .smbBlockWrite count _ _ _ => decide (count < 256)
  | .smbBlockRead => true
  | .smbBlockRead8 => true
  | .smbClockTimeout => true
  | .breakerSample x => decide (x.vin < 2 ^ 17 ∧ x.vout < 2 ^ 17)
  | .insertionDelayEnd => true
  | .inrushWindowEnd => true
  | .mainEnhanceTimeout => true
  | .fastTrip => true
  | .bandTrip => true
  | .backoffEnd => true
  | .latchClr _ => true
  | .retryCountReset => true
  | .auxSwitchTest _ mv => decide (mv < 2 ^ 16)
  | .auxDamaged _ => true
  | .railDwellEnd => true
  | .railPoll mv _ => decide (mv < 2 ^ 16)
  | .railStartTimeout => true
  | .railRetryTimer => true
  | .pmbAlert answers => (answers.map RailAnswer.rail).Nodup
  | .pmbusTelemetryPoll _ => true
  | .pmbusCoreSilent => true
  | .vcoreRequest mv => decide (mv < 2 ^ 16)
  | .computeDieResetRelease => true
  | .hbmTrained lost => lost.Nodup
  | .frontNAssert => true
  | .frontNDeassert => true
  | .frontHoldEnd => true
  | .capWrite _ _ => true
  | .budgetUpdate _ _ => true
  | .capControl _ activity => decide (activity.length = 16)
  | .corrUpdate _ => true
  | .droop _ => true
  | .droopRecover _ => true
  | .gustStep xs => xs.length == 16
  | .energyApportion _ _ => true
  | .sensorSample xs => xs.length == 90
  | .sensorNoConversion _ => true
  | .throttleEval => true
  | .thermtrip _ => true
  | .thermalRestart => true
  | .fanPeriodStart => true
  | .stretchWindowOpen => true
  | .stretchWindowEnd => true
  | .coolOverrideWrite _ _ => true
  | .overrideExpire _ => true
  | .spinupStart _ => true
  | .spinupEnd _ => true
  | .retryWaitEnd _ => true
  | .pumpSpeedSecond => true
  | .flowSecond => true
  | .flowGraceEnd _ => true
  | .leakSample _ _ _ => true
  | .faultRegister _ detail => decide (detail < 256)
  | .selvageFaultMsg _ detail => decide (detail < 256)
  | .selvageLinkTimeout => true
  | .collectorMismatch => true
  | .faultStatusClear _ _ _ => true
  | .recoveryBoundExpire _ _ => true
  | .dmaHang _ => true
  | .weftEndpointHang _ => true
  | .decodeEngineHang _ => true
  | .heddleUe _ => true
  | .ctrlUe => true
  | .partitionResetDrain _ => true
  | .partitionMemUp p lost => lost.all fun e => decide (e.val / 640 = p.val)
  | .partitionResetComplete _ failed _ => failed.Nodup
  | .chipResetComplete => true
  | .powerCycleRestart => true
  | .eventRecordWrite => true
  | .checkpointTimer => true
  | .logFetch _ _ => true
  | .logFetchDone _ => true
  | .engineResetDone _ => true
  | .computeDieResetAssert => true
  | .reverseOrderRailDisable => true
  | .tachEdge _ => true
  | .idleFlitSend _ => true
  | .keepAlive => true
  | .voutCommandWriteDone => true

end Sys2Proof.WellFormed
end

