-- ==== Sys2Proof/Certificates/Slice0/Obligations.lean ====
section
/-! DEFINITION. The statements about the machine, one `Prop` each; OBLIGATIONS.json lists them. -/

open Sys2Proof Sys2Proof.Machine

/-- A step runs the command at the front of the queue; an idle step lets one µs pass (the model's queue and
clock: notes/assumptions/1). -/
def Obligations.StepRunsFrontCommand : Prop :=
  ∀ s : State,
    (∀ (c : Instr) (rest : List Instr), s.pending = c :: rest → step s = exec c (s.withPending rest)) ∧
    (s.pending = [] → ∃ t, step s = .next t ∧ t.us = s.us + 1 ∧ t = { s with us := t.us } ∧
      SameBut s t [] ∧ SameMemories s t)

/-- Registers whose writes act on their own fields alone, by the access code of each. -/
def plainRegisters : List Reg :=
  [.PART_ARITH_CTRL, .HDM_STATUS, .HBM_GRP_STATE, .CTX_DELTA_STATUS, .CMD_ADDR_LO, .CMD_ADDR_HI, .CMD_STATUS,
    .CTX_SPOOL, .CTX_DEADLINE_US, .SPOOL_IRQ, .FW_LOAD_ADDR_LO, .FW_LOAD_ADDR_HI, .FW_LOAD_LEN, .FW_RESULT,
    .FW_TRACE_EN, .PRES_DATA, .DRAFT_STG_ADDR, .HZN_RQ_BUF]

/-- `REGISTER_WRITE` by the access codes of R4, and the writes that R4 and R11 say are ignored. -/
def Obligations.RegisterWriteFollowsAccessCodes : Prop :=
  ∀ (p : Path) (r : Reg) (n : Nat) (v : Word) (s : State),
    (∀ i, r ∈ plainRegisters → s.mayWrite p r = true → s.regInst p r n = some i →
      Completes (.registerWrite p r n v) s fun t =>
        (∀ x ∈ (regDesc r).fields,
          t.rd x.fld i =
            match x.access with
            | .rw => writtenField (regDesc r).half x.fld (s.rd x.fld i) v % x.fld.size
            | .w1c => s.rd x.fld i &&& (x.fld.size - 1 - field v.toNat x.fld.hi x.fld.lo)
            | _ => s.rd x.fld i) ∧
        OnlyRegs s t ((regDesc r).fields.map fun x => (x.fld, i))) ∧
    ((∀ x ∈ (regDesc r).fields, x.access = .ro ∨ x.access = .rof) → r ≠ .MSIX_TABLE →
      exec (.registerWrite p r n v) s = .next s) ∧
    (s.mayWrite p r = false → exec (.registerWrite p r n v) s = .next s) ∧
    (isSelect r = false → s.regInst p r n = none → exec (.registerWrite p r n v) s = .next s)

/-- `SELECT_WRITE`, `LO_READ` and `HI_READ` (R7, R9, R10). -/
def Obligations.SelectionsAndPairReadsActForTheirPath : Prop :=
  (∀ (p : Path) (r : Reg) (v : Word) (s : State),
     (isSelect r = true → s.mayWrite p r = true →
       Completes (.selectWrite p r v) s fun t =>
         (∀ x ∈ (regDesc r).fields, t.rd x.fld (pathIx p) = field v.toNat x.fld.hi x.fld.lo) ∧
         (∀ f ∈ pairsOf r, t.latch p f = 0) ∧
         (∀ k, (∀ f ∈ pairsOf r, k ≠ latchKey p f) → Tab.get t.latches k 0 = Tab.get s.latches k 0) ∧
         t = { s with regs := t.regs, latches := t.latches } ∧
         SameBut s t ((regDesc r).fields.map fun x => (x.fld, pathIx p))) ∧
     ((isSelect r = false ∨ s.mayWrite p r = false) → exec (.selectWrite p r v) s = .next s)) ∧
  (∀ (p : Path) (r : Reg) (s : State), s.reaches p r = true →
     (p ≠ .host ∨ hwHeld r = true ∨ s.on F.HOST_STATUS_FW_UP 0 = true) →
     ((regDesc r).half = .pairLo →
       Completes (.loRead p r) s fun t =>
         t.out = .word p (s.regWord p r 0 % 2 ^ 32) :: s.out ∧
         t.latch p (pairFld r) = s.regWord p (hiOf r) 0 + 1 ∧
         (∀ k, k ≠ latchKey p (pairFld r) → Tab.get t.latches k 0 = Tab.get s.latches k 0) ∧
         t = { s with latches := t.latches, out := t.out }) ∧
     ((regDesc r).half = .pairHi →
       Completes (.hiRead p r) s fun t =>
         t.out = .word p ((if s.latch p (pairFld r) = 0 then s.regWord p r 0
           else s.latch p (pairFld r) - 1) % 2 ^ 32) :: s.out ∧
         t.latch p (pairFld r) = 0 ∧
         (∀ k, k ≠ latchKey p (pairFld r) → Tab.get t.latches k 0 = Tab.get s.latches k 0) ∧
         t = { s with latches := t.latches, out := t.out }))

/-- The field that takes a core's pending mark: during a sweep of its partition the sweep's own (R61). -/
def pendingField (s : State) (c : CoreId) : Fld :=
  if s.rd F.PART_STATE_STATE c.part.val = 1 then I.sweepFailed else F.PART_CL_PENDING_CORES

/-- The bit of core `c` is set in its cluster's mask of pending cores, every other core's bit kept. -/
def MarkedPending (s t : State) (c : CoreId) : Prop :=
  ∀ j < 17, (t.rd (pendingField s c) (clusterIx c.part.val c.cluster.val)).testBit j =
    (decide (j = c.core.val) || (s.rd (pendingField s c) (clusterIx c.part.val c.cluster.val)).testBit j)

/-- The place of a core's pending mark. -/
def pendingPlace (s : State) (c : CoreId) : Fld × Nat :=
  (pendingField s c, clusterIx c.part.val c.cluster.val)

/-- No frame runs whose context a fault of the partition would abort. -/
def NothingRuns (s : State) (p : Nat) : Prop :=
  s.rd F.PART_STATE_STATE p = 1 ∨ s.bindOf p = none ∨
    ∃ b, s.bindOf p = some b ∧ (s.binding? b.val).bind Binding.running = none

/-- Core errors without a running frame (R35, R36, R39, R51, R61). -/
def Obligations.CoreErrorsMarkCoresPending : Prop :=
  (∀ (c : CoreId) (s : State),
     (s.rd I.ceLevel (coreIx c) < 7 → Completes (.scratchCe c) s fun t =>
       t.rd I.ceLevel (coreIx c) = s.rd I.ceLevel (coreIx c) + 1 ∧ OnlyRegs s t [(I.ceLevel, coreIx c)]) ∧
     (7 ≤ s.rd I.ceLevel (coreIx c) → Completes (.scratchCe c) s fun t =>
       t.rd I.ceLevel (coreIx c) = 8 ∧ MarkedPending s t c ∧
       OnlyRegs s t [(I.ceLevel, coreIx c), pendingPlace s c]) ∧
     (s.on F.PART_STATE_ARR_ON c.part.val = true → Completes (.ceLevelDecay c) s fun t =>
       t.rd I.ceLevel (coreIx c) = (s.rd I.ceLevel (coreIx c) - 1) % I.ceLevel.size ∧
       OnlyRegs s t [(I.ceLevel, coreIx c)]) ∧
     (s.on F.PART_STATE_ARR_ON c.part.val = false → exec (.ceLevelDecay c) s = .next s)) ∧
  (∀ (c : CoreId) (line : Fin 384) (il : Fin 128) (s : State),
     (NothingRuns s c.part.val →
       (Completes (.scratchUe c line) s fun t =>
         MarkedPending s t c ∧ Tab.get t.arr.scratchPoison (coreIx c * 512 + line.val) false = true ∧
         (∀ k, k ≠ coreIx c * 512 + line.val →
           Tab.get t.arr.scratchPoison k false = Tab.get s.arr.scratchPoison k false) ∧
         t = { s with regs := t.regs, arr := { s.arr with scratchPoison := t.arr.scratchPoison } } ∧
         SameBut s t [pendingPlace s c]) ∧
       (Completes (.residueMismatch c) s fun t => MarkedPending s t c ∧ OnlyRegs s t [pendingPlace s c]) ∧
       ((coreIx c, il.val) ∈ s.arr.parity → Completes (.instrParityError c il) s fun t =>
         MarkedPending s t c ∧ (coreIx c, il.val) ∉ t.arr.parity ∧
         t = { s with regs := t.regs, arr := { s.arr with parity := t.arr.parity } } ∧
         SameBut s t [pendingPlace s c])) ∧
     ((coreIx c, il.val) ∉ s.arr.parity → Completes (.instrParityError c il) s fun t =>
       (coreIx c, il.val) ∈ t.arr.parity ∧
       (∀ k, k / 64 = coreIx c * 128 + il.val → Tab.get t.arr.ibuf k 0 = 0) ∧
       (∀ k, k / 64 ≠ coreIx c * 128 + il.val → Tab.get t.arr.ibuf k 0 = Tab.get s.arr.ibuf k 0) ∧
       t = { s with arr := { s.arr with parity := t.arr.parity, ibuf := t.arr.ibuf } }))

/-- Core faults under a running frame, and what follows (R51-R54, R67, R488). -/
def Obligations.CoreFaultsAbortFramesAndRepair : Prop :=
  (∀ (c : CoreId) (line : Fin 384) (il : Fin 128) (s : State) (b : BindIx) (x : Nat),
     s.rd F.PART_STATE_STATE c.part.val ≠ 1 → s.bindOf c.part.val = some b →
     (s.binding? b.val).bind Binding.running = some x →
     let after (cause : Nat) (t : State) : Prop :=
       MarkedPending s t c ∧ (t.binding? b.val).bind Binding.running = none ∧
       .contextAbort b ∈ t.recoveries ∧
       t.rd F.PART_FAULT_CTX_VALID c.part.val = 1 ∧
       (if s.on F.PART_FAULT_CTX_VALID c.part.val then
         t.rd F.PART_FAULT_CTX_CTX c.part.val = s.rd F.PART_FAULT_CTX_CTX c.part.val ∧
         t.rd F.PART_FAULT_CTX_LEVEL c.part.val = s.rd F.PART_FAULT_CTX_LEVEL c.part.val ∧
         t.rd F.PART_FAULT_CTX_CAUSE c.part.val = s.rd F.PART_FAULT_CTX_CAUSE c.part.val ∧
         t.rd F.PART_FAULT_CTX_CLUSTER c.part.val = s.rd F.PART_FAULT_CTX_CLUSTER c.part.val
        else
         t.rd F.PART_FAULT_CTX_CTX c.part.val = x % 2 ^ 16 ∧ t.rd F.PART_FAULT_CTX_LEVEL c.part.val = 1 ∧
         t.rd F.PART_FAULT_CTX_CAUSE c.part.val = cause ∧
         t.rd F.PART_FAULT_CTX_CLUSTER c.part.val = c.cluster.val) ∧
       t.beam = s.beam ∧ t.hbm.bytes = s.hbm.bytes ∧ t.hbm.poison = s.hbm.poison ∧
       t.stw = s.stw ∧ t.arr.scratch = s.arr.scratch
     Completes (.scratchUe c line) s (after 1) ∧
     Completes (.residueMismatch c) s (after 2) ∧
     ((coreIx c, il.val) ∈ s.arr.parity → Completes (.instrParityError c il) s (after 3))) ∧
  ((∀ (b : BindIx) (s : State),
     (.contextAbort b ∈ s.recoveries → Completes (.contextAbortDone b) s fun t =>
       .contextAbort b ∉ t.recoveries) ∧
     (.contextAbort b ∉ s.recoveries → exec (.contextAbortDone b) s = .next s)) ∧
   (∀ (p : Part) (b : BindIx) (x : Binding) (h : Bundle) (s : State),
     s.bindOf p.val = some b → s.binding? b.val = some x → s.bundle? x.handle = some h →
     x.phase = .repair → .contextAbort b ∉ s.recoveries → s.rd F.PART_STATE_STATE p.val = 3 →
     Completes (.repairRebind p) s fun t =>
       t.rd F.PART_GEN_GEN p.val = (s.rd F.PART_GEN_GEN p.val + 1) % 64 ∧
       (let n := t.rd F.PART_CLUSTERS_OK_CLUSTERS_OK p.val
        if n < 96 then t.rd F.PART_STATE_STATE p.val = 7 ∧ t.rd F.PART_STATE_ARR_ON p.val = 0
        else if hasVariant h.hdr n = false then
          t.rd F.PART_STATE_STATE p.val = 0 ∧ t.rd F.PART_STATE_ARR_ON p.val = 0
        else t.rd F.PART_STATE_STATE p.val = 2 ∧ t.rd F.PART_STATE_ARR_ON p.val = 1) ∧
       (∀ (c : CoreId) (o : Nat), c.part = p → o < 24576 → t.scratchByte c o = 0) ∧
       t.beam = s.beam ∧ t.hbm = s.hbm ∧ t.stw.flash = s.stw.flash) ∧
   (∀ (p : Part) (s : State), s.rd F.PART_STATE_STATE p.val ≠ 3 → exec (.repairRebind p) s = .next s) ∧
   (∀ (path : Path) (v : Word) (s : State),
     let p := s.rd F.PART_SEL_SEL (pathIx path)
     (p < 16 → Completes (.partCtrlWrite path v) s fun t =>
       t.rd F.PART_CTRL_SWEEP_NEXT p = bit (v.getLsbD 0) ∧ t.rd F.PART_CTRL_AUTO_REPAIR p = bit (v.getLsbD 1) ∧
       OnlyRegs s t [(F.PART_CTRL_SWEEP_NEXT, p), (F.PART_CTRL_AUTO_REPAIR, p)]) ∧
     (16 ≤ p → exec (.partCtrlWrite path v) s = .next s)))

/-- `n` bytes of a core's scratch from an offset. -/
def scratchAt (s : State) (c : CoreId) (off n : Nat) : List Byte := (List.range n).map fun k => s.scratchByte c (off + k)

/-- Every scratch byte of every core reads as before but those of core `c` that a predicate selects. -/
def ScratchOutside (s t : State) (c : CoreId) (p : Nat → Bool) : Prop :=
  ∀ (d : CoreId) (o : Nat), o < 24576 → (d = c → p o = false) → t.scratchByte d o = s.scratchByte d o

/-- The parts of the state beside scratch, its poison marks, the predicates, the generators and two counters
are as before. -/
def OnlyVector (s t : State) (c : CoreId) : Prop :=
  t = { s with regs := t.regs, free := t.free, arr := { s.arr with
        scratch := t.arr.scratch, scratchPoison := t.arr.scratchPoison } } ∧
  SameBut s t [(F.PART_ARITH_STATUS_SAT_COUNT, c.part.val), (F.PART_ARITH_STATUS_NAN_COUNT, c.part.val)]

/-- The two counters of a partition rise by the given amounts and saturate (R92, R131). -/
def ArithCounted (s t : State) (c : CoreId) (sat nan : Nat) : Prop :=
  t.rd F.PART_ARITH_STATUS_SAT_COUNT c.part.val =
    min (s.rd F.PART_ARITH_STATUS_SAT_COUNT c.part.val + sat) 0xFFFF ∧
  t.rd F.PART_ARITH_STATUS_NAN_COUNT c.part.val =
    min (s.rd F.PART_ARITH_STATUS_NAN_COUNT c.part.val + nan) 0xFFFF

/-- `MATRIX_PASS` (R69, R81-R84). -/
def Obligations.MatrixPassUpdatesItsAccumulators : Prop :=
  ∀ (c : CoreId) (x : Pass) (s : State), WellFormed.ok (.matrixPass c x) = true →
    let old (k : Nat) : Nat := s.accEntry c (x.entry.val + k)
    let fa (k : Nat) (col : PassVec) := fa32Pass (old k) (products x.pair x.act col)
    let ia (k : Nat) (col : PassVec) := ia32Pass (old k) (intProducts x.act col)
    let sats := (x.cols.zipIdx.map fun y =>
      if x.pair = .int8 then bit (ia y.2 y.1).2 else bit (fa y.2 y.1).2.1).sum
    let nans := (x.cols.zipIdx.map fun y => if x.pair = .int8 then 0 else bit (fa y.2 y.1).2.2).sum
    Completes (.matrixPass c x) s fun t =>
      (∀ (k : Nat) (col : PassVec), x.cols[k]? = some col →
        t.accEntry c (x.entry.val + k) = if x.pair = .int8 then (ia k col).1 else (fa k col).1) ∧
      (∀ (d : CoreId) (e : Nat), e < 1024 →
        (d ≠ c ∨ e < x.entry.val ∨ x.entry.val + x.cols.length ≤ e) → t.accEntry d e = s.accEntry d e) ∧
      (∀ (k q w : Nat) (col : PassVec), x.cols[k]? = some col → col.codes[q]? = some w →
        Tab.get t.arr.weights (coreIx c * 512 + k * 32 + q) 0 = w) ∧
      ArithCounted s t c sats nans ∧
      t = { s with regs := t.regs, arr := { s.arr with acc := t.arr.acc, weights := t.arr.weights } } ∧
      SameBut s t [(F.PART_ARITH_STATUS_SAT_COUNT, c.part.val), (F.PART_ARITH_STATUS_NAN_COUNT, c.part.val)]

/-- `MX_ENCODE`, `DQ4_ENCODE` (R74-R80) and `VECTOR_CONVERT` (R89). -/
def Obligations.EncodesAndConversionsWriteScratch : Prop :=
  (∀ (c : CoreId) (fmt : MxFmt) (x : List Word) (dst sdst : Nat) (s : State),
     (WellFormed.ok (.mxEncode c fmt x dst sdst) = true →
       let b := mxBlock fmt (x.map BitVec.toNat)
       let n := if fmt = .e2m1 then 16 else 32
       (sdst < dst ∨ dst + n ≤ sdst) →
       Completes (.mxEncode c fmt x dst sdst) s fun t =>
         scratchAt t c dst n = (if fmt = .e2m1 then packNibbles b.codes else codeBytes 1 b.codes) ∧
         t.scratchByte c sdst = BitVec.ofNat 8 b.scale ∧ ArithCounted s t c b.sat b.nan ∧
         ScratchOutside s t c (fun o => decide (dst ≤ o ∧ o < dst + n) || decide (o = sdst)) ∧
         t.free = s.free ∧ OnlyVector s t c) ∧
     (WellFormed.ok (.dq4Encode c x dst sdst) = true → (sdst < dst ∨ dst + 16 ≤ sdst) →
       let b := dq4Block (x.map BitVec.toNat)
       Completes (.dq4Encode c x dst sdst) s fun t =>
         scratchAt t c dst 16 = packNibbles b.codes ∧ t.scratchByte c sdst = BitVec.ofNat 8 b.scale ∧
         ArithCounted s t c b.sat b.nan ∧
         ScratchOutside s t c (fun o => decide (dst ≤ o ∧ o < dst + 16) || decide (o = sdst)) ∧
         t.free = s.free ∧ OnlyVector s t c)) ∧
  (∀ (c : CoreId) (k : Conv) (sat : Bool) (x : List Word) (dst : Nat) (s : State),
     WellFormed.ok (.vectorConvert c k sat x dst) = true →
     (∀ r : List Converted, r.length = x.length →
       (∀ (i : Nat) (w : Word), x[i]? = some w →
         ∀ u : State, u.convert k sat w.toNat = (r.getD i { code := 0 }, u)) →
       Completes (.vectorConvert c k sat x dst) s fun t =>
         scratchAt t c dst (convWidth k * x.length) = codeBytes (convWidth k) (r.map Converted.code) ∧
         ArithCounted s t c (r.map Converted.sat).sum (r.map Converted.nan).sum ∧ t.free = s.free) ∧
     Completes (.vectorConvert c k sat x dst) s fun t =>
       ScratchOutside s t c (fun o => decide (dst ≤ o ∧ o < dst + convWidth k * x.length)) ∧
       OnlyVector s t c ∧ s.free ≤ t.free)

/-- `VECTOR_OP` (R90, R38). -/
def Obligations.VectorOpWritesResultsOrPredicates : Prop :=
  ∀ (c : CoreId) (op : VOp) (half : Bool) (x y z : List Word) (dst : Nat) (s : State),
    WellFormed.ok (.vectorOp c op half x y z dst) = true →
    let w (l : List Word) (i : Nat) : Nat := vectorWord half (l.getD i 0)
    (∀ k, op = .compare k → Completes (.vectorOp c op half x y z dst) s fun t =>
      (∀ i < 8, (Tab.get t.arr.preds (coreIx c) 0).testBit i =
        if dst ≤ i ∧ i < dst + x.length then compareFp k (w x (i - dst)) (w y (i - dst))
        else (Tab.get s.arr.preds (coreIx c) 0).testBit i) ∧
      (∀ d : CoreId, coreIx d ≠ coreIx c → Tab.get t.arr.preds (coreIx d) 0 = Tab.get s.arr.preds (coreIx d) 0) ∧
      t = { s with arr := { s.arr with preds := t.arr.preds } }) ∧
    ((∀ k, op ≠ .compare k) →
      (∀ r : List Nat, r.length = x.length →
        (∀ i < x.length, ∀ u : State, u.vectorElem op (w x i) (w y i) (w z i) = (r.getD i 0, u)) →
        Completes (.vectorOp c op half x y z dst) s fun t =>
          scratchAt t c dst ((if half then 2 else 4) * x.length) =
            (if half then codeBytes 2 (r.map fun v => (convFp bf16 false v).code) else codeBytes 4 r) ∧
          t.free = s.free) ∧
      Completes (.vectorOp c op half x y z dst) s fun t =>
        ScratchOutside s t c (fun o => decide (dst ≤ o ∧ o < dst + (if half then 2 else 4) * x.length)) ∧
        OnlyVector s t c ∧ SameBut s t [] ∧ s.free ≤ t.free)

/-- `DS24_WRITEBACK` (R86-R88), `TOP_K`, `COMPACTION` (R33, R91). -/
def Obligations.WritebackAndSelectionsWriteScratch : Prop :=
  ∀ (c : CoreId) (s : State),
    (∀ (lane : Fin 16) (x : Word) (dst : Nat), dst + 3 ≤ 24576 →
      let g := xorshift (s.lane c lane.val)
      let r := ds24Write x.toNat (g % 256)
      Completes (.ds24Writeback c lane x dst) s fun t =>
        t.lane c lane.val = g ∧
        (∀ k, k ≠ coreIx c * 16 + lane.val → ∀ d, Tab.get t.arr.xorshift k d = Tab.get s.arr.xorshift k d) ∧
        scratchAt t c dst 3 = le 3 r.code ∧ ArithCounted s t c r.sat 0 ∧
        ScratchOutside s t c (fun o => decide (dst ≤ o ∧ o < dst + 3)) ∧
        t = { s with regs := t.regs, arr := { t.arr with
              user := s.arr.user, made := s.arr.made, parity := s.arr.parity, acc := s.arr.acc
              preds := s.arr.preds, weights := s.arr.weights, vregs := s.arr.vregs, loops := s.arr.loops
              ibuf := s.arr.ibuf } } ∧
        SameBut s t [(F.PART_ARITH_STATUS_SAT_COUNT, c.part.val), (F.PART_ARITH_STATUS_NAN_COUNT, c.part.val)]) ∧
    (∀ (k : Fin 257) (x : List Word) (dst : Nat), WellFormed.ok (.topK c k x dst) = true →
      let best := (ranked x).take k.val
      Completes (.topK c k x dst) s fun t =>
        scratchAt t c dst (8 * best.length) =
          codeBytes 4 (best.map fun e => e.1.toNat) ++ codeBytes 4 (best.map fun e => e.2) ∧
        ScratchOutside s t c (fun o => decide (dst ≤ o ∧ o < dst + 8 * best.length)) ∧
        t.free = s.free ∧ OnlyVector s t c ∧ SameBut s t []) ∧
    (∀ (x : List Word) (mask : List Bool) (dst : Nat), WellFormed.ok (.compaction c x mask dst) = true →
      let kept := (x.zip mask).filterMap fun e => if e.2 then some e.1.toNat else none
      Completes (.compaction c x mask dst) s fun t =>
        scratchAt t c dst (4 * kept.length) = codeBytes 4 kept ∧
        ScratchOutside s t c (fun o => decide (dst ≤ o ∧ o < dst + 4 * kept.length)) ∧
        t.free = s.free ∧ OnlyVector s t c ∧ SameBut s t [])

/-- What `TOP_K` selects (R91), without the algorithm. -/
def Obligations.TopKTakesTheLargest : Prop :=
  (∀ a b : Word,
    let x := fp32.decode a.toNat
    let y := fp32.decode b.toNat
    (∀ n m e n' m' e', x = .fin n m e → y = .fin n' m' e' →
      (rank a.toNat < rank b.toNat ↔ inUnits n m e (-149) < inUnits n' m' e' (-149))) ∧
    (y.isNan = false → (x = .inf true → rank a.toNat ≤ rank b.toNat) ∧
      (x = .inf false → rank b.toNat ≤ rank a.toNat) ∧ (x.isNan = true → rank a.toNat < rank b.toNat)) ∧
    (x.isNan = true → y.isNan = true → rank a.toNat = rank b.toNat)) ∧
  ∀ (x : List Word) (k : Nat),
    let best := (ranked x).take k
    let nan (w : Word) : Bool := (fp32.decode w.toNat).isNan
    let before (a b : Word × Nat) : Prop :=
      rank b.1.toNat < rank a.1.toNat ∨ (rank b.1.toNat = rank a.1.toNat ∧ a.2 < b.2)
    best.length = min k x.length ∧ (∀ e ∈ best, x[e.2]? = some e.1) ∧ best.Pairwise before ∧
    (∀ (i : Nat) (w : Word), x[i]? = some w → (w, i) ∉ best → ∀ e ∈ best, before e (w, i)) ∧
    ((∃ e ∈ best, nan e.1 = true) → x.countP (fun w => !nan w) < k)

/-- `BARRIER_ARRIVE` (R238), `HEAVY_AHEAD`, `HINT_TIMEOUT` (R430, R414). -/
def Obligations.BarrierAndHintsOfASchedule : Prop :=
  (∀ (p : Part) (step : Nat) (s : State) (b : Nat) (x : Binding) (j : Job),
    s.partBinding? p.val = some (b, x) → s.job? b = some j → s.rd F.WEFT_JOB_STATE_STATE b = 2 →
    Completes (.barrierArrive p step true) s fun t =>
      (∃ j' : Job, t.job? b = some j' ∧
        j'.arrived = if j.others.all fun q => j.tokens.contains (step, q) then none else some step) ∧
      (∀ q ∈ j.others, ∀ k, s.hopTo (j.nodes.getD q 0) = some k →
        let o : Out := .flit k "BARRIER" [j.nodes.getD q 0, step, j.self]
        o ∈ t.out ∨ (k, o) ∈ t.weft.waiting) ∧
      t = { s with regs := t.regs, out := t.out, weft := t.weft } ∧ SameButFields s t [I.lseq]) ∧
  (∀ (p : Part) (lead target : Nat) (s : State),
    let asked (t : State) : Prop := ∃ mv, 550 ≤ mv ∧ mv ≤ 800 ∧
      if s.rd I.vcoreNow 0 = 0 then t.rd I.vcoreNow 0 = mv ∧ t.out = .pmbus 6 "VOUT_COMMAND" mv :: s.out
      else t.pwr.voutWaiting = some mv ∧ t.rd I.vcoreNow 0 = s.rd I.vcoreNow 0 ∧ t.out = s.out
    (s.on F.PART_STATE_ARR_ON p.val = true → Completes (.heavyAhead p lead target) s fun t =>
      t.rd I.hintAt p.val = (s.us + 1) % I.hintAt.size ∧ t.rd I.hintLead p.val = lead % I.hintLead.size ∧
      t.rd I.hintTarget p.val = max 16 (min 256 target) ∧ t.rd F.PART_GUST_PRERAMP p.val = 0 ∧ asked t ∧
      t = { s with regs := t.regs, out := t.out, pwr := { s.pwr with voutWaiting := t.pwr.voutWaiting } } ∧
      SameBut s t [(I.hintAt, p.val), (I.hintLead, p.val), (I.hintTarget, p.val),
        (F.PART_GUST_PRERAMP, p.val), (I.vcoreNow, 0)]) ∧
    (s.on F.PART_STATE_ARR_ON p.val = false → exec (.heavyAhead p lead target) s = .next s) ∧
    (s.rd I.hintAt p.val ≠ 0 → Completes (.hintTimeout p) s fun t =>
      t.rd I.hintAt p.val = 0 ∧ t.rd F.PART_GUST_PRERAMP p.val = 0 ∧ asked t ∧
      t = { s with regs := t.regs, out := t.out, pwr := { s.pwr with voutWaiting := t.pwr.voutWaiting } } ∧
      SameBut s t [(I.hintAt, p.val), (F.PART_GUST_PRERAMP, p.val), (I.vcoreNow, 0)]))

/-- A counter rises by `n` and saturates at its largest value (R131). -/
def Rises (s t : State) (f : Fld) (i n : Nat) : Prop := t.rd f i = min (s.rd f i + n) (f.size - 1)

/-- Bytes of a memory other than `n` from `base` on read as before. -/
def BytesOutside (m m' : List Host.Cell) (base n : Nat) (d : Byte) : Prop :=
  ∀ k, (k < base ∨ base + n ≤ k) → Tab.get m' k d = Tab.get m k d

/-- `BEAM_ACCESS` (R101, R102, R119, R491). -/
def Obligations.BeamAccessIsGrantedOrRefused : Prop :=
  ∀ (r : BeamReq) (s : State),
    let b := r.bolt.val
    let l := r.line.val
    let base := s.storage b * 2 ^ 20 + l * 64
    (s.portFenced r = false → s.beamAllowed r = true →
      (∀ bs : List Byte, r.write = some bs → bs.length ≤ 64 → Completes (.beamAccess r) s fun t =>
        (∀ k (h : k < bs.length), t.beamByte b (l * 64 + k) = bs[k]) ∧
        BytesOutside s.beam.bytes t.beam.bytes base bs.length 0 ∧
        t.poisoned b l = (s.poisoned b l && decide (bs.length < 64)) ∧
        (∀ k, k ≠ s.storage b * 16384 + l → Tab.get t.beam.poison k false = Tab.get s.beam.poison k false) ∧
        t = { s with beam := { s.beam with bytes := t.beam.bytes, poison := t.beam.poison } }) ∧
      (r.write = none →
        (r.ecc = .clean → s.poisoned b l = false → Completes (.beamAccess r) s fun t =>
          t.out = .line b l (s.beamLine b l) :: s.out ∧ t = { s with out := t.out }) ∧
        (r.ecc = .corrected → Completes (.beamAccess r) s fun t =>
          .line b l (s.beamLine b l) ∈ t.out ∧ Rises s t F.BEAM_ECC_CE 0 1 ∧ t.beam.bytes = s.beam.bytes ∧
          t.beam.poison = s.beam.poison) ∧
        (r.ecc = .uncorrectable → Completes (.beamAccess r) s fun t =>
          .line b l (s.beamLine b l) ∈ t.out ∧ Rises s t F.BEAM_ECC_UE 0 1 ∧ t.beam.bytes = s.beam.bytes ∧
          t.poisoned b l = true))) ∧
    (s.portFenced r = false → s.beamAllowed r = false → Completes (.beamAccess r) s fun t =>
      Rises s t F.BEAM_LEASE_VIOL_COUNT 0 1 ∧ t.beam.bytes = s.beam.bytes ∧ t.beam.poison = s.beam.poison ∧
      (r.write = none → .line b l (List.replicate 64 0) ∈ t.out)) ∧
    (s.portFenced r = true → Completes (.beamAccess r) s fun t =>
      (r.write = none → t.out = .line b l (List.replicate 64 0) :: s.out) ∧
      (r.write ≠ none → t.out = s.out) ∧ t = { s with out := t.out })

/-- A bank that the scrubber of a group reads: one that serves lines (R95, R103). -/
def BankServes (s : State) (g : BankGroup) (bank : Fin 33) : Prop :=
  if bank.val = 32 then s.rd I.sparedBank g.val ≠ 33
  else ¬ (s.on I.spareUsed g.val = true ∧ s.rd I.sparedBank g.val = bank.val)

/-- Every stored byte of the Beam, HBM, scratch and flash as before. -/
def SameBytes (s t : State) : Prop :=
  t.beam.bytes = s.beam.bytes ∧ t.hbm.bytes = s.hbm.bytes ∧ t.arr.scratch = s.arr.scratch ∧
  t.stw.flash = s.stw.flash

/-- `BEAM_SCRUB`, `BANK_SPARE_SWITCH`, `BANK_CE_DECAY` (R103, R106, R113). -/
def Obligations.BankErrorsAndSparing : Prop :=
  (∀ (g : BankGroup) (bank : Fin 33) (line : Fin 1024) (iv : Bool) (s : State),
    exec (.beamScrub g bank line .clean iv) s = .next s ∧
    (BankServes s g bank →
      (Completes (.beamScrub g bank line .corrected iv) s fun t =>
        Rises s t F.BEAM_ECC_CE 0 1 ∧ SameBytes s t ∧ t.beam.poison = s.beam.poison) ∧
      (Completes (.beamScrub g bank line .uncorrectable iv) s fun t =>
        let place := if bank.val = 32 then s.rd I.sparedBank g.val else bank.val
        let key := (2 * g.val + line.val / 512) * 16384 + line.val % 512 * 32 + place
        Rises s t F.BEAM_ECC_UE 0 1 ∧ SameBytes s t ∧
        (∀ k, Tab.get t.beam.poison k false =
          ((decide (k = key) && !iv) || Tab.get s.beam.poison k false)))) ∧
    (¬ BankServes s g bank → ∀ e, exec (.beamScrub g bank line e iv) s = .next s)) ∧
  (∀ (g : BankGroup) (s : State),
    let k := s.rd I.copyBank g.val
    (∀ h : k < 33, Completes (.bankSpareSwitch g) s fun t =>
      t.rd I.spareUsed g.val = 1 ∧ t.rd I.sparedBank g.val = k ∧ t.rd I.copyBank g.val = 33 ∧
      Rises s t F.BEAM_ECC_SPARINGS 0 1 ∧
      .bank (Fin.ofNat 4 (g.val / 32)) (Fin.ofNat 32 g.val) ⟨k, h⟩ ∈ t.retirements ∧ SameMemories s t ∧
      SameBut s t [(I.spareUsed, g.val), (I.sparedBank, g.val), (I.copyBank, g.val), (F.BEAM_ECC_SPARINGS, 0)]) ∧
    (33 ≤ k → exec (.bankSpareSwitch g) s = .next s)) ∧
  (∀ (b : BankId) (s : State),
    let f := match b with | .beam _ _ => I.beamLevel | .hbm _ _ _ => I.hbmLevel
    let i := match b with | .beam g k => bankIx g.val k.val | .hbm g c k => hbmBankIx g.val c.val k.val
    Completes (.bankCeDecay b) s fun t => t.rd f i = (s.rd f i - 1) % f.size ∧ OnlyRegs s t [(f, i)])

/-- `HBM_SCRUB` and `HBM_DMA_BURST` (R110-R113). -/
def Obligations.HbmScrubAndBurst : Prop :=
  (∀ (g : Nat) (s : State),
    let waits (q : Nat) : Prop := ∃ t ∈ s.hbm.xfers, t.group = g ∧ t.queue = q
    (∀ q, s.nextQueue? g = some q → waits q ∧ ∃ k < 19, q = (s.rd I.dmaNext g + k) % 19 ∧
      ∀ j < k, ¬ waits ((s.rd I.dmaNext g + j) % 19)) ∧
    (∀ q < 19, waits q → (s.nextQueue? g).isSome = true)) ∧
  ∀ (g : HomeGroup) (line : Nat) (loc : HbmRow) (iv : Bool) (s : State),
    (s.inReset g.val = true → ∀ e, exec (.hbmScrub g line loc e iv) s = .next s ∧
      exec (.hbmDmaBurst g loc e) s = .next s) ∧
    (s.inReset g.val = false →
      exec (.hbmScrub g line loc .clean iv) s = .next s ∧
      (Completes (.hbmScrub g line loc .corrected iv) s fun t =>
        Rises s t F.HBM_GRP_ECC_CE g.val 1 ∧ SameMemories s t ∧
        SameButFields s t [F.HBM_GRP_ECC_CE, I.hbmLevel, F.HBM_GRP_REPAIR_PENDING]) ∧
      (Completes (.hbmScrub g line loc .uncorrectable iv) s fun t =>
        Rises s t F.HBM_GRP_ECC_UE g.val 1 ∧ (g.val, loc.chan.val, loc.bank.val, loc.row) ∈ t.hbm.rows ∧
        (∀ k, Tab.get t.hbm.poison k false =
          ((decide (k = g.val * 2 ^ 30 + line % 2 ^ 30) && !iv) || Tab.get s.hbm.poison k false)) ∧
        SameBytes s t ∧ SameButFields s t [F.HBM_GRP_ECC_UE, F.HBM_GRP_REPAIR_PENDING]) ∧
      (s.nextQueue? g.val = none → ∀ e, exec (.hbmDmaBurst g loc e) s = .next s) ∧
      (∀ q, s.nextQueue? g.val = some q →
        (Completes (.hbmDmaBurst g loc .clean) s fun t =>
          t.hbm.xfers = burst g.val q s.hbm.xfers ∧ t.rd I.dmaNext g.val = (q + 1) % 19 ∧
          t = { s with regs := t.regs, hbm := { s.hbm with xfers := t.hbm.xfers } } ∧
          SameBut s t [(I.dmaNext, g.val)]) ∧
        (Completes (.hbmDmaBurst g loc .corrected) s fun t =>
          t.hbm.xfers = burst g.val q s.hbm.xfers ∧ t.rd I.dmaNext g.val = (q + 1) % 19 ∧
          Rises s t F.HBM_GRP_ECC_CE g.val 1 ∧ SameMemories s t ∧
          SameButFields s t [I.dmaNext, F.HBM_GRP_ECC_CE, I.hbmLevel, F.HBM_GRP_REPAIR_PENDING]) ∧
        (Completes (.hbmDmaBurst g loc .uncorrectable) s fun t =>
          t.rd I.dmaNext g.val = (q + 1) % 19 ∧ Rises s t F.HBM_GRP_ECC_UE g.val 1 ∧
          (g.val, loc.chan.val, loc.bank.val, loc.row) ∈ t.hbm.rows ∧ SameMemories s t)))

/-- No re-bind waits for leases to end. -/
def NoRebindWaits (s : State) : Prop := ∀ p b l d, s.bnd.cmd ≠ some (.rebound p b l d)

/-- `BOLT_DRAIN_DONE`, `BOLT_ZERO_DONE` (R118), `HBM_LEASE_DRAIN_END` (R121), `BUNDLE_COPY_REBUILT`
(R125). -/
def Obligations.LeasesDrainAndAreErased : Prop :=
  (∀ (bolt : BoltIx) (s : State),
    let b := bolt.val
    ((s.bolt b).state = .draining → Completes (.boltDrainDone bolt) s fun t =>
      (t.bolt b).state = .zeroing ∧ (t.bolt b).owner = (s.bolt b).owner ∧ (∀ k ≠ b, t.bolt k = s.bolt k) ∧
      t = { s with beam := { s.beam with bolts := t.beam.bolts } }) ∧
    ((s.bolt b).state ≠ .draining → exec (.boltDrainDone bolt) s = .next s) ∧
    ((s.bolt b).state = .zeroing → Completes (.boltZeroDone bolt) s fun t =>
      (∀ o < 2 ^ 20, Tab.get t.beam.bytes (s.storage b * 2 ^ 20 + o) 0 = 0) ∧
      (∀ l < 16384, Tab.get t.beam.poison (s.storage b * 16384 + l) false = false) ∧
      (∀ k, k / 2 ^ 20 ≠ s.storage b → Tab.get t.beam.bytes k 0 = Tab.get s.beam.bytes k 0) ∧
      t.hbm.bytes = s.hbm.bytes ∧ t.stw.flash = s.stw.flash ∧
      (NoRebindWaits s → t.bolt b = { s.bolt b with
          state := if (s.bolt b).retireOnRelease then .retired else .free, owner := 0 } ∧
        (∀ k ≠ b, t.bolt k = s.bolt k) ∧ t.arr = s.arr ∧ SameBut s t [])) ∧
    ((s.bolt b).state ≠ .zeroing → exec (.boltZeroDone bolt) s = .next s)) ∧
  (∀ (id : Nat) (l : Lease) (s : State), s.lease? id = some l →
    (l.state = .draining → NoRebindWaits s → Completes (.hbmLeaseDrainEnd id) s fun t =>
      t.lease? id = none ∧ (∀ k ≠ id, t.lease? k = s.lease? k) ∧ SameMemories s t ∧ SameBut s t []) ∧
    (l.state ≠ .draining → s.leaseHeld id = true → exec (.hbmLeaseDrainEnd id) s = .next s)) ∧
  (∀ (h : Nat) (x : Bundle) (s : State), s.bundle? h = some x →
    (x.lost1 ≠ x.lost2 → Completes (.bundleCopyRebuilt h) s fun t =>
      t.bundle? h = some { x with lost1 := false, lost2 := false } ∧ (∀ k ≠ h, t.bundle? k = s.bundle? k) ∧
      SameMemories s t ∧ SameBut s t []) ∧
    (x.lost1 = x.lost2 → exec (.bundleCopyRebuilt h) s = .next s))

/-- `HDM_APPLY` (R127, R128, R132). -/
def Obligations.HdmApplyResizesOrReportsError : Prop :=
  ∀ (v : Word) (s : State),
    let n := min 512 (field v.toNat 9 0)
    let blocked := (List.range 16).any s.inReset || s.on I.hdmCommitted 0 ||
      !(List.range 16).all fun g => decide (n ≤ (s.dropHdm.freeExts g).length)
    (v.getLsbD 16 = false → Completes (.hdmApply v) s fun t =>
      t.rd F.HDM_CFG_SIZE_GIB 0 = n ∧ (v.getLsbD 18 = true → t.rd F.HDM_CFG_ERR 0 = 0) ∧
      OnlyRegs s t ((F.HDM_CFG_SIZE_GIB, 0) :: if v.getLsbD 18 then [(F.HDM_CFG_ERR, 0)] else [])) ∧
    (v.getLsbD 16 = true → blocked = true → Completes (.hdmApply v) s fun t =>
      t.rd F.HDM_CFG_SIZE_GIB 0 = n ∧ t.rd F.HDM_CFG_ERR 0 = 1 ∧
      OnlyRegs s t [(F.HDM_CFG_SIZE_GIB, 0), (F.HDM_CFG_ERR, 0)]) ∧
    (v.getLsbD 16 = true → blocked = false → Completes (.hdmApply v) s fun t =>
      t.rd F.HDM_CFG_SIZE_GIB 0 = n ∧ t.rd F.HDM_CFG_CUR_GIB 0 = n ∧
      t.rd F.HDM_CFG_ACTIVE 0 = (if n = 0 then 0 else 1) ∧
      (0 < n → ∀ g < 16, ∃ l ∈ t.hbm.leases, l.2.use = .hdm ∧ l.2.group = g ∧ l.2.exts.length = n) ∧
      SameMemories s t ∧
      SameBut s t [(F.HDM_CFG_SIZE_GIB, 0), (F.HDM_CFG_ERR, 0), (F.HDM_CFG_CUR_GIB, 0), (F.HDM_CFG_ACTIVE, 0)])

/-- A request or write to the host: sent, held while the link is down or Bus Master Enable is 0, or not
carried by a link that runs as PCIe (R259, R260, R284). -/
def HostGets (s t : State) (o : Out) : Prop :=
  if s.rd F.HOST_LINK_MODE 0 = 1 then True
  else if s.rd F.HOST_LINK_MODE 0 = 0 ∧ s.on I.bme 0 = true then o ∈ t.out
  else o ∈ t.host.heldOut

/-- The command in execution has ended with a reason (R174): BUSY 0, DONE 1, the reason; while firmware does
not serve, the outcome waits for it (R306). -/
def EndsWith (s t : State) (reason : Nat) : Prop :=
  if s.on F.HOST_STATUS_FW_UP 0 then
    t.rd F.CMD_STATUS_BUSY 0 = 0 ∧ t.rd F.CMD_STATUS_DONE 0 = 1 ∧ t.rd F.CMD_STATUS_REASON 0 = reason ∧
    t.bnd.cmd = none
  else t.bnd.cmd = some (.ended reason) ∧ t.rd F.CMD_STATUS_BUSY 0 = s.rd F.CMD_STATUS_BUSY 0

/-- The registers that the end of a command writes, beside those of a message to the host. -/
def cmdEnd : List (Fld × Nat) :=
  [(F.CMD_STATUS_BUSY, 0), (F.CMD_STATUS_DONE, 0), (F.CMD_STATUS_REASON, 0), (I.msixPending, 1024)]

/-- `CMD_GO` and `CMD_DEFERRED_START` (R164, R168). -/
def Obligations.CommandGoRegistersOneCommand : Prop :=
  ∀ (path : Path) (s : State),
    let read : Out := .hostRead (s.rd F.CMD_ADDR 0 / 64 * 64) 64
    (s.on F.CMD_STATUS_BUSY 0 = false → s.on F.HOST_STATUS_FW_UP 0 = true → Completes (.cmdGo path) s fun t =>
      t.rd F.CMD_STATUS_BUSY 0 = 1 ∧ t.bnd.cmd = some .waiting ∧ t.rd I.cmdDeferred 0 = 0 ∧ HostGets s t read ∧
      t.rd I.cmdPaused 0 = bit s.emergency ∧ SameMemories s t ∧
      SameBut s t [(F.CMD_STATUS_BUSY, 0), (I.cmdDeferred, 0), (I.cmdPaused, 0)]) ∧
    (s.on F.CMD_STATUS_BUSY 0 = false → s.on F.HOST_STATUS_FW_UP 0 = false → Completes (.cmdGo path) s fun t =>
      t.rd F.CMD_STATUS_BUSY 0 = 1 ∧ t.bnd.cmd = some .waiting ∧ t.rd I.cmdDeferred 0 = 1 ∧ t.out = s.out ∧
      t.host = s.host ∧ SameMemories s t ∧ SameBut s t [(F.CMD_STATUS_BUSY, 0), (I.cmdDeferred, 0)]) ∧
    (s.on F.CMD_STATUS_BUSY 0 = true → Completes (.cmdGo path) s fun t =>
      Rises s t F.FAULT_CLASSC_COUNT 0 1 ∧ t.bnd = s.bnd ∧ t.out = s.out ∧ SameMemories s t ∧
      SameButFields s t [F.FAULT_CLASSC_COUNT, F.LOG_SEQ_NEXT, I.logLostFirst, I.logLostCount, F.LOG_STATUS_LOST]) ∧
    (s.on I.cmdDeferred 0 = true → s.on F.HOST_STATUS_FW_UP 0 = true → Completes .cmdDeferredStart s fun t =>
      (if s.goQueued then t.rd I.cmdDeferred 0 = 2 ∧ t.out = s.out ∧ t.host = s.host
       else t.rd I.cmdDeferred 0 = 0 ∧ HostGets s t read) ∧
      t.rd I.cmdPaused 0 = bit s.emergency ∧ t.bnd = s.bnd ∧ SameMemories s t ∧
      SameBut s t [(I.cmdDeferred, 0), (I.cmdPaused, 0)]) ∧
    ((s.on I.cmdDeferred 0 = false ∨ s.on F.HOST_STATUS_FW_UP 0 = false) →
      exec .cmdDeferredStart s = .next s)

/-- The commands of the command window: how each is made from its descriptor and the outcome of its tag check,
which descriptor fields must be in range, and whether an emergency refuses it (R166-R168). -/
def windowCommands : List ((Unit64 → Bool → Instr) × (Desc → Bool) × Bool) :=
  [(.cmdUnknownOpcode, fun _ => false, false),
   (fun d k => .bundleLoad d k ⟨true, ⟨1, 1, 0, 0, 0, 0, .nv12, .raw, false, 0, 0, 0, [], none, [], 0, none, 0⟩⟩,
      fun x => x.ownerOk && x.groupOk, false),
   (.bundleDrop, fun x => x.ownerOk && x.bundleOk, false), (.bind, Desc.bindOk, true),
   (.unbind, fun x => x.ownerOk && x.targetOk && x.flagsOk, false),
   (.rebind, fun x => x.bindOk && x.targetOk, true), (.spoolOpen, fun x => x.ownerOk && x.spoolOk, false),
   (.spoolClose, fun x => x.ownerOk && x.spoolOk, false),
   (.ctxOpen, fun x => x.ownerOk && x.ctxOk && x.targetOk && x.spoolOk && decide (x.deadline < 2 ^ 20), true),
   (.ctxClose, fun x => x.ownerOk && x.ctxOk, false),
   (.ctxMove, fun x => x.ownerOk && x.ctxOk && x.targetOk, true),
   (.ctxResume, fun x => x.ownerOk && x.ctxOk, false)]

/-- The checks of R165-R168 before a command acts. -/
def Obligations.WindowCommandsAreCheckedFirst : Prop :=
  ∀ c ∈ windowCommands, ∀ (desc : Unit64) (tagOk : Bool) (s : State),
    s.on F.SEC_STATUS_DRBG_STOP 0 = false → s.bnd.toClose = [] →
    let x := Desc.of desc
    (s.ready = false → exec (c.1 desc tagOk) s = .next s) ∧
    (s.ready = true → c.2.1 x = false → Completes (c.1 desc tagOk) s fun t =>
      EndsWith s t 0x01 ∧ SameBytes s t ∧ SameBut s t cmdEnd ∧
      ∀ o, s.owner? x.owner = some o → s.authentic x tagOk = true →
        t.owner? x.owner = some { o with lastSeq := x.seq }) ∧
    (s.ready = true → c.2.1 x = true → s.authentic x tagOk = false → Completes (c.1 desc tagOk) s fun t =>
      EndsWith s t 0x02 ∧ Rises s t F.SEC_AUTH_CMD_FAILS 0 1 ∧ SameBytes s t ∧ t.bnd.owners = s.bnd.owners ∧
      SameBut s t ((F.SEC_AUTH_CMD_FAILS, 0) :: cmdEnd)) ∧
    (s.ready = true → c.2.1 x = true → s.authentic x tagOk = true → c.2.2 = true → s.on I.cmdPaused 0 = true →
      Completes (c.1 desc tagOk) s fun t =>
        EndsWith s t 0x14 ∧ SameBytes s t ∧ SameBut s t cmdEnd ∧
        ∀ o, s.owner? x.owner = some o → t.owner? x.owner = some { o with lastSeq := x.seq })

/-- A command that waits for its descriptor has one that authenticates and no emergency refuses it; firmware
serves and no owner waits to close. -/
abbrev Accepted (s : State) (desc : Unit64) : Prop :=
  s.ready = true ∧ s.authentic (Desc.of desc) true = true ∧ s.on I.cmdPaused 0 = false ∧
  s.on F.HOST_STATUS_FW_UP 0 = true ∧ s.bnd.toClose = [] ∧ s.on F.SEC_STATUS_DRBG_STOP 0 = false

/-- The state of an accepted command before it acts: the owner's last `SEQ` is the descriptor's. -/
abbrev accepted (s : State) (desc : Unit64) : State := s.acceptSeq (Desc.of desc)

/-- `BUNDLE_LOAD` (R169) and `BUNDLE_DROP` (R170). -/
def Obligations.BundlesAreLoadedAndDropped : Prop :=
  ∀ (desc : Unit64) (b : SealedBundle) (s : State),
    let x := Desc.of desc
    let u := accepted s desc
    (s.on F.SEC_STATUS_DRBG_STOP 0 = true → ∀ tagOk, exec (.bundleLoad desc tagOk b) s = .next s) ∧
    (Accepted s desc → x.ownerOk = true → x.groupOk = true →
      ((b.tagOk = false ∨ unitField desc 32 4 < 24) → Completes (.bundleLoad desc true b) s fun t =>
        EndsWith s t 0x02 ∧ t.hbm = s.hbm ∧ t.bnd.bundles = s.bnd.bundles ∧ SameBut s t cmdEnd) ∧
      (b.tagOk = true → 24 ≤ unitField desc 32 4 → b.hdr.plan.any planBad = true →
        Completes (.bundleLoad desc true b) s fun t =>
          EndsWith s t 0x19 ∧ t.hbm = s.hbm ∧ t.bnd.bundles = s.bnd.bundles ∧ SameBut s t cmdEnd) ∧
      (b.tagOk = true → 24 ≤ unitField desc 32 4 → b.hdr.plan.any planBad = false → s.freeHandle? = none →
        Completes (.bundleLoad desc true b) s fun t =>
          EndsWith s t 0x17 ∧ t.hbm = s.hbm ∧ t.bnd.bundles = s.bnd.bundles ∧ SameBut s t cmdEnd) ∧
      (∀ h g g2 : Nat, b.tagOk = true → 24 ≤ unitField desc 32 4 → b.hdr.plan.any planBad = false →
        s.freeHandle? = some h →
        let n := storeExtents b.hdr.storeBytes
        u.roomIn (groupsFrom (if x.group < 16 then x.group else u.emptiestGroup)) n = some g →
        u.roomIn ((groupsFrom (g + 2)).filter fun k => k / 2 != g / 2) n = some g2 →
        Completes (.bundleLoad desc true b) s fun t =>
          EndsWith s t 0 ∧ t.rd F.CMD_RESULT_HANDLE 0 = h ∧ g / 2 ≠ g2 / 2 ∧
          (∃ y : Bundle, t.bundle? h = some y ∧ y.owner = x.owner ∧ y.hdr = b.hdr ∧
            ∃ l1 l2 : Lease, t.lease? y.copy1 = some l1 ∧ t.lease? y.copy2 = some l2 ∧
              l1.group = g ∧ l2.group = g2 ∧ l1.owner = x.owner ∧ l2.owner = x.owner ∧
              l1.exts.length = n ∧ l2.exts.length = n ∧ l1.state = .active ∧ l2.state = .active) ∧
          SameMemories s t ∧ SameBut s t ((F.CMD_RESULT_HANDLE, 0) :: cmdEnd))) ∧
    (Accepted s desc → x.ownerOk = true → x.bundleOk = true →
      (s.bundle? x.bundle = none → Completes (.bundleDrop desc true) s fun t =>
        EndsWith s t 0x04 ∧ t.bnd.bundles = s.bnd.bundles ∧ SameBut s t cmdEnd) ∧
      (∀ y, s.bundle? x.bundle = some y →
        (y.owner ≠ x.owner → Completes (.bundleDrop desc true) s fun t =>
          EndsWith s t 0x03 ∧ t.bnd.bundles = s.bnd.bundles ∧ SameBut s t cmdEnd) ∧
        (y.owner = x.owner → (s.bnd.bindings.any fun z => z.2.handle == x.bundle) = true →
          Completes (.bundleDrop desc true) s fun t =>
            EndsWith s t 0x05 ∧ t.bnd.bundles = s.bnd.bundles ∧ SameBut s t cmdEnd) ∧
        (y.owner = x.owner → (s.bnd.bindings.any fun z => z.2.handle == x.bundle) = false →
          Completes (.bundleDrop desc true) s fun t =>
            EndsWith s t 0 ∧ t.bundle? x.bundle = none ∧ (∀ k ≠ x.bundle, t.bundle? k = s.bundle? k) ∧
            SameMemories s t ∧ SameBut s t cmdEnd)))

/-- What a refused command of the window leaves alone beside the registers listed: leases, bolts, bindings,
contexts, and every stored byte. -/
def NothingGranted (s t : State) (l : List (Fld × Nat)) : Prop :=
  t.hbm = s.hbm ∧ t.beam = s.beam ∧ t.bnd.bindings = s.bnd.bindings ∧ t.bnd.ctxs = s.bnd.ctxs ∧
  t.bnd.spools = s.bnd.spools ∧ t.bnd.frames = s.bnd.frames ∧ t.arr = s.arr ∧ t.stw = s.stw ∧ SameBut s t l

/-- `BIND` (R170-R176). -/
def Obligations.BindGrantsEverythingOrNothing : Prop :=
  (∀ (desc : Unit64) (tagOk : Bool) (s : State), s.on F.SEC_STATUS_DRBG_STOP 0 = true →
    exec (.bind desc tagOk) s = .next s) ∧
  ∀ (desc : Unit64) (s : State),
    let x := Desc.of desc
    let u := accepted s desc
    Accepted s desc → x.bindOk = true →
    (s.bundle? x.bundle = none → Completes (.bind desc true) s fun t =>
      EndsWith s t 0x04 ∧ NothingGranted s t cmdEnd) ∧
    ∀ h, s.bundle? x.bundle = some h →
      (h.owner ≠ x.owner → Completes (.bind desc true) s fun t =>
        EndsWith s t 0x03 ∧ NothingGranted s t cmdEnd) ∧
      (h.owner = x.owner → wrongCount x h.hdr.partitions none = true → Completes (.bind desc true) s fun t =>
        EndsWith s t 0x01 ∧ NothingGranted s t cmdEnd) ∧
      (h.owner = x.owner → wrongCount x h.hdr.partitions none = false →
        let p := u.bindPlan x h none
        let b := p.parts.foldl min 15
        (∀ c cs, p.codes = c :: cs → Completes (.bind desc true) s fun t =>
          EndsWith s t c ∧ t.rd F.CMD_MISSING0_BOLTS 0 = min 511 p.noBolts ∧
          t.rd F.CMD_MISSING0_PARTITIONS 0 = min 16 p.noParts ∧
          t.rd F.CMD_MISSING1_EXTENTS 0 = min 16383 p.noExts ∧
          t.rd F.CMD_MISSING1_DECODE_UNITS 0 = min 255 p.noUnits ∧
          t.rd F.CMD_MISSING1_KEY_SLOTS 0 = min 255 p.noKeys ∧
          NothingGranted s t (cmdEnd ++ [(F.CMD_MISSING0_BOLTS, 0), (F.CMD_MISSING0_PARTITIONS, 0),
            (F.CMD_MISSING1_EXTENTS, 0), (F.CMD_MISSING1_DECODE_UNITS, 0), (F.CMD_MISSING1_KEY_SLOTS, 0)])) ∧
        (p.codes = [] → (∃ q ∈ p.parts, x.flags.testBit 2 = true ∨ s.sweepDue q = true) →
          Completes (.bind desc true) s fun t =>
            t.bnd.cmd = some (.bind b) ∧
            (∃ y : Binding, t.binding? b = some y ∧ y.parts = p.parts ∧ y.bolts = p.bolts ∧
              y.owner = x.owner ∧ y.handle = x.bundle ∧ y.phase = .sweep) ∧
            (∀ k ∈ p.bolts, (t.bolt k).state = .leased ∧ (t.bolt k).owner = x.owner) ∧
            (∀ q ∈ p.parts, (x.flags.testBit 2 = true ∨ s.sweepDue q = true) →
              t.rd F.PART_STATE_STATE q = 1 ∧ t.rd F.PART_STATE_ARR_ON q = 1 ∧
              t.rd F.PART_STATE_SWEEP_DUE q = 1 ∧ t.rd F.PART_LEASE_OWNER_OWNER q = x.owner) ∧
            t.beam.bytes = s.beam.bytes ∧ t.hbm.bytes = s.hbm.bytes ∧ t.stw.flash = s.stw.flash) ∧
        (p.codes = [] → x.flags.testBit 2 = false → (∀ q ∈ p.parts, s.sweepDue q = false) →
          Completes (.bind desc true) s fun t =>
            ((t.bnd.cmd = some (.bind b) ∧ (∃ y : Binding, t.binding? b = some y ∧ y.parts = p.parts ∧
                y.bolts = p.bolts ∧ y.owner = x.owner ∧ y.handle = x.bundle ∧ y.phase = .loading) ∧
              (∀ k ∈ p.bolts, (t.bolt k).state = .leased ∧ (t.bolt k).owner = x.owner) ∧
              ∀ q ∈ p.parts, t.rd F.PART_STATE_STATE q = 2 ∧ t.rd F.PART_STATE_ARR_ON q = 1) ∨
             ((∃ q ∈ p.parts, t.rd F.PART_CLUSTERS_OK_CLUSTERS_OK q < 96 ∨
                hasVariant h.hdr (t.rd F.PART_CLUSTERS_OK_CLUSTERS_OK q) = false) ∧
              (EndsWith s t 0x07 ∨ EndsWith s t 0x08))) ∧
            t.beam.bytes = s.beam.bytes ∧ t.hbm.bytes = s.hbm.bytes ∧ t.stw.flash = s.stw.flash))

/-- `SWEEP_COMPLETE` (R59-R61) and `BIND_FIRST_INSTRUCTION` (R180). -/
def Obligations.SweepAndFirstInstruction : Prop :=
  (∀ (p : Part) (failed : List (Cluster × CoreIx)) (dur : Nat) (s : State),
    (s.rd F.PART_STATE_STATE p.val ≠ 1 → ∀ fault, exec (.sweepComplete p fault failed dur) s = .next s) ∧
    (s.rd F.PART_STATE_STATE p.val = 1 → ∀ b x, s.partBinding? p.val = some (b, x) → s.binding? b = some x →
      (s.bnd.toClose = [] → Completes (.sweepComplete p true failed dur) s fun t =>
        EndsWith s t 0x12 ∧ t.binding? b = none ∧ t.beam.bytes = s.beam.bytes ∧ t.hbm.bytes = s.hbm.bytes ∧
        t.stw.flash = s.stw.flash) ∧
      (Completes (.sweepComplete p false failed dur) s fun t =>
        t.rd F.PART_SWEEP_STATUS_DONE p.val = 1 ∧
        t.rd F.PART_SWEEP_STATUS_PASS p.val = bit (96 ≤ t.rd F.PART_CLUSTERS_OK_CLUSTERS_OK p.val) ∧
        t.rd F.PART_SWEEP_STATUS_CORES_FAILED p.val = min 255 (failed.eraseDups.filter fun e =>
          !(s.retiredCores p.val e.1.val).testBit e.2.val).length ∧
        t.rd F.PART_SWEEP_STATUS_DURATION p.val = min 4095 dur ∧ t.rd F.PART_STATE_SWEEP_DUE p.val = 0 ∧
        (x.sweeping.filter (· != p.val) ≠ [] →
          t.binding? b = some { x with sweeping := x.sweeping.filter (· != p.val) } ∧ t.bnd.cmd = s.bnd.cmd) ∧
        t.beam.bytes = s.beam.bytes ∧ t.hbm.bytes = s.hbm.bytes ∧ t.stw.flash = s.stw.flash))) ∧
  (∀ (b : BindIx) (s : State),
    (∀ x, s.binding? b.val = some x → x.phase = .loading → s.mayStart b.val x = true → s.bnd.toClose = [] →
      Completes (.bindFirstInstruction b) s fun t =>
        (∀ q ∈ x.parts, t.rd F.PART_STATE_STATE q =
          if s.rd F.PART_STATE_STATE q = 2 then 3 else s.rd F.PART_STATE_STATE q) ∧
        t.binding? b.val = some { x with phase := .bound } ∧
        (if s.bnd.cmd = some (.bind b.val) then
          EndsWith s t 0 ∧ t.rd F.CMD_STATUS_BINDING 0 = b.val ∧
          t.rd F.CMD_RESULT_SPILL_LEVEL 0 = x.spill % F.CMD_RESULT_SPILL_LEVEL.size ∧
          SameBut s t (cmdEnd ++ [(F.CMD_STATUS_BINDING, 0), (F.CMD_RESULT_SPILL_LEVEL, 0)] ++
            x.parts.map fun q => (F.PART_STATE_STATE, q))
         else t.bnd.cmd = s.bnd.cmd ∧ SameBut s t (x.parts.map fun q => (F.PART_STATE_STATE, q))) ∧
        SameMemories s t) ∧
    (s.binding? b.val = none → exec (.bindFirstInstruction b) s = .next s) ∧
    (∀ x, s.binding? b.val = some x → (x.phase ≠ .loading ∨ s.mayStart b.val x = false) →
      exec (.bindFirstInstruction b) s = .next s))

/-- The first step of an unbind has been taken (R178, R179): the binding admits nothing, its partitions are
UNBINDING, its contexts CLOSING, and of their frames only a running one goes on. -/
def UnbindStarted (s t : State) (b : Nat) (x : Binding) (abort : Bool) : Prop :=
  (∃ y : Binding, t.binding? b = some y ∧ y.phase = .unbinding ∧ y.parts = x.parts ∧ y.bolts = x.bolts ∧
    y.running = if abort then none else x.running) ∧
  (∀ q ∈ x.parts, t.rd F.PART_STATE_STATE q =
    if s.rd F.PART_STATE_STATE q = 1 ∨ s.rd F.PART_STATE_STATE q = 2 ∨ s.rd F.PART_STATE_STATE q = 3 then 4
    else s.rd F.PART_STATE_STATE q) ∧
  (∀ c ∈ s.ctxsOn b, t.rd F.CTX_STATE_STATE c = 5) ∧
  (∀ f ∈ t.bnd.frames, f.ctx ∈ s.ctxsOn b → f.stage = .running ∨ f.isDone = true) ∧
  SameBytes s t

/-- `UNBIND` (R178, R181), `REBIND` (R179), `UNBIND_RELEASE` (R179). -/
def Obligations.UnbindAndRebind : Prop :=
  (∀ (desc : Unit64) (s : State), Accepted s desc →
    let x := Desc.of desc
    let abort := x.flags.testBit 1
    ((x.ownerOk && x.targetOk && x.flagsOk) = true →
      (s.binding? x.target = none → Completes (.unbind desc true) s fun t =>
        EndsWith s t 0x01 ∧ NothingGranted s t cmdEnd) ∧
      ∀ y, s.binding? x.target = some y →
        (y.owner ≠ x.owner → Completes (.unbind desc true) s fun t =>
          EndsWith s t 0x03 ∧ NothingGranted s t cmdEnd) ∧
        (y.owner = x.owner → y.parts.any s.inReset = true → Completes (.unbind desc true) s fun t =>
          t.bnd.cmd = some (.held false x.target desc) ∧ NothingGranted s t []) ∧
        (y.owner = x.owner → y.parts.any s.inReset = false → Completes (.unbind desc true) s fun t =>
          t.bnd.cmd = some (.unbind x.target) ∧ UnbindStarted s t x.target y abort)) ∧
    ((x.bindOk && x.targetOk) = true →
      (s.binding? x.target = none → Completes (.rebind desc true) s fun t =>
        EndsWith s t 0x01 ∧ NothingGranted s t cmdEnd) ∧
      ∀ y, s.binding? x.target = some y →
        (y.owner ≠ x.owner → Completes (.rebind desc true) s fun t =>
          EndsWith s t 0x03 ∧ NothingGranted s t cmdEnd) ∧
        (y.owner = x.owner → x.mask ≠ 0 → x.mask ≠ maskOf y.parts → Completes (.rebind desc true) s fun t =>
          EndsWith s t 0x01 ∧ NothingGranted s t cmdEnd) ∧
        (y.owner = x.owner → (x.mask = 0 ∨ x.mask = maskOf y.parts) → y.parts.any s.inReset = true →
          Completes (.rebind desc true) s fun t =>
            t.bnd.cmd = some (.held true x.target desc) ∧ NothingGranted s t []) ∧
        (y.owner = x.owner → (x.mask = 0 ∨ x.mask = maskOf y.parts) → y.parts.any s.inReset = false →
          Completes (.rebind desc true) s fun t =>
            t.bnd.cmd = some (.rebind x.target desc) ∧ UnbindStarted s t x.target y abort))) ∧
  (∀ (b : BindIx) (x : Binding) (s : State), s.binding? b.val = some x →
    x.phase = .unbinding → x.running = none → x.parts.Nodup → (∀ q ∈ x.parts, q < 16) →
    let released (t : State) : Prop :=
      t.binding? b.val = none ∧ (∀ c ∈ s.ctxsOn b.val, t.ctx? c = none ∧ t.rd F.CTX_STATE_STATE c = 0) ∧
      (∀ q ∈ x.parts, t.rd F.PART_GEN_GEN q = (s.rd F.PART_GEN_GEN q + 1) % 64) ∧
      (∀ k ∈ x.bolts, (s.bolt k).state = .leased → (t.bolt k).state = .draining) ∧
      t.beam.bytes = s.beam.bytes ∧ t.hbm.bytes = s.hbm.bytes ∧ t.stw.flash = s.stw.flash
    (s.bnd.cmd = some (.unbind b.val) → s.bnd.toClose = [] → (∀ c ∈ s.ctxsOn b.val, c < 40960) →
      Completes (.unbindRelease b) s fun t => released t ∧ EndsWith s t 0 ∧
        ∀ (k : CoreId) (o : Nat), k.part.val ∈ x.parts → s.inReset k.part.val = false → o < 24576 →
          t.scratchByte k o = 0) ∧
    (∀ desc, s.bnd.cmd = some (.rebind b.val desc) → (∃ k ∈ x.bolts, (s.bolt k).state = .leased) →
      (∀ c ∈ s.ctxsOn b.val, c < 40960) → Completes (.unbindRelease b) s fun t =>
        released t ∧ t.bnd.cmd = some (.rebound x.parts x.bolts x.leases desc))) ∧
  (∀ (b : BindIx) (s : State),
    (∀ x, s.binding? b.val = some x → x.phase ≠ .unbinding ∨ x.running ≠ none) →
    exec (.unbindRelease b) s = .next s)

/-- `SPOOL_OPEN` and `SPOOL_CLOSE` (R167, R187). -/
def Obligations.SpoolsOpenAndClose : Prop :=
  ∀ (desc : Unit64) (s : State), Accepted s desc → ((Desc.of desc).ownerOk && (Desc.of desc).spoolOk) = true →
    let x := Desc.of desc
    let k := x.spool
    let used := s.bnd.ctxs.any fun c => c.2.spool == k && s.rd F.CTX_STATE_STATE c.1 != 6
    let kept (t : State) : Prop := (∀ j ≠ k, t.spool j = s.spool j) ∧ t.bnd.ctxs = s.bnd.ctxs ∧
      t.bnd.bindings = s.bnd.bindings ∧ t.hbm = s.hbm ∧ t.beam = s.beam ∧ t.arr = s.arr ∧ t.stw = s.stw
    (s.on F.SPOOL_SIZE_OPEN k = false → Completes (.spoolOpen desc true) s fun t =>
      EndsWith s t 0 ∧ t.rd F.SPOOL_SIZE_OPEN k = 1 ∧ t.rd F.SPOOL_OWNER_OWNER k = x.owner ∧
      t.rd F.SPOOL_HEAD_INDEX k = 0 ∧ t.rd F.SPOOL_TAIL_INDEX k = 0 ∧ t.rd F.SPOOL_CQ_HEAD_INDEX k = 0 ∧
      t.rd F.SPOOL_CQ_TAIL_INDEX k = 0 ∧ t.rd F.SPOOL_ENERGY k = 0 ∧ t.spool k = {} ∧ kept t ∧
      SameBut s t (cmdEnd ++ [(F.SPOOL_SIZE_OPEN, k), (F.SPOOL_OWNER_OWNER, k), (F.SPOOL_HEAD_INDEX, k),
        (F.SPOOL_TAIL_INDEX, k), (F.SPOOL_CQ_HEAD_INDEX, k), (F.SPOOL_CQ_TAIL_INDEX, k), (F.SPOOL_ENERGY, k)])) ∧
    (s.on F.SPOOL_SIZE_OPEN k = true → Completes (.spoolOpen desc true) s fun t =>
      EndsWith s t 0x10 ∧ NothingGranted s t cmdEnd) ∧
    (s.on F.SPOOL_SIZE_OPEN k = false → Completes (.spoolClose desc true) s fun t =>
      EndsWith s t 0x11 ∧ NothingGranted s t cmdEnd) ∧
    (s.on F.SPOOL_SIZE_OPEN k = true → s.rd F.SPOOL_OWNER_OWNER k ≠ x.owner →
      Completes (.spoolClose desc true) s fun t => EndsWith s t 0x03 ∧ NothingGranted s t cmdEnd) ∧
    (s.on F.SPOOL_SIZE_OPEN k = true → s.rd F.SPOOL_OWNER_OWNER k = x.owner → used = true →
      Completes (.spoolClose desc true) s fun t => EndsWith s t 0x05 ∧ NothingGranted s t cmdEnd) ∧
    (s.on F.SPOOL_SIZE_OPEN k = true → s.rd F.SPOOL_OWNER_OWNER k = x.owner → used = false →
      Completes (.spoolClose desc true) s fun t =>
        EndsWith s t 0 ∧ t.rd F.SPOOL_SIZE_OPEN k = 0 ∧ t.rd F.SPOOL_OWNER_OWNER k = 0 ∧ t.spool k = {} ∧ kept t ∧
        SameBut s t (cmdEnd ++ [(F.SPOOL_SIZE_OPEN, k), (F.SPOOL_OWNER_OWNER, k)]))

/-- `CTX_OPEN` (R183) and `CTX_RESUME` (R186). -/
def Obligations.ContextsOpenAndResume : Prop :=
  ∀ (desc : Unit64) (s : State), Accepted s desc →
    let x := Desc.of desc
    let c := x.ctx
    ((x.ownerOk && x.ctxOk && x.targetOk && x.spoolOk && decide (x.deadline < 2 ^ 20)) = true →
      (∀ r rs, s.openCodes x = r :: rs → Completes (.ctxOpen desc true) s fun t =>
        EndsWith s t r ∧ NothingGranted s t cmdEnd) ∧
      (s.openCodes x = [] → ∀ y, s.binding? x.target = some y → Completes (.ctxOpen desc true) s fun t =>
        EndsWith s t 0 ∧
        (∃ z : Ctx, t.ctx? c = some z ∧ z.owner = x.owner ∧ z.handle = y.handle ∧ z.binding = x.target ∧
          z.spool = x.spool ∧ z.causes = [6] ∧ z.lastSeal = 0) ∧
        t.rd F.CTX_BUNDLE_OWNER c = x.owner ∧ t.rd F.CTX_BUNDLE_BINDING c = x.target ∧
        t.rd F.CTX_SPOOL_SPOOL c = x.spool ∧ t.rd F.CTX_DEADLINE_US_DEADLINE c = x.deadline ∧
        t.rd F.CTX_STATE_STATE c = (if y.phase = .stopped then 4 else 1) ∧
        (y.phase = .stopped → t.rd F.CTX_STATE_HOLD_CAUSE c = 1) ∧
        (∀ k ≠ c, t.ctx? k = s.ctx? k) ∧ t.bnd.bindings = s.bnd.bindings ∧ t.hbm = s.hbm ∧ t.beam = s.beam ∧
        t.arr = s.arr ∧ t.stw = s.stw)) ∧
    ((x.ownerOk && x.ctxOk) = true →
      (s.ctx? c = none → Completes (.ctxResume desc true) s fun t => EndsWith s t 0x01 ∧ NothingGranted s t cmdEnd) ∧
      (∀ z, s.ctx? c = some z →
        (z.owner ≠ x.owner → Completes (.ctxResume desc true) s fun t =>
          EndsWith s t 0x03 ∧ NothingGranted s t cmdEnd) ∧
        (z.owner = x.owner → s.rd F.CTX_STATE_STATE c = 4 → s.rd F.CTX_STATE_HOLD_CAUSE c = 2 →
          Completes (.ctxResume desc true) s fun t =>
            EndsWith s t 0 ∧ t.rd F.CTX_STATE_HOLD_CAUSE c = 0 ∧
            t.rd F.CTX_STATE_STATE c = (if (s.framesOf c).any fun f => f.stage == .running then 3
              else if (s.framesOf c).isEmpty then 1 else 2) ∧
            NothingGranted s t (cmdEnd ++
              [(F.CTX_STATE_STATE, c), (F.CTX_STATE_HOLD_CAUSE, c), (F.CTX_STATE_QUEUED, c)])) ∧
        (z.owner = x.owner → (s.rd F.CTX_STATE_STATE c ≠ 4 ∨ s.rd F.CTX_STATE_HOLD_CAUSE c ≠ 2) →
          Completes (.ctxResume desc true) s fun t => EndsWith s t 0x16 ∧ NothingGranted s t cmdEnd)))

/-- `CTX_CLOSE` (R184) and `CTX_MOVE` (R185). -/
def Obligations.ContextsCloseAndMove : Prop :=
  ∀ (desc : Unit64) (s : State), Accepted s desc →
    let x := Desc.of desc
    let c := x.ctx
    let runs := (s.framesOf c).any fun f => f.stage == .running
    ((x.ownerOk && x.ctxOk) = true →
      (s.ctx? c = none → Completes (.ctxClose desc true) s fun t => EndsWith s t 0x01 ∧ NothingGranted s t cmdEnd) ∧
      (∀ z, s.ctx? c = some z →
        (z.owner ≠ x.owner → Completes (.ctxClose desc true) s fun t =>
          EndsWith s t 0x03 ∧ NothingGranted s t cmdEnd) ∧
        (z.owner = x.owner → runs = true → Completes (.ctxClose desc true) s fun t =>
          t.bnd.cmd = some (.closeCtx c) ∧ t.rd F.CTX_STATE_STATE c = 5 ∧
          (∀ f ∈ t.bnd.frames, f.ctx = c → f.stage = .running ∨ f.isDone = true) ∧ SameMemories s t) ∧
        (z.owner = x.owner → runs = false → Completes (.ctxClose desc true) s fun t =>
          EndsWith s t 0 ∧ t.ctx? c = none ∧ t.rd F.CTX_STATE_STATE c = 0 ∧ SameMemories s t))) ∧
    ((x.ownerOk && x.ctxOk && x.targetOk) = true →
      ((s.ctx? c = none ∨ s.binding? x.target = none) → Completes (.ctxMove desc true) s fun t =>
        EndsWith s t 0x01 ∧ NothingGranted s t cmdEnd) ∧
      (∀ z y, s.ctx? c = some z → s.binding? x.target = some y →
        ((z.owner ≠ x.owner ∨ y.owner ≠ x.owner) → Completes (.ctxMove desc true) s fun t =>
          EndsWith s t 0x03 ∧ NothingGranted s t cmdEnd) ∧
        (z.owner = x.owner → y.owner = x.owner → z.binding ≠ x.target → s.freePlace? x.target 1 = none →
          Completes (.ctxMove desc true) s fun t => EndsWith s t 0x0F ∧ NothingGranted s t cmdEnd) ∧
        (z.owner = x.owner → y.owner = x.owner →
          (z.binding = x.target ∨ s.freePlace? x.target 1 ≠ none) →
          (z.handle ≠ y.handle → Completes (.ctxMove desc true) s fun t =>
            EndsWith s t 0x15 ∧ NothingGranted s t cmdEnd) ∧
          (z.handle = y.handle → runs = true → Completes (.ctxMove desc true) s fun t =>
            t.bnd.cmd = some (.moveCtx c x.target) ∧ t.rd F.CTX_STATE_STATE c = 5 ∧ SameMemories s t) ∧
          (z.handle = y.handle → runs = false → Completes (.ctxMove desc true) s fun t =>
            EndsWith s t 0 ∧ (t.ctx? c).map Ctx.binding = some x.target ∧
            t.rd F.CTX_BUNDLE_BINDING c = x.target ∧
            t.rd F.CTX_STATE_STATE c = (if y.phase = .stopped then 4 else 1) ∧ SameMemories s t))))

/-- `CTX_FORCE_REFRESH` (R148), `TWIN_FETCH_REPLY`, `TWIN_FETCH_TIMEOUT` (R158, R218). -/
def Obligations.RefreshCausesAndTwinAnswers : Prop :=
  (∀ (path : Path) (s : State),
    let c := s.rd F.CTX_SEL_SEL (pathIx path)
    (∀ z, s.ctx? c = some z → (s.planOf c).isSome = true → Completes (.ctxForceRefresh path) s fun t =>
      (∃ z' : Ctx, t.ctx? c = some z' ∧ 8 ∈ z'.causes ∧ (∀ k ∈ z.causes, k ∈ z'.causes) ∧
        z' = { z with causes := z'.causes }) ∧ (∀ k ≠ c, t.ctx? k = s.ctx? k) ∧
      t = { s with bnd := { s.bnd with ctxs := t.bnd.ctxs } }) ∧
    ((s.planOf c).isSome = false → exec (.ctxForceRefresh path) s = .next s)) ∧
  (∀ (c : CtxIx) (st : ShadowState) (z : Ctx) (s : State), s.ctx? c.val = some z →
    (z.fetching = true →
      (Completes (.twinFetchReply c st) s fun t =>
        (∃ z' : Ctx, t.ctx? c.val = some z' ∧ z'.fetching = false ∧ z'.delta.carriedInit = false ∧
          (if z'.delta.sel then z'.delta.carried1 else z'.delta.carried0) = st.carried) ∧
        t.rd F.CTX_DECODE_BROKEN c.val = bit st.decodeBroken ∧ (∀ k ≠ c.val, t.ctx? k = s.ctx? k) ∧
        t = { s with regs := t.regs, bnd := { s.bnd with ctxs := t.bnd.ctxs } } ∧
        SameBut s t [(F.CTX_DECODE_BROKEN, c.val)]) ∧
      (Completes (.twinFetchTimeout c) s fun t =>
        (∃ z' : Ctx, t.ctx? c.val = some z' ∧ z'.fetching = false ∧ z'.delta.carriedInit = true) ∧
        t.rd F.CTX_DELTA_STATUS_CARRIED_INIT c.val = 1 ∧
        (isVideo (s.codec c.val) = true → t.rd F.CTX_DECODE_BROKEN c.val = 1) ∧
        (∀ k ≠ c.val, t.ctx? k = s.ctx? k) ∧
        t = { s with regs := t.regs, bnd := { s.bnd with ctxs := t.bnd.ctxs } } ∧
        SameBut s t [(F.CTX_DECODE_BROKEN, c.val), (F.CTX_DELTA_STATUS_CARRIED_INIT, c.val)])) ∧
    (z.fetching = false → exec (.twinFetchReply c st) s = .next s ∧ exec (.twinFetchTimeout c) s = .next s))

/-- The place and the contents of the completion entry that a spool's ring takes next (R191). -/
def EntryWritten (s t : State) (sp status : Nat) : Prop :=
  t.rd F.SPOOL_CQ_TAIL_INDEX sp = (s.rd F.SPOOL_CQ_TAIL_INDEX sp + 1) % 2 ^ 17 ∧
  ∃ bs : List Byte, bs.length = 32 ∧ bs[10]? = some (BitVec.ofNat 8 status) ∧
    HostGets s t (.hostWrite (s.rd F.SPOOL_CQ_BASE sp / 4096 * 4096 +
      s.rd F.SPOOL_CQ_TAIL_INDEX sp % ringSize (s.rd F.SPOOL_SIZE_CQ_LOG2 sp) * 32) bs)

/-- Doorbells and spool timers (R187, R190, R269, R271, R283). -/
def Obligations.DoorbellsMoveTheRings : Prop :=
  ∀ (k : SpoolIx) (v : Word) (s : State),
    let sp := k.val
    let new := v.toNat % 2 ^ 17
    let held := ringDist (s.rd F.SPOOL_TAIL_INDEX sp) (s.rd F.SPOOL_HEAD_INDEX sp)
    let want := ringDist new (s.rd F.SPOOL_HEAD_INDEX sp)
    let fits := held ≤ want ∧ want ≤ ringSize (s.rd F.SPOOL_SIZE_SQ_LOG2 sp)
    let x := s.spool sp
    (s.doorbells = false → exec (.submissionDoorbell k v) s = .next s ∧ exec (.completionDoorbell k v) s = .next s) ∧
    (s.doorbells = true → s.on F.SPOOL_SIZE_OPEN sp = false →
      (Completes (.submissionDoorbell k v) s fun t => Rises s t F.HOST_ERR_UR 0 1 ∧ OnlyRegs s t [(F.HOST_ERR_UR, 0)]) ∧
      (Completes (.completionDoorbell k v) s fun t =>
        Rises s t F.HOST_ERR_UR 0 1 ∧ OnlyRegs s t [(F.HOST_ERR_UR, 0)])) ∧
    (s.doorbells = true → s.on F.SPOOL_SIZE_OPEN sp = true →
      (fits → Completes (.submissionDoorbell k v) s fun t =>
        t.rd F.SPOOL_TAIL_INDEX sp = new ∧
        (t.spool sp).waiting = x.waiting ++ List.replicate (want - held) s.us ∧ (t.spool sp).stopped = false ∧
        (∀ j ≠ sp, t.spool j = s.spool j) ∧ SameMemories s t ∧ SameBut s t [(F.SPOOL_TAIL_INDEX, sp)]) ∧
      (¬ fits → Completes (.submissionDoorbell k v) s fun t =>
        Rises s t F.SPOOL_STATUS_BAD_ENTRIES sp 1 ∧ OnlyRegs s t [(F.SPOOL_STATUS_BAD_ENTRIES, sp)]) ∧
      (let written := ringDist (s.rd F.SPOOL_CQ_TAIL_INDEX sp) (s.rd F.SPOOL_CQ_HEAD_INDEX sp)
       (ringDist new (s.rd F.SPOOL_CQ_HEAD_INDEX sp) ≤ written → Completes (.completionDoorbell k v) s fun t =>
         t.rd F.SPOOL_CQ_HEAD_INDEX sp = new ∧ OnlyRegs s t [(F.SPOOL_CQ_HEAD_INDEX, sp)]) ∧
       (written < ringDist new (s.rd F.SPOOL_CQ_HEAD_INDEX sp) → Completes (.completionDoorbell k v) s fun t =>
         Rises s t F.SPOOL_STATUS_BAD_ENTRIES sp 1 ∧ OnlyRegs s t [(F.SPOOL_STATUS_BAD_ENTRIES, sp)]))) ∧
    (x.stalled = true → s.cqRoom sp = true → Completes (.spoolResume k) s fun t =>
      t.spool sp = { x with stalled := false } ∧ (∀ j ≠ sp, t.spool j = s.spool j) ∧ SameMemories s t ∧ SameBut s t []) ∧
    ((x.stalled = false ∨ s.cqRoom sp = false) → exec (.spoolResume k) s = .next s) ∧
    (x.fails ≠ 0 → x.stopped = false →
      (Completes (.entryReadRetry k none) s fun t =>
        t.spool sp = x ∧ SameMemories s t ∧ SameBut s t [] ∧ t.bnd = s.bnd) ∧
      (∀ how, s.on F.SPOOL_SIZE_OPEN sp = true → Completes (.entryReadRetry k (some how)) s fun t =>
        t.spool sp = (if x.fails < 2 then { x with fails := x.fails + 1 }
          else { x with fails := 0, stopped := true }) ∧
        (∀ j ≠ sp, t.spool j = s.spool j) ∧ SameMemories s t)) ∧
    ((x.fails = 0 ∨ x.stopped = true) → ∀ o, exec (.entryReadRetry k o) s = .next s) ∧
    (s.on F.SPOOL_IRQ_EN sp = true → s.rd F.SPOOL_IRQ_TIME_US sp ≠ 0 → x.unsent ≠ 0 →
      Completes (.spoolIrqTimer k) s fun t =>
        t.spool sp = { x with unsent := 0 } ∧ (∀ j ≠ sp, t.spool j = s.spool j) ∧ SameMemories s t ∧
        (if (s.rd I.msixControl sp).testBit 0 then t.rd I.msixPending sp = 1 else HostGets s t (.msix sp)) ∧
        SameBut s t [(I.msixPending, sp)])

/-- No frame that stands for the same entry is still to be dealt with: it has ended, or its completion entry has
been written. -/
def FrameEnded (t : State) (f : Frame) : Prop :=
  ∀ g ∈ t.bnd.frames, f.same g = true → g.isDone = true

/-- A payload failed to decode (R216): counted, its cause shown, its frame ended. -/
def DecodeFailed (s t : State) (f : Frame) (cause : Nat) : Prop :=
  Rises s t F.CTX_DECODE_FAILS f.ctx 1 ∧ t.rd F.CTX_DECODE_LAST_CAUSE f.ctx = cause ∧ FrameEnded t f

/-- `SUBMISSION_ENTRY` (R188-R191, R212). -/
def Obligations.SubmissionEntriesAreTakenInOrder : Prop :=
  ∀ (k : SpoolIx) (e : Unit64) (s : State),
    let sp := k.val
    let f := frameOf e sp (s.rd F.SPOOL_HEAD_INDEX sp) ((s.spool sp).waiting.headD s.us)
    let st := s.rd F.CTX_STATE_STATE f.ctx
    let answered (status : Nat) : Prop := Completes (.submissionEntry k e) s fun t =>
      t.rd F.SPOOL_HEAD_INDEX sp = (s.rd F.SPOOL_HEAD_INDEX sp + 1) % 2 ^ 17 ∧ EntryWritten s t sp status ∧
      (t.spool sp).waiting = (s.spool sp).waiting.drop 1 ∧ t.bnd.frames = s.bnd.frames ∧
      (if status = 9 then Rises s t F.SPOOL_STATUS_BAD_ENTRIES sp 1
       else t.rd F.SPOOL_STATUS_BAD_ENTRIES sp = s.rd F.SPOOL_STATUS_BAD_ENTRIES sp) ∧ SameMemories s t
    let stalls : Prop := Completes (.submissionEntry k e) s fun t =>
      t.spool sp = { s.spool sp with stalled := true } ∧ t.rd F.SPOOL_HEAD_INDEX sp = s.rd F.SPOOL_HEAD_INDEX sp ∧
      t.bnd.frames = s.bnd.frames ∧ SameMemories s t ∧ SameButFields s t [F.SPOOL_STATUS_CQ_STALLS]
    (s.canTake sp = false → exec (.submissionEntry k e) s = .next s) ∧
    (s.canTake sp = true → s.cqRoom sp = false → stalls ∧ Completes (.submissionEntry k e) s fun t =>
      Rises s t F.SPOOL_STATUS_CQ_STALLS sp 1) ∧
    (s.canTake sp = true → s.cqRoom sp = true →
      (f.opcode = 3 → answered 0) ∧
      (f.opcode ≠ 3 → s.ctx? f.ctx = none →
        answered (if (s.spool sp).ended.any (·.1 == f.ctx) then 5 else 9)) ∧
      (∀ x, f.opcode ≠ 3 → s.ctx? f.ctx = some x →
        ((x.spool ≠ sp ∨ st = 6) → answered 9) ∧
        (x.spool = sp → st ≠ 6 → f.opcode ≠ 1 → f.opcode ≠ 2 → answered 9) ∧
        (x.spool = sp → (f.opcode = 1 ∨ f.opcode = 2) →
          (st = 4 → answered 6) ∧
          (st = 5 → x.moving = none → answered 5) ∧
          (st = 5 → x.moving ≠ none → stalls) ∧
          (st ≠ 4 → st ≠ 5 → st ≠ 6 →
            let room := ((s.hdrOf f.ctx).map BundleHdr.intakeBytes).getD 0
            (badLength f room = true → Completes (.submissionEntry k e) s fun t =>
              DecodeFailed s t f 1 ∧ t.rd F.SPOOL_HEAD_INDEX sp = (s.rd F.SPOOL_HEAD_INDEX sp + 1) % 2 ^ 17 ∧
              SameMemories s t) ∧
            (badLength f room = false →
            (s.intakeUsed x.binding + f.payloadLen ≤ room → Completes (.submissionEntry k e) s fun t =>
              t.bnd.frames = s.bnd.frames ++ [{ f with codec := s.codec f.ctx, intake := f.payloadLen }] ∧
              t.rd F.SPOOL_HEAD_INDEX sp = (s.rd F.SPOOL_HEAD_INDEX sp + 1) % 2 ^ 17 ∧
              (t.spool sp).reserved = (s.spool sp).reserved + 1 ∧
              HostGets s t (.hostRead f.payloadAddr f.payloadLen) ∧ SameMemories s t) ∧
            (room < s.intakeUsed x.binding + f.payloadLen → stalls))))))

/-- Payloads, decode engines, raw frames (07). -/
def Obligations.PayloadsArriveAndDecode : Prop :=
  (∀ (c : CtxIx) (x : Payload) (f : Frame) (y : Ctx) (s : State),
    s.firstAt c.val (fun g => g.stage == .payload) = some f → s.ctx? c.val = some y →
    let g := { f with stage := .decode, plain := x.plain, randomAccess := x.randomAccess }
    (x.tagOk = true → y.lastSeal < f.sealSeq → (f.opcode ≠ 1 ∨ s.codecFault f = 0) →
      Completes (.payloadArrival c x) s fun t =>
        g ∈ t.bnd.frames ∧ (t.ctx? c.val).map Ctx.lastSeal = some f.sealSeq ∧ SameMemories s t ∧ SameBut s t []) ∧
    (x.tagOk = true → y.lastSeal < f.sealSeq → f.opcode = 1 → s.codecFault f ≠ 0 →
      Completes (.payloadArrival c x) s fun t => DecodeFailed s t f (s.codecFault f) ∧ SameMemories s t) ∧
    ((x.tagOk = false ∨ f.sealSeq ≤ y.lastSeal) → Completes (.payloadArrival c x) s fun t =>
      Rises s t F.SEC_AUTH_PAYLOAD_FAILS 0 1 ∧ FrameEnded t f ∧ SameMemories s t)) ∧
  (∀ (e : EngineIx) (s : State),
    let ws := s.waitingOn e.val
    let low := ws.filter (s.belowShare e.val)
    (∀ f, (s.bnd.frames.any fun g => g.stage == .decoding e.val) = false → s.on F.PWR_INPUT_FRONT 0 = false →
      s.on I.admitStop 0 = false → .decodeReset e ∉ s.recoveries →
      s.urgent (if low.isEmpty then ws else low) = some f → Completes (.decodeStart e) s fun t =>
        { f with stage := .decoding e.val } ∈ t.bnd.frames ∧
        t = { s with bnd := { s.bnd with frames := t.bnd.frames } }) ∧
    (Completes (.decodeShareWindow e) s fun t =>
      (∀ b, t.usedOn e.val b = 0) ∧ (∀ k ≠ e.val, ∀ b, t.usedOn k b = s.usedOn k b) ∧
      t = { s with bnd := { s.bnd with decodeUse := t.bnd.decodeUse } })) ∧
  (∀ (e : EngineIx) (f : Frame) (hdr : BundleHdr) (s : State),
    s.bnd.frames.find? (fun g => g.stage == .decoding e.val) = some f → s.hdrOf f.ctx = some hdr →
    let lost := isVideo f.codec && s.on F.CTX_DECODE_BROKEN f.ctx && !f.randomAccess
    (∀ (p : Picture) (d : Bool),
      (tooLarge f.codec p.width p.height = false → lost = false → p.width = hdr.width → p.height = hdr.height →
        Completes (.decodeComplete e (.picture p d false)) s fun t =>
          { f with stage := .ready, plain := [],
                   picture := convertPicture hdr.layout (f.codec == .jpeg) p,
                   intake := pictureBytes hdr.layout p.width p.height } ∈ t.bnd.frames ∧
          t.rd F.CTX_DECODE_SOURCE f.ctx = codecCode f.codec ∧
          (isVideo f.codec = true → t.rd F.CTX_DECODE_BROKEN f.ctx = 0) ∧ SameMemories s t) ∧
      (tooLarge f.codec p.width p.height = false → lost = false → (p.width ≠ hdr.width ∨ p.height ≠ hdr.height) →
        Completes (.decodeComplete e (.picture p d false)) s fun t => FrameEnded t f ∧ SameMemories s t) ∧
      (∀ rasl, tooLarge f.codec p.width p.height = true → Completes (.decodeComplete e (.picture p d rasl)) s fun t =>
        DecodeFailed s t f 4 ∧ SameMemories s t) ∧
      (∀ rasl, tooLarge f.codec p.width p.height = false → (lost || (isVideo f.codec && rasl)) = true →
        Completes (.decodeComplete e (.picture p d rasl)) s fun t => DecodeFailed s t f 6 ∧ SameMemories s t)) ∧
    (∀ cause : Fin 13, Completes (.decodeComplete e (.failed cause)) s fun t =>
      DecodeFailed s t f cause.val ∧ SameMemories s t) ∧
    (Completes (.decodeTimeLimit e) s fun t =>
      DecodeFailed s t f 8 ∧ Rises s t F.DEC_DATA_ENDED e.val 1 ∧ SameMemories s t)) ∧
  (∀ (c : CtxIx) (f : Frame) (hdr : BundleHdr) (s : State),
    s.firstAt c.val (fun g => g.stage == .decode && g.opcode == 2) = some f → s.hdrOf c.val = some hdr →
    (rawHeader f.plain = none → Completes (.rawConvert c) s fun t => DecodeFailed s t f 9 ∧ SameMemories s t) ∧
    (∀ h, rawHeader f.plain = some h →
      (h.rgb = true → hdr.layout ≠ .rgb24 → Completes (.rawConvert c) s fun t =>
        DecodeFailed s t f 10 ∧ SameMemories s t) ∧
      ((h.rgb = false ∨ hdr.layout = .rgb24) → h.width = hdr.width → h.height = hdr.height →
        Completes (.rawConvert c) s fun t =>
          { f with stage := .ready, plain := [], picture := rawPicture hdr.layout h f.plain,
                   intake := pictureBytes hdr.layout h.width h.height } ∈ t.bnd.frames ∧
          t.rd F.CTX_DECODE_SOURCE c.val = 5 ∧ SameMemories s t ∧ SameBut s t [(F.CTX_DECODE_SOURCE, c.val)]) ∧
      ((h.rgb = false ∨ hdr.layout = .rgb24) → (h.width ≠ hdr.width ∨ h.height ≠ hdr.height) →
        Completes (.rawConvert c) s fun t => FrameEnded t f ∧ SameMemories s t))) ∧
  (∀ (path : Path) (v : Word) (x : Ctx) (s : State),
    let c := s.rd F.CTX_SEL_SEL (pathIx path)
    let k := field v.toNat 2 0
    s.ctx? c = some x → Completes (.ctxInputWrite path v) s fun t =>
      t.rd F.CTX_INPUT_CODEC c = (if k ≤ 4 then k else 0) ∧
      (isVideo (t.codec c) = true → t.rd F.CTX_DECODE_BROKEN c = 1) ∧
      OnlyRegs s t [(F.CTX_INPUT_CODEC, c), (F.CTX_DECODE_BROKEN, c)])

/-- `FRAME_ADMIT` (R198), `FRAME_COMPLETE` (R191, R329), `FRAME_BUDGET_EXPIRE` (R485). -/
def Obligations.FramesAreAdmittedAndCompleted : Prop :=
  ∀ (b : BindIx) (x : Binding) (s : State), s.binding? b.val = some x →
    (s.admits b x = false → exec (.frameAdmit b) s = .next s) ∧
    (s.admits b x = true → (s.job? b.val).filter (fun j => j.self != 0) = none →
      (s.urgent (s.readyFrames b.val) = none → exec (.frameAdmit b) s = .next s) ∧
      (∀ f, s.urgent (s.readyFrames b.val) = some f →
        (s.passedOver f = false → Completes (.frameAdmit b) s fun t =>
          (∃ g ∈ t.bnd.frames, f.same g = true ∧ g.stage = .running) ∧
          (t.binding? b.val).map Binding.running = some (some f.ctx) ∧ t.rd F.CTX_STATE_STATE f.ctx = 3 ∧
          SameMemories s t) ∧
        (s.passedOver f = true → Completes (.frameAdmit b) s fun t => FrameEnded t f ∧ SameMemories s t))) ∧
    (∀ j, s.admits b x = true → (s.job? b.val).filter (fun j => j.self != 0) = some j →
      (j.start = none → exec (.frameAdmit b) s = .next s) ∧
      (∀ c age, j.start = some (c, age) → s.ctxAdmits c = true →
        (s.ctx? c).any (fun y => y.binding == b.val) = true → Completes (.frameAdmit b) s fun t =>
          (∃ g ∈ t.bnd.frames, g.ctx = c ∧ g.follower = true ∧ g.stage = .running) ∧
          (t.binding? b.val).map Binding.running = some (some c) ∧ t.rd F.CTX_STATE_STATE c = 3 ∧
          (t.job? b.val).map Job.start = some none ∧ SameMemories s t)) ∧
    (∀ f r, (x.running.bind fun c => s.firstAt c (fun g => g.stage == .running)) = some f →
      Completes (.frameComplete b r) s fun t =>
        (t.binding? b.val = none ∨ (t.binding? b.val).map Binding.running = some none) ∧
        (f.follower = false → r.cipher.length ≤ f.resultMax → HostGets s t (.hostWrite f.resultAddr r.cipher)) ∧
        FrameEnded t f ∧
        (s.framesOf f.ctx = [f] → f.follower = false →
          (∀ c, s.bnd.cmd ≠ some (.closeCtx c)) → (∀ c d, s.bnd.cmd ≠ some (.moveCtx c d)) →
          (r.cipher.length ≤ f.resultMax →
            t.rd F.CTX_FRAMES_DONE_COUNT f.ctx = (s.rd F.CTX_FRAMES_DONE_COUNT f.ctx + 1) % 2 ^ 32) ∧
          (f.resultMax < r.cipher.length →
            t.rd F.CTX_FRAMES_FAILED_COUNT f.ctx = (s.rd F.CTX_FRAMES_FAILED_COUNT f.ctx + 1) % 2 ^ 32)) ∧
        t.beam.bytes = s.beam.bytes ∧ t.arr.scratch = s.arr.scratch ∧ t.stw.flash = s.stw.flash) ∧
    (∀ c, x.running = some c → Completes (.frameBudgetExpire b) s fun t =>
      (t.binding? b.val).map Binding.running = some none ∧ .contextAbort b ∈ t.recoveries ∧
      t.rd F.PART_RECOVERY_DETAIL b.val = 1 ∧ SameMemories s t) ∧
    (x.running = none → exec (.frameBudgetExpire b) s = .next s)

/-- A weft link has gone DOWN (R227): its state, its count, its flits dropped, source 81 registered. -/
def LinkDown (s t : State) (k : Nat) : Prop :=
  t.rd F.WEFT_LINK_STATE_STATE k = 4 ∧ Rises s t F.WEFT_LINK_STATE_DOWNS k 1 ∧ t.statusBit 81 = true ∧
  (∀ e ∈ t.weft.replay, e.1 ≠ k) ∧ (∀ e ∈ t.weft.waiting, e.1 ≠ k) ∧ SameMemories s t

/-- A flit is put on a link: sent and kept for replay, or, with 256 not acknowledged, left waiting (R230). -/
def FlitPut (s t : State) (k : Nat) (o : Out) : Prop :=
  if 256 ≤ (s.weft.replay.filter fun e => e.1 == k).length then
    t.out = s.out ∧ t.weft.replay = s.weft.replay ∧ t.weft.waiting = s.weft.waiting ++ [(k, o)]
  else
    t.out = o :: s.out ∧ t.weft.replay = s.weft.replay ++ [(k, s.rd I.lseq k, o)] ∧
    t.rd I.lseq k = (s.rd I.lseq k + 1) % 2 ^ 16

/-- The registers that a class C fault writes: its count, and those of its event record (R473, R505). -/
def classCFields : List Fld :=
  [F.FAULT_CLASSC_COUNT, F.LOG_SEQ_NEXT, I.logLostFirst, I.logLostCount, F.LOG_STATUS_LOST]

/-- A violation on a weft link (R229): counted, and counted as a class C fault. -/
def WeftViolation (s t : State) : Prop :=
  Rises s t F.WEFT_VIOL_COUNT 0 1 ∧ Rises s t F.FAULT_CLASSC_COUNT 0 1

/-- The peer place where a link's last valid flit is noted. -/
def heardPlace (s : State) (k : Nat) : Fld × Nat := (I.heardAt, s.rd F.WEFT_LINK_STATE_PEER k)

/-- Training and lanes of a weft link (R222-R227, R231). -/
def Obligations.LinksTrainAndSpareALane : Prop :=
  (∀ (l : LinkIx) (s : State),
     let k := l.val
     let st := s.rd F.WEFT_LINK_STATE_STATE k
     (∀ far, s.weftOn = true → st ≠ 6 → (far = true ∨ st = 0) → Completes (.linkTrainStart l far) s fun t =>
       t.rd F.WEFT_LINK_STATE_STATE k = 1 ∧ t.rd F.WEFT_LINK_STATE_BAD_LANE k = 7 ∧ t.rd I.identOk k = 0 ∧
       t.rd I.lseq k = 0 ∧ t.rd I.lackRx k = 0 ∧
       (∀ e, e ∈ t.weft.replay ↔ e ∈ s.weft.replay ∧ e.1 ≠ k) ∧
       (∀ e, e ∈ t.weft.pairKeys ↔ e ∈ s.weft.pairKeys ∧ e.1 ≠ k) ∧
       t = { s with regs := t.regs, weft := { s.weft with
         replay := t.weft.replay, waiting := t.weft.waiting, pairKeys := t.weft.pairKeys } } ∧
       SameBut s t ([(F.WEFT_LINK_STATE_STATE, k), (F.WEFT_LINK_STATE_BAD_LANE, k), (I.identOk, k),
         (I.retries, k), (I.rxDiscard, k), (I.lseq, k), (I.lackRx, k)] ++
         (List.range 5).map fun lane => (I.laneOver, k * 8 + lane))) ∧
     (∀ far, ¬ (s.weftOn = true ∧ st ≠ 6 ∧ (far = true ∨ st = 0)) → exec (.linkTrainStart l far) s = .next s) ∧
     (∀ (node : Node) (c : Fin 4),
       (st = 1 → node.val = expectNode s.node k → c.val = s.rd F.WEFT_CFG_CONFIG 0 →
         Completes (.identFlit l node c) s fun t =>
           t.rd F.WEFT_LINK_STATE_PEER k = node.val ∧ t.rd I.identOk k = 1 ∧
           OnlyRegs s t [(F.WEFT_LINK_STATE_PEER, k), (I.identOk, k)]) ∧
       (st = 1 → ¬ (node.val = expectNode s.node k ∧ c.val = s.rd F.WEFT_CFG_CONFIG 0) →
         Completes (.identFlit l node c) s fun t =>
           t.rd F.WEFT_LINK_STATE_PEER k = node.val ∧ t.rd F.WEFT_LINK_STATE_STATE k = 5 ∧
           Rises s t F.FAULT_CLASSC_COUNT 0 1 ∧ t.weft = s.weft ∧ SameMemories s t ∧
           SameButFields s t (F.WEFT_LINK_STATE_PEER :: F.WEFT_LINK_STATE_STATE :: classCFields)) ∧
       (st ≠ 1 → exec (.identFlit l node c) s = .next s)) ∧
     (∀ v : BitVec 448,
       (st = 1 → Completes (.keyFlit l true v) s fun t =>
         (t.weft.pairKeys.any fun e => e.1 == k) = true ∧
         (∀ e, e.1 ≠ k → (e ∈ t.weft.pairKeys ↔ e ∈ s.weft.pairKeys)) ∧
         t = { s with weft := { s.weft with pairKeys := t.weft.pairKeys } }) ∧
       (st = 1 → Completes (.keyFlit l false v) s fun t =>
         WeftViolation s t ∧ t.weft = s.weft ∧ SameMemories s t ∧
         SameButFields s t (F.WEFT_VIOL_COUNT :: classCFields)) ∧
       (∀ ok, st ≠ 1 → exec (.keyFlit l ok v) s = .next s)) ∧
     (let trained := st = 1 ∧ s.on I.identOk k = true ∧ (s.weft.pairKeys.any fun e => e.1 == k) = true
      (trained → Completes (.linkTrained l) s fun t =>
        t.rd F.WEFT_LINK_STATE_STATE k = 2 ∧ OnlyRegs s t [(F.WEFT_LINK_STATE_STATE, k), heardPlace s k]) ∧
      (¬ trained → exec (.linkTrained l) s = .next s)) ∧
     (s.linkUp k = true → Completes (.linkRxTimeout l) s fun t => LinkDown s t k) ∧
     (s.linkUp k = false → exec (.linkRxTimeout l) s = .next s)) ∧
  (∀ (l : LinkIx) (s : State),
     let k := l.val
     let st := s.rd F.WEFT_LINK_STATE_STATE k
     let bad := s.rd F.WEFT_LINK_STATE_BAD_LANE k
     (∀ lane : Fin 5,
       (st = 2 → lane.val < 4 → Completes (.laneBlockLockLoss l lane) s fun t =>
         t.rd F.WEFT_LINK_STATE_STATE k = 3 ∧ t.rd F.WEFT_LINK_STATE_BAD_LANE k = lane.val ∧
         FlitPut s t k (.flit k "LANE_SWAP" [lane.val]) ∧ SameMemories s t ∧
         SameBut s t [(F.WEFT_LINK_STATE_STATE, k), (F.WEFT_LINK_STATE_BAD_LANE, k), (I.lseq, k)]) ∧
       (st = 3 → lane.val ≠ bad → Completes (.laneBlockLockLoss l lane) s fun t => LinkDown s t k) ∧
       ((st = 2 ∧ lane.val = 4 ∨ st = 3 ∧ lane.val = bad ∨ st ≠ 2 ∧ st ≠ 3) →
         exec (.laneBlockLockLoss l lane) s = .next s) ∧
       (st = 2 → lane.val < 4 → Completes (.laneSwapFlit l lane) s fun t =>
         t.rd F.WEFT_LINK_STATE_STATE k = 3 ∧ t.rd F.WEFT_LINK_STATE_BAD_LANE k = lane.val ∧
         OnlyRegs s t [(F.WEFT_LINK_STATE_STATE, k), (F.WEFT_LINK_STATE_BAD_LANE, k), heardPlace s k]) ∧
       ((st = 2 ∨ st = 3) → lane.val = 4 → Completes (.laneSwapFlit l lane) s fun t =>
         WeftViolation s t ∧ SameMemories s t ∧ SameButFields s t (F.WEFT_VIOL_COUNT :: classCFields)) ∧
       (st = 3 → lane.val < 4 → lane.val = bad → Completes (.laneSwapFlit l lane) s fun t =>
         OnlyRegs s t [heardPlace s k]) ∧
       (st = 3 → lane.val < 4 → lane.val ≠ bad → Completes (.laneSwapFlit l lane) s fun t => LinkDown s t k) ∧
       (st ≠ 2 → st ≠ 3 → exec (.laneSwapFlit l lane) s = .next s)) ∧
     (∀ counts : List Nat,
       let noisy (i : Nat) : Prop := s.cfgIn cfgLaneSwapCe 100 100000 < counts.getD i 0
       let used (i : Nat) : Prop := if st = 3 then i < 5 ∧ i ≠ bad else i < 4
       let places := (List.range 5).map fun i => (I.laneOver, k * 8 + i)
       (s.linkUp k = false → exec (.fecSecondCheck l counts) s = .next s) ∧
       (s.linkUp k = true → (∀ i, used i → ¬ noisy i) → Completes (.fecSecondCheck l counts) s fun t =>
         Rises s t F.WEFT_LINK_ERR_FEC_CORR k counts.sum ∧ (∀ i, used i → t.rd I.laneOver (k * 8 + i) = 0) ∧
         OnlyRegs s t ((F.WEFT_LINK_ERR_FEC_CORR, k) :: places)) ∧
       (∀ j, s.linkUp k = true → used j → noisy j → (∀ i, used i → i ≠ j → ¬ noisy i) →
         (s.rd I.laneOver (k * 8 + j) < 2 → Completes (.fecSecondCheck l counts) s fun t =>
           Rises s t F.WEFT_LINK_ERR_FEC_CORR k counts.sum ∧
           t.rd I.laneOver (k * 8 + j) = s.rd I.laneOver (k * 8 + j) + 1 ∧
           OnlyRegs s t ((F.WEFT_LINK_ERR_FEC_CORR, k) :: places)) ∧
         (2 ≤ s.rd I.laneOver (k * 8 + j) → Completes (.fecSecondCheck l counts) s fun t =>
           Rises s t F.WEFT_LINK_ERR_FEC_CORR k counts.sum ∧
           (if st = 2 then t.rd F.WEFT_LINK_STATE_STATE k = 3 ∧ t.rd F.WEFT_LINK_STATE_BAD_LANE k = j ∧
               SameMemories s t
            else LinkDown s t k)))))

/-- The flit rules of a link (R229, R230, R233). -/
def Obligations.FlitsAreReplayedAndRelayed : Prop :=
  ∀ (l : LinkIx) (s : State),
    let k := l.val
    let kept (v : Nat) := freeUpTo k v s.weft.replay
    let mine (v : Nat) := (kept v).filter fun e => e.1 == k
    (∀ (crc : Bool) (v : BitVec 16) (f : RelayFlit), s.linkUp k = false →
      exec (.flitCrcError l crc) s = .next s ∧ exec (.nakFlit l v) s = .next s ∧
      exec (.idleFlit l v) s = .next s ∧ exec (.idleFlitSend l) s = .next s ∧
      exec (.flitInvalid l) s = .next s ∧ exec (.flitRelay l f) s = .next s) ∧
    (s.linkUp k = true →
      (∀ crc : Bool, Completes (.flitCrcError l crc) s fun t =>
        (if crc then Rises s t F.WEFT_LINK_ERR_CRC_ERR k 1
         else t.rd F.WEFT_LINK_ERR_CRC_ERR k = s.rd F.WEFT_LINK_ERR_CRC_ERR k) ∧
        t.rd I.rxDiscard k = 1 ∧
        t.out = (if s.on I.rxDiscard k then s.out else .flit k "NAK" [s.rd I.lackRx k] :: s.out) ∧
        t = { s with regs := t.regs, out := t.out } ∧
        SameBut s t [(F.WEFT_LINK_ERR_CRC_ERR, k), (I.rxDiscard, k)]) ∧
      (∀ v : BitVec 16,
        let tries := if (mine v.toNat).length < (s.weft.replay.filter fun e => e.1 == k).length then 0
          else s.rd I.retries k
        (mine v.toNat = [] → Completes (.nakFlit l v) s fun t =>
          t.out = s.out ∧ t.weft.replay = kept v.toNat ∧ SameBut s t [(I.retries, k), heardPlace s k]) ∧
        (mine v.toNat ≠ [] → tries = 16 → Completes (.nakFlit l v) s fun t => LinkDown s t k) ∧
        (mine v.toNat ≠ [] → tries ≠ 16 → Completes (.nakFlit l v) s fun t =>
          t.out = ((mine v.toNat).map fun e => e.2.2).reverse ++ s.out ∧ t.weft.replay = kept v.toNat ∧
          Rises s t F.WEFT_LINK_ERR_REPLAYS k 1 ∧ t.rd I.retries k = min (tries + 1) 31 ∧
          t = { s with regs := t.regs, out := t.out, weft := { s.weft with replay := t.weft.replay } } ∧
          SameBut s t [(I.retries, k), (F.WEFT_LINK_ERR_REPLAYS, k), heardPlace s k]) ∧
        (Completes (.idleFlit l v) s fun t =>
          let queue := s.weft.waiting.filter fun e => e.1 == k
          let go := queue.take (256 - (mine v.toNat).length)
          (t.weft.replay.filter fun e => e.1 == k).map (fun e => e.2.2) =
            (mine v.toNat).map (fun e => e.2.2) ++ go.map (fun e => e.2) ∧
          (∀ j ≠ k, (t.weft.replay.filter fun e => e.1 == j) = s.weft.replay.filter fun e => e.1 == j) ∧
          (t.weft.waiting.filter fun e => e.1 == k) = queue.drop (256 - (mine v.toNat).length) ∧
          t.out = (go.map fun e => e.2).reverse ++ s.out ∧ SameMemories s t ∧
          SameBut s t [(I.retries, k), (I.lseq, k), heardPlace s k])) ∧
      (Completes (.idleFlitSend l) s fun t =>
        t.out = .flit k "IDLE" [s.rd I.lackRx k] :: s.out ∧ t = { s with out := t.out }) ∧
      (Completes (.flitInvalid l) s fun t =>
        WeftViolation s t ∧ t.weft = s.weft ∧ t.out = s.out ∧ SameMemories s t ∧
        SameButFields s t (F.WEFT_VIOL_COUNT :: classCFields)) ∧
      (∀ f : RelayFlit,
        (f.dst.val = s.node → exec (.flitRelay l f) s = .next s) ∧
        (f.dst.val ≠ s.node → (f.hops.val = 3 ∨ s.hopTo f.dst.val = none ∨ s.hopTo f.dst.val = some k) →
          Completes (.flitRelay l f) s fun t =>
            WeftViolation s t ∧ t.weft = s.weft ∧ t.out = s.out ∧ SameMemories s t ∧
            SameButFields s t (I.heardAt :: I.lackRx :: F.WEFT_VIOL_COUNT :: classCFields)) ∧
        (∀ j, f.dst.val ≠ s.node → f.hops.val ≠ 3 → s.hopTo f.dst.val = some j → j ≠ k →
          Completes (.flitRelay l f) s fun t =>
            FlitPut s t j (.flit j "RELAYED" [f.src.val, f.dst.val, f.hops.val + 1, f.dseq.toNat]) ∧
            SameMemories s t ∧ SameBut s t [heardPlace s k, (I.lackRx, k), (I.lseq, j)])))

/-- `ROUTE_RECOMPUTE` (R232). -/
def Obligations.RouteTableFollowsTheWiring : Prop :=
  ∀ (others : List (Node × Nat)) (s : State), s.node < 16 → Completes (.routeRecompute others) s fun t =>
    t.rd F.WEFT_ROUTE_DATA_VALID s.node = 0 ∧
    (∀ d k, d < 16 → d ≠ s.node → d / 8 = s.node / 8 → directLink (s.node % 8) (d % 8) = some k →
      s.linkUp k = true →
      t.rd F.WEFT_ROUTE_DATA_VALID d = 1 ∧ t.rd F.WEFT_ROUTE_DATA_LINK d = k ∧ t.rd F.WEFT_ROUTE_DATA_VIA d = d ∧
      t.rd F.WEFT_ROUTE_DATA_HOPS d = 1 ∧ t.rd F.WEFT_ROUTE_DATA_ALTERNATE d = 0) ∧
    ((s.linkUp 7 = true ∨ s.linkUp 8 = true) →
      let d := s.node ^^^ 8
      t.rd F.WEFT_ROUTE_DATA_VALID d = 1 ∧ t.rd F.WEFT_ROUTE_DATA_LINK d = (if s.linkUp 7 then 7 else 8) ∧
      t.rd F.WEFT_ROUTE_DATA_VIA d = d ∧ t.rd F.WEFT_ROUTE_DATA_HOPS d = 1 ∧
      t.rd F.WEFT_ROUTE_DATA_ALTERNATE d = 0) ∧
    (∀ d < 16, t.rd F.WEFT_ROUTE_DATA_VALID d = 1 →
      1 ≤ t.rd F.WEFT_ROUTE_DATA_HOPS d ∧ t.rd F.WEFT_ROUTE_DATA_HOPS d ≤ 3 ∧
      s.linkUp (t.rd F.WEFT_ROUTE_DATA_LINK d) = true ∧
      (t.rd F.WEFT_ROUTE_DATA_HOPS d = 2 → t.rd F.WEFT_ROUTE_DATA_ALTERNATE d = 1)) ∧
    ((∀ k < 10, s.linkUp k = false) → ∀ d < 16, t.rd F.WEFT_ROUTE_DATA_VALID d = 0) ∧
    OnlyRegs s t ((List.range 16).flatMap fun d =>
      [(F.WEFT_ROUTE_DATA_LINK, d), (F.WEFT_ROUTE_DATA_VIA, d), (F.WEFT_ROUTE_DATA_HOPS, d),
        (F.WEFT_ROUTE_DATA_VALID, d), (F.WEFT_ROUTE_DATA_ALTERNATE, d)])

/-- Jobs of several packages (R229, R236-R241). -/
def Obligations.JobsFormRunAndBreak : Prop :=
  (∀ (f : Join) (s : State),
    (s.jobBinding? f.hdr.job.toNat = none → exec (.joinFlit f) s = .next s) ∧
    ∀ b j, s.jobBinding? f.hdr.job.toNat = some b → s.job? b = some j →
      let st := s.rd F.WEFT_JOB_STATE_STATE b
      let forming := st = 1 ∧ s.bnd.cmd = some (.bind b)
      let known := f.count = j.nodes.length ∧ f.participant ∈ j.others
      (f.ident ≠ j.ident → forming → s.bnd.toClose = [] → Completes (.joinFlit f) s fun t =>
        EndsWith s t 0x0D ∧ t.binding? b = none) ∧
      (f.ident ≠ j.ident → ¬ forming → exec (.joinFlit f) s = .next s) ∧
      (f.ident = j.ident → ¬ known → exec (.joinFlit f) s = .next s) ∧
      (f.ident = j.ident → known → Completes (.joinFlit f) s fun t =>
        let e := if st ≠ 2 ∧ laterEpoch f.hdr.epoch.toNat (s.rd F.WEFT_JOB_STATE_EPOCH b) = true
          then f.hdr.epoch.toNat else s.rd F.WEFT_JOB_STATE_EPOCH b
        let joins := j.joins.filter (fun x => x.1 != f.participant) ++
          [(f.participant, f.hdr.epoch.toNat, f.tags)]
        t.rd F.WEFT_JOB_STATE_EPOCH b = e ∧ t.job? b = some { j with joins := joins } ∧
        t.rd F.WEFT_JOB_STATE_STATE b =
          (if st ≠ 0 ∧ (∀ p ∈ j.others, ∃ x ∈ joins, x.1 = p ∧ x.2.1 = e) then 2 else st) ∧
        (∀ k ≠ b, t.job? k = s.job? k) ∧
        t = { s with regs := t.regs, weft := { s.weft with jobs := t.weft.jobs } } ∧
        SameBut s t [(F.WEFT_JOB_STATE_STATE, b), (F.WEFT_JOB_STATE_EPOCH, b), (F.WEFT_JOB_PEERS_JOINED, b)])) ∧
  (∀ (b : BindIx) (s : State),
    let st := s.rd F.WEFT_JOB_STATE_STATE b.val
    (∀ j x, s.job? b.val = some j → s.binding? b.val = some x →
      ((st = 1 ∨ st = 3) → Completes (.joinSendTick b) s fun t =>
        (∀ q ∈ j.others, ∀ k, s.hopTo (j.nodes.getD q 0) = some k →
          let join : Out := .flit k "JOIN" (j.nodes.getD q 0 :: ([j.ident.toNat, j.self, j.nodes.length,
            s.rd F.WEFT_JOB_STATE_EPOCH b.val] ++ x.parts.map fun p => s.rd F.PART_GEN_GEN p))
          join ∈ t.out ∨ (k, join) ∈ t.weft.waiting) ∧
        t = { s with regs := t.regs, out := t.out,
                     weft := { s.weft with replay := t.weft.replay, waiting := t.weft.waiting } } ∧
        SameButFields s t [I.lseq]) ∧
      (st ≠ 1 → st ≠ 3 → exec (.joinSendTick b) s = .next s)) ∧
    (st = 1 → s.bnd.cmd = some (.bind b.val) → s.bnd.toClose = [] →
      Completes (.joinWindowExpire b) s fun t => EndsWith s t 0x0D ∧ t.binding? b.val = none) ∧
    ((st ≠ 1 ∨ s.bnd.cmd ≠ some (.bind b.val)) → exec (.joinWindowExpire b) s = .next s) ∧
    (∀ j, s.job? b.val = some j →
      (j.arrived = none → exec (.stepTimeout b) s = .next s) ∧
      (j.arrived ≠ none → Completes (.stepTimeout b) s fun t =>
        t.rd F.WEFT_JOB_STATE_STATE b.val = 3 ∧ Rises s t F.WEFT_JOB_STATE_LOSSES b.val 1 ∧
        t.rd F.WEFT_JOB_STATE_EPOCH b.val = (s.rd F.WEFT_JOB_STATE_EPOCH b.val + 1) % 16 ∧
        t.rd F.WEFT_JOB_PEERS_JOINED b.val = 0 ∧
        t.job? b.val = some { j with joins := [], tokens := [], arrived := none, start := none } ∧
        (t.binding? b.val).bind Binding.running = none ∧
        (∀ c ∈ s.ctxsOn b.val, 1 ≤ s.rd F.CTX_STATE_STATE c → s.rd F.CTX_STATE_STATE c ≤ 3 →
          t.rd F.CTX_STATE_STATE c = 4 ∧ t.rd F.CTX_STATE_HOLD_CAUSE c = 2) ∧
        Rises s t F.FAULT_CLASSC_COUNT 0 1 ∧ SameMemories s t))) ∧
  (∀ (h : JobHdr) (step who : Nat) (c : CtxIx) (age frame : Nat) (s : State),
    let stale (i : Instr) : Prop := Completes i s fun t =>
      Rises s t F.WEFT_VIOL_STALE 0 1 ∧ OnlyRegs s t [(F.WEFT_VIOL_STALE, 0)]
    (s.jobBinding? h.job.toNat = none → stale (.barrierFlit h step who) ∧ stale (.frameStartFlit h c age frame)) ∧
    ∀ b j, s.jobBinding? h.job.toNat = some b → s.job? b = some j →
      (s.current b j h = false → stale (.barrierFlit h step who) ∧ stale (.frameStartFlit h c age frame)) ∧
      (s.current b j h = true →
        (Completes (.frameStartFlit h c age frame) s fun t =>
          t.job? b = some { j with start := some (c.val, age) } ∧ (∀ k ≠ b, t.job? k = s.job? k) ∧
          t = { s with weft := { s.weft with jobs := t.weft.jobs } }) ∧
        (who ∉ j.others → Completes (.barrierFlit h step who) s fun t =>
          WeftViolation s t ∧ t.weft = s.weft ∧ SameMemories s t) ∧
        (who ∈ j.others → Completes (.barrierFlit h step who) s fun t =>
          let tokens := j.tokens ++ [(step, who)]
          (∀ y, j.arrived = some y → (∀ p ∈ j.others, (y, p) ∈ tokens) →
            (t.job? b).map Job.arrived = some none) ∧
          ((∀ y, j.arrived = some y → ∃ p ∈ j.others, (y, p) ∉ tokens) →
            t.job? b = some { j with tokens := tokens }) ∧
          (∀ k ≠ b, t.job? k = s.job? k) ∧ t = { s with weft := { s.weft with jobs := t.weft.jobs } }))) ∧
  (∀ (m : JobMsg) (s : State),
    let b := m.binding.val
    let data := m.data.take (2 ^ 20 - m.line.val * 64)
    (m.tagOk = false → Completes (.jobDataMsg m) s fun t => WeftViolation s t ∧ SameMemories s t) ∧
    (m.tagOk = true → (s.job? b = none ∨ s.binding? b = none) → Completes (.jobDataMsg m) s fun t =>
      Rises s t F.WEFT_VIOL_STALE 0 1 ∧ OnlyRegs s t [(F.WEFT_VIOL_STALE, 0)]) ∧
    (∀ j x, m.tagOk = true → s.job? b = some j → s.binding? b = some x →
      (s.current b j m.hdr = false → Completes (.jobDataMsg m) s fun t =>
        Rises s t F.WEFT_VIOL_STALE 0 1 ∧ OnlyRegs s t [(F.WEFT_VIOL_STALE, 0)]) ∧
      (s.current b j m.hdr = true → ¬ (m.bolt.val ∈ x.bolts ∧ (s.bolt m.bolt.val).state = .leased) →
        Completes (.jobDataMsg m) s fun t =>
          Rises s t F.BEAM_LEASE_VIOL_COUNT 0 1 ∧ OnlyRegs s t [(F.BEAM_LEASE_VIOL_COUNT, 0)]) ∧
      (s.current b j m.hdr = true → m.bolt.val ∈ x.bolts → (s.bolt m.bolt.val).state = .leased →
        Completes (.jobDataMsg m) s fun t =>
          (∀ k (h : k < data.length), t.beamByte m.bolt.val (m.line.val * 64 + k) = data[k]) ∧
          BytesOutside s.beam.bytes t.beam.bytes (s.storage m.bolt.val * 2 ^ 20 + m.line.val * 64) data.length 0 ∧
          t = { s with beam := { s.beam with bytes := t.beam.bytes } })))

/-- A message goes to a node when a route to it exists, else nothing is sent. -/
def Messages (s t : State) (node : Nat) (kind : String) (args : List Nat) : Prop :=
  t.out = if (s.hopTo node).isSome then .message node kind args :: s.out else s.out

/-- The primary's side of shadowing (R246-R248). -/
def Obligations.ShadowingStartsAndFollows : Prop :=
  (∀ (path : Path) (v : Word) (s : State),
    let c := s.rd F.CTX_SEL_SEL (pathIx path)
    let b := s.rd F.WEFT_BIND_INDEX_BINDING (pathIx path)
    let sp := field v.toNat 11 2
    let open' := s.rd F.CTX_STATE_STATE c ≠ 0 ∧ s.rd F.CTX_STATE_STATE c ≠ 6 ∧ s.rd F.CTX_SHADOW_ROLE c = 0
    (¬ open' → exec (.ctxShadowEnable path) s = .next s) ∧
    (open' → s.rd F.WEFT_CFG_CONFIG 0 ≠ 3 → Completes (.ctxShadowEnable path) s fun t =>
      t.rd F.CTX_SHADOW_STATUS_ERR c = 1 ∧ OnlyRegs s t [(F.CTX_SHADOW_STATUS_ERR, c)]) ∧
    (open' → s.rd F.WEFT_CFG_CONFIG 0 = 3 → s.hopTo (s.node ^^^ 8) = none →
      Completes (.ctxShadowEnable path) s fun t =>
        t.rd F.CTX_SHADOW_STATUS_ERR c = 2 ∧ OnlyRegs s t [(F.CTX_SHADOW_STATUS_ERR, c)]) ∧
    (open' → s.rd F.WEFT_CFG_CONFIG 0 = 3 → s.hopTo (s.node ^^^ 8) ≠ none →
      Completes (.ctxShadowEnable path) s fun t =>
        t.rd F.CTX_SHADOW_EN c = 1 ∧ t.rd F.CTX_SHADOW_STATUS_LAPSES c = 0 ∧
        t.out = .message (s.node ^^^ 8) "shadow request" [c] :: s.out ∧ t = { s with regs := t.regs, out := t.out } ∧
        SameBut s t [(F.CTX_SHADOW_EN, c), (F.CTX_SHADOW_STATUS_LAPSES, c)]) ∧
    (∀ x, s.binding? b = some x →
      let may := s.on F.SPOOL_SIZE_OPEN sp = true ∧ s.rd F.SPOOL_OWNER_OWNER sp = x.owner
      ((v.getLsbD 0 = false ∨ may) → Completes (.weftAcceptWrite path v) s fun t =>
        t.rd F.WEFT_ACCEPT_EN b = bit (v.getLsbD 0) ∧ t.rd F.WEFT_ACCEPT_SPOOL b = sp ∧
        OnlyRegs s t [(F.WEFT_ACCEPT_EN, b), (F.WEFT_ACCEPT_SPOOL, b)]) ∧
      (v.getLsbD 0 = true → ¬ may → exec (.weftAcceptWrite path v) s = .next s)) ∧
    (s.binding? b = none → exec (.weftAcceptWrite path v) s = .next s)) ∧
  (∀ (ctx slot : CtxIx) (cause : Fin 16) (seq : BitVec 32) (s : State),
    let c := ctx.val
    let asked := s.on F.CTX_SHADOW_EN c = true ∧ s.rd F.CTX_SHADOW_ROLE c = 0
    let pending := s.on F.CTX_SHADOW_ACK_PENDING c = true
    let update (twin : Nat) (t : State) : Prop :=
      t.rd F.CTX_SHADOW_STATUS_STATE c = 1 ∧ t.rd F.CTX_SHADOW_ACK_PENDING c = 1 ∧
      Messages s t (s.node ^^^ 8) "shadow update" [twin, s.rd F.CTX_DELTA_SEQ_SEQ c, 1] ∧
      t = { s with regs := t.regs, out := t.out }
    (¬ asked → exec (.shadowReplyMsg ctx cause slot) s = .next s) ∧
    (asked → cause.val = 0 → Completes (.shadowReplyMsg ctx cause slot) s fun t =>
      t.rd F.CTX_SHADOW_TWIN_CTX c = slot.val ∧ t.rd F.CTX_SHADOW_ROLE c = 1 ∧ update slot.val t ∧
      SameBut s t [(F.CTX_SHADOW_TWIN_CTX, c), (F.CTX_SHADOW_ROLE, c), (F.CTX_SHADOW_STATUS_STATE, c),
        (F.CTX_SHADOW_ACK_PENDING, c)]) ∧
    (asked → cause.val ≠ 0 → Completes (.shadowReplyMsg ctx cause slot) s fun t =>
      t.rd F.CTX_SHADOW_EN c = 0 ∧ t.rd F.CTX_SHADOW_STATUS_ERR c = cause.val ∧
      OnlyRegs s t [(F.CTX_SHADOW_EN, c), (F.CTX_SHADOW_STATUS_ERR, c)]) ∧
    (pending → seq.toNat = s.rd F.CTX_DELTA_SEQ_SEQ c → Completes (.shadowAckFlit ctx seq) s fun t =>
      t.rd F.CTX_SHADOW_ACK_PENDING c = 0 ∧ t.rd F.CTX_SHADOW_STATUS_STATE c = 2 ∧
      OnlyRegs s t [(F.CTX_SHADOW_ACK_PENDING, c), (F.CTX_SHADOW_STATUS_STATE, c)]) ∧
    (¬ (pending ∧ seq.toNat = s.rd F.CTX_DELTA_SEQ_SEQ c) → exec (.shadowAckFlit ctx seq) s = .next s) ∧
    (pending → Completes (.shadowAckTimeout ctx) s fun t =>
      t.rd F.CTX_SHADOW_ACK_PENDING c = 0 ∧ t.rd F.CTX_SHADOW_STATUS_STATE c = 3 ∧
      t.rd F.CTX_SHADOW_STATUS_ERR c = 6 ∧ Rises s t F.CTX_SHADOW_STATUS_LAPSES c 1 ∧
      Rises s t F.FAULT_CLASSC_COUNT 0 1 ∧
      Messages s t (s.node ^^^ 8) "lapse" [1, s.rd F.CTX_SHADOW_TWIN_CTX c] ∧ SameMemories s t ∧
      SameButFields s t ([F.CTX_SHADOW_ACK_PENDING, F.CTX_SHADOW_STATUS_STATE, F.CTX_SHADOW_STATUS_ERR,
        F.CTX_SHADOW_STATUS_LAPSES] ++ classCFields)) ∧
    (¬ pending → exec (.shadowAckTimeout ctx) s = .next s) ∧
    (let may := s.rd F.CTX_SHADOW_STATUS_STATE c = 3 ∧ s.rd F.CTX_SHADOW_ROLE c = 1 ∧
       s.hopTo (s.node ^^^ 8) ≠ none ∧ s.rd F.CTX_STATE_STATE c ≠ 3
     (may → Completes (.shadowResync ctx) s fun t =>
       update (s.rd F.CTX_SHADOW_TWIN_CTX c) t ∧
       SameBut s t [(F.CTX_SHADOW_STATUS_STATE, c), (F.CTX_SHADOW_ACK_PENDING, c)]) ∧
     (¬ may → exec (.shadowResync ctx) s = .next s)))

/-- A twin's copy has been taken over (R249): its context is READY on its accepting binding's spool, no
longer a copy and not shadowed. -/
def TakenOver (s t : State) (slot : Nat) (x : Copy) : Prop :=
  t.copy? slot = none ∧ t.rd F.CTX_STATE_STATE slot = 1 ∧ t.rd F.CTX_SHADOW_ROLE slot = 0 ∧
  t.rd F.CTX_SHADOW_EN slot = 0 ∧ (t.ctx? slot).map Ctx.spool = some (s.rd F.WEFT_ACCEPT_SPOOL x.binding)

/-- The twin's side of shadowing (R156-R158, R246-R249). -/
def Obligations.TwinsHoldAndTakeOver : Prop :=
  (∀ (node : Node) (c : CtxIx) (m : BitVec 512) (fp : BitVec 256) (s : State),
    let bs := s.accepting m fp
    let refused (cause : Nat) : Prop := Completes (.shadowRequestMsg node c m fp) s fun t =>
      Messages s t node.val "shadow reply" [c.val, cause, 0] ∧ t = { s with out := t.out }
    (s.rd F.WEFT_CFG_CONFIG 0 ≠ 3 → refused 1) ∧
    (s.rd F.WEFT_CFG_CONFIG 0 = 3 → bs = [] → refused 3) ∧
    (s.rd F.WEFT_CFG_CONFIG 0 = 3 → bs ≠ [] → (∀ b ∈ bs, s.freePlace? b 2 = none) → refused 4) ∧
    (∀ b k slot x, s.rd F.WEFT_CFG_CONFIG 0 = 3 → bs.find? (fun i => (s.freePlace? i 2).isSome) = some b →
      s.freePlace? b 2 = some k → s.freeCtxSlot? = some slot → s.binding? b = some x →
      Completes (.shadowRequestMsg node c m fp) s fun t =>
        Messages s t node.val "shadow reply" [c.val, 0, slot] ∧ t.rd F.CTX_STATE_STATE slot = 6 ∧
        t.rd F.CTX_SHADOW_ROLE slot = 2 ∧ t.rd F.CTX_SHADOW_STATUS_STATE slot = 4 ∧
        t.rd F.CTX_SHADOW_STATUS_PRIMARY_CTX slot = c.val ∧
        (∃ y : Ctx, t.ctx? slot = some y ∧ y.binding = b ∧ y.owner = x.owner ∧ y.handle = x.handle ∧ y.place = k) ∧
        (∃ y : Copy, t.copy? slot = some y ∧ y.node = node.val ∧ y.primary = c.val ∧ y.binding = b ∧
          y.committed = none) ∧
        (∀ j ≠ slot, t.ctx? j = s.ctx? j ∧ t.copy? j = s.copy? j) ∧ SameMemories s t)) ∧
  (∀ (slot : CtxIx) (st : ShadowState) (reason : Fin 3) (s : State),
    (s.copy? slot.val = none →
      exec (.fetchRequestMsg slot) s = .next s ∧ exec (.lapseNoticeMsg reason slot) s = .next s ∧
      ∀ ok, Completes (.shadowUpdateMsg slot ok st) s fun t => WeftViolation s t ∧ t.weft = s.weft ∧ SameMemories s t) ∧
    ∀ x, s.copy? slot.val = some x →
      ((s.ctxGroups slot.val).any s.inReset = true → ∀ ok, exec (.shadowUpdateMsg slot ok st) s = .next s) ∧
      ((s.ctxGroups slot.val).any s.inReset = false →
        (Completes (.shadowUpdateMsg slot true st) s fun t =>
          t.copy? slot.val = some { x with committed := some st, journal := none } ∧
          t.rd F.CTX_SHADOW_STATUS_STATE slot.val = 4 ∧ (∀ j ≠ slot.val, t.copy? j = s.copy? j) ∧
          (∀ k, s.hopTo x.node = some k →
            FlitPut s t k (.flit k "SHADOW_ACK" [x.node, x.primary, st.seq.toNat])) ∧ SameMemories s t) ∧
        (Completes (.shadowUpdateMsg slot false st) s fun t =>
          t.copy? slot.val = some { x with journal := none } ∧ (∀ j ≠ slot.val, t.copy? j = s.copy? j) ∧
          WeftViolation s t ∧ t.out = s.out ∧ SameMemories s t)) ∧
      (∀ y, x.committed = some y → Completes (.fetchRequestMsg slot) s fun t =>
        Messages s t x.node "fetch reply" (x.primary :: y.seq.toNat :: y.carried.map BitVec.toNat) ∧
        t = { s with out := t.out }) ∧
      (x.committed = none → exec (.fetchRequestMsg slot) s = .next s) ∧
      (reason.val = 1 → Completes (.lapseNoticeMsg reason slot) s fun t =>
        t.rd F.CTX_SHADOW_STATUS_STATE slot.val = 5 ∧ OnlyRegs s t [(F.CTX_SHADOW_STATUS_STATE, slot.val)]) ∧
      (reason.val = 2 → s.ctx? slot.val ≠ none → Completes (.lapseNoticeMsg reason slot) s fun t =>
        TakenOver s t slot.val x ∧ Rises s t F.FAULT_CLASSC_COUNT 0 1 ∧ SameMemories s t) ∧
      (reason.val = 0 → Completes (.lapseNoticeMsg reason slot) s fun t => WeftViolation s t ∧ t.weft = s.weft)) ∧
  (∀ (node : Node) (s : State),
    (Completes (.shadowRouteLost node) s fun t =>
      (∀ e ∈ s.weft.copies, e.2.node = node.val → t.rd F.CTX_SHADOW_STATUS_STATE e.1 = 5) ∧
      OnlyRegs s t ((s.weft.copies.filter fun e => e.2.node == node.val).map fun e =>
        (F.CTX_SHADOW_STATUS_STATE, e.1))) ∧
    ((∀ e ∈ s.weft.copies, e.2.node ≠ node.val) → exec (.twinTakeover node) s = .next s) ∧
    (Completes (.twinTakeover node) s fun t =>
      (∀ slot x, s.copy? slot = some x → x.node = node.val → s.ctx? slot ≠ none → TakenOver s t slot x) ∧
      SameMemories s t))

/-- A chip reset has been decided (R494 step 1): it is counted, drains with every partition FENCED (5) and
no admission, and source 80 is registered unless the host itself reset the port (R487). -/
def ChipResetBegun (s t : State) (trigger : Nat) : Prop :=
  t.rd I.chipStep 0 = 1 ∧ t.rd I.chipTrigger 0 = trigger ∧ Rises s t F.FAULT_ESC_CHIP_RESETS 0 1 ∧
  (∀ p < 16, t.rd F.PART_STATE_STATE p = 5) ∧ t.rd I.admitStop 0 = 1 ∧
  (if trigger = 7 then t.rd F.FAULT_STATUS2_COMPUTE_B 0 = s.rd F.FAULT_STATUS2_COMPUTE_B 0
   else t.statusBit 80 = true) ∧ SameMemories s t

/-- No chip reset can be decided: the die is not up, or one runs already (R497). -/
abbrev NoChipReset (s : State) : Prop := s.on I.dieUp 0 = false ∨ s.rd I.chipStep 0 ≠ 0

/-- The host link, resets by the host, and the event queue (R258-R261, R274, R284, R286, R415). -/
def Obligations.HostLinkCarriesResetsAndEvents : Prop :=
  (∀ (pcie : Bool) (narrow slow : Fin 3) (s : State),
    (s.on I.dieUp 0 = false → exec (.hostLinkTrained pcie narrow slow) s = .next s) ∧
    (s.on I.dieUp 0 = true → Completes (.hostLinkTrained pcie narrow slow) s fun t =>
      t.rd F.HOST_LINK_WIDTH 0 = 16 / 2 ^ narrow.val ∧ t.rd F.HOST_LINK_SPEED 0 = 5 - slow.val ∧
      t.rd F.HOST_LINK_MODE 0 = bit pcie ∧ (pcie = true → t.statusBit 84 = true) ∧
      (if s.rd F.HOST_LINK_MODE 0 = 2 then Rises s t F.HOST_LINK_DOWNS 0 1
       else t.rd F.HOST_LINK_DOWNS 0 = s.rd F.HOST_LINK_DOWNS 0) ∧
      (if narrow.val = 0 ∧ slow.val = 0 then t.rd F.FAULT_CLASSC_COUNT 0 = s.rd F.FAULT_CLASSC_COUNT 0
       else Rises s t F.FAULT_CLASSC_COUNT 0 1) ∧
      ((pcie = true ∨ s.on I.bme 0 = true) → t.host.heldOut = []) ∧
      (pcie = false → s.on I.bme 0 = true → ∀ o ∈ s.host.heldOut, o ∈ t.out) ∧ SameMemories s t)) ∧
  (∀ s : State,
    (s.on I.dieUp 0 = true → Completes .hostLinkDown s fun t =>
      t.rd F.HOST_LINK_MODE 0 = 2 ∧ OnlyRegs s t [(F.HOST_LINK_MODE, 0)]) ∧
    (s.on I.dieUp 0 = false → exec .hostLinkDown s = .next s) ∧
    (s.rd F.HOST_LINK_MODE 0 ≠ 2 → exec .hostLinkUp s = .next s ∧ exec .hostLinkDownTimeout s = .next s) ∧
    (s.rd F.HOST_LINK_MODE 0 = 2 → Completes .hostLinkUp s fun t =>
      t.rd F.HOST_LINK_MODE 0 = s.rd I.pcieOnly 0 % 4 ∧ Rises s t F.HOST_LINK_DOWNS 0 1 ∧
      (s.rd I.pcieOnly 0 = 0 → s.on I.bme 0 = true →
        t.out = s.host.heldOut.reverse ++ s.out ∧ t.host.heldOut = []) ∧
      (s.rd I.pcieOnly 0 = 0 → s.on I.bme 0 = false → t.out = s.out ∧ t.host = s.host) ∧
      (s.rd I.pcieOnly 0 = 1 → t.out = s.out ∧ t.host.heldOut = []) ∧
      t = { s with regs := t.regs, out := t.out, host := { s.host with heldOut := t.host.heldOut } } ∧
      SameBut s t [(F.HOST_LINK_MODE, 0), (F.HOST_LINK_DOWNS, 0)]) ∧
    (s.rd F.HOST_LINK_MODE 0 = 2 → ¬ NoChipReset s →
      Completes .hostLinkDownTimeout s fun t => ChipResetBegun s t 5) ∧
    (¬ NoChipReset s → ∀ k, Completes (.hostReset k) s fun t => ChipResetBegun s t 7) ∧
    (¬ NoChipReset s → Completes .perstAssert s fun t => ChipResetBegun s t 7) ∧
    (NoChipReset s → exec .hostLinkDownTimeout s = .next s ∧ exec .perstAssert s = .next s ∧
      ∀ k, exec (.hostReset k) s = .next s) ∧
    (s.on I.dieUp 0 = false → ∀ on v, exec (.busMasterEnable on) s = .next s ∧ exec (.evqEnable v) s = .next s) ∧
    (s.on I.dieUp 0 = true →
      (Completes (.busMasterEnable false) s fun t => t.rd I.bme 0 = 0 ∧ OnlyRegs s t [(I.bme, 0)]) ∧
      (Completes (.busMasterEnable true) s fun t =>
        t.rd I.bme 0 = 1 ∧ (s.rd F.HOST_LINK_MODE 0 = 0 →
          t.host.heldOut = [] ∧ ∀ o ∈ s.host.heldOut, o ∈ t.out) ∧ SameMemories s t ∧ SameBut s t [(I.bme, 0)]) ∧
      ∀ v : Word, Completes (.evqEnable v) s fun t =>
        t.rd F.HOST_EVQ_SIZE_EN 0 = bit (v.getLsbD 8) ∧
        (v.getLsbD 8 = true → t.rd F.HOST_EVQ_HEAD_INDEX 0 = 0 ∧ t.rd F.HOST_EVQ_TAIL_INDEX 0 = 0) ∧
        (v.getLsbD 8 = false → t.rd F.HOST_EVQ_HEAD_INDEX 0 = s.rd F.HOST_EVQ_HEAD_INDEX 0 ∧
          t.rd F.HOST_EVQ_TAIL_INDEX 0 = s.rd F.HOST_EVQ_TAIL_INDEX 0) ∧
        t.rd F.HOST_EVQ_SIZE_LOG2 0 =
          (if s.on F.HOST_EVQ_SIZE_EN 0 then s.rd F.HOST_EVQ_SIZE_LOG2 0 else field v.toNat 3 0) ∧
        t.rd F.HOST_EVQ_SIZE_OVF 0 = (if v.getLsbD 9 then 0 else s.rd F.HOST_EVQ_SIZE_OVF 0) ∧
        OnlyRegs s t [(F.HOST_EVQ_SIZE_EN, 0), (F.HOST_EVQ_SIZE_LOG2, 0), (F.HOST_EVQ_SIZE_OVF, 0),
          (F.HOST_EVQ_HEAD_INDEX, 0), (F.HOST_EVQ_TAIL_INDEX, 0)]) ∧
    (∀ v : Word,
      let new := v.toNat % 2 ^ 17
      let head := s.rd F.HOST_EVQ_HEAD_INDEX 0
      let written := ringDist (s.rd F.HOST_EVQ_TAIL_INDEX 0) head
      (s.hostReach = true → ringDist new head ≤ written → Completes (.evqHeadWrite v) s fun t =>
        t.rd F.HOST_EVQ_HEAD_INDEX 0 = new ∧ OnlyRegs s t [(F.HOST_EVQ_HEAD_INDEX, 0)]) ∧
      ((s.hostReach = false ∨ written < ringDist new head) → exec (.evqHeadWrite v) s = .next s)))

/-- A failed read is counted (R283). -/
def ReadFailCounted (s t : State) (how : ReadFail) : Prop :=
  if how = .poison then Rises s t F.HOST_ERR_POISON_IN 0 1 else Rises s t F.HOST_ERR_TIMEOUTS 0 1

/-- The host's register window and its failed transactions (R263-R266, R282, R283, R289). -/
def Obligations.HostWindowIsQueuedAndServed : Prop :=
  (∀ (r : Reg) (n : Nat) (v : Word) (s : State),
    let go := r = .CMD_GO ∧ n = 0 ∧ v.getLsbD 0 = true
    (s.reaches .host r = false → exec (.bar0Write r n v) s = .next s) ∧
    (s.reaches .host r = true →
      (256 ≤ s.host.writeQueue.length → Completes (.bar0Write r n v) s fun t =>
        Rises s t F.HOST_STATUS_WQ_DROPS 0 1 ∧ Rises s t F.FAULT_CLASSC_COUNT 0 1 ∧ t.host = s.host ∧
        t.bnd = s.bnd ∧ SameMemories s t) ∧
      (s.host.writeQueue.length < 256 → ¬ go → Completes (.bar0Write r n v) s fun t =>
        t = { s with host := { s.host with writeQueue := s.host.writeQueue ++ [(r, n, v)] } }) ∧
      (s.host.writeQueue.length < 256 → go → s.on F.CMD_STATUS_BUSY 0 = false →
        Completes (.bar0Write r n v) s fun t =>
          t.rd F.CMD_STATUS_BUSY 0 = 1 ∧ t.bnd = { s.bnd with cmd := some .waiting } ∧
          t.host.writeQueue = s.host.writeQueue ++ [(r, n, v)] ∧
          t.rd I.cmdDeferred 0 = (if s.on F.HOST_STATUS_FW_UP 0 then 2 else 1) ∧ t.out = s.out ∧
          SameMemories s t ∧ SameBut s t [(F.CMD_STATUS_BUSY, 0), (I.cmdPaused, 0), (I.cmdDeferred, 0)]) ∧
      (s.host.writeQueue.length < 256 → go → s.on F.CMD_STATUS_BUSY 0 = true →
        Completes (.bar0Write r n v) s fun t =>
          t.rd F.CMD_STATUS_BUSY 0 = 1 ∧ t.bnd = s.bnd ∧ Rises s t F.FAULT_CLASSC_COUNT 0 1 ∧
          SameMemories s t)) ∧
    (∀ rest, s.host.writeQueue = (r, n, v) :: rest →
      let u : State := { s with host := { s.host with writeQueue := rest } }
      (hwHeld r = false → s.on F.HOST_STATUS_FW_UP 0 = false → exec .bar0WriteApply s = .next s) ∧
      ((hwHeld r = true ∨ s.on F.HOST_STATUS_FW_UP 0 = true) →
        (r ≠ .CMD_GO → ∃ w, exec (.registerWrite .host r n v) u = .next w ∧ Completes .bar0WriteApply s fun t =>
          t.host.pendingReads =
            (w.host.pendingReads.map fun x => (x.1, x.2.1, x.2.2 - 1)).filter (fun x => x.2.2 != 0) ∧
          t.out.length = w.out.length + w.host.pendingReads.countP (fun x => decide (x.2.2 ≤ 1)) ∧
          t = { w with host := { w.host with pendingReads := t.host.pendingReads },
                       latches := t.latches, out := t.out }) ∧
        (r = .CMD_GO → s.host.pendingReads = [] → v.getLsbD 0 = true → s.bnd.cmd = some .waiting →
          (s.rd I.cmdDeferred 0 = 1 ∨ s.rd I.cmdDeferred 0 = 2) → Completes .bar0WriteApply s fun t =>
            t.rd I.cmdDeferred 0 = 0 ∧ HostGets s t (.hostRead (s.rd F.CMD_ADDR 0 / 64 * 64) 64) ∧
            t.host.writeQueue = rest ∧ t.bnd = s.bnd ∧ SameMemories s t ∧
            SameBut s t [(I.cmdDeferred, 0), (I.cmdPaused, 0)]))) ∧
    (s.host.writeQueue = [] → exec .bar0WriteApply s = .next s) ∧
    (s.hostReach = false → exec (.bar0Read r n) s = .next s) ∧
    (s.hostReach = true →
      let held := hwHeld r = false ∧ s.reaches .host r = true
      let answers (x : Nat) : Prop := Completes (.bar0Read r n) s fun t =>
        t.out = .word .host x :: s.out ∧ t = { s with latches := t.latches, out := t.out }
      (s.reaches .host r = false → answers 0) ∧
      (held → s.on F.HOST_STATUS_FW_UP 0 = false → answers (2 ^ 32 - 1)) ∧
      (s.reaches .host r = true → (regDesc r).half = .plain →
        (hwHeld r = true ∨ s.on F.HOST_STATUS_FW_UP 0 = true ∧ s.host.writeQueue = []) →
        answers (s.regWord .host r n % 2 ^ 32)) ∧
      (held → s.on F.HOST_STATUS_FW_UP 0 = true → s.host.writeQueue ≠ [] → Completes (.bar0Read r n) s fun t =>
        t = { s with host := { s.host with
          pendingReads := s.host.pendingReads ++ [(r, n, s.host.writeQueue.length)] } }))) ∧
  (∀ (write : Bool) (k : BadRequest) (s : State),
    (s.host.pendingReads = [] → exec .bar0ReadTimeout s = .next s) ∧
    (∀ x rest, s.host.pendingReads = x :: rest → Completes .bar0ReadTimeout s fun t =>
      t.host = { s.host with pendingReads := rest } ∧ t.out = .word .host (2 ^ 32 - 1) :: s.out ∧
      Rises s t F.FW_RESTARTS_READ_TIMEOUTS 0 1 ∧ SameMemories s t ∧
      SameBut s t [(F.FW_RESTARTS_READ_TIMEOUTS, 0)]) ∧
    (s.hostReach = false → exec (.barBadAccess write) s = .next s ∧ exec (.hostBadRequest k) s = .next s) ∧
    (s.hostReach = true →
      (Completes (.barBadAccess write) s fun t =>
        Rises s t F.HOST_ERR_CA 0 1 ∧ Rises s t F.FAULT_CLASSC_COUNT 0 1 ∧
        t.out = (if write then s.out else .noData .host "completer abort" :: s.out) ∧ SameMemories s t ∧
        SameButFields s t (F.HOST_ERR_CA :: classCFields)) ∧
      (Completes (.hostBadRequest k) s fun t =>
        (if k = .poisonedWrite then Rises s t F.HOST_ERR_POISON_IN 0 1 else Rises s t F.HOST_ERR_UR 0 1) ∧
        Rises s t F.FAULT_CLASSC_COUNT 0 1 ∧
        t.out = (if k = .unsupportedNonPosted ∨ k = .unadvertised
          then .noData .host "unsupported request" :: s.out else s.out) ∧ SameMemories s t ∧
        (∀ i : Fin 2, t.rd I.doeError i = if k = .doeError i then 1 else s.rd I.doeError i) ∧
        SameButFields s t (F.HOST_ERR_POISON_IN :: F.HOST_ERR_UR :: I.doeError :: classCFields)))) ∧
  (∀ (how : ReadFail) (s : State),
    (∀ c : CtxIx, match s.firstAt c.val (fun f => f.stage == .payload) with
      | some f => Completes (.hostReadFail how (.payload c)) s fun t =>
          ReadFailCounted s t how ∧ FrameEnded t f ∧ SameMemories s t
      | none => exec (.hostReadFail how (.payload c)) s = .next s) ∧
    (∀ desc ok, s.ready = false → exec (.hostReadFail how (.bundle desc ok)) s = .next s ∧
      exec (.hostReadFail how .descriptor) s = .next s) ∧
    (s.ready = true → s.bnd.toClose = [] →
      (Completes (.hostReadFail how .descriptor) s fun t =>
        ReadFailCounted s t how ∧ EndsWith s t 0x01 ∧ SameMemories s t) ∧
      ∀ desc ok, Completes (.hostReadFail how (.bundle desc ok)) s fun t =>
        let x := Desc.of desc
        EndsWith s t (if x.ownerOk && x.groupOk then 0x02 else 0x01) ∧ t.hbm = s.hbm ∧ SameMemories s t) ∧
    (∀ sp : SpoolIx,
      (s.canTake sp.val = false → exec (.hostReadFail how (.entry sp)) s = .next s) ∧
      (s.canTake sp.val = true → Completes (.hostReadFail how (.entry sp)) s fun t =>
        ReadFailCounted s t how ∧ (∀ j ≠ sp.val, t.spool j = s.spool j) ∧ SameMemories s t ∧
        t.spool sp.val = (if (s.spool sp.val).fails < 2
          then { s.spool sp.val with fails := (s.spool sp.val).fails + 1 }
          else { s.spool sp.val with fails := 0, stopped := true }))) ∧
    (s.fw.reading = none → exec (.hostReadFail how .fwImage) s = .next s) ∧
    (s.fw.reading ≠ none → Completes (.hostReadFail how .fwImage) s fun t =>
      ReadFailCounted s t how ∧ t.fw.reading = none ∧ t.rd F.FW_RESULT_REASON 0 = 9 ∧
      (s.fw.reading = some false → t.rd F.FW_STATE_STATE 0 = 6) ∧ SameMemories s t))

/-- A DOE response is ready in an instance, the other instance and all else as before. -/
def DoeReady (s t : State) (inst : Nat) (bs : List Byte) : Prop :=
  Tab.get t.host.doe inst [] = bs ∧ (∀ k ≠ inst, Tab.get t.host.doe k [] = Tab.get s.host.doe k []) ∧
  t = { s with free := t.free, host := { s.host with doe := t.host.doe } }

/-- The HDM window as the host sees it, and DOE (R275-R282, R491). -/
def Obligations.HostReachesTheHdmWindow : Prop :=
  (∀ (n seq : Nat), ((cdatTable n seq).map BitVec.toNat).sum % 256 = 0) ∧
  (∀ (n : Nat) (s : State),
    (s.on I.dieUp 0 = false → exec (.hdmDecoderCommit n) s = .next s) ∧
    (s.on I.dieUp 0 = true → Completes (.hdmDecoderCommit n) s fun t =>
      let ok := n = s.rd F.HDM_CFG_CUR_GIB 0 * 2 ^ 30 ∧ n ≠ 0
      (ok → t.rd I.hdmCommitted 0 = 1 ∧ t.rd I.hdmError 0 = 0) ∧
      (¬ ok → t.rd I.hdmCommitted 0 = 0 ∧ t.rd I.hdmError 0 = 1) ∧
      OnlyRegs s t [(I.hdmCommitted, 0), (I.hdmError, 0)])) ∧
  (∀ (offset : Nat) (loc : HbmRow) (x : MemReq) (s : State),
    let up := s.on I.dieUp 0 = true ∧ s.rd F.HOST_LINK_MODE 0 = 0
    let poisoned (o : Nat) (ecc : Ecc) : Prop := Completes (.cxlMemRead o loc ecc) s fun t =>
      t.out = .noData .host "poison" :: s.out ∧ Rises s t F.FAULT_CLASSC_COUNT 0 1 ∧ SameMemories s t
    let dropped : Prop := Completes (.cxlMemWrite x) s fun t =>
      t.out = s.out ∧ Rises s t F.FAULT_CLASSC_COUNT 0 1 ∧ SameMemories s t
    let hostBias (o : Nat) (t : State) : Prop := o / 2 ^ 26 ∉ t.host.deviceBias ∧
      (∀ u, u ≠ o / 2 ^ 26 → (u ∈ t.host.deviceBias ↔ u ∈ s.host.deviceBias)) ∧
      (o / 2 ^ 26 ∈ s.host.deviceBias → Rises s t F.HOST_BIAS_DATA_FLIPS 0 1)
    (¬ up → (∀ ecc, exec (.cxlMemRead offset loc ecc) s = .next s) ∧ exec (.cxlMemWrite x) s = .next s) ∧
    (up → s.hdmBytes ≤ offset → ∀ ecc, poisoned offset ecc) ∧
    (up → s.hdmBytes ≤ x.offset → dropped) ∧
    (up → offset < s.hdmBytes → s.hdmLine offset = none → ∀ ecc, poisoned offset ecc) ∧
    (up → x.offset < s.hdmBytes → s.hdmLine x.offset = none → dropped) ∧
    (∀ g a key, up → offset < s.hdmBytes → s.hdmLine offset = some (g, a, key) →
      let marked := Tab.get s.hbm.poison (g * 2 ^ 30 + a / 64) false
      let bytes : Out := .block .host ((List.range 64).map fun k => s.hbmByte (hbmPlace key g a + k))
      (s.inReset g = true → ∀ ecc, poisoned offset ecc) ∧
      (s.inReset g = false → marked = false →
        (Completes (.cxlMemRead offset loc .clean) s fun t =>
          t.out = bytes :: s.out ∧ hostBias offset t ∧ SameMemories s t) ∧
        (Completes (.cxlMemRead offset loc .corrected) s fun t =>
          t.out = bytes :: s.out ∧ Rises s t F.HBM_GRP_ECC_CE g 1 ∧ hostBias offset t ∧ SameMemories s t)) ∧
      (s.inReset g = false → marked = true → Completes (.cxlMemRead offset loc .clean) s fun t =>
        t.out = .noData .host "poison" :: s.out ∧ hostBias offset t ∧ SameMemories s t) ∧
      (s.inReset g = false → Completes (.cxlMemRead offset loc .uncorrectable) s fun t =>
        t.out = .noData .host "poison" :: s.out ∧ Rises s t F.HBM_GRP_ECC_UE g 1 ∧ hostBias offset t ∧
        Tab.get t.hbm.poison (g * 2 ^ 30 + a / 64) false = true ∧ SameBytes s t)) ∧
    (∀ g a key, up → x.offset < s.hdmBytes → s.hdmLine x.offset = some (g, a, key) →
      (s.inReset g = true → dropped) ∧
      (s.inReset g = false → Completes (.cxlMemWrite x) s fun t =>
        (∀ k (h : k < (padTo 64 x.data).length), t.hbmByte (hbmPlace key g a + k) = (padTo 64 x.data)[k]) ∧
        (∀ p, (p < hbmPlace key g a ∨ hbmPlace key g a + 64 ≤ p) → t.hbmByte p = s.hbmByte p) ∧
        Tab.get t.hbm.poison (g * 2 ^ 30 + a / 64) false = x.poison ∧
        (∀ l, l ≠ g * 2 ^ 30 + a / 64 → Tab.get t.hbm.poison l false = Tab.get s.hbm.poison l false) ∧
        (if x.poison then Rises s t F.HOST_ERR_POISON_IN 0 1
         else t.rd F.HOST_ERR_POISON_IN 0 = s.rd F.HOST_ERR_POISON_IN 0) ∧
        hostBias x.offset t ∧ t.beam = s.beam ∧ t.arr = s.arr ∧ t.stw.flash = s.stw.flash ∧ t.out = s.out))) ∧
  (∀ (path : Path) (v : Word) (s : State),
    let u := s.rd F.HOST_BIAS_INDEX_UNIT (pathIx path)
    (u < 16 * s.rd F.HDM_CFG_CUR_GIB 0 → Completes (.biasSet path v) s fun t =>
      (u ∈ t.host.deviceBias ↔ v.getLsbD 0 = true) ∧
      (∀ k ≠ u, (k ∈ t.host.deviceBias ↔ k ∈ s.host.deviceBias)) ∧
      t = { s with host := { s.host with deviceBias := t.host.deviceBias } }) ∧
    (16 * s.rd F.HDM_CFG_CUR_GIB 0 ≤ u → exec (.biasSet path v) s = .next s)) ∧
  (∀ (inst : Fin 2) (index : Fin 256) (s : State),
    (s.hostReach = false → exec (.doeDiscovery inst index) s = .next s ∧ exec .cdatRead s = .next s) ∧
    (s.hostReach = true →
      (Completes (.doeDiscovery inst index) s fun t => ∃ vendor type next : Nat,
        DoeReady s t inst.val (doeObject 0x0001 0 (le 2 vendor ++ le 1 type ++ le 1 next)) ∧ t.free = s.free ∧
        (index.val = 0 → vendor = 0x0001 ∧ type = 0 ∧ next = 1) ∧
        (index.val = 1 → inst.val = 0 → vendor = 0x1E98 ∧ type = 2 ∧ next = 0) ∧
        (index.val = 1 → inst.val = 1 → vendor = 0x1F2A ∧ type = 1 ∧ next = 0)) ∧
      (Completes .cdatRead s fun t => t.free = s.free + 1 ∧ DoeReady s t 0 (doeObject 0x1E98 2
        ([0, 0] ++ le 2 0xFFFF ++ cdatTable (s.rd F.HDM_CFG_CUR_GIB 0) (Config.free s.free))))) ∧
    (Completes (.doeAbort 0) s fun t =>
      DoeReady (s.wr I.doeError 0 0) t 0 [] ∧ t.free = s.free) ∧
    (Completes (.doeAbort 1) s fun t =>
      Tab.get t.host.doe 1 [] = [] ∧ t.host.doeHeld = none ∧ t.host.doeClose = none ∧
      (∀ o before, s.host.doeUndo = some (s.us, o, before) → t.owner? o = before) ∧
      ((∀ o before, s.host.doeUndo ≠ some (s.us, o, before)) → t.bnd = s.bnd) ∧
      t.rd I.doeError 1 = 0 ∧ t.host.writeQueue = s.host.writeQueue ∧ SameMemories s t ∧
      SameBut s t [(I.doeError, 1)]))

/-- The command that carries a vendor message (R281). -/
def msgCommand (path : MsgPath) (id : BitVec 32) : VendorMsg → Instr
  | .getIdentity => .getIdentity path id
  | .getReport r => .getAttestationReport path id r
  | .getBootKey => .getPerBootKey path id
  | .openOwner r => .openOwner path id r
  | .closeOwner o => .closeOwner path id o

/-- A mailbox holds a response (R385). -/
def MailboxHolds (t : State) (m : Nat) (bs : List Byte) : Prop :=
  t.rd F.MBX_STATUS_STATE m = 2 ∧ t.rd F.MBX_STATUS_LEN m = bs.length % F.MBX_STATUS_LEN.size ∧
  ∀ k < 512, t.rd F.MBX_DATA_DATA (m * 512 + k) = ofLe ((bs.drop (4 * k)).take 4)

/-- A message is answered on its path with a status and a body (R281, R324). -/
def Answered (t : State) (path : MsgPath) (id : BitVec 32) (op status : Nat) (body : List Byte) : Prop :=
  match path with
  | .doe => Tab.get t.host.doe 1 [] = doeVendor (vendorReply op status id body)
  | .smbus => MailboxHolds t 2 (vendorReply op status id body)
  | .horizon => MailboxHolds t 3 (vendorReply op status id body)

/-- A message is answered at once: it came over a mailbox, or over DOE with the die up, no other message in
hand and firmware serving. -/
abbrev AnsweredNow (s : State) (path : MsgPath) : Prop :=
  path ≠ .doe ∨ s.on I.dieUp 0 = true ∧ s.host.doeHeld = none ∧ s.host.doeClose = none ∧
    s.on F.HOST_STATUS_FW_UP 0 = true

/-- Vendor messages, owners and the DRBG (R162, R163, R281, R319-R325, R341). -/
def Obligations.MessagesAreAnsweredAndOwnersOpen : Prop :=
  (∀ (path : MsgPath) (id : BitVec 32) (m : VendorMsg) (s : State),
    (path = .doe → s.on I.dieUp 0 = false → exec (msgCommand path id m) s = .next s) ∧
    (path = .doe → s.on I.dieUp 0 = true → (s.host.doeHeld ≠ none ∨ s.host.doeClose ≠ none) →
      Completes (msgCommand path id m) s fun t =>
        Rises s t F.HOST_ERR_UR 0 1 ∧ Rises s t F.FAULT_CLASSC_COUNT 0 1 ∧ t.host = s.host ∧ t.bnd = s.bnd) ∧
    (path = .doe → s.on I.dieUp 0 = true → s.host.doeHeld = none → s.host.doeClose = none →
      s.on F.HOST_STATUS_FW_UP 0 = false → Completes (msgCommand path id m) s fun t =>
        t = { s with host := { s.host with doeHeld := some (id, m) } })) ∧
  (∀ (path : MsgPath) (id : BitVec 32) (s : State), AnsweredNow s path →
    let pub := padTo 57 Config.identityPub
    let kept (t : State) : Prop := SameMemories s t ∧ t.bnd = s.bnd ∧
      SameButFields s t [F.MBX_DATA_DATA, F.MBX_STATUS_STATE, F.MBX_STATUS_LEN]
    (Completes (.getIdentity path id) s fun t => kept t ∧
      if s.idOk then Answered t path id 1 0 (pub ++ fingerprint pub ++ Config.certificate)
      else Answered t path id 1 5 []) ∧
    (Completes (.getPerBootKey path id) s fun t => kept t ∧
      if s.idOk = false then Answered t path id 3 5 []
      else if s.on F.SEC_STATUS_BOOT_KEY 0 then Answered t path id 3 0 s.bootStatement
      else Answered t path id 3 2 []) ∧
    (∀ r : ReportReq, r.scope ≠ 1 → Completes (.getAttestationReport path id r) s fun t => kept t ∧
      if s.idOk = false then Answered t path id 2 5 []
      else if r.scope = 0 then Answered t path id 2 0 (s.report r) else Answered t path id 2 1 []) ∧
    (path ≠ .doe → ∀ (m : VendorMsg), doeOnly m = true → Completes (msgCommand path id m) s fun t =>
      kept t ∧ Answered t path id (msgOp m) 3 [])) ∧
  (∀ (id : BitVec 32) (s : State), AnsweredNow s .doe →
    (∀ r : ReportReq, r.scope = 1 → s.idOk = true →
      (s.reportAuth r = false → Completes (.getAttestationReport .doe id r) s fun t =>
        Rises s t F.SEC_AUTH_CMD_FAILS 0 1 ∧ t.bnd = s.bnd ∧ Answered t .doe id 2 5 []) ∧
      (∀ o, s.reportAuth r = true → s.owner? r.owner = some o →
        Completes (.getAttestationReport .doe id r) s fun t =>
          t.owner? r.owner = some { o with lastSeq := r.seq.toNat } ∧
          (∀ k ≠ r.owner, t.owner? k = s.owner? k) ∧ Answered t .doe id 2 0 (s.report r) ∧ SameMemories s t)) ∧
    (∀ r : OwnerReq,
      let mayOpen := r.sigOk = true ∧ s.idOk = true ∧ s.on F.SEC_STATUS_BOOT_KEY 0 = true
      let refused (status : Nat) : Prop := Completes (.openOwner .doe id r) s fun t =>
        Rises s t F.SEC_AUTH_OPEN_FAILS 0 1 ∧ t.bnd = s.bnd ∧ Answered t .doe id 4 status []
      (¬ mayOpen → refused 5) ∧ (mayOpen → s.freeOwner? = none → refused 6) ∧
      (∀ o, mayOpen → s.freeOwner? = some o → Completes (.openOwner .doe id r) s fun t =>
        1 ≤ o ∧ s.owner? o = none ∧ (∀ k, 1 ≤ k → k < o → s.owner? k ≠ none) ∧
        t.owner? o = some { tenantFp := r.tenantFp, key := r.secret } ∧ (∀ k ≠ o, t.owner? k = s.owner? k) ∧
        Answered t .doe id 4 0 (le 2 o ++ confirmation r.secret) ∧ SameMemories s t ∧ SameBut s t [])) ∧
    (∀ o : Nat,
      (s.owner? o = none → Completes (.closeOwner .doe id o) s fun t =>
        Answered t .doe id 5 1 [] ∧ t.bnd = s.bnd) ∧
      (s.owner? o ≠ none → s.bnd.cmd ≠ none → Completes (.closeOwner .doe id o) s fun t =>
        (t.owner? o).map Owner.closing = some true ∧ o ∈ t.bnd.toClose ∧ t.bnd.bindings = s.bnd.bindings ∧
        t.bnd.bundles = s.bnd.bundles ∧ t.hbm = s.hbm ∧ t.beam = s.beam ∧
        t.host.doeClose = some (id, o)) ∧
      (s.owner? o ≠ none → s.bnd.cmd = none → Completes (.closeOwner .doe id o) s fun t =>
        (∀ e ∈ t.bnd.bindings, e.2.owner ≠ o) ∧ (∀ e ∈ t.bnd.ctxs, e.2.owner ≠ o) ∧
        (∀ e ∈ t.bnd.bundles, e.2.owner ≠ o) ∧
        (∀ sp < 1024, t.on F.SPOOL_SIZE_OPEN sp = true → t.rd F.SPOOL_OWNER_OWNER sp ≠ o) ∧
        ((s.bnd.owners.countP fun e => e.1 == o) = 1 → ∀ y, t.owner? o = some y → y.closing = true) ∧
        t.beam.bytes = s.beam.bytes ∧
        t.hbm.bytes = s.hbm.bytes ∧ t.stw.flash = s.stw.flash))) ∧
  (∀ s : State,
    (s.on I.dieUp 0 = true → Completes (.drbgHealthFail false) s fun t =>
      t.rd F.SEC_STATUS_DRBG_STOP 0 = 1 ∧ OnlyRegs s t [(F.SEC_STATUS_DRBG_STOP, 0)]) ∧
    (s.on I.dieUp 0 = false → exec (.drbgHealthFail false) s = .next s) ∧
    (Completes (.drbgHealthFail true) s fun t => t.statusBit 60 = true ∧ t.rd I.causeOn 60 = 1 ∧ SameMemories s t) ∧
    (Completes (.drbgReseed true) s fun t => t.rd I.causeOn 60 = 0 ∧ OnlyRegs s t [(I.causeOn, 60)]) ∧
    ((∀ ps bs ls d, s.bnd.cmd = some (.rebound ps bs ls d) → ∃ k ∈ bs, (s.bolt k).state = .draining) →
      Completes (.drbgReseed false) s fun t =>
        t.rd F.SEC_STATUS_DRBG_STOP 0 = 0 ∧ OnlyRegs s t [(F.SEC_STATUS_DRBG_STOP, 0)]) ∧
    (s.on F.SEC_STATUS_DRBG_STOP 0 = true → ¬ NoChipReset s → Completes .drbgStopTimeout s fun t =>
      ChipResetBegun s t 4 ∧ t.statusBit 85 = true) ∧
    ((s.on F.SEC_STATUS_DRBG_STOP 0 = false ∨ NoChipReset s) → exec .drbgStopTimeout s = .next s))

/-- Firmware serves from now on (R296-R298, R291): the events and the message held for it are dealt with. -/
def Serves (t : State) : Prop :=
  t.rd F.FW_STATE_STATE 0 = 3 ∧ t.rd F.HOST_STATUS_FW_UP 0 = 1 ∧ t.rd F.FW_IDENT_VER_VERSION 0 = 0 ∧
  t.host.heldEvents = [] ∧ t.host.doeHeld = none

/-- A class C fault alone. -/
def OnlyClassC (s t : State) : Prop :=
  Rises s t F.FAULT_CLASSC_COUNT 0 1 ∧ SameMemories s t ∧ t.bnd = s.bnd ∧ t.fw = s.fw ∧ t.host = s.host ∧
  t.out = s.out ∧ SameButFields s t classCFields

/-- An image is read: of `FW_LOAD_LEN` bytes at `FW_LOAD_ADDR`, for a load or a stage (R297, R308). -/
def ImageAsked (s t : State) (stage : Bool) : Prop :=
  t.fw.reading = some stage ∧
  HostGets s t (.hostRead (s.rd F.FW_LOAD_ADDR 0 / 64 * 64) (s.rd F.FW_LOAD_LEN_LEN 0))

/-- The checks of an image before it is accepted (R294, R295). -/
def ImageAccepted (s : State) (i : FwImage) (len : Nat) : Prop :=
  i.magicFormatOk = true ∧ i.bodyLen ≠ 0 ∧ 64 + i.bodyLen + 256 ≤ 2097152 ∧ 64 + i.bodyLen + 256 = len ∧
  i.stepping = 0x11 ∧ s.cfg cfgMinSecVersion ≤ i.secVersion ∧
  (s.cfg cfgPolicy ≤ 1 → i.vendorSigOk = true) ∧
  (1 ≤ s.cfg cfgPolicy → s.ownerKey? ≠ none ∧ i.ownerSigOk = true)

/-- The firmware runs or starts, so that a crash is registered (R303). -/
abbrev FwRuns (s : State) : Prop := 2 ≤ s.rd F.FW_STATE_STATE 0 ∧ s.rd F.FW_STATE_STATE 0 ≤ 5

/-- A crash of the firmware (R303-R305, R312). -/
def Crashed (s t : State) (cause : Nat) : Prop :=
  Rises s t F.FW_RESTARTS_COUNT 0 1 ∧ t.rd F.FW_STATE_STATE 0 = 4 ∧ t.rd F.HOST_STATUS_FW_UP 0 = 0 ∧
  t.rd F.FW_RESULT_ACT_PENDING 0 = 0 ∧
  t.rd F.FW_RESTARTS_LAST_CAUSE 0 = (if s.rd F.FW_STATE_STATE 0 = 5 ∧ s.fw.handed = true then 5 else cause) ∧
  (let recent := s.fw.crashes.countP fun u => s.within u 60000001
   (recent < 3 → t.rd I.chipStep 0 = s.rd I.chipStep 0) ∧
   (3 ≤ recent → ¬ NoChipReset s → ChipResetBegun s t 2 ∧ t.statusBit 82 = true)) ∧
  SameMemories s t

/-- Firmware (R291-R313) and the Selvage link's keep-alive (R479). -/
def Obligations.FirmwareLoadsUpdatesAndRestarts : Prop :=
  (∀ s : State,
    let st := s.rd F.FW_STATE_STATE 0
    let long := 2097152 < s.rd F.FW_LOAD_LEN_LEN 0
    (st ≠ 0 → st ≠ 6 → Completes .fwLoad s (OnlyClassC s)) ∧
    ((st = 0 ∨ st = 6) → long → Completes .fwLoad s fun t =>
      t.rd F.FW_STATE_STATE 0 = 6 ∧ t.rd F.FW_RESULT_REASON 0 = 2 ∧ t.fw.reading = none ∧ t.out = s.out) ∧
    ((st = 0 ∨ st = 6) → ¬ long → Completes .fwLoad s fun t =>
      t.rd F.FW_STATE_STATE 0 = 1 ∧ ImageAsked s t false ∧ SameMemories s t) ∧
    ((st ≠ 3 ∨ s.on F.FW_RESULT_ACT_PENDING 0 = true) → Completes .fwStage s (OnlyClassC s)) ∧
    (st = 3 → s.on F.FW_RESULT_ACT_PENDING 0 = false → long → Completes .fwStage s fun t =>
      t.rd F.FW_RESULT_REASON 0 = 2 ∧ OnlyRegs s t [(F.FW_RESULT_REASON, 0)]) ∧
    (st = 3 → s.on F.FW_RESULT_ACT_PENDING 0 = false → ¬ long → Completes .fwStage s fun t =>
      t.rd F.FW_RESULT_STAGED 0 = 0 ∧ t.otherImage = none ∧ t.resident = s.resident ∧ ImageAsked s t true ∧
      SameMemories s t ∧ SameBut s t [(F.FW_RESULT_STAGED, 0)]) ∧
    (st ≠ 3 → Completes .fwActivate s (OnlyClassC s) ∧ Completes .fwActivateCancel s (OnlyClassC s)) ∧
    (st = 3 →
      (Completes .fwActivate s fun t =>
        if s.on F.FW_RESULT_STAGED 0 then
          t.rd F.FW_RESULT_ACT_PENDING 0 = 1 ∧ OnlyRegs s t [(F.FW_RESULT_ACT_PENDING, 0)]
        else t.rd F.FW_RESULT_REASON 0 = 10 ∧ OnlyRegs s t [(F.FW_RESULT_REASON, 0)]) ∧
      (Completes .fwActivateCancel s fun t =>
        t.rd F.FW_RESULT_ACT_PENDING 0 = 0 ∧ OnlyRegs s t [(F.FW_RESULT_ACT_PENDING, 0)])) ∧
    (let starts := st = 3 ∧ s.on F.FW_RESULT_ACT_PENDING 0 = true ∧ s.on F.CMD_STATUS_BUSY 0 = false ∧
       s.updateBlocked = false
     (starts → Completes .handoffStart s fun t =>
       t.rd F.FW_STATE_STATE 0 = 5 ∧ t.rd F.HOST_STATUS_FW_UP 0 = 0 ∧ t.rd F.FW_RESULT_ACT_PENDING 0 = 0 ∧
       t.fw = { s.fw with handed := false } ∧ SameMemories s t ∧
       SameBut s t [(F.FW_STATE_STATE, 0), (F.HOST_STATUS_FW_UP, 0), (F.FW_RESULT_ACT_PENDING, 0)]) ∧
     (¬ starts → exec .handoffStart s = .next s)) ∧
    (st = 2 → Completes .fwServing s Serves) ∧ (st ≠ 2 → exec .fwServing s = .next s) ∧
    (st ≠ 5 → exec .handoffComplete s = .next s) ∧
    (st = 5 → Completes .handoffComplete s fun t =>
      Serves t ∧ t.rd F.FW_RESULT_RESIDENT 0 = 1 - s.rd F.FW_RESULT_RESIDENT 0 ∧
      t.rd F.FW_RESULT_STAGED 0 = 0 ∧ t.rd F.FW_RESULT_REASON 0 = 0 ∧ t.fw.handed = false ∧
      (s.fw.handed = true → t.rd F.FW_RESULT_TAKEOVER 0 =
        if s.ledgerReadable s.otherImage then s.rd F.FW_RESULT_TAKEOVER 0 else 1) ∧
      (s.fw.handed = true → s.ledgerReadable s.otherImage = false → s.host.doeHeld = none →
        ∀ c x, s.ctx? c = some x → ∃ y, t.ctx? c = some y ∧ 4 ∈ y.causes)) ∧
    ((st = 3 ∨ st = 5 ∧ s.fw.handed = false) → Completes .ledgerCheckpoint s fun t =>
      t.ledger = some ((s.resident.map FwImage.ledgerWrites).getD 0, ((s.ledger.map (·.2)).getD 0) + 1) ∧
      (s.ledger ≠ none → t.fw.half0 = s.ledger ∨ t.fw.half1 = s.ledger) ∧ SameMemories s t ∧
      (st = 3 → t = { s with fw := { s.fw with half0 := t.fw.half0, half1 := t.fw.half1 } }) ∧
      (st = 5 → t.fw.handed = true ∧ t.fw.running = s.otherImage.map FwImage.measurement)) ∧
    (st ≠ 3 → (st ≠ 5 ∨ s.fw.handed = true) → exec .ledgerCheckpoint s = .next s) ∧
    (∀ core : Fin 4, (FwRuns s → Completes (.watchdogExpire core) s fun t => Crashed s t 1) ∧
      (¬ FwRuns s → exec (.watchdogExpire core) s = .next s)) ∧
    (∀ k : CrashCause, (FwRuns s → Completes (.fwCrash k) s fun t => Crashed s t
        (match k with | .watchdog => 1 | .exception => 2 | .sramUe => 3 | .panic => 4)) ∧
      (¬ FwRuns s → exec (.fwCrash k) s = .next s)) ∧
    (s.on I.dieUp 0 = true → Completes .keepAlive s fun t =>
      t.rd I.linkAt 0 = s.us % 2 ^ 64 ∧ OnlyRegs s t [(I.linkAt, 0)]) ∧
    (s.on I.dieUp 0 = false → exec .keepAlive s = .next s)) ∧
  (∀ (i : FwImage) (s : State),
    let k := s.imageFault i (s.rd F.FW_LOAD_LEN_LEN 0)
    (k = 0 ↔ ImageAccepted s i (s.rd F.FW_LOAD_LEN_LEN 0)) ∧
    (s.fw.reading = none → exec (.fwImageReceived i) s = .next s) ∧
    (s.fw.reading = some false → Completes (.fwImageReceived i) s fun t =>
      t.fw.reading = none ∧ t.rd F.FW_RESULT_REASON 0 = k ∧ SameMemories s t ∧
      (if k = 0 then t.rd F.FW_STATE_STATE 0 = 2 ∧ t.resident = some i ∧ t.ledger = none ∧
          t.rd F.FW_IDENT_VER_VERSION 0 = i.version.toNat ∧ t.fw.running = some i.measurement
       else t.rd F.FW_STATE_STATE 0 = 6 ∧ t.fw.slotA = none)) ∧
    (s.fw.reading = some true → Completes (.fwImageReceived i) s fun t =>
      t.fw.reading = none ∧ t.rd F.FW_RESULT_REASON 0 = k ∧ t.resident = s.resident ∧ SameMemories s t ∧
      (if k = 0 then t.rd F.FW_RESULT_STAGED 0 = 1 ∧ t.otherImage = some i else t.otherImage = s.otherImage) ∧
      SameBut s t [(F.FW_RESULT_REASON, 0), (F.FW_RESULT_STAGED, 0)])) ∧
  (∀ s : State, s.rd F.FW_STATE_STATE 0 = 4 →
    (¬ NoChipReset s → Completes (.fwRestartComplete false) s fun t => ChipResetBegun s t 3) ∧
    (Completes (.fwRestartComplete true) s fun t => Serves t ∧
      (s.ledger = none → t.rd F.FW_RESULT_TAKEOVER 0 = 1) ∧
      (s.bnd.toClose = [] → s.host.doeHeld = none →
        let ends (reason : Nat) : Prop := t.bnd.cmd = none ∧ t.rd F.CMD_STATUS_BUSY 0 = 0 ∧
          t.rd F.CMD_STATUS_DONE 0 = 1 ∧ t.rd F.CMD_STATUS_REASON 0 = reason
        (s.bnd.cmd = some .waiting → s.on I.cmdDeferred 0 = false → ends 0x18) ∧
        (∀ b, s.bnd.cmd = some (.bind b) → ends 0x18 ∧ t.binding? b = none) ∧
        (∀ r < 256, s.bnd.cmd = some (.ended r) → ends r) ∧
        (∀ b, s.bnd.cmd = some (.unbind b) → t.bnd.cmd = some (.unbind b)) ∧
        (∀ c, s.bnd.cmd = some (.closeCtx c) → t.bnd.cmd = some (.closeCtx c))))) ∧
  (∀ (intact : Bool) (s : State), s.rd F.FW_STATE_STATE 0 ≠ 4 →
    exec (.fwRestartComplete intact) s = .next s) ∧
  (∀ (trace : Fin 4096) (level core : Fin 4) (args : List Word) (v : Word) (s : State),
    let logs := s.rd F.FW_STATE_STATE 0 = 3 ∧ s.on F.FW_LOG_SIZE_EN 0 = true ∧
      (level.val = 0 ∨ ((s.rd F.FW_TRACE_EN_GROUPS 0).testBit (trace.val / 256) = true ∧
        level.val ≤ s.rd F.FW_TRACE_EN_LEVEL 0))
    let tail := s.rd F.FW_LOG_TAIL_INDEX 0
    let head := s.rd F.FW_LOG_HEAD_INDEX 0
    let size := ringSize (s.rd F.FW_LOG_SIZE_LOG2 0)
    let new := v.toNat % 2 ^ 17
    (¬ logs → exec (.logEntry trace level core args) s = .next s) ∧
    (logs → Completes (.logEntry trace level core args) s fun t =>
      t.fw.logSeq = s.fw.logSeq + 1 ∧ SameMemories s t ∧
      (if ringDist tail head < size then
        t.rd F.FW_LOG_TAIL_INDEX 0 = (tail + 1) % 2 ^ 17 ∧ SameBut s t [(F.FW_LOG_TAIL_INDEX, 0)] ∧
        ∃ bs : List Byte, bs.length = 32 ∧ bs.take 2 = le 2 trace.val ∧
          HostGets s t (.hostWrite (s.rd F.FW_LOG_BASE 0 / 4096 * 4096 + tail % size * 32) bs)
       else Rises s t F.FW_LOG_SIZE_LOST 0 1 ∧ SameBut s t [(F.FW_LOG_SIZE_LOST, 0)])) ∧
    (Completes (.fwLogEnable v) s fun t =>
      t.rd F.FW_LOG_SIZE_EN 0 = bit (v.getLsbD 8) ∧
      (v.getLsbD 8 = true → t.rd F.FW_LOG_HEAD_INDEX 0 = 0 ∧ t.rd F.FW_LOG_TAIL_INDEX 0 = 0) ∧
      (s.on F.FW_LOG_SIZE_EN 0 = true → t.rd F.FW_LOG_SIZE_LOG2 0 = s.rd F.FW_LOG_SIZE_LOG2 0) ∧
      (s.on F.FW_LOG_SIZE_EN 0 = false → t.rd F.FW_LOG_SIZE_LOG2 0 = field v.toNat 4 0) ∧
      OnlyRegs s t [(F.FW_LOG_SIZE_EN, 0), (F.FW_LOG_SIZE_LOG2, 0), (F.FW_LOG_SIZE_LOST, 0),
        (F.FW_LOG_HEAD_INDEX, 0), (F.FW_LOG_TAIL_INDEX, 0)]) ∧
    (ringDist new head ≤ ringDist tail head → Completes (.fwLogHeadWrite v) s fun t =>
      t.rd F.FW_LOG_HEAD_INDEX 0 = new ∧ OnlyRegs s t [(F.FW_LOG_HEAD_INDEX, 0)]) ∧
    (ringDist tail head < ringDist new head → exec (.fwLogHeadWrite v) s = .next s))

/-- The arming commands of `PRES_CMD` with their opcodes (R334, R344). -/
def armCommands (path : Path) (keyOk : Bool) (bad : BitVec 8) : List (Instr × Nat) :=
  [(.presClearEventLog path, 1), (.presEnrolOwnerKey path keyOk, 2), (.presRemoveOwner path, 3),
   (.presRewriteProtected path, 4), (.presReadIdentity path, 5), (.presBadOpcode path bad, bad.toNat)]

/-- The command that a write of an opcode on a path arms now, with the path's data (R335). -/
def toArm (s : State) (path : Path) (op : Nat) : Armed :=
  { op := op, path := path, data := s.presData path, at' := s.us }

/-- A command is armed and waits for a press (R335, R336). -/
def ArmedNow (s t : State) (path : Path) (op : Nat) : Prop :=
  t.stw.armed = some (toArm s path op) ∧ t.rd F.PRES_STATUS_STATE 0 = 1 ∧ t.rd F.PRES_STATUS_RESULT 0 = 0 ∧
  t.rd F.PRES_STATUS_PATH 0 = pathCode path ∧ t.rd F.PRES_STATUS_OPCODE 0 = op ∧ SameMemories s t

/-- The armed command has ended with a result (R336-R338): DONE (3) for 0, else REFUSED (4), and an event. -/
def PresEnds (s t : State) (result : Nat) : Prop :=
  t.stw.armed = none ∧ t.rd F.PRES_STATUS_STATE 0 = (if result = 0 then 3 else 4) ∧
  t.rd F.PRES_STATUS_RESULT 0 = result ∧ Rises s t F.FAULT_CLASSC_COUNT 0 1

/-- The write of the command is registered (R337). -/
def PresWrites (s t : State) (op : Nat) : Prop :=
  t.rd F.PRES_STATUS_STATE 0 = 2 ∧ t.stw.armed.map Armed.op = some op ∧
  t.stw.flashOps = s.stw.flashOps ++ [.presence] ∧ SameMemories s t

/-- The fingerprint of R338 is shown. -/
def ShowsFp (t : State) (fp : List Byte) : Prop :=
  ∀ k < 8, t.rd F.PRES_RESULT_FP k = numAt fp (4 * k) 4

/-- A path can arm, and no command is in hand. -/
abbrev MayArm (s : State) (path : Path) : Prop := s.canArm path = true ∧ s.presBusy = false

/-- The jumper's or the seal's grant is active (R331). -/
abbrev Granted (s : State) (f : Fld) : Prop := s.on f 0 = true

/-- The button counts and the armed command waits for it (R331, R336). -/
abbrev PressCounts (s : State) (a : Armed) : Prop :=
  s.cfg cfgButtonEn = 1 ∧ s.hasFn 6 0 = true ∧ s.stw.armed = some a ∧ s.rd F.PRES_STATUS_STATE 0 = 1

/-- Physical presence (R331-R344). -/
def Obligations.PresenceArmsPressesAndWrites : Prop :=
  (∀ (path : Path) (keyOk : Bool) (bad : BitVec 8) (s : State),
    let jmp := F.PRES_GRANT_JMP_GRANT
    let sl := F.PRES_GRANT_SEAL_GRANT
    (bad.toNat = 0 ∨ 5 < bad.toNat) →
    (s.canArm path = false → ∀ c ∈ armCommands path keyOk bad, exec c.1 s = .next s) ∧
    (s.canArm path = true → s.presBusy = true → ∀ c ∈ armCommands path keyOk bad, Completes c.1 s fun t =>
      t.rd F.PRES_STATUS_RESULT 0 = 1 ∧ t.stw.armed = s.stw.armed ∧
      t.rd F.PRES_STATUS_STATE 0 = s.rd F.PRES_STATUS_STATE 0 ∧ Rises s t F.FAULT_CLASSC_COUNT 0 1 ∧
      SameMemories s t ∧ SameButFields s t (F.PRES_STATUS_RESULT :: classCFields)) ∧
    (MayArm s path →
      let a := toArm s path 2
      let keyGood := keyOk = true ∧ numAt a.data 57 7 = 0
      (¬ Granted s jmp → ¬ Granted s sl → Completes (.presReadIdentity path) s fun t => ArmedNow s t path 5) ∧
      ((Granted s jmp ∨ Granted s sl) → Completes (.presReadIdentity path) s fun t =>
        PresEnds s t 0 ∧ ShowsFp t (fingerprint (padTo 57 Config.identityPub)) ∧ SameMemories s t) ∧
      (¬ Granted s jmp → Completes (.presClearEventLog path) s fun t => ArmedNow s t path 1) ∧
      (Granted s jmp → s.bare = false → Completes (.presClearEventLog path) s fun t => PresWrites s t 1) ∧
      (Granted s jmp → s.bare = true → Completes (.presClearEventLog path) s fun t => PresEnds s t 5) ∧
      (¬ keyGood → Completes (.presEnrolOwnerKey path keyOk) s fun t => PresEnds s t 4 ∧ SameMemories s t) ∧
      (keyGood → Completes (.presEnrolOwnerKey path keyOk) s fun t =>
        ArmedNow s t path 2 ∧ ShowsFp t (fingerprint (a.data.take 57))) ∧
      (¬ Granted s sl → Completes (.presRemoveOwner path) s fun t => ArmedNow s t path 3) ∧
      (Granted s sl → s.bare = false → Completes (.presRemoveOwner path) s fun t => PresWrites s t 3) ∧
      (Granted s sl → s.bare = true → Completes (.presRemoveOwner path) s fun t => PresEnds s t 5) ∧
      (¬ Granted s jmp → Completes (.presRewriteProtected path) s fun t => PresEnds s t 3) ∧
      (Granted s jmp → (s.rd F.DRAFT_CTRL_STATE 0 ≠ 3 ∨
          ofLe (toArm s path 4).data ≠ (s.bank s.otherBank).digest) →
        Completes (.presRewriteProtected path) s fun t => PresEnds s t 4 ∧ SameMemories s t) ∧
      (Granted s jmp → s.rd F.DRAFT_CTRL_STATE 0 = 3 →
        ofLe (toArm s path 4).data = (s.bank s.otherBank).digest →
        Completes (.presRewriteProtected path) s fun t =>
          t.rd F.PRES_STATUS_STATE 0 = 2 ∧ t.rd F.DRAFT_CTRL_STATE 0 = 4 ∧
          t.stw.flashOps = s.stw.flashOps ++ [.commit] ∧ SameMemories s t) ∧
      (Completes (.presBadOpcode path bad) s fun t => PresEnds s t 8 ∧ SameMemories s t))) ∧
  (∀ (a : Armed) (s : State), PressCounts s a →
    (a.op = 5 → Completes .presencePress s fun t =>
      PresEnds s t 0 ∧ ShowsFp t (fingerprint (padTo 57 Config.identityPub)) ∧ SameMemories s t) ∧
    ((a.op = 2 ∨ a.op = 3) → ¬ Granted s F.PRES_GRANT_JMP_GRANT → Completes .presencePress s fun t =>
      PresEnds s t 3 ∧ SameMemories s t) ∧
    ((a.op = 1 ∨ (a.op = 2 ∨ a.op = 3) ∧ Granted s F.PRES_GRANT_JMP_GRANT) →
      (s.bare = false → Completes .presencePress s fun t => PresWrites s t a.op) ∧
      (s.bare = true → Completes .presencePress s fun t => PresEnds s t 5 ∧ SameMemories s t))) ∧
  (∀ s : State, (∀ a, ¬ PressCounts s a) → exec .presencePress s = .next s) ∧
  (∀ (path : Path) (st : FlashStatus) (s : State),
    (∀ a, s.stw.armed = some a → s.rd F.PRES_STATUS_STATE 0 = 1 →
      (a.path = path → Completes (.presCancel path) s fun t => PresEnds s t 6 ∧ SameMemories s t) ∧
      (a.path ≠ path → exec (.presCancel path) s = .next s) ∧
      (Completes .presArmExpire s fun t => PresEnds s t 2 ∧ SameMemories s t)) ∧
    ((s.stw.armed = none ∨ s.rd F.PRES_STATUS_STATE 0 ≠ 1) →
      exec (.presCancel path) s = .next s ∧ exec .presArmExpire s = .next s) ∧
    (s.stw.flashOps.head? ≠ some .presence → exec (.presWriteDone st) s = .next s) ∧
    (∀ a rest, s.stw.flashOps = .presence :: rest → s.stw.armed = some a → s.rd F.PRES_STATUS_STATE 0 = 2 →
      (Completes (.presWriteDone .failed) s fun t => PresEnds s t 5 ∧ SameMemories s t) ∧
      (a.op = 1 → Completes (.presWriteDone .ok) s fun t =>
        PresEnds s t 0 ∧ t.beam = s.beam ∧ t.hbm = s.hbm ∧ t.arr = s.arr) ∧
      ((a.op = 2 ∨ a.op = 3) → Completes (.presWriteDone .ok) s fun t =>
        PresEnds s t 0 ∧ t.stw.keyPending = true ∧ t.rd I.nextBank 0 = 1 ∧
        t.beam = s.beam ∧ t.hbm = s.hbm ∧ t.arr = s.arr))) ∧
  (∀ s : State,
    (s.on F.PRES_GRANT_SEAL_READY 0 = false → Completes .sealOpening s fun t =>
      t.rd F.PRES_GRANT_LOOP_OPEN 0 = 1 ∧ OnlyRegs s t [(F.PRES_GRANT_LOOP_OPEN, 0)]) ∧
    (s.on F.PRES_GRANT_SEAL_READY 0 = true → Completes .sealOpening s fun t =>
      t.rd F.PRES_GRANT_LOOP_OPEN 0 = 1 ∧ t.rd F.PRES_GRANT_SEAL_READY 0 = 0 ∧
      t.rd F.LOG_SEQ_NEXT 0 = (s.rd F.LOG_SEQ_NEXT 0 + 1) % 2 ^ 32 ∧ SameMemories s t) ∧
    (s.hasFn 8 0 = true → s.hasFn 9 0 = true → Completes .sealReady s fun t =>
      t.rd F.PRES_GRANT_LOOP_OPEN 0 = 0 ∧ t.rd F.PRES_GRANT_SEAL_READY 0 = 1 ∧
      OnlyRegs s t [(F.PRES_GRANT_LOOP_OPEN, 0), (F.PRES_GRANT_SEAL_READY, 0)]) ∧
    ((s.hasFn 8 0 = false ∨ s.hasFn 9 0 = false) → exec .sealReady s = .next s) ∧
    (Completes (.grantExpire true) s fun t =>
      t.rd F.PRES_GRANT_SEAL_GRANT 0 = 0 ∧ OnlyRegs s t [(F.PRES_GRANT_SEAL_GRANT, 0)]) ∧
    (Completes (.grantExpire false) s fun t =>
      t.rd F.PRES_GRANT_JMP_GRANT 0 = 0 ∧ OnlyRegs s t [(F.PRES_GRANT_JMP_GRANT, 0)]))

/-- Memory of the steward's flash read back: the 16 bytes at an address are erased. -/
abbrev IsErased (s : State) (a n : Nat) : Prop := ∀ k < n, s.flashByte (a + k) = 0xFF

/-- Flash bytes other than `n` from `a` on read as before. -/
def FlashOutside (s t : State) (a n : Nat) : Prop :=
  ∀ k, (k < a ∨ a + n ≤ k) → t.flashByte k = s.flashByte k

/-- Everything outside the steward's flash that holds bytes is as before. -/
def OnlyFlash (s t : State) : Prop := t.beam = s.beam ∧ t.hbm = s.hbm ∧ t.arr = s.arr

/-- Bare defaults are kept with a cause: role isolated, class A source 13, the safe state (R349, R350). -/
def StaysBare (s t : State) (cause : Nat) : Prop :=
  t.rd F.STW_STATUS_DRAFT 0 = 3 ∧ t.rd F.STW_STATUS_BARE_CAUSE 0 = cause ∧ t.rd F.STW_STATUS_ROLE 0 = 3 ∧
  t.statusBit 13 = true ∧ t.rd F.FAULT_ESC_SAFE 0 = 1 ∧ t.stw.flash = s.stw.flash

/-- The state that power-on reset leaves: reset values but the flash, and what the model itself counts. -/
def PowerOnReset (s t : State) (l : List (Fld × Nat)) : Prop :=
  t = { State.reset with regs := t.regs, pending := s.pending, us := s.us, free := s.free, out := s.out,
                         stw := { State.reset.stw with flash := t.stw.flash } } ∧
  SameBut State.reset t ((I.bootCount, 0) :: l)

/-- The steward's start-up, its flash writes and its log (R345-R360, R504-R523). -/
def Obligations.StewardStartsAndKeepsItsLog : Prop :=
  (∀ s : State,
    (Completes (.auxPowerUp true) s fun t => PowerOnReset s t [(I.auxUpAt, 0)] ∧ t.stw.flash = s.stw.flash) ∧
    (Completes (.auxPowerUp false) s fun t =>
      t.rd F.SEC_STATUS_ID_FAIL 0 = 1 ∧ t.statusBit 59 = true ∧ t.stw.flash = s.stw.flash ∧
      t.beam = State.reset.beam ∧ t.bnd = State.reset.bnd) ∧
    (Completes (.auxPowerLoss false) s fun t =>
      PowerOnReset s t [(I.holdFull, 0), (I.porHeld, 0)] ∧ t.rd I.porHeld 0 = 1 ∧ t.stw.flash = s.stw.flash) ∧
    (Completes (.auxPowerLoss true) s fun t =>
      PowerOnReset s t [(I.holdFull, 0), (I.porHeld, 0)] ∧ t.rd I.porHeld 0 = 1) ∧
    (Completes .crystalSwitch s fun t => t.rd I.crystal 0 = 1 ∧ t.rd F.STW_STATUS_CLK_RC 0 = 0 ∧
      OnlyRegs s t [(I.crystal, 0), (F.STW_STATUS_CLK_RC, 0)]) ∧
    (s.on I.crystal 0 = true → Completes .crystalFail s fun t => t.rd I.crystal 0 = 0 ∧
      t.rd F.STW_STATUS_CLK_RC 0 = 1 ∧ Rises s t F.FAULT_CLASSC_COUNT 0 1 ∧ SameMemories s t) ∧
    (s.on I.crystal 0 = false → exec .crystalFail s = .next s) ∧
    (s.bare = true → exec .checkpointTimer s = .next s) ∧
    (s.bare = false → Completes .checkpointTimer s fun t =>
      .checkpoint 1 ∈ t.stw.flashOps ∧ t.stw.flashOps.length = s.stw.flashOps.length + 1 ∧
      (∀ op, s.stw.flashOps.head? = some op → t.stw.flashOps.head? = some op) ∧
      t = { s with stw := { s.stw with flashOps := t.stw.flashOps } })) ∧
  (∀ (x : DraftIn) (s : State),
    let starts := s.rd F.STW_STATUS_DRAFT 0 = 0 ∧ s.on I.porHeld 0 = false
    (¬ starts → exec (.draftInForce x) s = .next s) ∧
    (starts → x.flashOk = false → Completes (.draftInForce x) s fun t => StaysBare s t 1) ∧
    (starts → x.flashOk = true →
      (s.chosenBank = none → Completes (.draftInForce x) s fun t => StaysBare s t 2) ∧
      ∀ b, s.chosenBank = some b →
        ((s.bank b).checked x.slot.val = false → Completes (.draftInForce x) s fun t => StaysBare s t 3) ∧
        ((s.bank b).checked x.slot.val = true → Completes (.draftInForce x) s fun t =>
          t.rd F.STW_STATUS_DRAFT 0 = 1 + b ∧ t.rd I.draftBank 0 = b ∧ t.stw.draft = (s.bank b).draft ∧
          t.rd F.STW_STATUS_GENERATION 0 = (s.bank b).generation % 2 ^ 16 ∧
          t.stw.draftMeas = Config.shake256 ((s.bank b).header ++ (s.bank b).area) ∧
          t.rd F.STW_STATUS_ROLE 0 = 3 ∧ t.rd I.driving 0 = 1 ∧
          (s.on F.FAULT_ESC_SAFE 0 = false → t.rd F.PWR_SEQ_STEP 0 = 1) ∧ t.stw.flash = s.stw.flash))) ∧
  (∀ (st : FlashStatus) (s : State),
    (s.stw.flashOps = [] → exec (.flashOpComplete st) s = .next s) ∧
    (s.stw.flashOps.head? ≠ some .retirement → exec .retirementAppend s = .next s) ∧
    (s.stw.flashOps.head? ≠ some .record → exec .eventRecordWrite s = .next s) ∧
    (∀ kind rest, s.stw.flashOps = .checkpoint kind :: rest →
      let pos := s.rd I.ckptPos 0
      (Completes (.flashOpComplete .failed) s fun t =>
        t.stw.flashOps = rest ∧ t.rd I.ckptPos 0 = (pos + 1) % 512 ∧ SameMemories s t) ∧
      (Completes (.flashOpComplete .ok) s fun t =>
        t.stw.flashOps = rest ∧ t.rd I.ckptPos 0 = (pos + 1) % 512 ∧
        (IsErased s (ckptAt pos) 16 → checkpointOf (t.flashBytes (ckptAt pos) 16) =
          some (s.opTime % 2 ^ 32, s.rd F.LOG_CYCLES_CYCLES 0 % 2 ^ 24)) ∧
        (pos ≠ 0 → pos ≠ 256 → FlashOutside s t (ckptAt pos) 16) ∧ OnlyFlash s t ∧
        SameBut s t [(I.ckptPos, 0)]) ∧
      (Completes .flashOpTimeout s fun t => t.rd I.ckptPos 0 = (pos + 1) % 512 ∧
        Rises s t F.FAULT_CLASSC_COUNT 0 1 ∧ SameMemories s t)) ∧
    (∀ rest r rs, s.stw.flashOps = .record :: rest → s.stw.records = r :: rs →
      0 < s.circSize → s.circSize ≤ 2 ^ 20 →
      let pos := s.rd I.circPos 0 % s.circSize
      ∀ c ∈ [Instr.flashOpComplete .ok, Instr.eventRecordWrite], Completes c s fun t =>
        t.rd I.circPos 0 = (pos + 1) % s.circSize ∧ OnlyFlash s t ∧
        ((pos % 64 = 0 ∨ IsErased s (circAt pos) 64) →
          t.slot (circAt pos) = r.bytes ∧ slotState (t.slot (circAt pos)) = .valid)) ∧
    (∀ rest r rs a, s.stw.flashOps = .retirement :: rest → s.stw.retireQueue = r :: rs →
      s.erasedEntry? s.bankInUse = some a → s.on I.nextBank 0 = false →
      ∀ c ∈ [Instr.flashOpComplete .ok, Instr.retirementAppend], Completes c s fun t =>
        t.stw.retireQueue = rs ∧ t.stw.repair = s.stw.repair ++ [r] ∧ t.flashBytes a 16 = retirementBytes r ∧
        FlashOutside s t a 16 ∧ OnlyFlash s t) ∧
    (∀ rest r rs, s.stw.flashOps = .retirement :: rest → s.stw.retireQueue = r :: rs →
      s.erasedEntry? s.bankInUse = none → s.stw.overflow.length < 256 →
      Completes .retirementAppend s fun t =>
        t.stw.retireQueue = rs ∧ t.stw.overflow = s.stw.overflow ++ [r] ∧ SameMemories s t) ∧
    (s.stw.flashOps = [] → s.rd F.DRAFT_CTRL_STATE 0 ≠ 1 → exec .flashOpTimeout s = .next s) ∧
    (s.stw.flashOps = [] → s.rd F.DRAFT_CTRL_STATE 0 = 1 → Completes .flashOpTimeout s fun t =>
      t.rd F.DRAFT_CTRL_STATE 0 = 0 ∧ t.rd F.DRAFT_CTRL_RESULT 0 = 5 ∧ Rises s t F.FAULT_CLASSC_COUNT 0 1 ∧
      SameMemories s t)) ∧
  (∀ (path : Path) (v : Word) (s : State),
    let i := pathIx path
    let e := s.logEntry (s.rd F.LOG_INDEX_AREA i) (s.rd F.LOG_INDEX_INDEX i)
    let places := [(F.LOG_INDEX_STATE, i), (F.LOG_INDEX_READY, i)]
    (path = .horizon → exec (.logFetch path v) s = .next s) ∧
    (path ≠ .horizon → Completes (.logFetch path v) s fun t =>
      t.rd F.LOG_INDEX_INDEX i = field v.toNat 15 0 ∧ t.rd F.LOG_INDEX_AREA i = field v.toNat 17 16 ∧
      t.rd F.LOG_INDEX_READY i = 0 ∧ Tab.get t.stw.logData i [] = [] ∧
      t = { s with regs := t.regs, stw := { s.stw with logData := t.stw.logData } } ∧
      SameBut s t ([(F.LOG_INDEX_INDEX, i), (F.LOG_INDEX_AREA, i)] ++ places)) ∧
    (Completes (.logFetchDone path) s fun t =>
      t.rd F.LOG_INDEX_READY i = 1 ∧ t.rd F.LOG_INDEX_STATE i = e.1 ∧ Tab.get t.stw.logData i [] = e.2 ∧
      e.2.length = 64 ∧ t = { s with regs := t.regs, stw := { s.stw with logData := t.stw.logData } } ∧
      SameBut s t places))

/-- The commands of a staging are taken from a path: it stages, and the staging in hand is its own (R361). -/
abbrev Stages (s : State) (path : Path) (state : Nat) : Prop :=
  s.isStager path = true ∧ s.rd F.DRAFT_CTRL_STATE 0 = state

/-- Staging a Draft (R361-R364) and the SMBus target (R381-R384). -/
def Obligations.DraftsAreStagedAndSmbusServed : Prop :=
  (∀ (path : Path) (v : Word) (s : State),
    let st := s.rd F.DRAFT_CTRL_STATE 0
    let other := bankBase s.otherBank
    let a := s.rd F.DRAFT_STG_ADDR_ADDR 0 / 4 * 4
    let n := if a = 124 then 3 else 4
    ((s.mayStage path = false ∨ st ≠ 0) → exec (.draftBegin path) s = .next s) ∧
    (s.mayStage path = true → st = 0 →
      (s.rd F.STW_STATUS_BARE_CAUSE 0 = 1 → Completes (.draftBegin path) s fun t =>
        t.rd F.DRAFT_CTRL_RESULT 0 = 5 ∧ t.rd F.DRAFT_CTRL_PATH 0 = pathCode path ∧
        OnlyRegs s t [(F.DRAFT_CTRL_PATH, 0), (F.DRAFT_CTRL_RESULT, 0)]) ∧
      (s.rd F.STW_STATUS_BARE_CAUSE 0 ≠ 1 → Completes (.draftBegin path) s fun t =>
        t.rd F.DRAFT_CTRL_STATE 0 = 1 ∧ t.rd F.DRAFT_CTRL_PATH 0 = pathCode path ∧ t.stw.repairSince = [] ∧
        SameMemories s t ∧ SameBut s t [(F.DRAFT_CTRL_PATH, 0), (F.DRAFT_CTRL_STATE, 0)])) ∧
    (∀ r, st ≠ 1 → exec (.draftEraseDone r) s = .next s) ∧
    (st = 1 →
      (Completes (.draftEraseDone .failed) s fun t =>
        t.rd F.DRAFT_CTRL_STATE 0 = 0 ∧ t.rd F.DRAFT_CTRL_RESULT 0 = 5 ∧
        OnlyRegs s t [(F.DRAFT_CTRL_STATE, 0), (F.DRAFT_CTRL_RESULT, 0)]) ∧
      (Completes (.draftEraseDone .ok) s fun t =>
        t.rd F.DRAFT_CTRL_STATE 0 = 2 ∧ IsErased t other 0x20000 ∧ FlashOutside s t other 0x20000 ∧
        t.stw.keyPending = false ∧ OnlyFlash s t ∧
        SameBut s t [(I.nextBank, 0), (F.DRAFT_CTRL_STATE, 0)])) ∧
    (Stages s path 2 → a < 0x20000 → Completes (.draftStgDataWrite path v) s fun t =>
      (∀ k < n, t.flashByte (other + a + k) =
        s.flashByte (other + a + k) &&& BitVec.ofNat 8 (v.toNat / 256 ^ k)) ∧
      FlashOutside s t (other + a) n ∧ t.rd F.DRAFT_STG_ADDR_ADDR 0 = a + 4 ∧
      t = { s with regs := t.regs, stw := { s.stw with flash := t.stw.flash } } ∧
      SameBut s t [(F.DRAFT_STG_ADDR_ADDR, 0)]) ∧
    ((¬ Stages s path 2 ∨ 0x20000 ≤ a) → exec (.draftStgDataWrite path v) s = .next s) ∧
    (¬ Stages s path 2 → exec (.draftCommit path) s = .next s) ∧
    (Stages s path 2 →
      let k := s.bank s.otherBank
      let used := (s.bank s.bankInUse).draft
      let owners := bodyOf k.draft 8 = bodyOf used 8 ∧ bodyOf k.draft 0x0E = bodyOf used 0x0E
      let refused (r : Nat) : Prop := Completes (.draftCommit path) s fun t =>
        t.rd F.DRAFT_CTRL_RESULT 0 = r ∧ OnlyRegs s t [(F.DRAFT_CTRL_RESULT, 0)]
      let waits : Prop := Completes (.draftCommit path) s fun t =>
        t.rd F.DRAFT_CTRL_STATE 0 = 3 ∧ OnlyRegs s t [(F.DRAFT_CTRL_STATE, 0)]
      (k.sound = false → refused 2) ∧
      (k.sound = true → k.checked (s.rd I.slot 0) = false → refused 3) ∧
      (k.sound = true → k.checked (s.rd I.slot 0) = true →
        (s.bare = true → waits) ∧ (s.bare = false → ¬ owners → refused 1) ∧
        (s.bare = false → owners → s.protectedDiffer k.draft used = true → waits) ∧
        (s.bare = false → owners → s.protectedDiffer k.draft used = false →
          Completes (.draftCommit path) s fun t =>
            t.rd F.DRAFT_CTRL_STATE 0 = 4 ∧ t.stw.flashOps = s.stw.flashOps ++ [.commit] ∧ SameMemories s t ∧
            SameBut s t [(F.DRAFT_CTRL_STATE, 0)]))) ∧
    ((Stages s path 1 ∨ Stages s path 2 ∨ Stages s path 3) → Completes (.draftAbort path) s fun t =>
      t.rd F.DRAFT_CTRL_STATE 0 = 0 ∧ t.rd F.DRAFT_CTRL_RESULT 0 = 7 ∧
      OnlyRegs s t [(F.DRAFT_CTRL_STATE, 0), (F.DRAFT_CTRL_RESULT, 0)]) ∧
    (¬ (Stages s path 1 ∨ Stages s path 2 ∨ Stages s path 3) → exec (.draftAbort path) s = .next s)) ∧
  (∀ (rest : List FlashOp) (s : State), s.stw.flashOps = .commit :: rest → s.rd F.DRAFT_CTRL_STATE 0 = 4 →
    (Completes (.flashOpComplete .ok) s fun t =>
      t.rd F.DRAFT_CTRL_STATE 0 = 0 ∧ t.rd F.DRAFT_CTRL_RESULT 0 = 0 ∧ t.rd I.nextBank 0 = 1 ∧ OnlyFlash s t ∧
      (s.bare = false → s.flashByte (bankBase s.otherBank + 127) = 0xFF →
        t.flashByte (bankBase s.otherBank + 127) = 0xA5)) ∧
    (Completes (.flashOpComplete .failed) s fun t =>
      t.rd F.DRAFT_CTRL_STATE 0 = 0 ∧ t.rd F.DRAFT_CTRL_RESULT 0 = 5 ∧ SameMemories s t)) ∧
  (∀ (ptr : BitVec 16) (pec : SmbPec) (whole : Bool) (count : Nat) (bytes : List Byte) (s : State),
    let a := s.rd I.smbPtr 0
    let ok := s.smbPacketOk pec whole = true
    let shape := 4 ≤ count ∧ count ≤ 32 ∧ count % 4 = 0 ∧ bytes.length = count
    let discarded (c : Instr) : Prop := Completes c s fun t =>
      Rises s t F.SMB_STATUS_DISCARDS 0 1 ∧ Rises s t F.FAULT_CLASSC_COUNT 0 1 ∧ t.out = s.out ∧
      SameMemories s t ∧ SameButFields s t (F.SMB_STATUS_DISCARDS :: classCFields)
    (s.smbServes = false → exec (.smbSetPointer ptr pec whole) s = .next s ∧
      exec (.smbBlockWrite count bytes pec whole) s = .next s ∧ exec .smbBlockRead s = .next s ∧
      exec .smbBlockRead8 s = .next s) ∧
    (s.smbServes = true →
      (¬ ok → discarded (.smbSetPointer ptr pec whole)) ∧
      (ok → Completes (.smbSetPointer ptr pec whole) s fun t =>
        t.rd I.smbPtr 0 = ptr.toNat / 4 * 4 ∧ OnlyRegs s t [(I.smbPtr, 0)]) ∧
      (¬ (ok ∧ shape) → discarded (.smbBlockWrite count bytes pec whole)) ∧
      (ok → shape → Completes (.smbBlockWrite count bytes pec whole) s fun t =>
        t.rd I.smbPtr 0 = (a + count) % 2 ^ 16) ∧
      (ok → shape → count = 4 → a < 2 ^ 16 →
        (locate a = none → Completes (.smbBlockWrite count bytes pec whole) s fun t => OnlyRegs s t [(I.smbPtr, 0)]) ∧
        (∀ r n, locate a = some (r, n) → ∃ w, exec (.registerWrite .smbus r n (BitVec.ofNat 32 (ofLe bytes))) s = .next w ∧
          Completes (.smbBlockWrite count bytes pec whole) s fun t => OnlyRegs w t [(I.smbPtr, 0)])) ∧
      (∀ x ∈ [(Instr.smbBlockRead, 4), (Instr.smbBlockRead8, 32)], Completes x.1 s fun t =>
        t.rd I.smbPtr 0 = (a + x.2) % 2 ^ 16 ∧
        (∃ bs : List Byte, bs.length = x.2 ∧ t.out = .block .smbus (le 1 x.2 ++ bs) :: s.out ∧
          (a < 2 ^ 16 → locate a = none → bs.take 4 = [0, 0, 0, 0]) ∧
          (∀ r n, a < 2 ^ 16 → locate a = some (r, n) → s.reaches .smbus r = true → (regDesc r).half = .plain →
            bs.take 4 = le 4 (s.regWord .smbus r n))) ∧
        t = { s with regs := t.regs, latches := t.latches, out := t.out } ∧ SameBut s t [(I.smbPtr, 0)])) ∧
    (Completes .smbClockTimeout s fun t =>
      Rises s t F.SMB_STATUS_TIMEOUTS 0 1 ∧ OnlyRegs s t [(F.SMB_STATUS_TIMEOUTS, 0)]))

/-- Every job's stretch follows the throttle notices in force (R242, R243). -/
def Stretched (s t : State) : Prop :=
  ∀ e ∈ s.weft.jobs, t.rd F.WEFT_JOB_STATE_STRETCH_PCT e.1 =
    min 90 (t.jobThrottle (s.rd F.WEFT_JOB_STATE_HANDLE e.1))

/-- Registers that a partition's throttle and the sympathetic commands write. -/
def throttleFields : List Fld :=
  [I.sympThr, F.PART_THROTTLE_PCT, F.PART_THROTTLE_CAUSE_CAP, F.PART_THROTTLE_CAUSE_THERMAL,
    F.PART_THROTTLE_CAUSE_SYMPATHY]

/-- The partitions of the jobs named by a lead's commands have the throttle that these ask, the others none
(R244). -/
def Sympathised (s t : State) (cmds : List (Nat × Nat)) : Prop :=
  ∀ p < 16, t.rd I.sympThr p = (match s.jobOfPart p with
    | some h => min 100 (cmds.foldl (fun m c => if c.1 = h then max m c.2 else m) 0)
    | none => 0)

/-- A frame has been counted against a node (R376): the eighth within 10 s quarantines it. -/
def FrameDiscarded (s t : State) (n : Nat) : Prop :=
  Rises s t F.HZN_STATUS_VIOL 0 1 ∧ Rises s t F.FAULT_CLASSC_COUNT 0 1 ∧ SameMemories s t ∧
  (let earlier := (s.hzn.viol.filter fun v => s.within v.2 10000001).countP fun v => v.1 == n
   if earlier < 7 then t.hzn.nodes = s.hzn.nodes ∧ t.rd I.quarantine n = s.rd I.quarantine n
   else t.rd I.quarantine n = 1 ∧ (t.rd F.HZN_STATUS_QUARANTINED 0).testBit n = true)

/-- Frames, roles, notices and commands on the Horizon bus (R242-R244, R371-R379). -/
def Obligations.HorizonFramesAreSentAndTaken : Prop :=
  (∀ (n : Nat) (s : State), frameOk (hznFrame n 0 s.heartbeat []) = true) ∧
  (∀ s : State, (s.isOpener = true → exec .hznRoundStart s = exec .hznTurn s) ∧
    (s.isOpener = false → exec .hznRoundStart s = .next s) ∧
    (s.transmits = false → exec .hznTurn s = .next s) ∧
    (s.transmits = true → Completes .hznTurn s fun t =>
      let n := s.rd F.STW_STATUS_NODE 0
      SameMemories s t ∧ Stretched s t ∧
      SameButFields s t (I.rqWaiting :: F.WEFT_JOB_STATE_STRETCH_PCT :: throttleFields) ∧
      if s.on I.rqWaiting 0 then
        t.out = .horizon (hznFrame n 1 s.heartbeat s.rqAttachment) :: s.out ∧ t.rd I.rqWaiting 0 = 0 ∧
        t.hzn = s.hzn
      else
        t.out = .horizon (match s.hzn.replies with
          | a :: _ => hznFrame n 2 s.heartbeat a
          | [] => hznFrame n 0 s.heartbeat []) :: s.out ∧
        t.rd I.rqWaiting 0 = s.rd I.rqWaiting 0 ∧
        t.hzn = { s.hzn with replies := s.hzn.replies.drop 1 })) ∧
  (∀ (turn : Node) (inTurn : Bool) (bytes : List Byte) (s : State),
    let src := numAt bytes 1 1 % 16
    let own := s.rd F.STW_STATUS_NODE 0
    let hb := (bytes.drop 4).take 40
    let hears := s.listens = true ∧ s.on I.quarantine turn.val = false
    let good := frameOk bytes = true ∧ inTurn = true ∧ src = turn.val
    (¬ hears → exec (.hznFrameRx turn inTurn bytes) s = .next s) ∧
    (hears → frameOk bytes = true → src = own → Completes (.hznFrameRx turn inTurn bytes) s fun t =>
      t.statusBit 61 = true ∧ t.rd I.ownHeard 0 = 1 ∧ SameMemories s t ∧
      (good → t.hzn = s.hzn ∧ t.rd F.HZN_STATUS_VIOL 0 = s.rd F.HZN_STATUS_VIOL 0)) ∧
    (hears → ¬ good → Completes (.hznFrameRx turn inTurn bytes) s fun t => FrameDiscarded s t turn.val) ∧
    (hears → good → src ≠ own → Completes (.hznFrameRx turn inTurn bytes) s fun t =>
      (t.hznNode src).hb = hb ∧ (t.hznNode src).at' = s.us ∧
      (hbEligible hb = false → (t.hznNode src).since = 0) ∧
      (∀ k ≠ src, t.hznNode k = s.hznNode k) ∧ t.hzn.viol = s.hzn.viol ∧ t.hzn.replies = s.hzn.replies ∧
      (∀ h ∈ noticeHandles hb, (src, h, numAt hb 6 1, s.us) ∈ t.weft.notices) ∧
      (∀ e, ¬ (e.1 = src ∧ e.2.1 ∈ noticeHandles hb) → (e ∈ t.weft.notices ↔ e ∈ s.weft.notices)) ∧
      Stretched s t ∧ SameMemories s t ∧
      (numAt hb 0 1 % 4 = 1 → src / 8 = own / 8 → Sympathised s t (hbSympathy hb)))) ∧
  (∀ (node : Node) (s : State), Completes (.quarantineEnd node) s fun t =>
    t.rd I.quarantine node.val = 0 ∧
    (∀ j < 16, (t.rd F.HZN_STATUS_QUARANTINED 0).testBit j =
      (decide (j ≠ node.val) && (s.rd F.HZN_STATUS_QUARANTINED 0).testBit j)) ∧
    OnlyRegs s t [(I.quarantine, node.val), (F.HZN_STATUS_QUARANTINED, 0)]) ∧
  (∀ s : State, (s.rd F.STW_STATUS_DRAFT 0 = 0 → exec .roleDecide s = .next s) ∧
    (s.rd F.STW_STATUS_DRAFT 0 ≠ 0 → Completes .roleDecide s fun t =>
      let cand := s.candidates
      let role := s.ownRole cand
      t.rd F.STW_STATUS_ROLE 0 = role ∧ t.rd F.TH_SUMMARY_LEAD 0 = cand.getD 0 0 ∧
      t.rd F.TH_SUMMARY_STANDBY 0 = cand.getD 1 0 ∧
      t.rd F.TH_SUMMARY_LEAD_VALID 0 = bit (0 < cand.length) ∧
      t.rd F.TH_SUMMARY_STANDBY_VALID 0 = bit (1 < cand.length) ∧
      (∀ x ∈ cand, x = s.rd F.STW_STATUS_NODE 0 ∨ x / 8 = s.rd F.STW_STATUS_NODE 0 / 8) ∧
      (role ≠ 0 → t.rd I.driving 0 = 1) ∧ (role = 0 → t.rd I.driving 0 = s.rd I.driving 0) ∧
      t.rd F.LOG_SEQ_NEXT 0 = (if s.rd F.STW_STATUS_ROLE 0 = role then s.rd F.LOG_SEQ_NEXT 0
        else (s.rd F.LOG_SEQ_NEXT 0 + 1) % 2 ^ 32) ∧
      t.stw.sympathy = (if s.rd F.STW_STATUS_ROLE 0 = 1 ∧ role ≠ 1 then [] else s.stw.sympathy) ∧
      t.hzn = s.hzn ∧ t.weft = s.weft ∧ SameMemories s t)) ∧
  (∀ s : State, (∀ p, s.rd F.PART_THROTTLE_PCT p ≤ 100) → Completes .throttleNotice s fun t =>
    let handles := s.weft.jobs.map fun e => s.rd F.WEFT_JOB_STATE_HANDLE e.1
    t.stw.notice.length = min 4 handles.eraseDups.length ∧ (∀ h ∈ t.stw.notice, h ∈ handles) ∧
    (handles.eraseDups.length ≤ 4 → ∀ h ∈ handles, h ∈ t.stw.notice) ∧
    (∀ e ∈ s.weft.jobs, ∀ x, s.binding? e.1 = some x → ∀ p ∈ x.parts,
      s.rd F.PART_THROTTLE_PCT p ≤ t.rd I.noticePct 0) ∧
    t = { s with regs := t.regs, stw := { s.stw with notice := t.stw.notice } } ∧
    SameBut s t [(I.noticePct, 0), (I.noticeNext, 0)]) ∧
  (∀ (node : Node) (job : BitVec 12) (s : State), Completes (.throttleNoticeLapse node job) s fun t =>
    (∀ e, e ∈ t.weft.notices ↔ e ∈ s.weft.notices ∧ ¬ (e.1 = node.val ∧ e.2.1 = job.toNat)) ∧ Stretched s t ∧
    t = { s with regs := t.regs, weft := { s.weft with notices := t.weft.notices } } ∧
    SameButFields s t [F.WEFT_JOB_STATE_STRETCH_PCT]) ∧
  (∀ (job : BitVec 12) (s : State), Completes (.sympathyLift job) s fun t =>
    let asked := s.sympathyFor job.toNat
    (∀ e, e ∈ t.stw.sympathy ↔ e ∈ s.stw.sympathy ∧ e.1 ≠ job.toNat ∨
      e = (job.toNat, asked) ∧ 0 < asked ∧ ∃ pct, (job.toNat, pct) ∈ s.stw.sympathy) ∧
    Sympathised s t t.stw.sympathy ∧
    t = { s with regs := t.regs, stw := { s.stw with sympathy := t.stw.sympathy } } ∧
    SameButFields s t throttleFields)

/-- Register requests over the Horizon bus (R375, R387). -/
def Obligations.HorizonRegisterRequestsAreServed : Prop :=
  (∀ s : State,
    let sent := s.rd F.HZN_RQ_STATUS_STATE 0 = 1 ∧ s.on I.rqWaiting 0 = false
    (s.hostReach = true → s.rd F.HZN_RQ_STATUS_STATE 0 ≠ 1 → Completes .hznRqSend s fun t =>
      t.rd F.HZN_RQ_STATUS_STATE 0 = 1 ∧ t.rd F.HZN_RQ_STATUS_STATUS 0 = 0 ∧ t.rd I.rqWaiting 0 = 1 ∧
      t.rd I.rqIdent 0 = (s.rd I.rqIdent 0 + 1) % 256 ∧
      OnlyRegs s t [(F.HZN_RQ_STATUS_STATE, 0), (F.HZN_RQ_STATUS_STATUS, 0), (I.rqWaiting, 0), (I.rqIdent, 0)]) ∧
    ((s.hostReach = false ∨ s.rd F.HZN_RQ_STATUS_STATE 0 = 1) → exec .hznRqSend s = .next s) ∧
    (sent → Completes .hznRqTimeout s fun t =>
      t.rd F.HZN_RQ_STATUS_STATE 0 = 3 ∧ OnlyRegs s t [(F.HZN_RQ_STATUS_STATE, 0)]) ∧
    (¬ sent → exec .hznRqTimeout s = .next s) ∧
    (∀ (source : Node) (a : List Byte),
      let answers := sent ∧ numAt a 0 1 = s.rd F.STW_STATUS_NODE 0 ∧
        source.val = s.rd F.HZN_RQ_CTRL_NODE 0 ∧ numAt a 1 1 = s.rd I.rqIdent 0
      (answers → Completes (.hznRegisterResponse source a) s fun t =>
        t.rd F.HZN_RQ_STATUS_STATE 0 = 2 ∧
        t.rd F.HZN_RQ_STATUS_STATUS 0 = numAt a 6 1 % F.HZN_RQ_STATUS_STATUS.size ∧
        (∀ k < 8, t.rd F.HZN_RQ_BUF_DATA k =
          if numAt a 3 1 = 1 ∧ numAt a 6 1 = 0 ∧ k < numAt a 2 1 then numAt a (8 + 4 * k) 4
          else s.rd F.HZN_RQ_BUF_DATA k) ∧
        OnlyRegs s t ([(F.HZN_RQ_STATUS_STATE, 0), (F.HZN_RQ_STATUS_STATUS, 0)] ++
          (List.range 8).map fun k => (F.HZN_RQ_BUF_DATA, k))) ∧
      (¬ answers → exec (.hznRegisterResponse source a) s = .next s))) ∧
  (∀ (source : Node) (a : List Byte) (s : State),
    let mine := s.listens = true ∧ s.on I.quarantine source.val = false ∧
      numAt a 0 1 = s.rd F.STW_STATUS_NODE 0
    let count := numAt a 2 1
    let op := numAt a 3 1
    let addr := numAt a 4 2
    let st := rqStatus op addr count
    let reply (words : List Byte) : List Byte :=
      le 1 source.val ++ le 1 (numAt a 1 1) ++ le 1 count ++ le 1 op ++ le 2 addr ++ le 1 st ++ [0] ++ words
    let ends (t : State) (words : List Byte) : Prop :=
      t.hzn.replies = s.hzn.replies ++ [reply words] ∧ t.hzn.nodes = s.hzn.nodes
    (¬ mine → exec (.hznRegisterRequest source a) s = .next s) ∧
    (mine → st ≠ 0 → Completes (.hznRegisterRequest source a) s fun t =>
      ends t [] ∧ t = { s with hzn := t.hzn }) ∧
    (mine → st = 0 → op = 1 → Completes (.hznRegisterRequest source a) s fun t =>
      ends t (s.readRun .horizon addr count).1 ∧ t = { s with hzn := t.hzn, latches := t.latches }) ∧
    (mine → st = 0 → op = 2 → Completes (.hznRegisterRequest source a) s fun t => ends t []))

/-- The gate is pulled down and every rail is off in one sample, and the compute die has lost its power
(R401, R417). -/
def PowerCut (s t : State) : Prop :=
  (∀ r < 7, t.rd F.PWR_RAIL_DATA_EN r = 0 ∧ t.rd F.PWR_RAIL_DATA_STATE r = 0) ∧ t.rd I.gate 0 = 0 ∧
  t.rd F.HSW_STATE_PG 0 = 0 ∧ t.rd I.dieUp 0 = 0 ∧ (∀ k < 9, t.rd I.bandTimer k = 0) ∧
  t.beam = {} ∧ t.hbm = {} ∧ t.bnd = {} ∧ t.stw.flash = s.stw.flash

/-- The main channel has tripped with a cause (R401-R403): a retry after a back-off, or the latch and the
safe state. -/
def Tripped (s t : State) (cause band : Nat) : Prop :=
  let used := s.rd F.HSW_STATE_RETRIES 0
  t.rd F.HSW_STATE_LAST_TRIP 0 = cause ∧ Rises s t F.HSW_TRIPS_TRIPS 0 1 ∧
  (cause = 1 → t.rd F.HSW_STATE_BAND 0 = band % 16) ∧ t.statusBit 51 = true ∧ PowerCut s t ∧
  if used < s.cfg cfgRetries then
    t.rd F.HSW_STATE_RETRIES 0 = (used + 1) % 16 ∧ t.rd F.HSW_STATE_STATE 0 = 4 ∧ t.rd F.PWR_SEQ_STEP 0 = 7 ∧
    t.rd I.waitEnd 0 = (s.us + 100000 * s.backoff (used + 1)) % 2 ^ 64
  else
    Rises s t F.HSW_TRIPS_LATCHES 0 1 ∧ t.statusBit 4 = true ∧ t.rd F.HSW_STATE_STATE 0 = 5 ∧
    t.rd F.PWR_SEQ_STEP 0 = 8 ∧ t.rd F.FAULT_ESC_SAFE 0 = 1

/-- `BREAKER_SAMPLE` (R389-R398, R400, R405, R406, R410, R418). -/
def Obligations.BreakerSampleGovernsTheInput : Prop :=
  ∀ (x : BreakerIn) (s : State),
    let r := s.readSample x
    let u := r.sampleFet.sampleWindow
    let now := r.windowNow (r.vch 0)
    let gate := u.rd I.gate 0
    let trips := gate ≠ 0 ∧ u.fetHot = true
    let cut := s.inWindow = true ∧ now = false ∧ s.rd I.gate 0 ≠ 0
    let output := u.inWindow && decide (u.vch 0 ≤ u.vch 1 + 1000)
    Completes (.breakerSample x) s fun t =>
      t.vch 0 = s.volts 0 x.vin % 2 ^ 16 ∧ t.vch 1 = s.volts 1 x.vout % 2 ^ 16 ∧
      t.rd F.HSW_MEAS_IOUT 0 = (s.calibrate 2 0 (toUnit 10 x.iout)).toNat % 2 ^ 16 ∧
      t.rd F.PWR_INPUT_PSU_WARN 0 = bit x.psuWarn ∧ t.inWindow = now ∧
      t.pwr.fetRise = s.pwr.fetRise +
        (r.fetWatts * (s.cfg cfgFetRth : Rat) / 100 - s.pwr.fetRise) / (100 * (s.cfg cfgFetTau : Rat)) ∧
      t.on F.PWR_INPUT_FRONT_OWN 0 = (s.on F.PWR_INPUT_FRONT_OWN 0 || u.frontBegins x.psuWarn) ∧
      t.rd I.frontQuiet 0 =
        bit (!u.frontBegins x.psuWarn && decide (10 * s.cfg cfgFrontHigh < u.vch 0)) ∧
      t.pwr.vin = (u.vch 0 :: s.pwr.vin).take 25 ∧ t.stw.flash = s.stw.flash ∧
      (cut → PowerCut s t ∧ t.rd F.HSW_STATE_STATE 0 = 0 ∧ t.rd F.PWR_SEQ_STEP 0 = 1 ∧
        t.rd F.HSW_STATE_RETRIES 0 = s.rd F.HSW_STATE_RETRIES 0 ∧
        t.rd F.HSW_TRIPS_TRIPS 0 = s.rd F.HSW_TRIPS_TRIPS 0 ∧
        (s.on F.PWR_INPUT_FRONT 0 = true →
          t.rd F.PWR_FRONT_HOLDUP 0 = min 0xFFFF ((s.us - s.rd I.frontAt 0) / 10))) ∧
      (trips → Tripped u t 5 0) ∧
      (¬ trips → ¬ cut → SameMemories s t) ∧
      (s.rd F.PWR_SEQ_STEP 0 = 1 → s.rd F.HSW_STATE_STATE 0 = 0 → s.rd I.gate 0 = 0 → now = true →
        t.rd F.PWR_SEQ_STEP 0 = 2) ∧
      (¬ trips → u.rd F.HSW_STATE_STATE 0 = 1 →
        if u.nearInput = true then
          t.rd I.gate 0 = 2 ∧ t.rd F.HSW_STATE_STATE 0 = (if 8000 ≤ u.vch 11 then 3 else 2)
        else t.rd I.gate 0 = gate ∧ t.rd F.HSW_STATE_STATE 0 = 1) ∧
      (¬ trips → gate ≠ 0 →
        (∀ (k : Nat) (b : Nat × Nat), u.bands[k]? = some b → t.rd I.bandTimer (k + 1) =
          (if b.1 < x.iout then u.rd I.bandTimer (k + 1) + 200 else u.rd I.bandTimer (k + 1) - 25) % 2 ^ 40) ∧
        t.on F.HSW_STATE_PG 0 = (if u.on F.HSW_STATE_PG 0 then output && decide (7000 ≤ u.vch 11)
          else output && decide (8000 ≤ u.vch 11) && !u.faultTimer x.iout) ∧
        (u.on F.HSW_STATE_PG 0 = false → t.on F.HSW_STATE_PG 0 = true → u.rd F.PWR_SEQ_STEP 0 = 4 →
          t.rd F.PWR_SEQ_STEP 0 = 5) ∧
        (u.on F.HSW_STATE_PG 0 = true → t.on F.HSW_STATE_PG 0 = true → u.rd F.HSW_STATE_STATE 0 = 3 →
          u.rd F.PWR_SEQ_STEP 0 = 5 → u.rd I.railNow 0 = 7 → u.railsOff = true →
          t.rd I.railNow 0 = 0 ∧ t.rd F.PWR_RAIL_DATA_EN 0 = 1 ∧ t.rd F.PWR_RAIL_DATA_STATE 0 = 1))

/-- The main channel, the auxiliary channels' test and `FRONT_N` (R394-R408, R418). -/
def Obligations.MainChannelStartsTripsAndLatches : Prop :=
  (∀ s : State,
    let st := s.rd F.HSW_STATE_STATE 0
    let step := s.rd F.PWR_SEQ_STEP 0
    let gate := s.rd I.gate 0
    let inrushPlaces := [(F.HSW_STATE_STATE, 0), (F.PWR_SEQ_STEP, 0), (I.gate, 0), (I.cycleWait, 0),
      (I.backoffOver, 0), (I.gateLimit, 0)]
    (step = 2 → s.inWindow = true → Completes .insertionDelayEnd s fun t =>
      (if s.nearInput = true then
        t.rd F.HSW_STATE_STATE 0 = 2 ∧ t.rd F.PWR_SEQ_STEP 0 = 4 ∧ t.rd I.gate 0 = 2
       else t.rd F.HSW_STATE_STATE 0 = 1 ∧ t.rd F.PWR_SEQ_STEP 0 = 3 ∧ t.rd I.gate 0 = 1) ∧
      OnlyRegs s t inrushPlaces) ∧
    (¬ (step = 2 ∧ s.inWindow = true) → exec .insertionDelayEnd s = .next s) ∧
    (st ≠ 1 → exec .inrushWindowEnd s = .next s) ∧
    (st = 1 → s.nearInput = true → Completes .inrushWindowEnd s fun t =>
      t.rd F.HSW_STATE_STATE 0 = 2 ∧ t.rd F.PWR_SEQ_STEP 0 = 4 ∧ t.rd I.gate 0 = 2 ∧
      OnlyRegs s t inrushPlaces) ∧
    (st = 1 → s.nearInput = false → Completes .inrushWindowEnd s fun t =>
      Tripped s t (if 10 * s.vch 1 < s.vch 0 then 3 else 4) 0) ∧
    (st = 2 → Completes .mainEnhanceTimeout s fun t =>
      Rises s t F.HSW_TRIPS_DAMAGED 0 1 ∧ Rises s t F.HSW_TRIPS_LATCHES 0 1 ∧ t.statusBit 5 = true ∧
      t.rd F.HSW_STATE_STATE 0 = 6 ∧ t.rd F.PWR_SEQ_STEP 0 = 8 ∧ t.rd F.FAULT_ESC_SAFE 0 = 1 ∧ PowerCut s t) ∧
    (st ≠ 2 → exec .mainEnhanceTimeout s = .next s) ∧
    (gate = 0 → exec .fastTrip s = .next s ∧ exec .bandTrip s = .next s) ∧
    (gate ≠ 0 → Completes .fastTrip s fun t => Tripped s t (if st = 1 then 3 else 2) 0) ∧
    (∀ b, gate ≠ 0 → s.bandDue = some b → Completes .bandTrip s fun t => Tripped s t 1 b) ∧
    (s.bandDue = none → exec .bandTrip s = .next s) ∧
    (st ≠ 4 → exec .backoffEnd s = .next s) ∧
    (st = 4 → Completes .backoffEnd s fun t =>
      OnlyRegs s t [(F.HSW_STATE_STATE, 0), (F.PWR_SEQ_STEP, 0), (I.gate, 0), (I.cycleWait, 0),
        (I.backoffOver, 0)] ∧
      (step ≠ 7 → t.rd I.backoffOver 0 = 1 ∧ t.rd F.HSW_STATE_STATE 0 = 4 ∧ t.rd F.PWR_SEQ_STEP 0 = step) ∧
      (step = 7 →
        if s.on I.backoffOut 0 = true ∨ s.inWindow = false then
          t.rd F.HSW_STATE_STATE 0 = 0 ∧ t.rd F.PWR_SEQ_STEP 0 = (if s.inWindow then 2 else 1)
        else if s.fetCool = true then
          t.rd F.HSW_STATE_STATE 0 = 1 ∧ t.rd F.PWR_SEQ_STEP 0 = 3 ∧ t.rd I.gate 0 = 1
        else t.rd I.backoffOver 0 = 1 ∧ t.rd F.HSW_STATE_STATE 0 = 4 ∧ t.rd F.PWR_SEQ_STEP 0 = 7)) ∧
    (∀ path : Path,
      let src := if st = 5 then 4 else 5
      let may := (path = .smbus ∨ path = .host ∧ s.on I.dieUp 0 = true) ∧ (st = 5 ∨ st = 6)
      (¬ may → exec (.latchClr path) s = .next s) ∧
      (may → Completes (.latchClr path) s fun t =>
        t.rd F.HSW_STATE_RETRIES 0 = 0 ∧ t.rd F.HSW_STATE_STATE 0 = 0 ∧ t.statusBit src = false ∧
        t.rd I.causeOn src = 0 ∧ SameMemories s t ∧ t.bnd = s.bnd ∧
        (s.on F.FAULT_ESC_SAFE 0 = true → clearBit (s.rd F.FAULT_STATUS0_CLASS_A 0) src = 0 →
          t.rd F.FAULT_ESC_SAFE 0 = 0 ∧ t.rd F.PWR_SEQ_STEP 0 = (if s.inWindow then 2 else 1)) ∧
        (∀ k < 14, k ≠ src → s.statusBit k = true →
          t.rd F.FAULT_ESC_SAFE 0 = s.rd F.FAULT_ESC_SAFE 0 ∧ t.rd F.PWR_SEQ_STEP 0 = 9))) ∧
    (s.on F.HSW_STATE_PG 0 = true → Completes .retryCountReset s fun t =>
      t.rd F.HSW_STATE_RETRIES 0 = 0 ∧ OnlyRegs s t [(F.HSW_STATE_RETRIES, 0)]) ∧
    (s.on F.HSW_STATE_PG 0 = false → exec .retryCountReset s = .next s)) ∧
  (∀ (k : Fin 8) (mv : Nat) (s : State),
    (Completes (.auxSwitchTest k mv) s fun t =>
      t.vch (2 + k.val) = s.volts (2 + k.val) mv % 2 ^ 16 ∧
      t.rd F.HSW_MEAS_VOUT (1 + k.val) = toUnit 10 (t.vch (2 + k.val)) ∧
      (if 2000 < mv then
        t.rd I.auxRunAt k.val = (if s.rd I.auxRunAt k.val = 0 then (s.us + 1) % 2 ^ 64 else s.rd I.auxRunAt k.val) ∧
        t.rd I.auxDamaged k.val = s.rd I.auxDamaged k.val ∧ t.rd I.causeOn (42 + k.val) = s.rd I.causeOn (42 + k.val)
       else t.rd I.auxRunAt k.val = 0 ∧ t.rd I.auxDamaged k.val = 0 ∧ t.rd I.causeOn (42 + k.val) = 0) ∧
      OnlyRegs s t [(F.PWR_VCH_DATA_MV, 2 + k.val), (F.HSW_MEAS_VOUT, 1 + k.val), (I.auxRunAt, k.val),
        (I.auxDamaged, k.val), (I.causeOn, 42 + k.val)]) ∧
    (s.rd I.auxRunAt k.val ≠ 0 → s.on I.auxDamaged k.val = false → Completes (.auxDamaged k) s fun t =>
      t.rd I.auxDamaged k.val = 1 ∧ Rises s t F.HSW_TRIPS_DAMAGED (1 + k.val) 1 ∧
      t.statusBit (42 + k.val) = true ∧ SameMemories s t ∧ t.bnd = s.bnd) ∧
    ((s.rd I.auxRunAt k.val = 0 ∨ s.on I.auxDamaged k.val = true) → exec (.auxDamaged k) s = .next s)) ∧
  (∀ s : State,
    let front := s.on F.PWR_INPUT_FRONT 0
    (front = true → exec .frontNAssert s = .next s) ∧
    (front = false → Completes .frontNAssert s fun t =>
      t.rd F.PWR_INPUT_FRONT 0 = 1 ∧ Rises s t F.PWR_FRONT_COUNT 0 1 ∧ t.rd I.frontAt 0 = s.us % 2 ^ 64 ∧
      (s.bare = false → .checkpoint 2 ∈ t.stw.flashOps) ∧ SameMemories s t ∧ t.bnd = s.bnd) ∧
    ((front = false ∨ s.on F.PWR_INPUT_FRONT_OWN 0 = true) → exec .frontNDeassert s = .next s) ∧
    (front = true → s.on F.PWR_INPUT_FRONT_OWN 0 = false → Completes .frontNDeassert s fun t =>
      t.rd F.PWR_INPUT_FRONT 0 = 0 ∧ SameMemories s t ∧ t.bnd = s.bnd ∧ t.stw = s.stw) ∧
    (s.on I.frontQuiet 0 = true → Completes .frontHoldEnd s fun t =>
      t.rd F.PWR_INPUT_FRONT_OWN 0 = 0 ∧ OnlyRegs s t [(F.PWR_INPUT_FRONT_OWN, 0)]) ∧
    (s.on I.frontQuiet 0 = false → exec .frontHoldEnd s = .next s))

/-- A rail failure (R411): counted, source 52; the rails off in reverse order and a wait of 10 s, or with a
second one before 60 s of good rails the safe state. -/
def RailFailed (s t : State) (r : Nat) : Prop :=
  let calm := s.railsGood && !s.within (s.rd I.railsGoodAt 0) 60000000
  let n := if calm then 1 else s.rd F.PWR_SEQ_RAIL_FAILS 0 + 1
  let on := ((List.range 7).filter (s.on F.PWR_RAIL_DATA_EN)).length
  Rises s t F.PWR_RAIL_DATA_FAULTS r 1 ∧ t.rd F.PWR_SEQ_RAIL_FAILS 0 = min 3 n ∧ t.statusBit 52 = true ∧
  t.beam = {} ∧ t.hbm = {} ∧ t.bnd = {} ∧ t.rd I.dieUp 0 = 0 ∧ t.stw.flash = s.stw.flash ∧
  if 2 ≤ n then t.statusBit 6 = true ∧ t.rd F.FAULT_ESC_SAFE 0 = 1 ∧ PowerCut s t
  else
    t.rd F.PWR_RAIL_DATA_STATE r = 3 ∧ t.rd F.PWR_SEQ_STEP 0 = 11 ∧ t.rd I.gate 0 = s.rd I.gate 0 ∧
    t.rd I.waitEnd 0 = (s.us + 10000000) % 2 ^ 64 ∧
    (on ≠ 0 → t.rd F.PWR_RAIL_DATA_EN (on - 1) = 0 ∧ t.rd I.railDown 0 = on - 1)

/-- The steward runs or starts its rails, so that a rail can fail. -/
abbrev RailsRun (s : State) : Prop := s.rd F.PWR_SEQ_STEP 0 = 5 ∨ s.rd F.PWR_SEQ_STEP 0 = 6

/-- The rails (R409-R414, R417, R431, R496). -/
def Obligations.RailsComeUpFailAndGoDown : Prop :=
  (∀ s : State,
    let r := s.rd I.railNow 0
    let st := s.rd F.PWR_RAIL_DATA_STATE r
    let step := s.rd F.PWR_SEQ_STEP 0
    (∀ (mv : Nat) (pg : Bool),
      let nominal := if r = 6 then s.rd I.vcoreCmd 0 else railNominal r
      let good := pg = true ∧ 95 * nominal ≤ 100 * mv ∧ 100 * mv ≤ 105 * nominal
      ((r = 7 ∨ st ≠ 1) → exec (.railPoll mv pg) s = .next s) ∧
      (r ≠ 7 → st = 1 → Completes (.railPoll mv pg) s fun t =>
        t.rd F.PWR_RAIL_DATA_VOUT_MV r = mv % 2 ^ 16 ∧ t.out = .pmbus r "READ_VOUT" 0 :: s.out ∧
        (good → t.rd F.PWR_RAIL_DATA_STATE r = 2 ∧ (r = 6 → t.rd I.railNow 0 = 7 ∧ t.rd I.railsGoodAt 0 = s.us % 2 ^ 64)) ∧
        (¬ good → t.rd F.PWR_RAIL_DATA_STATE r = 1) ∧ (¬ (good ∧ r = 6) → t.rd I.railNow 0 = r) ∧
        t = { s with regs := t.regs, out := t.out } ∧
        SameBut s t [(F.PWR_RAIL_DATA_VOUT_MV, r), (F.PWR_RAIL_DATA_STATE, r), (I.railNow, 0), (I.railsGoodAt, 0)])) ∧
    (r < 6 → st = 2 → Completes .railDwellEnd s fun t =>
      t.rd F.PWR_RAIL_DATA_EN (r + 1) = 1 ∧ t.rd F.PWR_RAIL_DATA_STATE (r + 1) = 1 ∧ t.rd I.railNow 0 = r + 1 ∧
      (r = 5 → t.rd I.vcoreCmd 0 = 750 ∧ t.out = .pmbus 6 "VOUT_COMMAND" 750 :: s.out) ∧
      (r ≠ 5 → t.rd I.vcoreCmd 0 = s.rd I.vcoreCmd 0 ∧ t.out = s.out) ∧
      t = { s with regs := t.regs, out := t.out } ∧
      SameBut s t [(F.PWR_RAIL_DATA_EN, r + 1), (F.PWR_RAIL_DATA_STATE, r + 1), (I.railNow, 0), (I.vcoreCmd, 0)]) ∧
    (¬ (r < 6 ∧ st = 2) → exec .railDwellEnd s = .next s) ∧
    (r < 7 → st = 1 → RailsRun s → Completes .railStartTimeout s fun t => RailFailed s t r) ∧
    (¬ (r < 7 ∧ st = 1 ∧ RailsRun s) → exec .railStartTimeout s = .next s) ∧
    (step = 11 → Completes .railRetryTimer s fun t =>
      t.rd F.PWR_SEQ_STEP 0 = 5 ∧ t.rd I.railDown 0 = 0 ∧ SameMemories s t ∧ t.bnd = s.bnd ∧
      (∀ k < 7, k ≠ 0 → t.rd F.PWR_RAIL_DATA_EN k = 0 ∧ t.rd F.PWR_RAIL_DATA_STATE k = 0) ∧
      t.rd F.PWR_RAIL_DATA_EN 0 = bit (s.on F.HSW_STATE_PG 0) ∧
      (s.on F.HSW_STATE_PG 0 = true → t.rd I.railNow 0 = 0)) ∧
    (step ≠ 11 → exec .railRetryTimer s = .next s) ∧
    (let n := s.rd I.railDown 0
     (n ≠ 0 → Completes .reverseOrderRailDisable s fun t =>
       t.rd F.PWR_RAIL_DATA_EN (n - 1) = 0 ∧ t.rd I.railDown 0 = (n - 1) % 2 ^ 4 ∧
       (s.rd F.PWR_RAIL_DATA_STATE (n - 1) ≠ 3 → t.rd F.PWR_RAIL_DATA_STATE (n - 1) = 0) ∧
       OnlyRegs s t [(F.PWR_RAIL_DATA_EN, n - 1), (F.PWR_RAIL_DATA_STATE, n - 1), (I.railDown, 0)]) ∧
     (n = 0 → step = 10 → s.rd I.gate 0 ≠ 0 → Completes .reverseOrderRailDisable s fun t =>
       PowerCut s t ∧ t.rd F.HSW_STATE_STATE 0 = 0 ∧ t.rd I.waitEnd 0 = (s.us + 2000000) % 2 ^ 64) ∧
     (n = 0 → (step ≠ 10 ∨ s.rd I.gate 0 = 0) → exec .reverseOrderRailDisable s = .next s)) ∧
    (step = 10 → s.rd I.gate 0 = 0 → Completes .powerCycleRestart s fun t =>
      (if s.inWindow then
        t.rd F.HSW_STATE_STATE 0 = 1 ∧ t.rd F.PWR_SEQ_STEP 0 = 3 ∧ t.rd I.gate 0 = 1 ∧ t.rd I.cycleWait 0 = 0
       else t.rd I.cycleWait 0 = 1 ∧ t.rd F.PWR_SEQ_STEP 0 = 10 ∧ t.rd I.gate 0 = 0) ∧
      OnlyRegs s t [(F.HSW_STATE_STATE, 0), (F.PWR_SEQ_STEP, 0), (I.gate, 0), (I.cycleWait, 0), (I.backoffOver, 0)]) ∧
    ((step ≠ 10 ∨ s.rd I.gate 0 ≠ 0) → exec .powerCycleRestart s = .next s) ∧
    (s.railsGood = true → RailsRun s → Completes .pmbusCoreSilent s fun t => RailFailed s t 6) ∧
    (¬ (s.railsGood = true ∧ RailsRun s) → exec .pmbusCoreSilent s = .next s)) ∧
  (∀ (answers : List RailAnswer) (s : State),
    let fails (a : RailAnswer) : Prop := a.status = .fault ∧ s.on F.PWR_RAIL_DATA_EN a.rail.val = true
    ((∀ a ∈ answers, ¬ fails a) → Completes (.pmbAlert answers) s fun t =>
      t.out = ((List.range 7).map fun r => .pmbus r "CLEAR_FAULTS" 0).reverse ++
        (answers.map fun a => .pmbus a.rail.val "STATUS_WORD" 0).reverse ++ s.out ∧
      (let n := (answers.map fun a => a.fails.val + bit (a.status == .warning)).sum
       n ≠ 0 → Rises s t F.FAULT_CLASSC_COUNT 0 n) ∧
      SameMemories s t ∧ t.bnd = s.bnd ∧ SameButFields s t classCFields) ∧
    (∀ pre a post, answers = pre ++ a :: post → (∀ y ∈ pre, ¬ fails y) → fails a → RailsRun s →
      Completes (.pmbAlert answers) s fun t => RailFailed s t a.rail.val)) ∧
  (∀ (x : RailReading) (s : State),
    let r := x.rail.val
    (s.railsGood = false → exec (.pmbusTelemetryPoll x) s = .next s) ∧
    (s.railsGood = true → Completes (.pmbusTelemetryPoll x) s fun t =>
      t.out = .pmbus r "READ_IOUT" 0 :: .pmbus r "READ_VOUT" 0 :: s.out ∧
      (x.fails.val ≠ 0 → Rises s t F.FAULT_CLASSC_COUNT 0 x.fails.val) ∧ SameMemories s t ∧ t.bnd = s.bnd ∧
      (x.reading = none → SameButFields s t classCFields) ∧
      (∀ mv da, x.reading = some (mv, da) →
        let sum := s.rd I.energyFrac 0 + mv * da * (if r = 6 then 1 else 10)
        t.rd F.PWR_RAIL_DATA_VOUT_MV r = mv % 2 ^ 16 ∧ t.rd F.PWR_RAIL_IOUT_IOUT r = da % 2 ^ 16 ∧
        Rises s t F.PWR_ENERGY 0 (sum / 10000) ∧ t.rd I.energyFrac 0 = sum % 10000 ∧
        SameButFields s t ([F.PWR_RAIL_DATA_VOUT_MV, F.PWR_RAIL_IOUT_IOUT, F.PWR_ENERGY, I.energyFrac] ++
          classCFields)))) ∧
  (∀ (mv : Nat) (s : State),
    let v := max 550 (min 800 mv)
    let writing := s.rd I.vcoreNow 0
    (s.on I.dieUp 0 = false → exec (.vcoreRequest mv) s = .next s) ∧
    (s.on I.dieUp 0 = true → writing = 0 → Completes (.vcoreRequest mv) s fun t =>
      t.rd I.vcoreNow 0 = v ∧ t.out = .pmbus 6 "VOUT_COMMAND" v :: s.out ∧
      t = { s with regs := t.regs, out := t.out } ∧ SameBut s t [(I.vcoreNow, 0)]) ∧
    (s.on I.dieUp 0 = true → writing ≠ 0 → Completes (.vcoreRequest mv) s fun t =>
      t = { s with pwr := { s.pwr with voutWaiting := some v } }) ∧
    (writing = 0 → exec .voutCommandWriteDone s = .next s) ∧
    (writing ≠ 0 → Completes .voutCommandWriteDone s fun t =>
      t.rd I.vcoreCmd 0 = writing % 2 ^ 16 ∧ t.pwr = { s.pwr with voutWaiting := none } ∧
      SameBut s t [(I.vcoreCmd, 0), (I.vcoreNow, 0)] ∧
      (s.pwr.voutWaiting = none → t.rd I.vcoreNow 0 = 0 ∧ t.out = s.out) ∧
      (∀ w, s.pwr.voutWaiting = some w →
        t.rd I.vcoreNow 0 = w % 2 ^ 16 ∧ t.out = .pmbus 6 "VOUT_COMMAND" w :: s.out)))

/-- The compute die's reset (R415, R494). -/
def Obligations.ComputeDieEntersAndLeavesReset : Prop :=
  (∀ s : State,
    let afterReset := s.rd I.chipStep 0 = 2
    let ready := s.rd F.PWR_SEQ_STEP 0 = 5 ∧ s.railsGood = true
    let handed := s.stw.repair ++ s.stw.overflow
    (¬ afterReset → ¬ ready → exec .computeDieResetRelease s = .next s) ∧
    ((afterReset ∨ ready) → Completes .computeDieResetRelease s fun t =>
      t.rd I.dieUp 0 = 1 ∧ t.rd I.linkAt 0 = s.us % 2 ^ 64 ∧
      t.rd I.bootCount 0 = (s.rd I.bootCount 0 + 1) % 2 ^ 32 ∧ t.rd F.SEC_STATUS_BOOT_KEY 0 = 1 ∧
      t.arr.user = handed ∧ t.stw.exchange = [] ∧ SameBytes s t ∧
      (∀ p < 16, t.rd F.PART_CAP_FRACTION_FRACTION p =
        s.cfg (cfgFraction p) % F.PART_CAP_FRACTION_FRACTION.size) ∧
      (∀ q g b, .bank q g b ∈ handed → t.rd I.bankFailing (bankIx (q.val * 32 + g.val) b.val) = 1) ∧
      (∀ e, .extent e ∈ handed → e.val ∈ t.hbm.retired) ∧
      (if afterReset then t.rd I.chipStep 0 = 3 ∧ t.rd F.PWR_SEQ_STEP 0 = s.rd F.PWR_SEQ_STEP 0
       else t.rd F.PWR_SEQ_STEP 0 = 6 ∧ t.rd I.chipStep 0 = s.rd I.chipStep 0 ∧
        t.rd F.WEFT_CFG_NODE 0 = s.rd F.STW_STATUS_NODE 0 % F.WEFT_CFG_NODE.size ∧
        t.rd F.WEFT_CFG_CONFIG 0 = s.cfg cfgConfig % F.WEFT_CFG_CONFIG.size)) ∧
    (s.rd I.chipStep 0 ≠ 1 → exec .computeDieResetAssert s = .next s) ∧
    (s.rd I.chipStep 0 = 1 → Completes .computeDieResetAssert s fun t =>
      t.rd I.chipStep 0 = 2 ∧ t.rd I.dieUp 0 = 0 ∧ t.beam = {} ∧ t.hbm = {} ∧ t.bnd = {} ∧ t.arr = {} ∧
      t.stw = { s.stw with exchange := s.badFixed } ∧
      (∀ (f : Fld) (i : Nat), weftFld f.id = true → t.rd f i = s.rd f i))) ∧
  (∀ (lost : List (Fin 10240)) (s : State),
    let may := s.on I.dieUp 0 = true ∧ s.on F.HBM_GRP_STATE_TRAINED 0 = false
    (¬ may → exec (.hbmTrained lost) s = .next s) ∧
    (may → Completes (.hbmTrained lost) s fun t =>
      (∀ g < 16, t.rd F.HBM_GRP_STATE_TRAINED g = 1 ∧ t.rd F.HBM_GRP_REPAIR_PENDING g = 0 ∧
        (let n := (s.hbm.rows.filter fun r => r.1 == g).length
         let bad := (lost.filter fun e => e.val / 640 == g).length
         t.rd F.HBM_GRP_REPAIR_DONE g = min 255 (n - bad) ∧ Rises s t F.HBM_GRP_REPAIR_FAILED g bad)) ∧
      (∀ r, r ∈ t.hbm.rows ↔ r ∈ s.hbm.rows ∧ 16 ≤ r.1) ∧ (∀ e ∈ lost, e.val ∈ t.hbm.retired) ∧
      SameBytes s t ∧ t.bnd = s.bnd ∧
      SameButFields s t [F.HBM_GRP_STATE_TRAINED, F.HBM_GRP_REPAIR_PENDING, F.HBM_GRP_REPAIR_DONE,
        F.HBM_GRP_REPAIR_FAILED]))

/-- The whole state is as before, but for the listed fields of the register file. -/
def OnlyFields (s t : State) (l : List Fld) : Prop := t = { s with regs := t.regs } ∧ SameButFields s t l

/-- Fields that the budgets write. -/
def budgetFields : List Fld := [F.PWR_CAP_STATUS_UNCORE_OVER, I.budget, F.PART_POWER_BUDGET_W]

/-- The partitions' budgets follow from the effective cap, the uncore power and their shares (R423). -/
def BudgetsFollow (t : State) : Prop :=
  let u := t.rd F.PWR_PKG_UNCORE_W 0
  let reserve := t.cfg cfgReserveW
  t.rd F.PWR_CAP_STATUS_UNCORE_OVER 0 = bit (decide (reserve < u)) ∧
  ∀ p < 16,
    let b := (t.effectiveCap - max reserve u) * t.rd F.PART_CAP_FRACTION_FRACTION p
    t.rd I.budget p = b % 2 ^ 24 ∧ t.rd F.PART_POWER_BUDGET_W p = min 2047 (toUnit 256 b)

/-- The effective cap (R422): no more than the Draft's, no less than the reserve and 200 W unless the Draft's
is, and no more than a cap set by host or BMC beyond that. -/
def CapBounded (t : State) : Prop :=
  t.effectiveCap ≤ t.cfg cfgCapW ∧ min (t.cfg cfgCapW) (t.cfg cfgReserveW + 200) ≤ t.effectiveCap ∧
  (∀ f ∈ [F.PWR_CAP_HOST_W, F.PWR_CAP_BMC_W], t.rd f 0 ≠ 0 →
    t.effectiveCap ≤ max (t.rd f 0) (t.cfg cfgReserveW + 200))

/-- Power capping, droop, energy and gusts (R422-R432). -/
def Obligations.CapsBudgetsAndGustsAreKept : Prop :=
  (∀ s : State, CapBounded s) ∧
  (∀ (v : Word) (s : State),
    (s.on I.dieUp 0 = false → exec (.capWrite .host v) s = .next s) ∧
    (s.on I.dieUp 0 = true → Completes (.capWrite .host v) s fun t =>
      t.rd F.PWR_CAP_HOST_W 0 = field v.toNat 11 0 ∧ BudgetsFollow t ∧
      OnlyFields s t (F.PWR_CAP_HOST_W :: budgetFields)) ∧
    (Completes (.capWrite .smbus v) s fun t =>
      t.rd F.PWR_CAP_BMC_W 0 = field v.toNat 27 16 ∧ BudgetsFollow t ∧
      OnlyFields s t (F.PWR_CAP_BMC_W :: budgetFields)) ∧
    (∀ path, path ≠ .host → path ≠ .smbus → exec (.capWrite path v) s = .next s)) ∧
  (∀ (w u : Nat) (s : State), Completes (.budgetUpdate w u) s fun t =>
    t.rd F.PWR_PKG_PACKAGE_W 0 = min 0xFFFF w ∧ t.rd F.PWR_PKG_UNCORE_W 0 = min 0xFFFF u ∧ BudgetsFollow t ∧
    OnlyFields s t (F.PWR_PKG_PACKAGE_W :: F.PWR_PKG_UNCORE_W :: budgetFields)) ∧
  (∀ (part : Part) (activity : List Nat) (s : State),
    let p := part.val
    let e := s.estimate p activity
    let cap := s.rd I.capThr p
    let issue := s.rd I.capIssue p
    let aboveCap := 1000 * s.rd I.budget p < 256 * e
    let under := 256 * e < 1000 * s.rd I.budget p
    (s.on F.PART_STATE_ARR_ON p = false →
      exec (.capControl part activity) s = .next s ∧ exec (.droop part) s = .next s) ∧
    (s.on F.PART_STATE_ARR_ON p = true →
      (Completes (.capControl part activity) s fun t =>
        Rises s t F.PART_ENERGY p ((s.rd I.partFrac p + e) / 1000000) ∧
        t.rd I.partFrac p = (s.rd I.partFrac p + e) % 1000000 ∧
        t.rd I.msEnergy p = (s.rd I.msEnergy p + e) % 2 ^ 40 ∧
        (aboveCap → cap < 90 → t.rd I.capThr p = cap + 1 ∧ t.rd I.capIssue p = issue) ∧
        (aboveCap → 90 ≤ cap → t.rd I.capThr p = cap ∧ t.rd I.capIssue p = max 16 (issue - 1)) ∧
        (under → issue < 256 → t.rd I.capThr p = cap ∧ t.rd I.capIssue p = issue + 1) ∧
        (under → 256 ≤ issue → t.rd I.capThr p = cap - 1 ∧ t.rd I.capIssue p = issue) ∧
        (¬ aboveCap → ¬ under → t.rd I.capThr p = cap ∧ t.rd I.capIssue p = issue) ∧
        t.rd F.PART_THROTTLE_PCT p =
          max (t.rd I.capThr p) (max (s.rd F.PART_POWER_THERMAL_PCT p) (s.rd I.sympThr p)) ∧
        t.rd F.PART_THROTTLE_CAUSE_CAP p = bit (t.rd I.capThr p != 0 || t.rd I.capIssue p != 256) ∧
        OnlyRegs s t ([F.PART_ENERGY, I.partFrac, I.msEnergy, I.capThr, I.capIssue, F.PART_THROTTLE_PCT,
          F.PART_THROTTLE_CAUSE_CAP, F.PART_THROTTLE_CAUSE_THERMAL, F.PART_THROTTLE_CAUSE_SYMPATHY].map
            fun f => (f, p))) ∧
      (Completes (.droop part) s fun t =>
        t.rd I.droopSlow p = 1 ∧ t.rd I.droopAt p = (s.us + 1) % 2 ^ 64 ∧ Rises s t F.PART_GUST_DROOPS p 1 ∧
        OnlyRegs s t [(I.droopSlow, p), (I.droopAt, p), (F.PART_GUST_DROOPS, p)])) ∧
    (Completes (.droopRecover part) s fun t => t.rd I.droopSlow p = 0 ∧ OnlyRegs s t [(I.droopSlow, p)])) ∧
  (∀ (read sum : Nat) (s : State),
    let ratio := (2 * 128 * read + sum) / (2 * sum)
    let c := s.rd F.PWR_CORR_CORR 0
    exec (.corrUpdate none) s = .next s ∧ exec (.corrUpdate (some (read, 0))) s = .next s ∧
    (sum ≠ 0 → Completes (.corrUpdate (some (read, sum))) s fun t =>
      let d := t.rd F.PWR_CORR_CORR 0
      96 ≤ d ∧ d ≤ 160 ∧ (96 ≤ c → c ≤ 160 →
        (c < ratio → d = min 160 (c + 1)) ∧ (ratio < c → d = max 96 (c - 1)) ∧ (c = ratio → d = c)) ∧
      OnlyRegs s t [(F.PWR_CORR_CORR, 0)])) ∧
  (∀ (part : Part) (cycles : List (CtxIx × Nat)) (s : State),
    let e := s.rd I.msEnergy part.val
    let total := (cycles.map fun x => x.2).sum
    let share (sp : Nat) : Nat := (cycles.map fun x => match s.ctx? x.1.val with
      | some c => if c.spool % 2 ^ 20 = sp % 2 ^ 20 then e * x.2 / total else 0
      | none => 0).sum
    let held (u : State) (sp : Nat) : Nat := u.rd F.SPOOL_ENERGY sp * 1000000 + u.rd I.spoolFrac sp
    Completes (.energyApportion part cycles) s fun t =>
      t.rd I.msEnergy part.val = 0 ∧ t.rd F.PART_POWER_EST_W part.val = min 2047 (toUnit 1000000 e) ∧
      (∀ sp, held s sp + share sp < (2 ^ 64 - 1) * 1000000 → held t sp = held s sp + share sp) ∧
      (∀ q < 16, q ≠ part.val → t.rd I.msEnergy q = s.rd I.msEnergy q ∧
        t.rd F.PART_POWER_EST_W q = s.rd F.PART_POWER_EST_W q) ∧
      OnlyFields s t [I.msEnergy, F.PART_POWER_EST_W, F.SPOOL_ENERGY, I.spoolFrac]) ∧
  (∀ (xs : List GustIn) (s : State),
    let ps := s.arraysOn.filter fun p => decide (p < xs.length)
    let unit (p : Nat) : Nat := max 1 (xs.getD p ⟨0, 1⟩).unit
    let inp (p : Nat) : GustIn := { xs.getD p ⟨0, 1⟩ with unit := unit p }
    let u := ps.foldl (fun s p => s.stepHint p (inp p)) s
    let f := F.PART_GUST_ISSUE
    Completes (.gustStep xs) s fun t =>
      (∀ p ∈ ps,
        let want := u.wantIssue p (inp p)
        s.rd f p ≤ t.rd f p + s.stepUnits (unit p) ∧ t.rd f p ≤ s.rd f p + s.stepUnits (unit p) ∧
        (want ≤ s.rd f p → want ≤ t.rd f p ∧ t.rd f p ≤ s.rd f p) ∧
        (s.rd f p ≤ want → s.rd f p ≤ t.rd f p ∧ t.rd f p ≤ want) ∧
        t.rd F.PART_GUST_FILL p = bit (decide (max 16 (inp p).demand.val < t.rd f p)) ∧
        t.rd F.PART_THROTTLE_CAUSE_GUST p = bit (decide (t.rd f p < (inp p).demand.val))) ∧
      (ps.map fun p => (t.rd f p - s.rd f p) * unit p).sum ≤ 100000 * s.cfg cfgGustPkg ∧
      (∀ p ∉ ps, p < 16 → t.rd f p = s.rd f p) ∧ SameMemories s t ∧ t.bnd = s.bnd ∧
      SameButFields s t [f, F.PART_GUST_FILL, F.PART_GUST_PRERAMP, F.PART_THROTTLE_CAUSE_GUST, I.hintAt,
        I.vcoreNow])

/-- A sensor has failed with a cause (R443): no longer valid, counted, source 50. -/
def SensorFailed (s t : State) (k cause : Nat) : Prop :=
  t.rd F.THM_SENSOR_DATA_CAUSE k = cause ∧ t.rd F.THM_SENSOR_DATA_VALID k = 0 ∧
  Rises s t F.THM_SENSOR_DATA_FAILS k 1 ∧ t.statusBit 50 = true ∧ t.stw.flash = s.stw.flash

/-- A thermal trip (R441): the safe state with its source, and the wait for the restart. -/
def ThermalTrip (s t : State) (src : Nat) : Prop :=
  t.rd F.THM_STATUS_TRIPPED 0 = 1 ∧ t.rd F.THM_STATUS_RESTART_WAIT 0 = 1 ∧ Rises s t F.THM_STATUS_TRIPS 0 1 ∧
  t.rd F.THM_STATUS_ROR_SHUT 0 = bit (src == 3) ∧ t.statusBit src = true ∧ t.rd F.FAULT_ESC_SAFE 0 = 1 ∧
  t.rd I.thermtripN 0 = 1 ∧ t.thm.trippedAt = s.us ∧ PowerCut s t

/-- Sensors, thermal throttle and trips (R435-R443, R455). -/
def Obligations.SensorsThrottleAndTrip : Prop :=
  (∀ (xs : List Reading) (s : State), Completes (.sensorSample xs) s fun t =>
    let c := s.calibrated xs
    (∀ k < 90, s.sensorBad k = false →
      (∀ v, c.getD k none = some v → inSensorRange v = true → s.cfg cfgSensorMode ≠ 1 →
        t.rd F.THM_SENSOR_DATA_TEMP k = tempBits v ∧ t.rd F.THM_SENSOR_DATA_VALID k = 1 ∧
        t.rd F.THM_SENSOR_DATA_CAUSE k = 0) ∧
      (∀ v, c.getD k none = some v → inSensorRange v = false → SensorFailed s t k 1) ∧
      (c.getD k none = none → t.rd F.THM_SENSOR_DATA_TEMP k = s.rd F.THM_SENSOR_DATA_TEMP k ∧
        t.rd F.THM_SENSOR_DATA_VALID k = s.rd F.THM_SENSOR_DATA_VALID k ∧
        t.rd F.THM_SENSOR_DATA_CAUSE k = 0)) ∧
    (let now := t.thm.zones.headD (0, [])
     now.1 = s.us ∧ ∀ z < 6,
       t.rd F.THM_ZONE_TEMP_TEMP z = tempBits ((now.2.getD z none).getD 0) ∧
       (∀ vs, t.lastValues (t.thm.zones.map fun x => x.2.getD z none) = some vs → vs ≠ [] →
         let w : Int := 64 * (s.warnLevel z : Int)
         ((∀ v ∈ vs, w ≤ v) → t.rd F.THM_ZONE_TEMP_WARN z = 1) ∧
         ((∀ v ∈ vs, v < w - 64 * (s.warnHys z : Int)) → t.rd F.THM_ZONE_TEMP_WARN z = 0))) ∧
    (t.throttling = true → t.rd F.COOL_STATUS_FAN_DEMAND 0 = 100 ∧ t.rd F.COOL_STATUS_PUMP_DEMAND 0 = 100) ∧
    (t.holdsFanFault = true → t.rd F.COOL_STATUS_FAN_DEMAND 0 = 100) ∧
    (t.holdsPumpFault = true → t.rd F.COOL_STATUS_PUMP_DEMAND 0 = 100) ∧ t.stw.flash = s.stw.flash) ∧
  (∀ (k : Fin 90) (s : State),
    let may := s.readable k.val = true ∧ s.sensorBad k.val = false
    (may → Completes (.sensorNoConversion k) s fun t => SensorFailed s t k.val 2) ∧
    (¬ may → exec (.sensorNoConversion k) s = .next s)) ∧
  (∀ s : State,
    let u := s.expireFloors
    (s.on I.dieUp 0 = false → Completes .throttleEval s fun t =>
      (∀ z < 26, t.rd I.thrLevel z = 0) ∧ t.rd I.rorLevel 0 = 0 ∧ t.thm = { s.thm with floors := [] } ∧
      t.rd F.THM_ZONE_TEMP_THROTTLING 0 = 0 ∧ t.rd F.THM_ZONE_TEMP_THROTTLING 1 = 0 ∧ SameMemories s t ∧
      SameButFields s t [I.thrLevel, I.rorLevel, F.THM_ZONE_TEMP_THROTTLING]) ∧
    (s.on I.dieUp 0 = true → Completes .throttleEval s fun t =>
      (∀ p < 16, t.rd F.PART_POWER_THERMAL_PCT p = t.thermalPct p ∧
        t.rd F.PART_THROTTLE_PCT p =
          max (s.rd I.capThr p) (max (t.rd F.PART_POWER_THERMAL_PCT p) (s.rd I.sympThr p)) ∧
        t.rd F.PART_THROTTLE_CAUSE_THERMAL p = bit (t.rd F.PART_POWER_THERMAL_PCT p != 0)) ∧
      (s.rorMode = true → t.rd I.rorLevel 0 = u.nextRor % 2 ^ 7 ∧
        ∀ z < 26, t.rd I.thrLevel z = s.rd I.thrLevel z) ∧
      (s.rorMode = false → t.rd I.rorLevel 0 = s.rd I.rorLevel 0 ∧ ∀ z < 26,
        let level := s.rd I.thrLevel z
        let zone := zoneOfSub z
        let thr : Int := 64 * (s.thrLevel zone : Int)
        let hys : Int := 64 * (s.cfg (cfgLevel zone 3) : Int)
        let last := s.lastValues (s.thm.subs.map fun x => x.getD z none)
        (last = none → t.rd I.thrLevel z = level) ∧
        (∀ vs, last = some vs → vs ≠ [] →
          ((∀ v ∈ vs, thr ≤ v) → t.rd I.thrLevel z = min (level + s.cfg cfgThrStep) (s.cfg cfgThrMax) % 2 ^ 7) ∧
          ((∀ v ∈ vs, v < thr - hys) →
            t.rd I.thrLevel z = max (level - s.cfg cfgThrStep) (u.floorOf z) % 2 ^ 7) ∧
          ((∃ v ∈ vs, v < thr) → (∃ v ∈ vs, thr - hys ≤ v) → t.rd I.thrLevel z = level))) ∧
      SameMemories s t ∧ t.bnd = s.bnd)) ∧
  (∀ (x : Comparator) (s : State),
    (s.armed x = false → exec (.thermtrip x) s = .next s) ∧
    (s.armed x = true → Completes (.thermtrip x) s fun t => ThermalTrip s t (match x with
      | .die _ => 1
      | .stack _ => 2))) ∧
  (∀ s : State,
    let zs := (s.thm.zones.headD (0, [])).2
    let cool := zs.getD 0 none = none ∧ zs.getD 1 none = none ∨ s.thm.coolSince ≠ 0
    let may := s.on F.THM_STATUS_TRIPPED 0 = true ∧
      (∀ k < 14, k ≠ 1 → k ≠ 2 → k ≠ 3 → s.statusBit k = false) ∧ cool
    (¬ may → exec .thermalRestart s = .next s) ∧
    (may → Completes .thermalRestart s fun t =>
      t.rd F.THM_STATUS_TRIPPED 0 = 0 ∧ t.rd F.THM_STATUS_RESTART_WAIT 0 = 0 ∧
      (∀ k < 14, t.statusBit k = false) ∧ t.rd F.FAULT_ESC_SAFE 0 = 0 ∧
      (s.on F.FAULT_ESC_SAFE 0 = true → t.rd I.thermtripN 0 = 0 ∧ t.rd I.holdFull 0 = 0) ∧ SameMemories s t))

/-- The duty that a steward applies (R451, R456): full when held so, none when it does not drive, else what is
asked for, a rise at once and a fall no further than that. -/
def DutyApplied (s t : State) (pump : Bool) : Prop :=
  let f := if pump then F.COOL_STATUS_PUMP_DUTY else F.COOL_STATUS_FAN_DUTY
  let x := t.dutyParts pump
  let target := min 100 (max x.1 x.2)
  if s.on I.holdFull 0 then t.rd f 0 = 100
  else if s.on I.driving 0 = false then t.rd f 0 = 0
  else if s.rd f 0 ≤ target then t.rd f 0 = target
  else target ≤ t.rd f 0 ∧ t.rd f 0 ≤ s.rd f 0

/-- Fields that the applied pump duty writes. -/
def pumpFields : List Fld := [F.COOL_STATUS_PUMP_DUTY, I.fanFallAt, F.COOL_STATUS_OVERRIDE]

/-- A spin-up of a channel has begun (R458). -/
def SpinUpBegun (s t : State) (c : Channel) : Prop :=
  t.rd (chState c) (chNo c) = 2 ∧ t.rd I.spinPass (chIx c) = 0 ∧ t.edges (chIx c) = [] ∧
  (∀ j < 10, j ≠ chIx c → t.edges j = s.edges j) ∧
  (∀ k : Fin 2, c = .pump k → t.rd F.PUMP_FLOW_TESTED k.val = 0 ∧ t.rd F.PUMP_FLOW_LOWS k.val = 0)

/-- What one measurement of a running or failed channel leads to (R453, R460, R461, R464). -/
def Measured (s t : State) (c : Channel) (valid : Bool) (rpm : Nat) : Prop :=
  let i := chNo c
  let k := chIx c
  let n := s.rd I.misses k + 1
  t.edges k = [] ∧
  t.rd (chRpm c) i = (if valid || isPump c then min 0xFFFF rpm else s.rd (chRpm c) i) ∧
  if s.chIs c 4 then
    if valid = false then t.rd I.goods k = 0 ∧ t.rd (chState c) i = 4
    else if s.rd I.goods k < 2 then t.rd I.goods k = s.rd I.goods k + 1 ∧ t.rd (chState c) i = 4
    else t.rd (chState c) i = 1 ∧ t.rd I.causeOn (chSource c) = 0 ∧ t.rd (chMisses c) i = 0
  else
    t.rd (chState c) i = 1 ∧
    (valid = true → t.rd I.misses k = 0 ∧ t.rd (chMisses c) i = 0) ∧
    (valid = false → s.on I.driving 0 = true → t.rd I.misses k = min 15 n ∧ t.rd (chMisses c) i = min 3 n ∧
      (s.cfg cfgMissConsec ≤ n → t.rd I.spinDue k = 1))

/-- A channel is measured: it runs with no spin-up due, or is in fault. -/
abbrev IsMeasured (s : State) (c : Channel) : Prop :=
  s.chIs c 1 = true ∧ s.on I.spinDue (chIx c) = false ∨ s.chIs c 4 = true

/-- Drive and measurement of fans and pumps (R451-R464, R471). -/
def Obligations.FansAndPumpsAreDrivenAndMeasured : Prop :=
  (∀ s : State,
    let anyFault := ∃ k : Fin 6, s.chIs (.fan k) 4 = true
    let opens := s.on I.driving 0 = true ∨ anyFault
    (Completes .fanPeriodStart s fun t =>
      DutyApplied s t false ∧ DutyApplied s t true ∧ t.rd I.periodAt 0 = s.us % 2 ^ 64 ∧
      (∀ k : Fin 6, t.rd I.fanOn k.val =
        (if s.chFull (.fan k) then s.fanPeriod
         else if s.present (.fan k) = false ∨ s.on I.driving 0 = false then 0
         else if s.on I.stretch 0 then s.fanPeriod
         else toUnit 100 (s.fanPeriod * t.rd F.COOL_STATUS_FAN_DUTY 0)) % 2 ^ 12) ∧
      OnlyFields s t ([F.COOL_STATUS_FAN_DUTY, I.periodAt, I.fanOn] ++ pumpFields)) ∧
    (¬ opens → exec .stretchWindowOpen s = .next s) ∧
    (opens → Completes .stretchWindowOpen s fun t =>
      t.rd I.stretch 0 = 1 ∧
      (∀ k : Fin 6, t.edges k.val = (if s.chIs (.fan k) 2 then s.edges k.val else []) ∧
        t.rd I.fanOn k.val =
          (if s.present (.fan k) then s.fanPeriod % 2 ^ 12 else s.rd I.fanOn k.val)) ∧
      (∀ j, 6 ≤ j → t.edges j = s.edges j) ∧
      t = { s with regs := t.regs, cool := { s.cool with edges := t.cool.edges } } ∧
      SameButFields s t [I.stretch, I.fanOn]) ∧
    (s.on I.stretch 0 = false → exec .stretchWindowEnd s = .next s) ∧
    (s.on I.stretch 0 = true → Completes .stretchWindowEnd s fun t =>
      t.rd I.stretch 0 = 0 ∧
      (∀ k : Fin 6,
        let c : Channel := .fan k
        (IsMeasured s c → Measured s t c (s.windowSpeed c).1 (s.windowSpeed c).2) ∧
        (¬ IsMeasured s c → t.edges k.val = s.edges k.val ∧ t.rd (chState c) k.val = s.rd (chState c) k.val ∧
          t.rd (chRpm c) k.val = s.rd (chRpm c) k.val)) ∧
      t = { s with regs := t.regs, cool := { s.cool with edges := t.cool.edges } }) ∧
    (Completes .pumpSpeedSecond s fun t =>
      (∀ k : Fin 2,
        let c : Channel := .pump k
        let n := 60 * (s.edges (chIx c)).length
        (IsMeasured s c → Measured s t c (decide (s.minRpm c * s.ppr c ≤ n)) (toUnit (s.ppr c) n)) ∧
        (¬ IsMeasured s c → t.edges (chIx c) = s.edges (chIx c) ∧
          t.rd (chState c) k.val = s.rd (chState c) k.val ∧ t.rd (chRpm c) k.val = s.rd (chRpm c) k.val)) ∧
      t = { s with regs := t.regs, cool := { s.cool with edges := t.cool.edges } })) ∧
  (∀ (c : Channel) (s : State),
    let k := chIx c
    let i := chNo c
    let x : TachInput := match c with
      | .fan k => .fan k
      | .pump k => .pump k
    let es := s.us :: s.edges k
    let counts := (s.chIs c 1 = true ∨ s.chIs c 4 = true) ∧ (isPump c = true ∨ s.on I.stretch 0 = true)
    (s.chIs c 2 = true → Completes (.tachEdge x) s fun t =>
      t.edges k = es.take 3 ∧ (s.spinPasses c (es.take 3) = true → t.rd I.spinPass k = 1) ∧
      (s.spinPasses c (es.take 3) = false → t.rd I.spinPass k = s.rd I.spinPass k) ∧
      (∀ j < 10, j ≠ k → t.edges j = s.edges j) ∧ SameBut s t [(I.spinPass, k)]) ∧
    (s.chIs c 2 = false → counts → Completes (.tachEdge x) s fun t =>
      t.edges k = es ∧ (∀ j < 10, j ≠ k → t.edges j = s.edges j) ∧
      t = { s with cool := { s.cool with edges := t.cool.edges } }) ∧
    (s.chIs c 2 = false → ¬ counts → exec (.tachEdge x) s = .next s) ∧
    (s.on I.spinDue k = true → Completes (.spinupStart c) s fun t =>
      t.rd I.spinDue k = 0 ∧ SpinUpBegun s t c ∧ SameMemories s t) ∧
    (s.on I.spinDue k = false → exec (.spinupStart c) s = .next s) ∧
    (s.chIs c 2 = false → exec (.spinupEnd c) s = .next s) ∧
    (s.chIs c 2 = true →
      let places := [(chState c, i), (I.coolRetry, k), (chRetry c, i), (I.misses, k), (chMisses c, i)]
      (s.on I.spinPass k = true → Completes (.spinupEnd c) s fun t =>
        t.rd (chState c) i = 1 ∧ t.rd I.coolRetry k = 0 ∧ t.rd (chRetry c) i = 0 ∧ t.rd I.misses k = 0 ∧
        t.rd (chMisses c) i = 0 ∧ OnlyRegs s t places) ∧
      (s.on I.spinPass k = false → s.rd I.coolRetry k < s.cfg cfgCoolRetries →
        Completes (.spinupEnd c) s fun t => t.rd (chState c) i = 3 ∧ OnlyRegs s t [(chState c, i)]) ∧
      (s.on I.spinPass k = false → s.cfg cfgCoolRetries ≤ s.rd I.coolRetry k →
        Completes (.spinupEnd c) s fun t =>
          t.rd (chState c) i = 4 ∧ Rises s t (chFaults c) i 1 ∧ t.statusBit (chSource c) = true ∧
          t.rd (if isPump c then F.COOL_STATUS_PUMP_DEMAND else F.COOL_STATUS_FAN_DEMAND) 0 = 100 ∧
          DutyApplied s t true ∧ SameMemories s t)) ∧
    (s.chIs c 3 = false → exec (.retryWaitEnd c) s = .next s) ∧
    (s.chIs c 3 = true → Completes (.retryWaitEnd c) s fun t =>
      t.rd I.coolRetry k = (s.rd I.coolRetry k + 1) % 2 ^ 3 ∧
      t.rd (chRetry c) i = min 3 (s.rd I.coolRetry k + 1) ∧ SpinUpBegun s t c ∧ SameMemories s t)) ∧
  (∀ (v : Word) (s : State),
    let n := v.toNat
    (∀ path, (s.on I.driving 0 = false ∨ path = .host ∧ s.on I.dieUp 0 = false ∨ path ≠ .host ∧ path ≠ .smbus) →
      exec (.coolOverrideWrite path v) s = .next s) ∧
    (s.on I.driving 0 = true → s.on I.dieUp 0 = true → Completes (.coolOverrideWrite .host v) s fun t =>
      t.rd F.COOL_OVR_FAN_HOST 0 = min 100 (field n 6 0) ∧ t.rd F.COOL_OVR_PUMP_HOST 0 = min 100 (field n 14 8) ∧
      DutyApplied s t true ∧
      OnlyFields s t (F.COOL_OVR_FAN_HOST :: F.COOL_OVR_PUMP_HOST :: pumpFields)) ∧
    (s.on I.driving 0 = true → Completes (.coolOverrideWrite .smbus v) s fun t =>
      t.rd F.COOL_OVR_FAN_BMC 0 = min 100 (field n 22 16) ∧ t.rd F.COOL_OVR_PUMP_BMC 0 = min 100 (field n 30 24) ∧
      DutyApplied s t true ∧
      OnlyFields s t (F.COOL_OVR_FAN_BMC :: F.COOL_OVR_PUMP_BMC :: pumpFields)) ∧
    (∀ bmc : Bool,
      let f := if bmc then F.COOL_OVR_FAN_BMC else F.COOL_OVR_FAN_HOST
      let g := if bmc then F.COOL_OVR_PUMP_BMC else F.COOL_OVR_PUMP_HOST
      Completes (.overrideExpire bmc) s fun t =>
        t.rd f 0 = 0 ∧ t.rd g 0 = 0 ∧ DutyApplied s t true ∧ OnlyFields s t (f :: g :: pumpFields)))

/-- Flow meters and leak inputs (R465-R467). -/
def Obligations.FlowsAndLeaksAreWatched : Prop :=
  (∀ (k : Fin 2) (s : State),
    let c : Channel := .pump k
    (s.hasFn 4 k.val = true → Completes (.tachEdge (.flow k)) s fun t =>
      t.edges (8 + k.val) = s.us :: s.edges (8 + k.val) ∧
      (∀ j ≠ 8 + k.val, t.edges j = s.edges j) ∧
      t = { s with cool := { s.cool with edges := t.cool.edges } }) ∧
    (s.hasFn 4 k.val = false → exec (.tachEdge (.flow k)) s = .next s) ∧
    (IsMeasured s c → Completes (.flowGraceEnd k) s fun t =>
      t.rd F.PUMP_FLOW_TESTED k.val = 1 ∧ OnlyRegs s t [(F.PUMP_FLOW_TESTED, k.val)]) ∧
    (¬ IsMeasured s c → exec (.flowGraceEnd k) s = .next s)) ∧
  (∀ s : State, Completes .flowSecond s fun t =>
    SameMemories s t ∧ ∀ k : Fin 2,
      let meter := s.present (.pump k) = true ∧ s.hasFn 4 k.val = true
      let n := 600 * (s.edges (8 + k.val)).length
      let low := n < s.cfg cfgFlowMin * s.cfg cfgFlowK
      let tested := s.on F.PUMP_FLOW_TESTED k.val = true
      let fault := s.on F.PUMP_FLOW_FLOW_FAULT k.val = true
      let lows := s.rd I.flowLow k.val + 1
      (¬ meter → t.rd F.PUMP_FLOW_FLOW k.val = s.rd F.PUMP_FLOW_FLOW k.val ∧
        t.edges (8 + k.val) = s.edges (8 + k.val) ∧
        t.rd F.PUMP_FLOW_FLOW_FAULT k.val = s.rd F.PUMP_FLOW_FLOW_FAULT k.val) ∧
      (meter →
        t.rd F.PUMP_FLOW_FLOW k.val = min 0xFFFF (toUnit (s.cfg cfgFlowK) n) ∧ t.edges (8 + k.val) = [] ∧
        (¬ tested → t.rd F.PUMP_FLOW_FLOW_FAULT k.val = s.rd F.PUMP_FLOW_FLOW_FAULT k.val) ∧
        (tested → low → t.rd F.PUMP_FLOW_LOWS k.val = min 3 lows ∧
          (s.cfg cfgMissConsec ≤ lows → ¬ fault →
            t.rd F.PUMP_FLOW_FLOW_FAULT k.val = 1 ∧ Rises s t F.PUMP_FLOW_FAULTS k.val 1 ∧
            t.statusBit (40 + k.val) = true ∧ t.rd F.COOL_STATUS_PUMP_DEMAND 0 = 100) ∧
          (lows < s.cfg cfgMissConsec → t.rd F.PUMP_FLOW_FLOW_FAULT k.val = s.rd F.PUMP_FLOW_FLOW_FAULT k.val)) ∧
        (tested → ¬ low → t.rd F.PUMP_FLOW_LOWS k.val = 0 ∧
          (fault → 2 ≤ s.rd I.flowGood k.val →
            t.rd F.PUMP_FLOW_FLOW_FAULT k.val = 0 ∧ t.rd I.causeOn (40 + k.val) = 0) ∧
          (fault → s.rd I.flowGood k.val < 2 →
            t.rd F.PUMP_FLOW_FLOW_FAULT k.val = 1 ∧ t.rd I.flowGood k.val = s.rd I.flowGood k.val + 1)))) ∧
  (∀ (rope0 rope1 : Nat) (float : Bool) (s : State),
    Completes (.leakSample rope0 rope1 float) s fun t =>
      t.rd F.LEAK_OHM_ROPE0 0 = min 0xFFFF rope0 ∧ t.rd F.LEAK_OHM_ROPE1 0 = min 0xFFFF rope1 ∧
      t.stw.flash = s.stw.flash ∧
      (s.bare = true → OnlyRegs s t [(F.LEAK_OHM_ROPE0, 0), (F.LEAK_OHM_ROPE1, 0)]) ∧
      (s.bare = false → ∀ z < 3,
        let raw := [s.ropeNow 0 rope0, s.ropeNow 1 rope1, bit (bit float == s.cfg cfgFloatWet)].getD z 0
        let run := Tab.get s.cool.leak z (3, 0)
        let n := if run.1 = raw then min 15 (run.2 + 1) else 1
        let moves := s.cfg cfgLeakConsec ≤ n ∧ s.rd (leakFld z) 0 ≠ raw
        let act := s.cfg (cfgLeakAction z)
        Tab.get t.cool.leak z (3, 0) = (raw, n) ∧
        (¬ moves → t.rd (leakFld z) 0 = s.rd (leakFld z) 0) ∧
        (moves → t.rd (leakFld z) 0 = raw ∧ (raw = 1 → act = 1 → t.statusBit (53 + z) = true) ∧
          (raw = 1 → act = 2 → t.statusBit (7 + z) = true ∧ t.rd F.FAULT_ESC_SAFE 0 = 1) ∧
          (raw = 2 → act ≠ 0 → t.statusBit (56 + z) = true))))

/-- Registers that the registration of a fault source writes, beside its own status bit. -/
def faultFields (src : Nat) : List Fld :=
  [statusFld src, I.causeOn, F.FAULT_FIRST_SRC_SOURCE, F.FAULT_FIRST_SRC_CLASS, F.FAULT_FIRST_SRC_DETAIL,
    F.FAULT_FIRST_SRC_VALID, F.FAULT_OVF_OVF, F.FAULT_OVF_LATER, F.LOG_SEQ_NEXT, I.logLostFirst, I.logLostCount,
    F.LOG_STATUS_LOST, I.evqSeq, F.HOST_EVQ_TAIL_INDEX, F.HOST_EVQ_SIZE_LOST, F.HOST_EVQ_SIZE_OVF, I.msixPending,
    I.linkAt]

/-- A source that sets a status bit has been registered (R473-R477, R481). -/
def Registered (s t : State) (src detail : Nat) : Prop :=
  t.statusBit src = true ∧ (∀ j < 96, j ≠ src → t.statusBit j = s.statusBit j) ∧
  (faultIsCondition src = true → t.on I.causeOn src = true) ∧ t.on F.FAULT_FIRST_SRC_VALID 0 = true ∧
  (if s.on F.FAULT_FIRST_SRC_VALID 0 then
    t.rd F.FAULT_FIRST_SRC_SOURCE 0 = s.rd F.FAULT_FIRST_SRC_SOURCE 0 ∧
    t.rd F.FAULT_FIRST_SRC_CLASS 0 = s.rd F.FAULT_FIRST_SRC_CLASS 0 ∧
    t.rd F.FAULT_FIRST_SRC_DETAIL 0 = s.rd F.FAULT_FIRST_SRC_DETAIL 0 ∧
    t.rd F.FAULT_OVF_OVF 0 = 1 ∧ Rises s t F.FAULT_OVF_LATER 0 1
   else
    t.rd F.FAULT_FIRST_SRC_SOURCE 0 = src ∧ t.rd F.FAULT_FIRST_SRC_CLASS 0 = faultClass src ∧
    t.rd F.FAULT_FIRST_SRC_DETAIL 0 = detail % 256 ∧
    t.rd F.FAULT_OVF_OVF 0 = s.rd F.FAULT_OVF_OVF 0 ∧ t.rd F.FAULT_OVF_LATER 0 = s.rd F.FAULT_OVF_LATER 0) ∧
  (s.on I.porHeld 0 = false → t.faultNLow = true) ∧ t.stw.flash = s.stw.flash ∧
  if faultClass src = 1 then
    t.rd F.FAULT_ESC_SAFE 0 = 1 ∧ t.rd I.holdFull 0 = 1 ∧ PowerCut s t ∧
    t.rd I.thermtripN 0 = (if src = 1 ∨ src = 2 ∨ src = 3 then 1 else s.rd I.thermtripN 0)
  else
    t.rd F.LOG_SEQ_NEXT 0 = (s.rd F.LOG_SEQ_NEXT 0 + 1) % 2 ^ 32 ∧
    t.rd I.evqSeq 0 = (s.rd I.evqSeq 0 + s.rd I.dieUp 0) % 2 ^ 32 ∧
    SameMemories s t ∧ t.bnd = s.bnd ∧ t.recoveries = s.recoveries ∧ SameButFields s t (faultFields src)

/-- A write of `v` to `FAULT_STATUS`k clears the bit of source `src` (R480). -/
abbrev Clears (s : State) (k : Nat) (v : Word) (src : Nat) : Prop :=
  src / 32 = k ∧ v.toNat.testBit (src % 32) = true ∧ s.statusBit src = true ∧ s.on I.causeOn src = false

/-- What a write to `FAULT_STATUS`k leaves (R476, R480, R482). -/
def StatusCleared (s t : State) (k : Nat) (v : Word) : Prop :=
  (∀ src < 96, Clears s k v src → t.statusBit src = false) ∧
  (∀ src < 96, ¬ Clears s k v src → t.statusBit src = s.statusBit src) ∧
  t.rd F.FAULT_FIRST_SRC_SOURCE 0 = s.rd F.FAULT_FIRST_SRC_SOURCE 0 ∧
  t.rd F.FAULT_FIRST_SRC_CLASS 0 = s.rd F.FAULT_FIRST_SRC_CLASS 0 ∧
  t.rd F.FAULT_FIRST_SRC_DETAIL 0 = s.rd F.FAULT_FIRST_SRC_DETAIL 0 ∧ SameMemories s t ∧ t.bnd = s.bnd ∧
  ((∃ src < 96, Clears s k v src) →
    (if t.noStatus then
      t.rd F.FAULT_FIRST_SRC_VALID 0 = 0 ∧ t.rd F.FAULT_OVF_OVF 0 = 0 ∧ t.rd F.FAULT_OVF_LATER 0 = 0
     else
      t.rd F.FAULT_FIRST_SRC_VALID 0 = s.rd F.FAULT_FIRST_SRC_VALID 0 ∧
      t.rd F.FAULT_OVF_OVF 0 = s.rd F.FAULT_OVF_OVF 0 ∧ t.rd F.FAULT_OVF_LATER 0 = s.rd F.FAULT_OVF_LATER 0) ∧
    (if s.on F.FAULT_ESC_SAFE 0 ∧ t.classASet = false then
      t.rd F.FAULT_ESC_SAFE 0 = 0 ∧ t.rd I.holdFull 0 = 0 ∧ t.rd I.thermtripN 0 = 0 ∧
      t.rd F.PWR_SEQ_STEP 0 =
        (if s.rd F.HSW_STATE_STATE 0 = 4 then 7 else if s.rd F.PWR_INPUT_WINDOW 0 = 1 then 2 else 1)
     else
      t.rd F.FAULT_ESC_SAFE 0 = s.rd F.FAULT_ESC_SAFE 0 ∧ t.rd I.holdFull 0 = s.rd I.holdFull 0 ∧
      t.rd F.PWR_SEQ_STEP 0 = s.rd F.PWR_SEQ_STEP 0)) ∧
  ((¬ ∃ src < 96, Clears s k v src) → t = s)

/-- The fault collector (R473-R482). -/
def Obligations.FaultsAreRegisteredAndCleared : Prop :=
  (∀ (src : Fin 96) (d : Nat) (s : State),
    (faultClass src.val ≠ 0 → Completes (.faultRegister src d) s fun t => Registered s t src.val d) ∧
    (faultClass src.val = 0 → exec (.faultRegister src d) s = .next s) ∧
    (s.on I.dieUp 0 = true → 64 ≤ src.val ∨ src.val = 0 →
      Completes (.selvageFaultMsg src d) s fun t =>
        (faultClass src.val ≠ 0 → Registered s t src.val d) ∧ t.rd I.linkAt 0 = s.us % 2 ^ 64 ∧
        (faultClass src.val = 0 → OnlyRegs s t [(I.linkAt, 0)])) ∧
    (s.on I.dieUp 0 = false ∨ (src.val < 64 ∧ src.val ≠ 0) → exec (.selvageFaultMsg src d) s = .next s)) ∧
  (∀ s : State,
    let silent := s.on I.dieUp 0 = true ∧ s.rd I.linkAt 0 + 10000 ≤ s.us
    Completes .collectorMismatch s (fun t => Registered s t 0 0) ∧
    (silent → Completes .selvageLinkTimeout s fun t => Registered s t 11 0) ∧
    (¬ silent → exec .selvageLinkTimeout s = .next s)) ∧
  (∀ (path : Path) (k : Fin 4) (v : Word) (s : State),
    let open' := (path = .host ∧ s.on I.dieUp 0 = true) ∨ path = .smbus
    (open' → Completes (.faultStatusClear path k v) s fun t => StatusCleared s t k.val v) ∧
    (¬ open' → exec (.faultStatusClear path k v) s = .next s))

/-- A partition reset has been decided (R492 step 1, R489): FENCED, counted with its cause, its source set, the
frames of every binding that runs on the partition or has state in its group aborted. -/
def PartResetBegun (s t : State) (p : Part) (cause : Nat) : Prop :=
  t.rd F.PART_STATE_STATE p.val = 5 ∧ Rises s t F.PART_RECOVERY_PART_RESETS p.val 1 ∧
  t.rd F.PART_RECOVERY_RESET_CAUSE p.val = cause ∧ t.statusBit (64 + p.val) = true ∧
  .partReset p ∈ t.recoveries ∧
  (∀ (b : Nat) (x : Binding), s.binding? b = some x →
    x.parts.contains p.val = true ∨ (s.stateGroups b).contains p.val = true →
    (t.binding? b).bind Binding.running = none) ∧
  t.rd F.PART_FAULT_CTX_VALID p.val = 1 ∧
  (if s.on F.PART_FAULT_CTX_VALID p.val then
    t.rd F.PART_FAULT_CTX_CTX p.val = s.rd F.PART_FAULT_CTX_CTX p.val ∧
    t.rd F.PART_FAULT_CTX_CAUSE p.val = s.rd F.PART_FAULT_CTX_CAUSE p.val ∧
    t.rd F.PART_FAULT_CTX_LEVEL p.val =
      (if s.on I.faultLive p.val then 3 else s.rd F.PART_FAULT_CTX_LEVEL p.val)
   else
    t.rd F.PART_FAULT_CTX_CTX p.val =
      (((s.partBinding? p.val).bind fun x => x.2.running).getD 0xFFFF) % 2 ^ 16 ∧
    t.rd F.PART_FAULT_CTX_LEVEL p.val = 3 ∧ t.rd F.PART_FAULT_CTX_CAUSE p.val = 5 ∧
    t.rd F.PART_FAULT_CTX_CLUSTER p.val = 0x7F) ∧
  t.beam.bytes = s.beam.bytes ∧ t.hbm.bytes = s.hbm.bytes ∧ t.stw.flash = s.stw.flash

/-- No partition reset can be decided: a chip reset runs, or the partition is in reset already (R497). -/
abbrev NoPartReset (s : State) (p : Nat) : Prop := s.rd I.chipStep 0 ≠ 0 ∨ s.inReset p = true

/-- An engine reset is in progress, with every stored byte of the Beam, HBM and flash as before (R486). -/
def EngineResetBegun (s t : State) (target : RecTarget) : Prop :=
  target ∈ t.recoveries ∧ t.beam.bytes = s.beam.bytes ∧ t.hbm.bytes = s.hbm.bytes ∧ t.stw.flash = s.stw.flash

/-- A power cycle decided (R496), or its fourth within 30 min: the safe state with source 12. -/
def PowerCycled (s t : State) : Prop :=
  t.rd I.chipStep 0 = 0 ∧ t.rd I.dieUp 0 = 0 ∧ t.beam = {} ∧ t.hbm = {} ∧ t.bnd = {} ∧ t.recoveries = [] ∧
  t.stw.flash = s.stw.flash ∧
  if 3 ≤ s.cyclesInWindow.length then
    t.statusBit 12 = true ∧ t.rd F.FAULT_ESC_SAFE 0 = 1 ∧ PowerCut s t
  else
    t.statusBit 87 = true ∧ Rises s t F.FAULT_ESC_POWER_CYCLES 0 1 ∧
    t.rd F.FAULT_ESC_IN_WINDOW 0 = s.cyclesInWindow.length + 1 ∧ t.cyclesInWindow = s.cyclesInWindow ++ [s.us] ∧
    t.rd F.PWR_SEQ_STEP 0 = 10 ∧ t.rd I.railDown 0 = 6 ∧ t.rd F.PWR_RAIL_DATA_EN 6 = 0 ∧
    t.rd I.gate 0 = s.rd I.gate 0

/-- Recovery levels (R483-R489, R492, R494, R496, R497). -/
def Obligations.RecoveryLevelsActAndEscalate : Prop :=
  (∀ (g : HomeGroup) (s : State),
    let hung := (∃ x ∈ s.hbm.xfers, x.group = g.val) ∧ ¬ NoPartReset s g.val
    (hung → Completes (.dmaHang g) s fun t =>
      EngineResetBegun s t (.dmaReset g) ∧ Rises s t F.PART_RECOVERY_ENGINE_RESETS g.val 1 ∧
      (∀ x ∈ t.hbm.xfers, x.group ≠ g.val) ∧
      (∀ x ∈ s.hbm.xfers, x.group = g.val → ∀ c, x.ctx = some c → ∀ y, s.ctx? c = some y →
        (s.binding? y.binding).bind Binding.running = some c →
        (t.binding? y.binding).bind Binding.running = none)) ∧
    (¬ hung → exec (.dmaHang g) s = .next s)) ∧
  (∀ (k : LinkIx) (s : State),
    (s.linkUp k.val = true → Completes (.weftEndpointHang k) s fun t =>
      EngineResetBegun s t (.weftReset k) ∧
      ∀ j, t.rd F.WEFT_LINK_STATE_STATE j = s.rd F.WEFT_LINK_STATE_STATE j) ∧
    (s.linkUp k.val = false → exec (.weftEndpointHang k) s = .next s)) ∧
  (∀ (e : EngineIx) (s : State),
    (∀ f, s.bnd.frames.find? (fun f => f.stage == .decoding e.val) = some f →
      Completes (.decodeEngineHang e) s fun t =>
        EngineResetBegun s t (.decodeReset e) ∧ FrameEnded t f ∧ (s.bnd.cmd = none → DecodeFailed s t f 12)) ∧
    (s.bnd.frames.find? (fun f => f.stage == .decoding e.val) = none →
      exec (.decodeEngineHang e) s = .next s)) ∧
  (∀ (target : RecTarget) (s : State),
    let ends := isEngineReset target = true ∧ target ∈ s.recoveries
    (ends → Completes (.engineResetDone target) s fun t =>
      (∀ x, x ∈ t.recoveries ↔ x ∈ s.recoveries ∧ x ≠ target) ∧
      t = { s with regs := t.regs, recoveries := t.recoveries } ∧
      (∀ p c, target = .clusterReset p c → t.rd I.faultLive p.val = 0 ∧ SameBut s t [(I.faultLive, p.val)]) ∧
      ((∀ p c, target ≠ .clusterReset p c) → t.regs = s.regs)) ∧
    (¬ ends → exec (.engineResetDone target) s = .next s)) ∧
  (∀ (p : Part) (s : State),
    (s.on I.dieUp 0 = true ∧ ¬ NoPartReset s p.val → Completes (.heddleUe p) s fun t => PartResetBegun s t p 2) ∧
    (s.on I.dieUp 0 = false ∨ NoPartReset s p.val → exec (.heddleUe p) s = .next s) ∧
    (¬ NoChipReset s → Completes .ctrlUe s fun t => ChipResetBegun s t 6) ∧
    (NoChipReset s → exec .ctrlUe s = .next s)) ∧
  (∀ (engines : List RecTarget) (target : RecTarget) (s : State),
    (target ≠ .chipReset → target ∉ s.recoveries → exec (.recoveryBoundExpire target engines) s = .next s) ∧
    (target ≠ .chipReset → target ∈ s.recoveries →
      Completes (.recoveryBoundExpire target engines) s fun t =>
        (match target with
        | .contextAbort b =>
          target ∉ t.recoveries ∧ ∀ e ∈ engines, s.partOfAbort b.val e = true → EngineResetBegun s t e
        | .clusterReset p _ | .dmaReset p =>
          target ∉ t.recoveries ∧
          (¬ NoPartReset s p.val → PartResetBegun s t p 1) ∧
          (NoPartReset s p.val → t = s.endRecovery target)
        | .decodeReset _ => target ∉ t.recoveries ∧ (¬ NoChipReset s → ChipResetBegun s t 6)
        | .weftReset k => target ∉ t.recoveries ∧ LinkDown s t k.val
        | .partReset _ => target ∉ t.recoveries ∧ (¬ NoChipReset s → ChipResetBegun s t 1)
        | .chipReset => True))) ∧
  (∀ (engines : List RecTarget) (s : State),
    (s.rd I.chipStep 0 ≠ 0 →
      Completes (.recoveryBoundExpire .chipReset engines) s fun t => PowerCycled s t) ∧
    (s.rd I.chipStep 0 = 0 → exec (.recoveryBoundExpire .chipReset engines) s = .next s))

/-- No command waits for a reset to end or for frames to end (R181, R184, R185), so that nothing but the
reset's own steps happens. -/
abbrev NoCommandWaits (s : State) : Prop := s.bnd.cmd = none

/-- What becomes of a partition as its reset ends (R492 steps 5-6, R493, R446). -/
def Restored (s t : State) (p : Part) : Prop :=
  let st := t.rd F.PART_STATE_STATE p.val
  let n := t.rd F.PART_CLUSTERS_OK_CLUSTERS_OK p.val
  let down := s.on F.PART_POWER_SENSOR_DOWN p.val
  (s.partBinding? p.val = none →
    st = (if down ∨ s.rd F.PART_CLUSTERS_OK_CLUSTERS_OK p.val < 96 then 7 else 0) ∧
    t.rd F.PART_STATE_ARR_ON p.val = 0 ∧ t.rd F.PART_LEASE_OWNER_OWNER p.val = 0) ∧
  (∀ b x, s.partBinding? p.val = some (b, x) → s.binding? b = some x →
    (down = true → st = 7 ∧ t.rd F.PART_STATE_ARR_ON p.val = 0 ∧ (t.binding? b).map Binding.phase = some .stopped ∧
      t.statusBit 86 = true) ∧
    (down = false → x.phase = .unbinding → st = 4) ∧
    (down = false → x.phase ≠ .unbinding → ∀ h, s.bundle? x.handle = some h →
      if h.lost1 = true ∧ h.lost2 = true then t.binding? b = none ∧ st = 0
      else
        t.rd F.PART_SWEEP_STATUS_DONE p.val = 1 ∧ t.rd F.PART_STATE_SWEEP_DUE p.val = 0 ∧
        t.rd F.PART_SWEEP_STATUS_PASS p.val = bit (decide (96 ≤ n)) ∧
        (n < 96 → st = 7 ∧ t.rd F.PART_STATE_ARR_ON p.val = 0 ∧ t.statusBit 86 = true) ∧
        (96 ≤ n → hasVariant h.hdr n = false →
          st = 0 ∧ t.rd F.PART_STATE_ARR_ON p.val = 0 ∧ t.statusBit 86 = true) ∧
        (96 ≤ n → hasVariant h.hdr n = true →
          st = (if (t.bundle? x.handle).any (fun k => !k.lost1 && !k.lost2) then 3 else 2) ∧
          t.rd F.PART_STATE_ARR_ON p.val = 1 ∧ t.rd F.PART_CLUSTERS_OK_VARIANT p.val = n ∧
          t.rd F.PART_LEASE_OWNER_OWNER p.val = x.owner % 2 ^ 16)))

/-- Steps of partition and chip resets (R492-R494). -/
def Obligations.PartitionAndChipResetsRunTheirSteps : Prop :=
  (∀ (p : Part) (s : State),
    let ready := .partReset p ∈ s.recoveries ∧ s.rd F.PART_STATE_STATE p.val = 5
    (ready → Completes (.partitionResetDrain p) s fun t =>
      t.rd F.PART_STATE_STATE p.val = 6 ∧ t.rd F.PART_STATE_ARR_ON p.val = 0 ∧
      t.rd F.PART_STATE_MEM_ON p.val = 0 ∧ t.rd F.HBM_GRP_STATE_TRAINED p.val = 0 ∧
      t.rd F.PART_STATE_SWEEP_DUE p.val = 1 ∧
      t.rd F.HBM_GRP_STATE_LOST_LEASES p.val =
        min 255 (s.hbm.leases.filter fun l => l.2.group == p.val).length ∧
      (∀ l ∈ t.hbm.leases, l.2.group = p.val → l.2.state = .lost) ∧
      (∀ x ∈ t.hbm.xfers, x.group ≠ p.val) ∧
      (∀ c y, t.ctx? c = some y → (s.ctxGroups c).contains p.val = true → 1 ∈ y.causes) ∧
      (∀ h x y, s.bundle? h = some x → t.bundle? h = some y →
        (((s.lease? x.copy1).any fun l => l.group == p.val) = true → y.lost1 = true) ∧
        (((s.lease? x.copy2).any fun l => l.group == p.val) = true → y.lost2 = true)) ∧
      (∀ (c : CoreId) (o : Nat), c.part = p → o < 24576 → t.scratchByte c o = 0) ∧
      (NoCommandWaits s → t.rd F.PART_GEN_GEN p.val = (s.rd F.PART_GEN_GEN p.val + 1) % 64) ∧
      t.beam.bytes = s.beam.bytes ∧ t.hbm.bytes = s.hbm.bytes ∧ t.stw.flash = s.stw.flash) ∧
    (¬ ready → exec (.partitionResetDrain p) s = .next s)) ∧
  (∀ (p : Part) (lost : List (Fin 10240)) (s : State),
    let ready := .partReset p ∈ s.recoveries ∧ s.rd F.PART_STATE_STATE p.val = 6 ∧
      s.on F.PART_STATE_MEM_ON p.val = false
    (ready → Completes (.partitionMemUp p lost) s fun t =>
      t.rd F.PART_STATE_MEM_ON p.val = 1 ∧ t.rd F.HBM_GRP_STATE_TRAINED p.val = 1 ∧
      t.rd F.HBM_GRP_STATE_ERASED p.val = 1 ∧ t.rd F.HBM_GRP_REPAIR_PENDING p.val = 0 ∧
      (∀ r ∈ t.hbm.rows, r.1 ≠ p.val) ∧
      (∀ id l, s.lease? id = some l → l.group = p.val → l.state = .lost → ∃ l', t.lease? id = some l' ∧
        l'.group = p.val ∧ l'.state = .active ∧ s.hbm.nextKey ≤ l'.key ∧ l'.key < t.hbm.nextKey) ∧
      (∀ id, (∀ e ∈ s.hbm.leases, e.1 = id → e.2.group ≠ p.val) → t.lease? id = s.lease? id) ∧
      (∀ c y, t.ctx? c = some y → s.rd F.CTX_SHADOW_ROLE c = 1 → (t.ctxGroups c).contains p.val = true →
        y.fetching = true) ∧
      ((t.rd F.HDM_STATUS_LOST 0).testBit p.val = true ↔
        (∃ l ∈ t.hbm.leases, l.2.group = p.val ∧ l.2.use = .hdm ∧ l.2.exts ≠ []) ∨ (s.rd F.HDM_STATUS_LOST 0).testBit p.val = true) ∧
      SameMemories s t) ∧
    (¬ ready → exec (.partitionMemUp p lost) s = .next s)) ∧
  (∀ (p : Part) (failed : List (Cluster × CoreIx)) (dur : Nat) (s : State),
    let ready := .partReset p ∈ s.recoveries ∧ s.rd F.PART_STATE_STATE p.val = 6 ∧
      s.on F.PART_STATE_MEM_ON p.val = true
    (ready → Completes (.partitionResetComplete p failed dur) s fun t =>
      .partReset p ∉ t.recoveries ∧ t.rd I.faultLive p.val = 0 ∧ (NoCommandWaits s → Restored s t p) ∧
      t.beam.bytes = s.beam.bytes ∧ t.hbm.bytes = s.hbm.bytes ∧ t.stw.flash = s.stw.flash) ∧
    (¬ ready → exec (.partitionResetComplete p failed dur) s = .next s)) ∧
  (∀ s : State,
    let ready := s.rd I.chipStep 0 = 3 ∧ ∀ g < 16, s.rd F.HBM_GRP_STATE_TRAINED g = 1
    (ready → Completes .chipResetComplete s fun t =>
      t.rd I.chipStep 0 = 0 ∧ OnlyRegs s t [(I.chipStep, 0)]) ∧
    (¬ ready → exec .chipResetComplete s = .next s))

/-- Every command has its effect in every state (R16, R18). -/
def Obligations.EveryCommandCompletes : Prop :=
  (∀ (i : Instr) (s : State), ∃ t, exec i s = .next t) ∧ (∀ s : State, ∃ t, step s = .next t)

/-- The canonical form of the memories is an invariant of the machine. -/
def Obligations.StepKeepsMemoriesCanonical : Prop :=
  ∀ s t : State, s.memoriesOk → step s = .next t → t.memoriesOk

/-- The machine right after reset (R348 step 1, R349, R416 step 1, R480). -/
def Obligations.ResetIsAuxiliaryPowerUp : Prop :=
  let s := State.reset
  s.pending = [] ∧ s.bare = true ∧ s.faultNLow = true ∧ (∀ src < 96, s.statusBit src = false) ∧
  s.rd F.FAULT_FIRST_SRC_VALID 0 = 0 ∧ s.rd F.FAULT_ESC_SAFE 0 = 0 ∧
  s.rd I.dieUp 0 = 0 ∧ s.rd F.PWR_SEQ_STEP 0 = 0 ∧ s.rd I.gate 0 = 0 ∧
  (∀ r < 7, s.rd F.PWR_RAIL_DATA_EN r = 0) ∧ s.hbm.leases = [] ∧ s.bnd = {} ∧ s.recoveries = [] ∧
  s.memoriesOk
end

