-- ==== Sys2Proof/Laws/Table.lean ====
section
/-! SUPPORT. Laws of tables by key: what a read gives after a write, and that every operation keeps the
canonical form. -/

namespace Sys2Proof.Machine.Tab

variable {α : Type}

@[simp] theorem get_nil (k : Nat) (d : α) : get [] k d = d := rfl

theorem get_insert_same (m : SMap α) (k : Nat) (v d : α) : get (insert m k v) k d = v := by
  induction m with
  | nil => simp [insert, get]
  | cons e m ih =>
    obtain ⟨k', w⟩ := e
    simp only [insert]
    split
    · next h => simp [get, Nat.ne_of_lt h, ih]
    · split <;> simp [get]

theorem get_insert_other (m : SMap α) {k j : Nat} (h : k ≠ j) (v d : α) :
    get (insert m k v) j d = get m j d := by
  induction m with
  | nil => simp [insert, get, h]
  | cons e m ih =>
    obtain ⟨k', w⟩ := e
    simp only [insert]
    split
    · simp only [get, ih]
    · split
      · next h' => subst h'; simp [get, h]
      · simp [get, h]

theorem get_drop_same (m : SMap α) (k : Nat) (d : α) : get (drop m k) k d = d := by
  induction m with
  | nil => rfl
  | cons e m ih =>
    obtain ⟨k', w⟩ := e
    simp only [drop]
    split
    · exact ih
    · next h => simp [get, h, ih]

theorem get_drop_other (m : SMap α) {k j : Nat} (h : k ≠ j) (d : α) :
    get (drop m k) j d = get m j d := by
  induction m with
  | nil => rfl
  | cons e m ih =>
    obtain ⟨k', w⟩ := e
    simp only [drop]
    split
    · next h' => subst h'; simp [get, h, ih]
    · simp only [get, ih]

/-- A read after a write to the same key gives the value written. -/
@[simp] theorem get_put_same [DecidableEq α] (m : SMap α) (k : Nat) (v d : α) :
    get (put m k v d) k d = v := by
  unfold put
  split
  · next h => rw [get_drop_same, h]
  · exact get_insert_same m k v d

/-- A write leaves every other key alone. -/
theorem get_put_other [DecidableEq α] (m : SMap α) {k j : Nat} (h : k ≠ j) (v d d' : α) :
    get (put m k v d) j d' = get m j d' := by
  unfold put
  split
  · exact get_drop_other m h d'
  · exact get_insert_other m h v d'

/-- A key that a `clear` selects reads as unlisted. -/
theorem get_clear_of_true (p : Nat → Bool) (m : SMap α) {k : Nat} (h : p k = true) (d : α) :
    get (clear p m) k d = d := by
  induction m with
  | nil => rfl
  | cons e m ih =>
    obtain ⟨k', w⟩ := e
    simp only [clear, List.filter_cons] at *
    split
    · next h' =>
      have hk : k' ≠ k := by rintro rfl; simp [h] at h'
      simp [get, hk, ih]
    · exact ih

/-- A key that a `clear` does not select reads as before. -/
theorem get_clear_of_false (p : Nat → Bool) (m : SMap α) {k : Nat} (h : p k = false) (d : α) :
    get (clear p m) k d = get m k d := by
  induction m with
  | nil => rfl
  | cons e m ih =>
    obtain ⟨k', w⟩ := e
    simp only [clear, List.filter_cons] at *
    by_cases h' : k' = k
    · subst h'; simp [h, get]
    · split <;> simp [get, h', ih]

/-! ### The canonical form -/

theorem wfFrom_mono [DecidableEq α] {d : Nat → α} {lo lo' : Nat} (h : lo' ≤ lo) {m : SMap α}
    (hm : wfFrom d lo m = true) : wfFrom d lo' m = true := by
  cases m with
  | nil => rfl
  | cons e m =>
    simp only [wfFrom, Bool.and_eq_true, decide_eq_true_eq] at *
    exact ⟨⟨by omega, hm.1.2⟩, hm.2⟩

theorem wfFrom_drop [DecidableEq α] {d : Nat → α} (k : Nat) {m : SMap α} {lo : Nat}
    (hm : wfFrom d lo m = true) : wfFrom d lo (drop m k) = true := by
  induction m generalizing lo with
  | nil => rfl
  | cons e m ih =>
    obtain ⟨k', w⟩ := e
    simp only [wfFrom, Bool.and_eq_true, decide_eq_true_eq] at hm
    simp only [drop]
    split
    · exact wfFrom_mono (by omega) (ih hm.2)
    · simp [wfFrom, hm.1.1, hm.1.2, ih hm.2]

theorem wfFrom_insert [DecidableEq α] {d : Nat → α} {k : Nat} {v : α} (hv : v ≠ d k) {m : SMap α}
    {lo : Nat} (hlo : lo ≤ k) (hm : wfFrom d lo m = true) : wfFrom d lo (insert m k v) = true := by
  induction m generalizing lo with
  | nil => simp [insert, wfFrom, hlo, hv]
  | cons e m ih =>
    obtain ⟨k', w⟩ := e
    simp only [wfFrom, Bool.and_eq_true, decide_eq_true_eq] at hm
    simp only [insert]
    split
    · next h => simp [wfFrom, hm.1.1, hm.1.2, ih (by omega) hm.2]
    · split
      · next h => subst h; simp [wfFrom, hlo, hv, hm.2]
      · next h h' => simp [wfFrom, hlo, hv, hm.1.2, hm.2]; omega

/-- A write keeps the canonical form. -/
theorem wfFrom_put [DecidableEq α] {d : Nat → α} (k : Nat) (v : α) {m : SMap α}
    (hm : wfFrom d 0 m = true) : wfFrom d 0 (put m k v (d k)) = true := by
  unfold put
  split
  · exact wfFrom_drop k hm
  · next h => exact wfFrom_insert h (Nat.zero_le k) hm

/-- A `clear` keeps the canonical form. -/
theorem wfFrom_clear [DecidableEq α] {d : Nat → α} (p : Nat → Bool) {m : SMap α} {lo : Nat}
    (hm : wfFrom d lo m = true) : wfFrom d lo (clear p m) = true := by
  induction m generalizing lo with
  | nil => rfl
  | cons e m ih =>
    obtain ⟨k', w⟩ := e
    simp only [wfFrom, Bool.and_eq_true, decide_eq_true_eq] at hm
    simp only [clear, List.filter_cons] at *
    split
    · simp [wfFrom, hm.1.1, hm.1.2, ih hm.2]
    · exact wfFrom_mono (by omega) (ih hm.2)

/-- Writes made one after the other keep the canonical form. -/
theorem wfFrom_foldl [DecidableEq α] {β : Type} {d : Nat → α} (f : SMap α → β → SMap α)
    (hf : ∀ m x, wfFrom d 0 m = true → wfFrom d 0 (f m x) = true) (l : List β) {m : SMap α}
    (hm : wfFrom d 0 m = true) : wfFrom d 0 (l.foldl f m) = true := by
  induction l generalizing m with
  | nil => exact hm
  | cons x l ih => exact ih (hf m x hm)

end Sys2Proof.Machine.Tab
end

