-- ==== Sys2Proof/Laws/State.lean ====
section
/-! SUPPORT. Laws of the state: what the operations over the register file change and leave alone. -/

namespace Sys2Proof.Machine

/-! ### One lemma per field per update -/

@[simp] theorem State.wr_pending (s : State) (f : Fld) (i v : Nat) :
    (s.wr f i v).pending = s.pending := rfl
@[simp] theorem State.wr_us (s : State) (f : Fld) (i v : Nat) :
    (s.wr f i v).us = s.us := rfl
@[simp] theorem State.wr_free (s : State) (f : Fld) (i v : Nat) :
    (s.wr f i v).free = s.free := rfl
@[simp] theorem State.wr_latches (s : State) (f : Fld) (i v : Nat) :
    (s.wr f i v).latches = s.latches := rfl
@[simp] theorem State.wr_out (s : State) (f : Fld) (i v : Nat) :
    (s.wr f i v).out = s.out := rfl
@[simp] theorem State.wr_arr (s : State) (f : Fld) (i v : Nat) :
    (s.wr f i v).arr = s.arr := rfl
@[simp] theorem State.wr_beam (s : State) (f : Fld) (i v : Nat) :
    (s.wr f i v).beam = s.beam := rfl
@[simp] theorem State.wr_hbm (s : State) (f : Fld) (i v : Nat) :
    (s.wr f i v).hbm = s.hbm := rfl
@[simp] theorem State.wr_bnd (s : State) (f : Fld) (i v : Nat) :
    (s.wr f i v).bnd = s.bnd := rfl
@[simp] theorem State.wr_host (s : State) (f : Fld) (i v : Nat) :
    (s.wr f i v).host = s.host := rfl
@[simp] theorem State.wr_fw (s : State) (f : Fld) (i v : Nat) :
    (s.wr f i v).fw = s.fw := rfl
@[simp] theorem State.wr_weft (s : State) (f : Fld) (i v : Nat) :
    (s.wr f i v).weft = s.weft := rfl
@[simp] theorem State.wr_stw (s : State) (f : Fld) (i v : Nat) :
    (s.wr f i v).stw = s.stw := rfl
@[simp] theorem State.wr_pwr (s : State) (f : Fld) (i v : Nat) :
    (s.wr f i v).pwr = s.pwr := rfl
@[simp] theorem State.wr_thm (s : State) (f : Fld) (i v : Nat) :
    (s.wr f i v).thm = s.thm := rfl
@[simp] theorem State.wr_cool (s : State) (f : Fld) (i v : Nat) :
    (s.wr f i v).cool = s.cool := rfl
@[simp] theorem State.wr_hzn (s : State) (f : Fld) (i v : Nat) :
    (s.wr f i v).hzn = s.hzn := rfl
@[simp] theorem State.wr_recoveries (s : State) (f : Fld) (i v : Nat) :
    (s.wr f i v).recoveries = s.recoveries := rfl

@[simp] theorem State.send_pending (s : State) (o : Out) :
    (s.send o).pending = s.pending := rfl
@[simp] theorem State.send_us (s : State) (o : Out) :
    (s.send o).us = s.us := rfl
@[simp] theorem State.send_free (s : State) (o : Out) :
    (s.send o).free = s.free := rfl
@[simp] theorem State.send_regs (s : State) (o : Out) :
    (s.send o).regs = s.regs := rfl
@[simp] theorem State.send_latches (s : State) (o : Out) :
    (s.send o).latches = s.latches := rfl
@[simp] theorem State.send_arr (s : State) (o : Out) :
    (s.send o).arr = s.arr := rfl
@[simp] theorem State.send_beam (s : State) (o : Out) :
    (s.send o).beam = s.beam := rfl
@[simp] theorem State.send_hbm (s : State) (o : Out) :
    (s.send o).hbm = s.hbm := rfl
@[simp] theorem State.send_bnd (s : State) (o : Out) :
    (s.send o).bnd = s.bnd := rfl
@[simp] theorem State.send_host (s : State) (o : Out) :
    (s.send o).host = s.host := rfl
@[simp] theorem State.send_fw (s : State) (o : Out) :
    (s.send o).fw = s.fw := rfl
@[simp] theorem State.send_weft (s : State) (o : Out) :
    (s.send o).weft = s.weft := rfl
@[simp] theorem State.send_stw (s : State) (o : Out) :
    (s.send o).stw = s.stw := rfl
@[simp] theorem State.send_pwr (s : State) (o : Out) :
    (s.send o).pwr = s.pwr := rfl
@[simp] theorem State.send_thm (s : State) (o : Out) :
    (s.send o).thm = s.thm := rfl
@[simp] theorem State.send_cool (s : State) (o : Out) :
    (s.send o).cool = s.cool := rfl
@[simp] theorem State.send_hzn (s : State) (o : Out) :
    (s.send o).hzn = s.hzn := rfl
@[simp] theorem State.send_recoveries (s : State) (o : Out) :
    (s.send o).recoveries = s.recoveries := rfl

@[simp] theorem State.queueFlash_pending (s : State) (op : FlashOp) :
    (s.queueFlash op).pending = s.pending := rfl
@[simp] theorem State.queueFlash_us (s : State) (op : FlashOp) :
    (s.queueFlash op).us = s.us := rfl
@[simp] theorem State.queueFlash_free (s : State) (op : FlashOp) :
    (s.queueFlash op).free = s.free := rfl
@[simp] theorem State.queueFlash_regs (s : State) (op : FlashOp) :
    (s.queueFlash op).regs = s.regs := rfl
@[simp] theorem State.queueFlash_latches (s : State) (op : FlashOp) :
    (s.queueFlash op).latches = s.latches := rfl
@[simp] theorem State.queueFlash_out (s : State) (op : FlashOp) :
    (s.queueFlash op).out = s.out := rfl
@[simp] theorem State.queueFlash_arr (s : State) (op : FlashOp) :
    (s.queueFlash op).arr = s.arr := rfl
@[simp] theorem State.queueFlash_beam (s : State) (op : FlashOp) :
    (s.queueFlash op).beam = s.beam := rfl
@[simp] theorem State.queueFlash_hbm (s : State) (op : FlashOp) :
    (s.queueFlash op).hbm = s.hbm := rfl
@[simp] theorem State.queueFlash_bnd (s : State) (op : FlashOp) :
    (s.queueFlash op).bnd = s.bnd := rfl
@[simp] theorem State.queueFlash_host (s : State) (op : FlashOp) :
    (s.queueFlash op).host = s.host := rfl
@[simp] theorem State.queueFlash_fw (s : State) (op : FlashOp) :
    (s.queueFlash op).fw = s.fw := rfl
@[simp] theorem State.queueFlash_weft (s : State) (op : FlashOp) :
    (s.queueFlash op).weft = s.weft := rfl
@[simp] theorem State.queueFlash_pwr (s : State) (op : FlashOp) :
    (s.queueFlash op).pwr = s.pwr := rfl
@[simp] theorem State.queueFlash_thm (s : State) (op : FlashOp) :
    (s.queueFlash op).thm = s.thm := rfl
@[simp] theorem State.queueFlash_cool (s : State) (op : FlashOp) :
    (s.queueFlash op).cool = s.cool := rfl
@[simp] theorem State.queueFlash_hzn (s : State) (op : FlashOp) :
    (s.queueFlash op).hzn = s.hzn := rfl
@[simp] theorem State.queueFlash_recoveries (s : State) (op : FlashOp) :
    (s.queueFlash op).recoveries = s.recoveries := rfl

@[simp] theorem State.pushRecord_pending (s : State) (r : Record) :
    (s.pushRecord r).pending = s.pending := rfl
@[simp] theorem State.pushRecord_us (s : State) (r : Record) :
    (s.pushRecord r).us = s.us := rfl
@[simp] theorem State.pushRecord_free (s : State) (r : Record) :
    (s.pushRecord r).free = s.free := rfl
@[simp] theorem State.pushRecord_regs (s : State) (r : Record) :
    (s.pushRecord r).regs = s.regs := rfl
@[simp] theorem State.pushRecord_latches (s : State) (r : Record) :
    (s.pushRecord r).latches = s.latches := rfl
@[simp] theorem State.pushRecord_out (s : State) (r : Record) :
    (s.pushRecord r).out = s.out := rfl
@[simp] theorem State.pushRecord_arr (s : State) (r : Record) :
    (s.pushRecord r).arr = s.arr := rfl
@[simp] theorem State.pushRecord_beam (s : State) (r : Record) :
    (s.pushRecord r).beam = s.beam := rfl
@[simp] theorem State.pushRecord_hbm (s : State) (r : Record) :
    (s.pushRecord r).hbm = s.hbm := rfl
@[simp] theorem State.pushRecord_bnd (s : State) (r : Record) :
    (s.pushRecord r).bnd = s.bnd := rfl
@[simp] theorem State.pushRecord_host (s : State) (r : Record) :
    (s.pushRecord r).host = s.host := rfl
@[simp] theorem State.pushRecord_fw (s : State) (r : Record) :
    (s.pushRecord r).fw = s.fw := rfl
@[simp] theorem State.pushRecord_weft (s : State) (r : Record) :
    (s.pushRecord r).weft = s.weft := rfl
@[simp] theorem State.pushRecord_pwr (s : State) (r : Record) :
    (s.pushRecord r).pwr = s.pwr := rfl
@[simp] theorem State.pushRecord_thm (s : State) (r : Record) :
    (s.pushRecord r).thm = s.thm := rfl
@[simp] theorem State.pushRecord_cool (s : State) (r : Record) :
    (s.pushRecord r).cool = s.cool := rfl
@[simp] theorem State.pushRecord_hzn (s : State) (r : Record) :
    (s.pushRecord r).hzn = s.hzn := rfl
@[simp] theorem State.pushRecord_recoveries (s : State) (r : Record) :
    (s.pushRecord r).recoveries = s.recoveries := rfl

@[simp] theorem State.bumpBy_pending (s : State) (f : Fld) (i n : Nat) :
    (s.bumpBy f i n).pending = s.pending := rfl
@[simp] theorem State.bumpBy_us (s : State) (f : Fld) (i n : Nat) :
    (s.bumpBy f i n).us = s.us := rfl
@[simp] theorem State.bumpBy_free (s : State) (f : Fld) (i n : Nat) :
    (s.bumpBy f i n).free = s.free := rfl
@[simp] theorem State.bumpBy_latches (s : State) (f : Fld) (i n : Nat) :
    (s.bumpBy f i n).latches = s.latches := rfl
@[simp] theorem State.bumpBy_out (s : State) (f : Fld) (i n : Nat) :
    (s.bumpBy f i n).out = s.out := rfl
@[simp] theorem State.bumpBy_arr (s : State) (f : Fld) (i n : Nat) :
    (s.bumpBy f i n).arr = s.arr := rfl
@[simp] theorem State.bumpBy_beam (s : State) (f : Fld) (i n : Nat) :
    (s.bumpBy f i n).beam = s.beam := rfl
@[simp] theorem State.bumpBy_hbm (s : State) (f : Fld) (i n : Nat) :
    (s.bumpBy f i n).hbm = s.hbm := rfl
@[simp] theorem State.bumpBy_bnd (s : State) (f : Fld) (i n : Nat) :
    (s.bumpBy f i n).bnd = s.bnd := rfl
@[simp] theorem State.bumpBy_host (s : State) (f : Fld) (i n : Nat) :
    (s.bumpBy f i n).host = s.host := rfl
@[simp] theorem State.bumpBy_fw (s : State) (f : Fld) (i n : Nat) :
    (s.bumpBy f i n).fw = s.fw := rfl
@[simp] theorem State.bumpBy_weft (s : State) (f : Fld) (i n : Nat) :
    (s.bumpBy f i n).weft = s.weft := rfl
@[simp] theorem State.bumpBy_stw (s : State) (f : Fld) (i n : Nat) :
    (s.bumpBy f i n).stw = s.stw := rfl
@[simp] theorem State.bumpBy_pwr (s : State) (f : Fld) (i n : Nat) :
    (s.bumpBy f i n).pwr = s.pwr := rfl
@[simp] theorem State.bumpBy_thm (s : State) (f : Fld) (i n : Nat) :
    (s.bumpBy f i n).thm = s.thm := rfl
@[simp] theorem State.bumpBy_cool (s : State) (f : Fld) (i n : Nat) :
    (s.bumpBy f i n).cool = s.cool := rfl
@[simp] theorem State.bumpBy_hzn (s : State) (f : Fld) (i n : Nat) :
    (s.bumpBy f i n).hzn = s.hzn := rfl
@[simp] theorem State.bumpBy_recoveries (s : State) (f : Fld) (i n : Nat) :
    (s.bumpBy f i n).recoveries = s.recoveries := rfl

@[simp] theorem State.bump_pending (s : State) (f : Fld) (i : Nat) :
    (s.bump f i).pending = s.pending := rfl
@[simp] theorem State.bump_us (s : State) (f : Fld) (i : Nat) :
    (s.bump f i).us = s.us := rfl
@[simp] theorem State.bump_free (s : State) (f : Fld) (i : Nat) :
    (s.bump f i).free = s.free := rfl
@[simp] theorem State.bump_latches (s : State) (f : Fld) (i : Nat) :
    (s.bump f i).latches = s.latches := rfl
@[simp] theorem State.bump_out (s : State) (f : Fld) (i : Nat) :
    (s.bump f i).out = s.out := rfl
@[simp] theorem State.bump_arr (s : State) (f : Fld) (i : Nat) :
    (s.bump f i).arr = s.arr := rfl
@[simp] theorem State.bump_beam (s : State) (f : Fld) (i : Nat) :
    (s.bump f i).beam = s.beam := rfl
@[simp] theorem State.bump_hbm (s : State) (f : Fld) (i : Nat) :
    (s.bump f i).hbm = s.hbm := rfl
@[simp] theorem State.bump_bnd (s : State) (f : Fld) (i : Nat) :
    (s.bump f i).bnd = s.bnd := rfl
@[simp] theorem State.bump_host (s : State) (f : Fld) (i : Nat) :
    (s.bump f i).host = s.host := rfl
@[simp] theorem State.bump_fw (s : State) (f : Fld) (i : Nat) :
    (s.bump f i).fw = s.fw := rfl
@[simp] theorem State.bump_weft (s : State) (f : Fld) (i : Nat) :
    (s.bump f i).weft = s.weft := rfl
@[simp] theorem State.bump_stw (s : State) (f : Fld) (i : Nat) :
    (s.bump f i).stw = s.stw := rfl
@[simp] theorem State.bump_pwr (s : State) (f : Fld) (i : Nat) :
    (s.bump f i).pwr = s.pwr := rfl
@[simp] theorem State.bump_thm (s : State) (f : Fld) (i : Nat) :
    (s.bump f i).thm = s.thm := rfl
@[simp] theorem State.bump_cool (s : State) (f : Fld) (i : Nat) :
    (s.bump f i).cool = s.cool := rfl
@[simp] theorem State.bump_hzn (s : State) (f : Fld) (i : Nat) :
    (s.bump f i).hzn = s.hzn := rfl
@[simp] theorem State.bump_recoveries (s : State) (f : Fld) (i : Nat) :
    (s.bump f i).recoveries = s.recoveries := rfl

@[simp] theorem State.withPending_us (s : State) (q : List Instr) :
    (s.withPending q).us = s.us := rfl
@[simp] theorem State.withPending_free (s : State) (q : List Instr) :
    (s.withPending q).free = s.free := rfl
@[simp] theorem State.withPending_regs (s : State) (q : List Instr) :
    (s.withPending q).regs = s.regs := rfl
@[simp] theorem State.withPending_latches (s : State) (q : List Instr) :
    (s.withPending q).latches = s.latches := rfl
@[simp] theorem State.withPending_out (s : State) (q : List Instr) :
    (s.withPending q).out = s.out := rfl
@[simp] theorem State.withPending_arr (s : State) (q : List Instr) :
    (s.withPending q).arr = s.arr := rfl
@[simp] theorem State.withPending_beam (s : State) (q : List Instr) :
    (s.withPending q).beam = s.beam := rfl
@[simp] theorem State.withPending_hbm (s : State) (q : List Instr) :
    (s.withPending q).hbm = s.hbm := rfl
@[simp] theorem State.withPending_bnd (s : State) (q : List Instr) :
    (s.withPending q).bnd = s.bnd := rfl
@[simp] theorem State.withPending_host (s : State) (q : List Instr) :
    (s.withPending q).host = s.host := rfl
@[simp] theorem State.withPending_fw (s : State) (q : List Instr) :
    (s.withPending q).fw = s.fw := rfl
@[simp] theorem State.withPending_weft (s : State) (q : List Instr) :
    (s.withPending q).weft = s.weft := rfl
@[simp] theorem State.withPending_stw (s : State) (q : List Instr) :
    (s.withPending q).stw = s.stw := rfl
@[simp] theorem State.withPending_pwr (s : State) (q : List Instr) :
    (s.withPending q).pwr = s.pwr := rfl
@[simp] theorem State.withPending_thm (s : State) (q : List Instr) :
    (s.withPending q).thm = s.thm := rfl
@[simp] theorem State.withPending_cool (s : State) (q : List Instr) :
    (s.withPending q).cool = s.cool := rfl
@[simp] theorem State.withPending_hzn (s : State) (q : List Instr) :
    (s.withPending q).hzn = s.hzn := rfl
@[simp] theorem State.withPending_recoveries (s : State) (q : List Instr) :
    (s.withPending q).recoveries = s.recoveries := rfl

@[simp] theorem State.idle_pending (s : State) :
    (s.idle).pending = s.pending := rfl
@[simp] theorem State.idle_free (s : State) :
    (s.idle).free = s.free := rfl
@[simp] theorem State.idle_regs (s : State) :
    (s.idle).regs = s.regs := rfl
@[simp] theorem State.idle_latches (s : State) :
    (s.idle).latches = s.latches := rfl
@[simp] theorem State.idle_out (s : State) :
    (s.idle).out = s.out := rfl
@[simp] theorem State.idle_arr (s : State) :
    (s.idle).arr = s.arr := rfl
@[simp] theorem State.idle_beam (s : State) :
    (s.idle).beam = s.beam := rfl
@[simp] theorem State.idle_hbm (s : State) :
    (s.idle).hbm = s.hbm := rfl
@[simp] theorem State.idle_bnd (s : State) :
    (s.idle).bnd = s.bnd := rfl
@[simp] theorem State.idle_host (s : State) :
    (s.idle).host = s.host := rfl
@[simp] theorem State.idle_fw (s : State) :
    (s.idle).fw = s.fw := rfl
@[simp] theorem State.idle_weft (s : State) :
    (s.idle).weft = s.weft := rfl
@[simp] theorem State.idle_stw (s : State) :
    (s.idle).stw = s.stw := rfl
@[simp] theorem State.idle_pwr (s : State) :
    (s.idle).pwr = s.pwr := rfl
@[simp] theorem State.idle_thm (s : State) :
    (s.idle).thm = s.thm := rfl
@[simp] theorem State.idle_cool (s : State) :
    (s.idle).cool = s.cool := rfl
@[simp] theorem State.idle_hzn (s : State) :
    (s.idle).hzn = s.hzn := rfl
@[simp] theorem State.idle_recoveries (s : State) :
    (s.idle).recoveries = s.recoveries := rfl

@[simp] theorem State.withPending_pending (s : State) (q : List Instr) :
    (s.withPending q).pending = q := rfl
@[simp] theorem State.idle_us (s : State) : s.idle.us = s.us + 1 := rfl
@[simp] theorem State.send_out (s : State) (o : Out) : (s.send o).out = o :: s.out := rfl

/-! ### Reading the register file -/

theorem regKey_inj_id {f g : Fld} {i j : Nat} (h : f.id ≠ g.id) : regKey f i ≠ regKey g j := by
  unfold regKey
  have := Nat.mod_lt i (show 2 ^ 20 > 0 by decide)
  have := Nat.mod_lt j (show 2 ^ 20 > 0 by decide)
  omega

theorem regKey_inj_ix {f : Fld} {i j : Nat} (hi : i < 2 ^ 20) (hj : j < 2 ^ 20) (h : i ≠ j) :
    regKey f i ≠ regKey f j := by
  unfold regKey
  rw [Nat.mod_eq_of_lt hi, Nat.mod_eq_of_lt hj]
  omega

theorem Fld.size_pos (f : Fld) : 0 < f.size := Nat.pos_of_ne_zero (by simp [Fld.size])

/-- Every field reads within its width. -/
theorem State.rd_lt (s : State) (f : Fld) (i : Nat) : s.rd f i < f.size := Nat.mod_lt _ f.size_pos

/-- A field reads what was written to it, cut to its width. -/
@[simp] theorem State.rd_wr_same (s : State) (f : Fld) (i v : Nat) :
    (s.wr f i v).rd f i = v % f.size := by
  simp [rd, wr]

/-- A write leaves every other place of the register file alone. -/
theorem State.rd_wr_key (s : State) {f g : Fld} {i j : Nat} (v : Nat) (h : regKey f i ≠ regKey g j) :
    (s.wr f i v).rd g j = s.rd g j := by
  simp [rd, wr, Tab.get_put_other _ h]

theorem State.rd_wr_id (s : State) {f g : Fld} (i j v : Nat) (h : f.id ≠ g.id) :
    (s.wr f i v).rd g j = s.rd g j := s.rd_wr_key v (regKey_inj_id h)

theorem State.rd_wr_ix (s : State) {f : Fld} {i j : Nat} (v : Nat) (hi : i < 2 ^ 20) (hj : j < 2 ^ 20)
    (h : i ≠ j) : (s.wr f i v).rd f j = s.rd f j := s.rd_wr_key v (regKey_inj_ix hi hj h)

/-- Reading depends on the register file alone. -/
theorem State.rd_congr {s t : State} (h : s.regs = t.regs) (f : Fld) (i : Nat) : s.rd f i = t.rd f i := by
  unfold State.rd; rw [h]

@[simp] theorem State.rd_send (s : State) (o : Out) (f : Fld) (i : Nat) : (s.send o).rd f i = s.rd f i := rfl
@[simp] theorem State.rd_queueFlash (s : State) (op : FlashOp) (f : Fld) (i : Nat) :
    (s.queueFlash op).rd f i = s.rd f i := rfl
@[simp] theorem State.rd_pushRecord (s : State) (r : Record) (f : Fld) (i : Nat) :
    (s.pushRecord r).rd f i = s.rd f i := rfl
@[simp] theorem State.rd_withPending (s : State) (q : List Instr) (f : Fld) (i : Nat) :
    (s.withPending q).rd f i = s.rd f i := rfl

end Sys2Proof.Machine
end

