-- ==== Sys2Proof/Laws/Memory.lean ====
section
/-! SUPPORT. Laws of the memories: a read after a write gives what was written, a write leaves every other byte
alone, every memory operation keeps the canonical form. -/

namespace Sys2Proof.Machine

/-! ### Runs of bytes -/

/-- A byte after a run of bytes is written from a base on, each with its own default. -/
theorem Tab.get_run {d : Nat → Byte} (bs : List Byte) (base k n : Nat) (m : List Host.Cell) (x : Byte) :
    Tab.get ((bs.zipIdx n).foldl (fun m e => Tab.put m (base + e.2) e.1 (d (base + e.2))) m) k x =
      if base + n ≤ k ∧ k < base + n + bs.length then
        (if bs.getD (k - (base + n)) 0 = d k then x else bs.getD (k - (base + n)) 0)
      else Tab.get m k x := by
  induction bs generalizing n m with
  | nil => simp
  | cons b bs ih =>
    simp only [List.zipIdx_cons, List.foldl_cons, ih, List.length_cons]
    by_cases h : k = base + n
    · subst h
      have h1 : ¬ (base + (n + 1) ≤ base + n ∧ base + n < base + (n + 1) + bs.length) := by omega
      simp only [h1, if_false]
      have h2 : base + n ≤ base + n ∧ base + n < base + n + (bs.length + 1) := by omega
      simp only [h2, Nat.sub_self, List.getD_cons_zero]
      unfold Tab.put
      split
      · next hb => simp [Tab.get_drop_same]
      · next hb => simp [Tab.get_insert_same]
    · rw [Tab.get_put_other _ (Ne.symm h)]
      by_cases h1 : base + (n + 1) ≤ k ∧ k < base + (n + 1) + bs.length
      · have h2 : base + n ≤ k ∧ k < base + n + (bs.length + 1) := by omega
        have h3 : k - (base + n) = (k - (base + (n + 1))) + 1 := by omega
        simp [h1, h2, h3]
      · have h2 : ¬ (base + n ≤ k ∧ k < base + n + (bs.length + 1)) := by omega
        simp [h1, h2]

/-- As `Tab.get_run`, from the base itself on. -/
theorem Tab.get_run_zero {d : Nat → Byte} (bs : List Byte) (base k : Nat) (m : List Host.Cell) :
    Tab.get (bs.zipIdx.foldl (fun m e => Tab.put m (base + e.2) e.1 (d (base + e.2))) m) k (d k) =
      if base ≤ k ∧ k < base + bs.length then bs.getD (k - base) 0 else Tab.get m k (d k) := by
  rw [Tab.get_run, Nat.add_zero]
  split
  · split
    · next hb => exact hb.symm
    · rfl
  · rfl

theorem Tab.wf_run {d : Nat → Byte} (bs : List Byte) (base n : Nat) {m : List Host.Cell}
    (h : Memory.wf d m = true) :
    Memory.wf d ((bs.zipIdx n).foldl (fun m e => Tab.put m (base + e.2) e.1 (d (base + e.2))) m) = true :=
  Tab.wfFrom_foldl _ (fun _ _ hm => Tab.wfFrom_put _ _ hm) _ h

/-! ### A read after a write -/

/-- Scratch: bytes written below 24 KiB read back, every other byte of every core reads as before. -/
theorem State.scratchByte_scratchWrite (s : State) (c c' : CoreId) (off o : Nat) (bs : List Byte)
    (ho : o < 24576) (hoff : off + bs.length ≤ 24576) :
    (s.scratchWrite c off bs).scratchByte c' o =
      if coreIx c' = coreIx c ∧ off ≤ o ∧ o < off + bs.length then bs.getD (o - off) 0
      else s.scratchByte c' o := by
  have ht : bs.take (24576 - off) = bs := List.take_of_length_le (by omega)
  unfold scratchByte scratchWrite
  simp only [ht]
  refine (Tab.get_run_zero (d := fun _ => 0) bs _ _ _).trans ?_
  by_cases h : coreIx c' = coreIx c ∧ off ≤ o ∧ o < off + bs.length
  · rw [if_pos h, if_pos (by omega)]
    congr 1
    omega
  · rw [if_neg h, if_neg (by omega)]

/-- HBM: a byte of the place written reads back, every other place as before. -/
theorem State.hbmByte_hbmWrite (s : State) (place k : Nat) (bs : List Byte) :
    (s.hbmWrite place bs).hbmByte k =
      if place ≤ k ∧ k < place + bs.length then bs.getD (k - place) 0 else s.hbmByte k := by
  exact Tab.get_run_zero bs place k s.hbm.bytes

/-- The Beam: a byte of the storage written reads back, every other byte as before. -/
theorem State.get_beamWrite (s : State) (b o k : Nat) (bs : List Byte) :
    Tab.get (s.beamWrite b o bs).beam.bytes k 0 =
      if s.storage b * 2 ^ 20 + o ≤ k ∧ k < s.storage b * 2 ^ 20 + o + bs.length then
        bs.getD (k - (s.storage b * 2 ^ 20 + o)) 0
      else Tab.get s.beam.bytes k 0 := by
  exact Tab.get_run_zero (d := fun _ => 0) bs _ k s.beam.bytes

/-- Flash: an erase reads 0xFF in its range and leaves the rest alone. -/
theorem State.flashByte_eraseFlash (s : State) (a n k : Nat) :
    (s.eraseFlash a n).flashByte k = if a ≤ k ∧ k < a + n then 0xFF else s.flashByte k := by
  unfold flashByte eraseFlash
  split
  · next h => dsimp only; exact Tab.get_clear_of_true _ _ (decide_eq_true h) _
  · next h => dsimp only; exact Tab.get_clear_of_false _ _ (decide_eq_false h) _

/-! ### What the canonical form depends on -/

/-- The memories of the device, with their poison marks. -/
def State.memories (s : State) : List (List Host.Cell) × List (SMap Bool) :=
  ([s.beam.bytes, s.hbm.bytes, s.arr.scratch, s.arr.ibuf, s.stw.flash],
    [s.beam.poison, s.hbm.poison, s.arr.scratchPoison])

/-- Operations that leave the memories alone keep their canonical form. -/
theorem State.memoriesOk_congr {s t : State} (h : t.memories = s.memories) (hs : s.memoriesOk) :
    t.memoriesOk := by
  simp only [memories, Prod.mk.injEq, List.cons.injEq, and_true] at h
  obtain ⟨⟨h1, h2, h3, h4, h5⟩, h6, h7, h8⟩ := h
  unfold memoriesOk at *
  rw [h1, h2, h3, h4, h5, h6, h7, h8]
  exact hs

@[simp] theorem State.memories_wr (s : State) (f : Fld) (i v : Nat) : (s.wr f i v).memories = s.memories := rfl
@[simp] theorem State.memories_bumpBy (s : State) (f : Fld) (i n : Nat) :
    (s.bumpBy f i n).memories = s.memories := rfl
@[simp] theorem State.memories_bump (s : State) (f : Fld) (i : Nat) : (s.bump f i).memories = s.memories := rfl
@[simp] theorem State.memories_send (s : State) (o : Out) : (s.send o).memories = s.memories := rfl
@[simp] theorem State.memories_queueFlash (s : State) (op : FlashOp) :
    (s.queueFlash op).memories = s.memories := rfl
@[simp] theorem State.memories_pushRecord (s : State) (r : Record) :
    (s.pushRecord r).memories = s.memories := rfl
@[simp] theorem State.memories_setBinding (s : State) (b : Nat) (x : Binding) :
    (s.setBinding b x).memories = s.memories := rfl
@[simp] theorem State.memories_setCtx (s : State) (c : Nat) (x : Ctx) : (s.setCtx c x).memories = s.memories := rfl
@[simp] theorem State.memories_setSpool (s : State) (k : Nat) (x : SpoolSt) :
    (s.setSpool k x).memories = s.memories := rfl
@[simp] theorem State.memories_setFrames (s : State) (fs : List Frame) :
    (s.setFrames fs).memories = s.memories := rfl
@[simp] theorem State.memories_setLease (s : State) (id : Nat) (l : Lease) :
    (s.setLease id l).memories = s.memories := rfl
@[simp] theorem State.memories_setBolt (s : State) (b : Nat) (x : Bolt) :
    (s.setBolt b x).memories = s.memories := rfl

@[simp] theorem State.memories_hostSend (s : State) (o : Out) : (s.hostSend o).memories = s.memories := by
  unfold hostSend; repeat (first | rfl | split)

@[simp] theorem State.memories_msixSend (s : State) (v : Nat) : (s.msixSend v).memories = s.memories := by
  unfold msixSend; split <;> simp

theorem State.memories_foldl {α : Type} (f : State → α → State)
    (hf : ∀ s x, (f s x).memories = s.memories) (l : List α) (s : State) :
    (l.foldl f s).memories = s.memories := by
  induction l generalizing s with
  | nil => rfl
  | cons x l ih => rw [List.foldl_cons, ih, hf]

@[simp] theorem State.memories_wrAll (s : State) (f : Fld) (is : List Nat) (v : Nat) :
    (s.wrAll f is v).memories = s.memories := 
  memories_foldl (fun s i => s.wr f i v) (fun _ _ => rfl) is s

/-! ### Every memory operation keeps the canonical form -/

theorem State.scratchWrite_memoriesOk (c : CoreId) (off : Nat) (bs : List Byte) {s : State}
    (h : s.memoriesOk) : (s.scratchWrite c off bs).memoriesOk := by
  obtain ⟨h1, h2, h3, h4, h5, h6, h7, h8⟩ := h
  exact ⟨h1, h2, h3, h4, Tab.wf_run (d := fun _ => 0) _ _ 0 h5,
    by simp only [scratchWrite]; exact Tab.wfFrom_clear _ h6, h7, h8⟩

theorem State.hbmWrite_memoriesOk (place : Nat) (bs : List Byte) {s : State} (h : s.memoriesOk) :
    (s.hbmWrite place bs).memoriesOk := by
  obtain ⟨h1, h2, h3, h4, h5, h6, h7, h8⟩ := h
  exact ⟨h1, h2, Tab.wf_run _ _ 0 h3, h4, h5, h6, h7, h8⟩

theorem State.beamWrite_memoriesOk (b o : Nat) (bs : List Byte) {s : State} (h : s.memoriesOk) :
    (s.beamWrite b o bs).memoriesOk := by
  obtain ⟨h1, h2, h3, h4, h5, h6, h7, h8⟩ := h
  exact ⟨Tab.wf_run (d := fun _ => 0) _ _ 0 h1, h2, h3, h4, h5, h6, h7, h8⟩

theorem State.setPoison_memoriesOk (b l : Nat) (v : Bool) {s : State} (h : s.memoriesOk) :
    (s.setPoison b l v).memoriesOk := by
  obtain ⟨h1, h2, h3, h4, h5, h6, h7, h8⟩ := h
  exact ⟨h1, Tab.wfFrom_put (d := fun _ => false) _ _ h2, h3, h4, h5, h6, h7, h8⟩

theorem State.setHbmPoison_memoriesOk (g a : Nat) (v : Bool) {s : State} (h : s.memoriesOk) :
    (s.setHbmPoison g a v).memoriesOk := by
  obtain ⟨h1, h2, h3, h4, h5, h6, h7, h8⟩ := h
  exact ⟨h1, h2, h3, Tab.wfFrom_put (d := fun _ => false) _ _ h4, h5, h6, h7, h8⟩

theorem State.program_memoriesOk (a : Nat) (bs : List Byte) {s : State} (h : s.memoriesOk) :
    (s.program a bs).memoriesOk := by
  obtain ⟨h1, h2, h3, h4, h5, h6, h7, h8⟩ := h
  exact ⟨h1, h2, h3, h4, h5, h6, h7,
    Tab.wfFrom_foldl (d := fun _ => 0xFF) _ (fun _ _ hm => Tab.wfFrom_put _ _ hm) _ h8⟩

theorem State.eraseFlash_memoriesOk (a n : Nat) {s : State} (h : s.memoriesOk) :
    (s.eraseFlash a n).memoriesOk := by
  obtain ⟨h1, h2, h3, h4, h5, h6, h7, h8⟩ := h
  exact ⟨h1, h2, h3, h4, h5, h6, h7, by simp only [eraseFlash]; exact Tab.wfFrom_clear _ h8⟩

theorem State.sealBank_memoriesOk (b gen : Nat) {s : State} (h : s.memoriesOk) :
    (s.sealBank b gen).memoriesOk := by
  obtain ⟨h1, h2, h3, h4, h5, h6, h7, h8⟩ := h
  refine State.program_memoriesOk _ _ (s := { s with stw := { s.stw with flash := _ } }) ?_
  exact ⟨h1, h2, h3, h4, h5, h6, h7,
    Tab.wfFrom_foldl (d := fun _ => 0xFF) _ (fun _ _ hm => Tab.wfFrom_put _ _ hm) _ h8⟩

theorem State.clearCores_memoriesOk (p : Nat → Bool) {s : State} (h : s.memoriesOk) :
    (s.clearCores p).memoriesOk := by
  obtain ⟨h1, h2, h3, h4, h5, h6, h7, h8⟩ := h
  refine ⟨h1, h2, h3, h4, ?_, ?_, ?_, h8⟩ <;> simp only [clearCores] <;> exact Tab.wfFrom_clear _ ‹_›

/-- The die without power or in reset: its memories list nothing, the flash keeps what it holds. -/
theorem State.dieLost_memoriesOk (keepWeft : Bool) {s : State} (h : s.memoriesOk) :
    (s.dieLost keepWeft).memoriesOk := by
  obtain ⟨_, _, _, _, _, _, _, h8⟩ := h
  exact ⟨rfl, rfl, rfl, rfl, rfl, rfl, rfl, h8⟩

theorem State.powerOnReset_memoriesOk {s : State} (h : s.memoriesOk) : s.powerOnReset.memoriesOk := by
  obtain ⟨_, _, _, _, _, _, _, h8⟩ := h
  exact ⟨rfl, rfl, rfl, rfl, rfl, rfl, rfl, h8⟩

end Sys2Proof.Machine
end

