-- ==== Sys2Proof/Laws/Ops.lean ====
section
/-! SUPPORT. Laws of the shared operations: what records, events, faults, the ends of frames and the loss of the
die can do to the machine. -/

namespace Sys2Proof.Machine

/-! ### Frames, composed -/

theorem SameButFields.refl (s : State) (l : List Fld) : SameButFields s s l := fun _ _ _ => rfl

theorem SameButFields.trans {s t u : State} {l : List Fld} (h : SameButFields s t l) (h' : SameButFields t u l) :
    SameButFields s u l := fun f i hf => (h' f i hf).trans (h f i hf)

theorem SameButFields.mono {s t : State} {l l' : List Fld} (h : SameButFields s t l) (hl : ∀ x ∈ l, x ∈ l') :
    SameButFields s t l' := fun f i hf => h f i fun x hx => hf x (hl x hx)

theorem SameButFields.of_regs {s t : State} (h : t.regs = s.regs) (l : List Fld) : SameButFields s t l :=
  fun f i _ => State.rd_congr h f i

theorem sameButFields_wr (s : State) (f : Fld) (i v : Nat) {l : List Fld} (h : f ∈ l) :
    SameButFields s (s.wr f i v) l := fun _ _ hg => s.rd_wr_id _ _ v (Ne.symm (hg f h))

theorem SameButFields.wr {s t : State} {l : List Fld} (h : SameButFields s t l) (f : Fld) (i v : Nat)
    (hf : f ∈ l) : SameButFields s (t.wr f i v) l := h.trans (sameButFields_wr t f i v hf)

theorem SameBut.refl (s : State) (l : List (Fld × Nat)) : SameBut s s l := fun _ _ _ => rfl

theorem SameBut.trans {s t u : State} {l : List (Fld × Nat)} (h : SameBut s t l) (h' : SameBut t u l) :
    SameBut s u l := fun f i hf => (h' f i hf).trans (h f i hf)

theorem sameBut_wr (s : State) (f : Fld) (i v : Nat) {l : List (Fld × Nat)} (h : (f, i) ∈ l) :
    SameBut s (s.wr f i v) l := fun _ _ hg => s.rd_wr_key v (Ne.symm (hg (f, i) h))

theorem SameBut.wr {s t : State} {l : List (Fld × Nat)} (h : SameBut s t l) (f : Fld) (i v : Nat)
    (hf : (f, i) ∈ l) : SameBut s (t.wr f i v) l := h.trans (sameBut_wr t f i v hf)

/-- One write changes its place only. -/
theorem onlyRegs_wr (s : State) (f : Fld) (i v : Nat) : OnlyRegs s (s.wr f i v) [(f, i)] :=
  ⟨rfl, sameBut_wr s f i v (List.mem_singleton.2 rfl)⟩

theorem SameMemories.refl (s : State) : SameMemories s s := ⟨rfl, rfl, rfl, rfl, rfl, rfl, rfl⟩

/-- A counter raised: it saturates (R131). -/
theorem State.rd_bumpBy (s : State) (f : Fld) (i n : Nat) :
    (s.bumpBy f i n).rd f i = min (s.rd f i + n) (f.size - 1) := by
  have := f.size_pos
  rw [bumpBy, rd_wr_same]
  exact Nat.mod_eq_of_lt (by omega)

/-! ### Requests to the host -/

/-- A request to the host changes nothing but what is sent out or held. -/
theorem State.hostSend_eq (s : State) (o : Out) :
    s.hostSend o = { s with out := (s.hostSend o).out, host := (s.hostSend o).host } := by
  unfold hostSend; repeat (first | rfl | split)

theorem State.msixSend_eq (s : State) (v : Nat) :
    s.msixSend v = { s with regs := (s.msixSend v).regs, out := (s.msixSend v).out, host := (s.msixSend v).host } := by
  unfold msixSend; split
  · rfl
  · rw [hostSend_eq]

theorem State.msixSend_frame (s : State) (v : Nat) : SameButFields s (s.msixSend v) [I.msixPending] := by
  unfold msixSend; split
  · exact sameButFields_wr _ _ _ _ (List.mem_singleton.2 rfl)
  · rw [hostSend_eq]; exact .of_regs rfl _

/-! ### The event recorder -/

/-- Registers that an event record writes (R505, R511). -/
def recordFields : List Fld := [F.LOG_SEQ_NEXT, I.logLostFirst, I.logLostCount, F.LOG_STATUS_LOST]

/-- A record changes the steward's queues and its own registers. -/
theorem State.record_eq (s : State) (type code : Nat) (data : List Byte) :
    let t := s.record type code data
    t = { s with regs := t.regs, stw := { s.stw with records := t.stw.records, flashOps := t.stw.flashOps } } := by
  unfold record; dsimp only; repeat (first | rfl | split)

theorem State.record_frame (s : State) (type code : Nat) (data : List Byte) :
    SameButFields s (s.record type code data) recordFields := by
  unfold record; dsimp only
  have h := sameButFields_wr s F.LOG_SEQ_NEXT 0 (s.rd F.LOG_SEQ_NEXT 0 + 1) (l := recordFields) (by decide)
  split
  · exact h.trans (.of_regs rfl _)
  · split
    · exact h.trans (.of_regs rfl _)
    · refine SameButFields.wr (SameButFields.wr ?_ _ _ _ (by decide)) _ _ _ (by decide)
      split
      · exact h.wr _ _ _ (by decide)
      · exact h

/-- Every record takes the next sequence number (R505). -/
theorem State.record_seq (s : State) (type code : Nat) (data : List Byte) :
    (s.record type code data).rd F.LOG_SEQ_NEXT 0 = (s.rd F.LOG_SEQ_NEXT 0 + 1) % 2 ^ 32 := by
  unfold record; dsimp only
  split
  · exact rd_wr_same ..
  · split
    · exact rd_wr_same ..
    · rw [bump, bumpBy, rd_wr_id _ _ _ _ (by decide), bump, bumpBy, rd_wr_id _ _ _ _ (by decide)]
      split
      · rw [rd_wr_id _ _ _ _ (by decide)]; exact rd_wr_same ..
      · exact rd_wr_same ..

@[simp] theorem State.memories_record (s : State) (type code : Nat) (data : List Byte) :
    (s.record type code data).memories = s.memories := by rw [record_eq]; rfl

/-! ### Class C faults -/

/-- Registers that a class C fault writes. -/
def classCRegs : List Fld := F.FAULT_CLASSC_COUNT :: recordFields

theorem State.classC_frame (s : State) (rule arg : Nat) : SameButFields s (s.classC rule arg) classCRegs := by
  unfold classC
  extract_lets s1 recent n w s2
  have h : SameButFields s s1 classCRegs := sameButFields_wr _ _ _ _ (by decide)
  have h2 : SameButFields s s2 classCRegs := h.trans (.of_regs (show s2.regs = s1.regs from rfl) _)
  split
  · exact h2.trans ((record_frame s2 _ _ _).mono fun x hx => List.mem_cons_of_mem _ hx)
  · exact h2

theorem State.classC_count (s : State) (rule arg : Nat) :
    (s.classC rule arg).rd F.FAULT_CLASSC_COUNT 0 =
      min (s.rd F.FAULT_CLASSC_COUNT 0 + 1) (F.FAULT_CLASSC_COUNT.size - 1) := by
  rw [← rd_bumpBy]
  unfold classC; dsimp only
  split
  · rw [record_frame _ _ _ _ F.FAULT_CLASSC_COUNT 0 (by decide)]; exact rd_congr rfl _ _
  · exact rd_congr rfl _ _

@[simp] theorem State.memories_classC (s : State) (rule arg : Nat) :
    (s.classC rule arg).memories = s.memories := by
  unfold classC; dsimp only; split
  · exact memories_record _ _ _ _
  · rfl

/-! ### Host events -/

/-- Registers that a host event writes (R270, R272-R274). -/
def eventFields : List Fld :=
  [I.evqSeq, F.HOST_EVQ_TAIL_INDEX, F.HOST_EVQ_SIZE_LOST, F.HOST_EVQ_SIZE_OVF, I.msixPending]

theorem State.loseEvent_frame (s : State) : SameButFields s s.loseEvent eventFields :=
  SameButFields.wr (sameButFields_wr _ _ _ _ (by decide)) _ _ _ (by decide)

theorem State.writeEvent_frame (s : State) (e : Event) : SameButFields s (s.writeEvent e) eventFields := by
  unfold writeEvent; dsimp only; split
  · refine SameButFields.trans (SameButFields.wr ?_ _ _ _ (by decide)) ((msixSend_frame _ _).mono (by decide))
    rw [hostSend_eq]; exact .of_regs rfl _
  · exact s.loseEvent_frame

theorem State.writeEvent_eq (s : State) (e : Event) :
    let t := s.writeEvent e
    t = { s with regs := t.regs, out := t.out, host := t.host } := by
  unfold writeEvent; dsimp only; split
  · rw [msixSend_eq, hostSend_eq]; rfl
  · rfl

theorem State.event_frame (s : State) (type : Nat) (data : List Byte) :
    SameButFields s (s.event type data) eventFields := by
  unfold event; dsimp only; split
  · have h := sameButFields_wr s I.evqSeq 0 (s.rd I.evqSeq 0 + 1) (l := eventFields) (by decide)
    split
    · exact h.trans (writeEvent_frame _ _)
    · split
      · exact h.trans (.of_regs rfl _)
      · exact h.trans (loseEvent_frame _)
  · exact .refl _ _

theorem State.event_eq (s : State) (type : Nat) (data : List Byte) :
    let t := s.event type data
    t = { s with regs := t.regs, out := t.out, host := t.host } := by
  unfold event; dsimp only; split
  · split
    · rw [writeEvent_eq]; rfl
    · split <;> rfl
  · rfl

@[simp] theorem State.memories_event (s : State) (type : Nat) (data : List Byte) :
    (s.event type data).memories = s.memories := by rw [event_eq]; rfl

theorem State.memories_ite {c : Prop} [Decidable c] {s a b : State} (ha : a.memories = s.memories)
    (hb : b.memories = s.memories) : (if c then a else b).memories = s.memories := by
  split <;> assumption

/-! ### Loss of the die, and faults -/

theorem State.cutPower_memoriesOk {s : State} (h : s.memoriesOk) : s.cutPower.memoriesOk := by
  unfold cutPower
  exact dieLost_memoriesOk _ (memoriesOk_congr (by simp) h)

theorem State.enterSafe_memoriesOk (src : Nat) {s : State} (h : s.memoriesOk) : (s.enterSafe src).memoriesOk := by
  refine memoriesOk_congr ?_ (cutPower_memoriesOk h)
  unfold enterSafe
  generalize s.cutPower = u
  dsimp only
  repeat (first
    | with_reducible refine (memories_wr _ _ _ _).trans ?_
    | with_reducible refine (memories_record _ _ _ _).trans ?_
    | with_reducible refine memories_ite ?_ ?_
    | exact Eq.refl u.memories)

/-- A fault keeps every memory canonical: class A loses the die's memories, class B changes none. -/
theorem State.fault_memoriesOk (src detail : Nat) {s : State} (h : s.memoriesOk) :
    (s.fault src detail).memoriesOk := by
  unfold fault; dsimp only
  split
  · exact h
  · have key : ∀ t : State, t.memories = s.memories →
        (if faultClass src = 1 then t.enterSafe src
         else t.event 11 (le 4 (src + 2 ^ 8 * faultClass src + 2 ^ 16 * (detail % 256) + 2 ^ 31))).memoriesOk := by
      intro t ht
      split
      · exact enterSafe_memoriesOk _ (memoriesOk_congr ht h)
      · exact memoriesOk_congr (by simpa using ht) h
    apply key
    rw [memories_record]
    repeat (first
      | with_reducible rfl
      | refine (memories_wr _ _ _ _).trans ?_
      | refine (memories_bump _ _ _).trans ?_
      | refine memories_ite ?_ ?_)

/-! ### The ends of frames -/

@[simp] theorem State.memories_addCause (s : State) (c cause : Nat) :
    (s.addCause c cause).memories = s.memories := by
  unfold addCause; repeat (first | rfl | split)

@[simp] theorem State.memories_breakDecode (s : State) (c : Nat) : (s.breakDecode c).memories = s.memories := by
  unfold breakDecode; split <;> rfl

@[simp] theorem State.memories_syncCtx (s : State) (c : Nat) : (s.syncCtx c).memories = s.memories := by
  unfold syncCtx; dsimp only; split <;> rfl

@[simp] theorem State.memories_spoolDue (s : State) (k : Nat) : (s.spoolDue k).memories = s.memories := by
  unfold spoolDue; dsimp only; split <;> simp

@[simp] theorem State.memories_spoolMessage (s : State) (k : Nat) : (s.spoolMessage k).memories = s.memories := by
  unfold spoolMessage; dsimp only; simp

@[simp] theorem State.memories_complete (s : State) (f : Frame) (status : Nat) (counts : Bool) :
    (s.complete f status counts).memories = s.memories := by
  unfold complete
  dsimp only
  refine (memories_spoolMessage _ _).trans ?_
  repeat (first
    | with_reducible rfl
    | refine (memories_wr _ _ _ _).trans ?_
    | refine (memories_setSpool _ _ _).trans ?_
    | refine (memories_hostSend _ _).trans ?_
    | refine memories_ite ?_ ?_)

theorem State.memories_flushFrom (n : Nat) (s : State) (c : Nat) :
    (State.flushFrom n s c).memories = s.memories := by
  induction n generalizing s with
  | zero => rfl
  | succ n ih =>
    unfold flushFrom
    split
    · split
      · rw [ih, memories_setFrames]
        split
        · rfl
        · exact memories_complete _ _ _ _
      · rfl
    · rfl

@[simp] theorem State.memories_flush (s : State) (c : Nat) : (s.flush c).memories = s.memories := by
  rw [flush, memories_syncCtx, memories_flushFrom]

@[simp] theorem State.memories_endFrames (s : State) (p : Frame → Bool) (status : Nat) :
    (s.endFrames p status).memories = s.memories := by
  unfold endFrames; dsimp only
  rw [memories_foldl _ fun _ _ => memories_flush _ _, memories_setFrames,
    memories_foldl _ fun _ _ => by split <;> simp]

@[simp] theorem State.memories_stopRunning (s : State) (b status : Nat) :
    (s.stopRunning b status).memories = s.memories := by
  unfold stopRunning; split
  · rfl
  · split
    · rfl
    · rw [memories_endFrames]; rfl

@[simp] theorem State.memories_abortRunning (s : State) (b : Nat) : (s.abortRunning b).memories = s.memories := by
  unfold abortRunning; split
  · rfl
  · split
    · rfl
    · rw [memories_stopRunning, memories_addCause, memories_foldl _ fun _ _ => memories_bump _ _ _]

@[simp] theorem State.memories_contextAbort (s : State) (b : BindIx) :
    (s.contextAbort b).memories = s.memories := by
  unfold contextAbort; split
  · rfl
  · split
    · rfl
    · exact memories_abortRunning s b.val

/-! ### One step -/

/-- A step runs the command in front, on the state with the rest of the queue. -/
theorem step_cons (i : Instr) (q : List Instr) (s : State) (h : s.pending = i :: q) :
    step s = exec i (s.withPending q) := by
  unfold step; rw [h]

theorem step_nil (s : State) (h : s.pending = []) : step s = .next s.idle := by
  unfold step; rw [h]

end Sys2Proof.Machine
end

