-- ==== Sys2Proof/Laws/Endings.lean ====
section
/-! SUPPORT. Laws of the operations that end contexts, bindings, owners and commands, and of the resets: what
they leave of the memories, and the frame of a class B fault. -/

namespace Sys2Proof.Machine

theorem State.foldl_memoriesOk {α : Type} (f : State → α → State)
    (hf : ∀ s x, s.memoriesOk → (f s x).memoriesOk) (l : List α) {s : State} (h : s.memoriesOk) :
    (l.foldl f s).memoriesOk := by
  induction l generalizing s with
  | nil => exact h
  | cons x l ih => exact ih (hf s x h)

/-! ### A class B fault -/

/-- Registers that the registration of a class B source writes. -/
def faultBFields (src : Nat) : List Fld :=
  [statusFld src, I.causeOn, F.FAULT_FIRST_SRC_SOURCE, F.FAULT_FIRST_SRC_CLASS, F.FAULT_FIRST_SRC_DETAIL,
    F.FAULT_FIRST_SRC_VALID, F.FAULT_OVF_OVF, F.FAULT_OVF_LATER] ++ recordFields ++ eventFields

/-- A class B source changes the collector's registers, the recorder's and the event queue's (R473-R476). -/
theorem State.fault_frame {src : Nat} (detail : Nat) (s : State) (h : faultClass src = 2) :
    SameButFields s (s.fault src detail) (faultBFields src) := by
  have hr : ∀ x ∈ recordFields, x ∈ faultBFields src := fun x hx => by simp [faultBFields, hx]
  have he : ∀ x ∈ eventFields, x ∈ faultBFields src := fun x hx => by simp [faultBFields, hx]
  have hm : ∀ x ∈ [statusFld src, I.causeOn, F.FAULT_FIRST_SRC_SOURCE, F.FAULT_FIRST_SRC_CLASS,
      F.FAULT_FIRST_SRC_DETAIL, F.FAULT_FIRST_SRC_VALID, F.FAULT_OVF_OVF, F.FAULT_OVF_LATER],
      x ∈ faultBFields src := fun x hx => List.mem_append_left _ (List.mem_append_left _ hx)
  have hv : F.FAULT_FIRST_SRC_VALID ∈ faultBFields src := hm _ (by simp)
  unfold fault
  rw [h, if_neg (by decide)]
  extract_lets first cls s1 s2 s3 s4
  have h1 : SameButFields s s1 (faultBFields src) := sameButFields_wr _ _ _ _ (hm _ (by simp))
  have h2 : SameButFields s s2 (faultBFields src) := by
    show SameButFields s (if _ then _ else _) _
    split
    · exact h1.wr _ _ _ (hm _ (by simp))
    · exact h1
  have h3 : SameButFields s s3 (faultBFields src) := by
    show SameButFields s (if _ then _ else _) _
    split
    · exact (((h2.wr _ _ _ (hm _ (by simp))).wr _ _ _ (hm _ (by simp))).wr _ _ _ (hm _ (by simp))).wr _ _ _ hv
    · exact (h2.wr _ _ _ (hm _ (by simp))).wr _ _ _ (hm _ (by simp))
  have h4 : SameButFields s s4 (faultBFields src) := h3.trans ((record_frame _ _ _ _).mono hr)
  rw [if_neg (by decide)]
  exact h4.trans ((event_frame _ _ _).mono he)

/-! ### Contexts, bindings, owners -/

@[simp] theorem State.memories_noteEnded (s : State) (c : Nat) : (s.noteEnded c).memories = s.memories := by
  unfold noteEnded; split
  · rfl
  · dsimp only; split <;> rfl

@[simp] theorem State.memories_freeCtx (s : State) (c : Nat) : (s.freeCtx c).memories = s.memories :=
  memories_noteEnded s c

@[simp] theorem State.memories_holdCtx (s : State) (c cause : Nat) : (s.holdCtx c cause).memories = s.memories := rfl

@[simp] theorem State.memories_drainLease (s : State) (id : Nat) : (s.drainLease id).memories = s.memories := by
  unfold drainLease; repeat (first | rfl | split)

@[simp] theorem State.memories_releaseBolts (s : State) (bs : List Nat) :
    (s.releaseBolts bs).memories = s.memories :=
  memories_foldl _ (fun _ _ => by split <;> rfl) bs s

@[simp] theorem State.memories_releaseBinding (s : State) (b : Nat) :
    (s.releaseBinding b).memories = s.memories := by
  unfold releaseBinding; split
  · rfl
  · extract_lets s1 cs s2 s3 s4 s5
    have h2 : s2.memories = s.memories := by simp only [s2, s1, memories_endFrames, memories_stopRunning]
    have h3 : s3.memories = s.memories := (memories_foldl _ (fun s c => memories_freeCtx s c) cs s2).trans h2
    have h4 : s4.memories = s.memories := (memories_releaseBolts _ _).trans h3
    exact (memories_foldl _ (fun s c => memories_drainLease s c) _ s4).trans h4

theorem State.partOff_memoriesOk (p state : Nat) {s : State} (h : s.memoriesOk) : (s.partOff p state).memoriesOk :=
  clearCores_memoriesOk _ (memoriesOk_congr rfl h)

theorem State.dropBinding_memoriesOk (b : Nat) {s : State} (h : s.memoriesOk) : (s.dropBinding b).memoriesOk := by
  unfold dropBinding; split
  · exact h
  · refine foldl_memoriesOk _ (fun s p hs => ?_) _ (memoriesOk_congr (memories_releaseBinding _ _) h)
    dsimp only; split
    · exact hs
    · exact partOff_memoriesOk _ _ hs

@[simp] theorem State.memories_dropBundle (s : State) (h : Nat) : (s.dropBundle h).memories = s.memories := by
  unfold dropBundle; split
  · rfl
  · exact ((memories_drainLease _ _).trans (memories_drainLease _ _))

@[simp] theorem State.memories_reapOwners (s : State) : s.reapOwners.memories = s.memories := by
  unfold reapOwners; dsimp only; split
  · split <;> rfl
  · rfl

theorem State.closeOwner_memoriesOk (o : Nat) {s : State} (h : s.memoriesOk) : (s.closeOwner o).memoriesOk := by
  unfold closeOwner
  extract_lets s1 s2 s3 s4
  have h1 : s1.memoriesOk := foldl_memoriesOk _ (fun _ _ hs => dropBinding_memoriesOk _ hs) _ h
  have h2 : s2.memoriesOk := foldl_memoriesOk _ (fun _ _ hs => memoriesOk_congr (memories_freeCtx _ _) hs) _ h1
  have h3 : s3.memoriesOk := foldl_memoriesOk _ (fun _ _ hs => by
    split
    · exact memoriesOk_congr rfl hs
    · exact hs) _ h2
  have h4 : s4.memoriesOk := foldl_memoriesOk _ (fun _ _ hs => memoriesOk_congr (memories_dropBundle _ _) hs) _ h3
  exact memoriesOk_congr (memories_reapOwners _) h4

/-! ### Commands of the window -/

theorem State.finishCmd_memoriesOk (reason : Nat) {s : State} (h : s.memoriesOk) :
    (s.finishCmd reason).memoriesOk := by
  unfold finishCmd
  dsimp only
  refine foldl_memoriesOk _ (fun _ _ hs => closeOwner_memoriesOk _ hs) _ (memoriesOk_congr ?_ h)
  exact (memories_msixSend _ _).trans rfl

theorem State.endCmd_memoriesOk (reason : Nat) {s : State} (h : s.memoriesOk) : (s.endCmd reason).memoriesOk := by
  unfold endCmd; split
  · exact finishCmd_memoriesOk _ h
  · exact h

theorem State.reapDisplaced_memoriesOk {s : State} (h : s.memoriesOk) : s.reapDisplaced.memoriesOk :=
  foldl_memoriesOk _ (fun _ _ hs => memoriesOk_congr (memories_releaseBinding _ _) hs) _ h

@[simp] theorem State.memories_moveCtx (s : State) (c target : Nat) :
    (s.moveCtx c target).memories = s.memories := by
  unfold moveCtx; split
  · dsimp only; split <;> rfl
  · rfl

theorem State.settle_memoriesOk {s : State} (h : s.memoriesOk) : s.settle.memoriesOk := by
  unfold settle; split
  · split
    · exact endCmd_memoriesOk _ (reapDisplaced_memoriesOk (memoriesOk_congr (memories_freeCtx _ _) h))
    · exact h
  · split
    · exact endCmd_memoriesOk _ (reapDisplaced_memoriesOk
        (memoriesOk_congr ((memories_syncCtx _ _).trans (memories_moveCtx _ _ _)) h))
    · exact h
  · exact h

end Sys2Proof.Machine
end

