-- ==== Sys2Proof/Tests/Slice0.lean ====
section
/-! SUPPORT. Tests of the model: an ill-formed term for each check of WellFormed, for each statement a state and
operands that meet its hypotheses, and what single commands do, with values from the manual. -/

set_option Elab.async false

namespace Sys2Proof.Machine.Tests

open Sys2Proof (WellFormed.ok)

/-! ### Small states -/

/-- Values written one after the other into the register file. -/
def ld (s : State) (l : List (Fld × Nat × Nat)) : State := l.foldl (fun s x => s.wr x.1 x.2.1 x.2.2) s

/-- The state after a command. -/
def after (c : Instr) (s : State) : State :=
  match exec c s with
  | .next t => t
  | _ => s

def z : State := State.reset

/-- The compute die is up and the host link trained as CXL. -/
def up : State := ld z [(I.dieUp, 0, 1), (F.HOST_STATUS_FW_UP, 0, 1), (I.bme, 0, 1)]

/-- A firmware that serves, a Draft in force. -/
def live : State := ld up [(F.STW_STATUS_DRAFT, 0, 1)]

def hdr0 : BundleHdr :=
  { partitions := 1, bolts := 1, stateBytes := 4096, storeBytes := 4096, width := 16, height := 16,
    layout := .nv12, codec := .hevc, tenBit := false, refPictures := 1, intakeBytes := 100000, deadline := 0,
    variants := [(100, 1000)], plan := none, spill := [], stepping := 0x11, job := none, measurement := 0 }

def bundle0 : Bundle := { owner := 1, hdr := hdr0, copy1 := 1, copy2 := 2 }

def binding0 : Binding :=
  { owner := 1, handle := 1, parts := [0], bolts := [40], leases := [3], capacity := 4, decodeUnits := 1,
    grants := [(0, 1)], weftShare := 0, spill := 0, slowdown := 0, quadrant := 0, phase := .bound }

def lease0 (g : Nat) (st : LeaseState) : Lease :=
  { group := g, owner := 1, exts := [0], slot := 0, key := 1, state := st, use := .store 1 }

def ctx0 : Ctx := { owner := 1, handle := 1, binding := 0, spool := 0, place := 0 }

def frame0 (st : Stage) : Frame :=
  { ctx := 5, spool := 0, ix := 0, opcode := 1, force := false, codec := .hevc, payloadAddr := 0x1000,
    payloadLen := 100, resultMax := 100, resultAddr := 0x2000, userTag := 7, sealSeq := 1, arrived := 0,
    stage := st }

def bnd0 : BndSt :=
  { owners := [(1, { tenantFp := 0, key := 0 })], bundles := [(1, bundle0)], bindings := [(0, binding0)],
    ctxs := [(5, ctx0)] }

/-- P0 is BOUND, its array on, context 5 open on it. -/
def bound : State :=
  { ld up [(F.PART_STATE_STATE, 0, 3), (F.PART_STATE_ARR_ON, 0, 1), (F.CTX_STATE_STATE, 5, 1),
      (F.PART_CLUSTERS_OK_CLUSTERS_OK, 0, 100)] with
    bnd := bnd0
    hbm := { leases := [(1, lease0 0 .active), (2, lease0 1 .active),
      (3, { lease0 2 .active with use := .state 0 })] } }

/-- A frame of context 5 in a stage; running: its binding runs it. -/
def framed (st : Stage) : State :=
  { bound with bnd := { bnd0 with
      frames := [frame0 st]
      bindings := [(0, { binding0 with running := if st = .running then some 5 else none })] } }

def core0 : CoreId := ⟨0, 0, 0⟩

/-! ### Ill-formed commands, one for each check -/

theorem test_wf_registers :
    [WellFormed.ok (.registerWrite .host .CMD_GO 1 0), WellFormed.ok (.selectWrite .host .CMD_GO 0),
      WellFormed.ok (.loRead .host .PART_ENERGY_HI), WellFormed.ok (.hiRead .host .PART_ENERGY_LO),
      WellFormed.ok (.bar0Write .CMD_GO 1 0), WellFormed.ok (.bar0Read .CMD_GO 1)].any id = false := by decide

def passOf (act : PassVec) (cols : List PassVec) : Instr := .matrixPass core0 ⟨.int8, 1023, act, cols⟩
def vec16 : PassVec := ⟨List.replicate 16 0, 0⟩

theorem test_wf_pass_good : WellFormed.ok (passOf vec16 [vec16]) = true := by decide

theorem test_wf_pass :
    [WellFormed.ok (passOf ⟨[], 0⟩ [vec16]), WellFormed.ok (passOf ⟨List.replicate 16 256, 0⟩ [vec16]),
      WellFormed.ok (passOf ⟨List.replicate 16 0, 256⟩ [vec16]), WellFormed.ok (passOf vec16 [⟨[], 0⟩]),
      WellFormed.ok (passOf vec16 []), WellFormed.ok (passOf vec16 [vec16, vec16])].any id = false := by decide

def words32 : List Word := List.replicate 32 0

theorem test_wf_encodes :
    [WellFormed.ok (.mxEncode core0 .e2m1 [] 0 100), WellFormed.ok (.mxEncode core0 .e4m3 words32 24545 0),
      WellFormed.ok (.mxEncode core0 .e4m3 words32 0 24576), WellFormed.ok (.dq4Encode core0 [] 0 100),
      WellFormed.ok (.dq4Encode core0 words32 24561 0), WellFormed.ok (.dq4Encode core0 words32 0 24576),
      WellFormed.ok (.ds24Writeback core0 0 0 24574)].any id = false := by decide

theorem test_wf_encodes_good :
    [WellFormed.ok (.mxEncode core0 .e2m1 words32 24560 24559), WellFormed.ok (.mxEncode core0 .e4m3 words32 24544 0),
      WellFormed.ok (.dq4Encode core0 words32 24560 0), WellFormed.ok (.ds24Writeback core0 0 0 24573)].all id = true := by
  decide

theorem test_wf_vector :
    [WellFormed.ok (.vectorConvert core0 (.toFp32 .e4m3 256) false [0] 0),
      WellFormed.ok (.vectorConvert core0 (.toFp32 .e4m3 127) false [256] 0),
      WellFormed.ok (.vectorConvert core0 .toBf16 false [0] 24575),
      WellFormed.ok (.vectorOp core0 .add false [0] [] [] 0), WellFormed.ok (.vectorOp core0 .fma false [0] [0] [] 0),
      WellFormed.ok (.vectorOp core0 (.compare .lt) false [0] [0] [] 8),
      WellFormed.ok (.vectorOp core0 .add false [0] [0] [] 24573),
      WellFormed.ok (.topK core0 1 [0] 24569), WellFormed.ok (.compaction core0 [0] [] 0),
      WellFormed.ok (.compaction core0 [0] [true] 24573)].any id = false := by decide

theorem test_wf_schedule_and_memory :
    [WellFormed.ok (.barrierArrive 0 (2 ^ 32) true), WellFormed.ok (.heavyAhead 0 0 15),
      WellFormed.ok (.heavyAhead 0 0 257), WellFormed.ok (.beamAccess ⟨.control, 2 ^ 16, 0, 0, none, .clean, none⟩),
      WellFormed.ok (.beamAccess ⟨.control, 0, 0, 0, some [], .clean, none⟩),
      WellFormed.ok (.hbmScrub 0 (640 * 2 ^ 20) ⟨0, 0, 0⟩ .clean false),
      WellFormed.ok (.cxlMemRead 32 ⟨0, 0, 0⟩ .clean), WellFormed.ok (.cxlMemWrite ⟨0, [], false⟩)].any id = false := by
  decide

def shadow0 : ShadowState :=
  { seq := 0, countdown := 0, valid := true, carried := [], accs := [], refs := [], decodeBroken := false,
    policy := 0, refreshEvery := 0, deadline := 0 }

theorem test_wf_shadow :
    [WellFormed.ok (.twinFetchReply 0 { shadow0 with countdown := 2 ^ 16 }),
      WellFormed.ok (.twinFetchReply 0 { shadow0 with accs := [(0, 2 ^ 24)] }),
      WellFormed.ok (.twinFetchReply 0 { shadow0 with refs := [(0, 2 ^ 32)] })].any id = false := by decide

theorem test_wf_bundles_and_frames :
    [WellFormed.ok (.bundleLoad 0 true ⟨true, { hdr0 with partitions := 0 }⟩),
      WellFormed.ok (.bundleLoad 0 true ⟨true, { hdr0 with width := 2 ^ 16 }⟩),
      WellFormed.ok (.sweepComplete 0 false [(0, 0), (0, 0)] 0),
      WellFormed.ok (.decodeComplete 0 (.failed 0)),
      WellFormed.ok (.decodeComplete 0 (.picture ⟨1, 1, false, .c420, false, false, [], [], []⟩ false false)),
      WellFormed.ok (.frameComplete 0 ⟨[], [], [[]], []⟩), WellFormed.ok (.frameComplete 0 ⟨[], [], [], [([], [])]⟩)].any
        id = false := by decide

def hdrJ : JobHdr := ⟨0, 0, 0, 0⟩

theorem test_wf_weft :
    [WellFormed.ok (.fecSecondCheck 0 [0]), WellFormed.ok (.routeRecompute [(0, 1024)]),
      WellFormed.ok (.jobDataMsg ⟨hdrJ, true, 0, 0, 0, []⟩), WellFormed.ok (.joinFlit ⟨hdrJ, 0, 2, 2, []⟩),
      WellFormed.ok (.joinFlit ⟨hdrJ, 0, 0, 17, []⟩), WellFormed.ok (.joinFlit ⟨hdrJ, 0, 0, 2, [64]⟩),
      WellFormed.ok (.barrierFlit hdrJ 0 16), WellFormed.ok (.frameStartFlit hdrJ 0 (2 ^ 32) 0)].any id = false := by
  decide

theorem test_wf_control :
    [WellFormed.ok (.getAttestationReport .doe 0 ⟨0, 256, 0, 0, 0, true⟩), WellFormed.ok (.closeOwner .doe 0 (2 ^ 16)),
      WellFormed.ok (.logEntry 0 0 0 []), WellFormed.ok (.presBadOpcode .host 5),
      WellFormed.ok (.hznFrameRx 0 true (List.replicate 89 0)), WellFormed.ok (.hznRegisterRequest 0 []),
      WellFormed.ok (.hznRegisterResponse 0 []), WellFormed.ok (.smbBlockWrite 256 [] .none true)].any id = false := by
  decide

theorem test_wf_power_and_faults :
    [WellFormed.ok (.breakerSample ⟨2 ^ 17, 0, 0, 0, 0, false, 0⟩), WellFormed.ok (.auxSwitchTest 0 (2 ^ 16)),
      WellFormed.ok (.railPoll (2 ^ 16) true), WellFormed.ok (.pmbAlert [⟨0, 0, .clear⟩, ⟨0, 0, .clear⟩]),
      WellFormed.ok (.vcoreRequest (2 ^ 16)), WellFormed.ok (.hbmTrained [0, 0]), WellFormed.ok (.capControl 0 []),
      WellFormed.ok (.gustStep []), WellFormed.ok (.sensorSample []), WellFormed.ok (.faultRegister 0 256),
      WellFormed.ok (.selvageFaultMsg 0 256), WellFormed.ok (.partitionMemUp 1 [639]),
      WellFormed.ok (.partitionResetComplete 0 [(0, 0), (0, 0)] 0)].any id = false := by decide

/-! ### Hypotheses of the statements are met -/

theorem test_hyp_StepRunsFrontCommand :
    (z.withPending [.roleDecide, .fwLoad]).pending = .roleDecide :: [.fwLoad] ∧ z.pending = [] := by decide +kernel

/-- Partition 15 of the selection, the last one; 16 selects none. -/
theorem test_hyp_RegisterWriteFollowsAccessCodes :
    let s := ld up [(F.PART_SEL_SEL, 0, 15)]
    let o := ld up [(F.PART_SEL_SEL, 0, 16)]
    (Reg.PART_ARITH_CTRL ∈ plainRegisters ∧ s.mayWrite .host .PART_ARITH_CTRL = true ∧
      s.regInst .host .PART_ARITH_CTRL 0 = some 15) ∧
    (∀ x ∈ (regDesc .PART_STATE).fields, x.access = .ro ∨ x.access = .rof) ∧
    s.mayWrite .horizon .PART_ARITH_CTRL = false ∧
    (isSelect .PART_ARITH_CTRL = false ∧ o.regInst .host .PART_ARITH_CTRL 0 = none) := by decide +kernel

theorem test_hyp_SelectionsAndPairReadsActForTheirPath :
    (isSelect .PART_SEL = true ∧ up.mayWrite .host .PART_SEL = true) ∧ isSelect .PART_STATE = false ∧
    (up.reaches .host .PART_ENERGY_LO = true ∧ up.on F.HOST_STATUS_FW_UP 0 = true ∧
      (regDesc .PART_ENERGY_LO).half = .pairLo) ∧
    (up.reaches .host .PART_ENERGY_HI = true ∧ (regDesc .PART_ENERGY_HI).half = .pairHi) := by decide +kernel

/-- Levels 6 and 7, on either side of the limit. -/
theorem test_hyp_CoreErrorsMarkCoresPending :
    (ld z [(I.ceLevel, 0, 6)]).rd I.ceLevel (coreIx core0) = 6 ∧
    (ld z [(I.ceLevel, 0, 7)]).rd I.ceLevel (coreIx core0) = 7 ∧
    bound.on F.PART_STATE_ARR_ON 0 = true ∧ z.on F.PART_STATE_ARR_ON 0 = false ∧
    z.bindOf 0 = none ∧
    ((coreIx core0, 127) ∈ ({ z with arr := { parity := [(0, 127)] } } : State).arr.parity) ∧
    (coreIx core0, 127) ∉ z.arr.parity := by decide +kernel

theorem test_hyp_CoreFaultsAbortFramesAndRepair :
    let s := framed .running
    let r := { bound with bnd := { bnd0 with bindings := [(0, { binding0 with phase := .repair })] } }
    (s.rd F.PART_STATE_STATE 0 ≠ 1 ∧ s.bindOf 0 = some 0 ∧ (s.binding? 0).bind Binding.running = some 5) ∧
    RecTarget.contextAbort 0 ∈ ({ s with recoveries := [.contextAbort 0] } : State).recoveries ∧
    RecTarget.contextAbort 0 ∉ s.recoveries ∧
    (r.bindOf 0 = some 0 ∧ r.binding? 0 = some { binding0 with phase := .repair } ∧
      r.bundle? 1 = some bundle0 ∧ RecTarget.contextAbort 0 ∉ r.recoveries ∧ r.rd F.PART_STATE_STATE 0 = 3) ∧
    z.rd F.PART_STATE_STATE 0 ≠ 3 ∧ (ld z [(F.PART_SEL_SEL, 2, 15)]).rd F.PART_SEL_SEL (pathIx .smbus) < 16 ∧
    16 ≤ (ld z [(F.PART_SEL_SEL, 2, 16)]).rd F.PART_SEL_SEL (pathIx .smbus) := by decide +kernel

theorem test_hyp_MatrixPassUpdatesItsAccumulators : WellFormed.ok (passOf vec16 [vec16]) = true := by decide +kernel

/-- The scale right below and right above the block; a conversion whose result the manual fixes. -/
theorem test_hyp_EncodesAndConversionsWriteScratch :
    (WellFormed.ok (.mxEncode core0 .e2m1 words32 1 0) = true ∧ (0 < 1 ∨ 1 + 16 ≤ 0)) ∧
    (WellFormed.ok (.mxEncode core0 .e4m3 words32 0 32) = true ∧ (32 < 0 ∨ 0 + 32 ≤ 32)) ∧
    (WellFormed.ok (.dq4Encode core0 words32 0 16) = true ∧ (16 < 0 ∨ 0 + 16 ≤ 16)) ∧
    WellFormed.ok (.vectorConvert core0 .toBf16 false [0] 24574) = true ∧
    ∀ u : State, u.convert .toBf16 false 0 = ({ code := 0 }, u) := by
  refine ⟨by decide +kernel, by decide +kernel, by decide +kernel, by decide +kernel, fun u => rfl⟩

theorem test_hyp_VectorOpWritesResultsOrPredicates :
    WellFormed.ok (.vectorOp core0 (.compare .lt) false [0] [0] [] 7) = true ∧
    WellFormed.ok (.vectorOp core0 .add false [0] [0] [] 24572) = true ∧
    ∀ u : State, u.vectorElem .add 0 0 0 = (0, u) := by
  refine ⟨by decide, by decide, fun u => rfl⟩

theorem test_hyp_WritebackAndSelectionsWriteScratch :
    24573 + 3 ≤ 24576 ∧ WellFormed.ok (.topK core0 256 [0] 24568) = true ∧
    WellFormed.ok (.compaction core0 [0] [true] 24572) = true := by decide +kernel

/-- NaN, infinities and zeros as the candidates of the clauses. -/
theorem test_hyp_TopKTakesTheLargest :
    fp32.decode 0x80000000 = .fin true 0 (-149) ∧ fp32.decode 0xFF800000 = .inf true ∧
    fp32.decode 0x7F800000 = .inf false ∧ (fp32.decode 0x7FC00000).isNan = true ∧
    (∃ e ∈ (ranked [0x7FC00000]).take 1, (fp32.decode e.1.toNat).isNan = true) := by decide +kernel

def job0 : Job := { ident := 1, nodes := [0, 1], self := 0, timeoutMs := 100 }

/-- P0 runs a part of a job that has formed. -/
def jobbed : State :=
  { ld bound [(F.WEFT_JOB_STATE_STATE, 0, 2)] with weft := { jobs := [(0, job0)] } }

theorem test_hyp_BarrierAndHintsOfASchedule :
    (jobbed.partBinding? 0 = some (0, binding0) ∧ jobbed.job? 0 = some job0 ∧
      jobbed.rd F.WEFT_JOB_STATE_STATE 0 = 2) ∧
    bound.on F.PART_STATE_ARR_ON 0 = true ∧ z.on F.PART_STATE_ARR_ON 0 = false ∧
    (ld z [(I.hintAt, 0, 1)]).rd I.hintAt 0 ≠ 0 := by decide +kernel

def read0 (e : Ecc) : BeamReq := ⟨.part 0, 1, 40, 16383, none, e, none⟩

/-- The last line of a bolt leased to the owner that runs on P0. -/
def beamed : State :=
  { ld bound [(F.PART_LEASE_OWNER_OWNER, 0, 1)] with
    beam := { bolts := [(40, { state := .leased, owner := 1 })] } }

theorem test_hyp_BeamAccessIsGrantedOrRefused :
    (beamed.portFenced (read0 .clean) = false ∧ beamed.beamAllowed (read0 .clean) = true ∧
      beamed.poisoned 40 16383 = false) ∧
    (beamed.portFenced { read0 .clean with write := some (List.replicate 64 1) } = false ∧
      beamed.beamAllowed { read0 .clean with write := some (List.replicate 64 1) } = true) ∧
    (bound.portFenced (read0 .clean) = false ∧ bound.beamAllowed (read0 .clean) = false) ∧
    (ld beamed [(F.PART_STATE_STATE, 0, 5)]).portFenced (read0 .clean) = true := by decide +kernel

theorem test_hyp_BankErrorsAndSparing :
    ¬ (z.on I.spareUsed 0 = true ∧ z.rd I.sparedBank 0 = 31) ∧
    (ld z [(I.spareUsed, 0, 1), (I.sparedBank, 0, 31)]).rd I.sparedBank 0 ≠ 33 ∧
    z.rd I.sparedBank 0 = 33 ∧ (ld z [(I.copyBank, 127, 32)]).rd I.copyBank 127 < 33 ∧
    33 ≤ z.rd I.copyBank 127 := by decide +kernel

def xfer0 (q : Nat) : Xfer := ⟨0, q, 256, some 5, none⟩
def queued (q : Nat) : State := { bound with hbm := { bound.hbm with xfers := [xfer0 q] } }

theorem test_hyp_HbmScrubAndBurst :
    (ld bound [(F.PART_STATE_STATE, 15, 6)]).inReset 15 = true ∧ bound.inReset 0 = false ∧
    bound.nextQueue? 0 = none ∧ (queued 18).nextQueue? 0 = some 18 := by decide +kernel

theorem test_hyp_LeasesDrainAndAreErased :
    (({ z with beam := { bolts := [(255, { state := .draining, owner := 1 })] } } : State).bolt 255).state =
      .draining ∧
    (z.bolt 255).state ≠ .draining ∧ (z.bolt 255).state ≠ .zeroing ∧
    (({ z with beam := { bolts := [(255, { state := .zeroing, owner := 1 })] } } : State).bolt 255).state = .zeroing ∧
    z.bnd.cmd = none ∧
    (({ bound with hbm := { leases := [(1, lease0 0 .draining)] } } : State).lease? 1).map Lease.state =
      some .draining ∧
    ((bound.lease? 1).map Lease.state = some .active ∧ bound.leaseHeld 1 = true) ∧
    (let s : State := { bound with bnd := { bnd0 with bundles := [(1, { bundle0 with lost1 := true })] } }
     (s.bundle? 1).map Bundle.lost1 = some true ∧ (s.bundle? 1).map Bundle.lost2 = some false) ∧
    (bound.bundle? 1).map Bundle.lost1 = (bound.bundle? 1).map Bundle.lost2 := by decide +kernel

/-- Without `APPLY`, with it while a partition is in reset, with it otherwise, at the largest size. -/
theorem test_hyp_HdmApplyResizesOrReportsError :
    (0x1FF : Word).getLsbD 16 = false ∧ (0x10200 : Word).getLsbD 16 = true ∧
    (List.range 16).any (ld z [(F.PART_STATE_STATE, 15, 5)]).inReset = true ∧
    ((List.range 16).any z.inReset || z.on I.hdmCommitted 0 ||
      !(List.range 16).all fun g => decide (512 ≤ (z.dropHdm.freeExts g).length)) = false := by decide +kernel

/-! ### The command window -/

/-- A descriptor: values at byte places. -/
def descOf (l : List (Nat × Nat)) : Unit64 := BitVec.ofNat 512 (l.map fun e => e.2 * 2 ^ (8 * e.1)).sum

/-- Owner 1, bundle 1, context field 1, sequence number 1, and what else a command needs. -/
def desc0 (l : List (Nat × Nat)) : Unit64 := descOf ([(2, 1), (4, 1), (8, 1), (18, 0xFF), (40, 1)] ++ l)

/-- The command registered waits for its descriptor. -/
def waits (s : State) : State := { s with bnd := { s.bnd with cmd := some .waiting } }

/-- As `waits`, with P0 free and nothing bound. -/
def free0 : State := waits { ld live [(F.PART_CLUSTERS_OK_CLUSTERS_OK, 0, 100), (F.PART_STATE_SWEEP_DUE, 0, 0)] with
  bnd := { bnd0 with bindings := [], ctxs := [] } }

theorem test_hyp_CommandGoRegistersOneCommand :
    (up.on F.CMD_STATUS_BUSY 0 = false ∧ up.on F.HOST_STATUS_FW_UP 0 = true) ∧
    z.on F.HOST_STATUS_FW_UP 0 = false ∧ (ld up [(F.CMD_STATUS_BUSY, 0, 1)]).on F.CMD_STATUS_BUSY 0 = true ∧
    ((ld up [(I.cmdDeferred, 0, 1)]).on I.cmdDeferred 0 = true) ∧ up.on I.cmdDeferred 0 = false := by
  (repeat' apply And.intro) <;> decide +kernel

theorem test_hyp_WindowCommandsAreCheckedFirst :
    let s := waits bound
    let d := desc0 []
    (s.on F.SEC_STATUS_DRBG_STOP 0 = false ∧ s.bnd.toClose = [] ∧ bound.ready = false) ∧ s.ready = true ∧
    (windowCommands.map fun c => c.2.1 (Desc.of (descOf [(2, 4096)]))) = List.replicate 12 false ∧
    (windowCommands.drop 1).all (fun c => c.2.1 (Desc.of d)) = true ∧
    s.authentic (Desc.of d) false = false ∧ s.authentic (Desc.of (descOf [(2, 1)])) true = false ∧
    s.authentic (Desc.of d) true = true ∧ (ld s [(I.cmdPaused, 0, 1)]).on I.cmdPaused 0 = true := by
  (try dsimp only); (repeat' apply And.intro) <;> decide +kernel

theorem test_accepted : Accepted (waits bound) (desc0 []) ∧ Accepted free0 (desc0 []) := by
  (repeat' apply And.intro) <;> decide +kernel

def full : State := { free0 with bnd := { free0.bnd with
    bundles := (List.range 1024).map fun k => (k, bundle0) } }

theorem test_hyp_no_free_handle : full.freeHandle? = none := by
  simp [State.freeHandle?, full, List.find?_eq_none]

def badPlan : DeltaPlan :=
  { ops := [], layers := [], chains := 33, regionBytes := 0, enable := true, stagger := false,
    refreshOnTakeover := false, threshScale := 16, peakFactor := 8, sceneCut := 192, refreshEvery := none }

theorem test_hyp_BundlesAreLoadedAndDropped :
    let d := desc0 [(32, 24)]
    let x := Desc.of d
    let u := accepted free0 d
    (ld z [(F.SEC_STATUS_DRBG_STOP, 0, 1)]).on F.SEC_STATUS_DRBG_STOP 0 = true ∧
    (Accepted free0 d ∧ x.ownerOk = true ∧ x.groupOk = true ∧ x.bundleOk = true) ∧
    unitField (desc0 [(32, 23)]) 32 4 < 24 ∧ 24 ≤ unitField d 32 4 ∧
    (some badPlan).any planBad = true ∧ hdr0.plan.any planBad = false ∧
    free0.freeHandle? = some 0 ∧
    u.roomIn (groupsFrom (u.emptiestGroup)) 1 = some 0 ∧
    u.roomIn ((groupsFrom (0 + 2)).filter fun k => k / 2 != 0 / 2) 1 = some 2 ∧
    free0.bundle? 1 = some bundle0 ∧ (waits { live with bnd := {} }).bundle? 1 = none ∧ bundle0.owner = x.owner ∧
    (bound.bnd.bindings.any fun y => y.2.handle == 1) = true ∧
    (free0.bnd.bindings.any fun y => y.2.handle == 1) = false := by
  (try dsimp only); (repeat' apply And.intro) <;> decide +kernel

/-- A bind of one partition with one context, at its first bolt. -/
def bind0 : Unit64 := desc0 []

theorem test_hyp_BindGrantsEverythingOrNothing :
    let x := Desc.of bind0
    let u := accepted free0 bind0
    let p := u.bindPlan x bundle0 none
    let swept := ld free0 [(F.PART_STATE_SWEEP_DUE, 0, 1)]
    let p' := (accepted swept bind0).bindPlan x bundle0 none
    (Accepted free0 bind0 ∧ x.bindOk = true) ∧ wrongCount x 1 none = false ∧
    wrongCount (Desc.of (desc0 [(6, 3)])) 1 none = true ∧
    (p.codes = [] ∧ p.parts = [0] ∧ x.flags.testBit 2 = false ∧ free0.sweepDue 0 = false) ∧
    (p'.codes = [] ∧ p'.parts = [0] ∧ swept.sweepDue 0 = true) ∧
    (u.bindPlan x { bundle0 with hdr := { hdr0 with bolts := 256 } } none).codes ≠ [] := by
  (try dsimp only); (repeat' apply And.intro) <;> decide +kernel

theorem test_hyp_SweepAndFirstInstruction :
    let s : State := { ld bound [(F.PART_STATE_STATE, 0, 1)] with
      bnd := { bnd0 with bindings := [(0, { binding0 with phase := .sweep, sweeping := [0, 1] })] } }
    let l : State := { bound with bnd := { bnd0 with bindings := [(0, { binding0 with phase := .loading })] } }
    bound.rd F.PART_STATE_STATE 0 ≠ 1 ∧
    (s.rd F.PART_STATE_STATE 0 = 1 ∧ (s.partBinding? 0).map (·.1) = some 0 ∧ s.bnd.toClose = [] ∧
      (s.binding? 0).map (fun y => y.sweeping.filter (· != 0)) = some [1]) ∧
    ((l.binding? 0).map Binding.phase = some .loading ∧
      l.mayStart 0 { binding0 with phase := .loading } = true) ∧
    bound.binding? 1 = none ∧ (bound.binding? 0).map Binding.phase = some .bound := by
  (try dsimp only); (repeat' apply And.intro) <;> decide +kernel

theorem test_hyp_UnbindAndRebind :
    let d := desc0 []
    let x := Desc.of d
    let r : State := ld (waits bound) [(F.PART_STATE_STATE, 0, 6)]
    let o : State := waits { bound with bnd := { bnd0 with bindings := [(0, { binding0 with owner := 2 })] } }
    let n : State := { bound with
      beam := { bolts := [(40, { state := .leased, owner := 1 })] }
      bnd := { bnd0 with bindings := [(0, { binding0 with phase := .unbinding })] } }
    (Accepted (waits bound) d ∧ (x.ownerOk && x.targetOk && x.flagsOk) = true ∧ (x.bindOk && x.targetOk) = true) ∧
    (waits bound).binding? 0 = some binding0 ∧ free0.binding? 0 = none ∧
    (o.binding? 0).map Binding.owner = some 2 ∧ (binding0.owner = x.owner ∧ binding0.parts.any r.inReset = true) ∧
    binding0.parts.any (waits bound).inReset = false ∧ x.mask = 0 ∧
    ((Desc.of (desc0 [(6, 2)])).mask ≠ 0 ∧ (Desc.of (desc0 [(6, 2)])).mask ≠ maskOf binding0.parts) ∧
    (Desc.of (desc0 [(6, 1)])).mask = maskOf binding0.parts ∧
    ((n.binding? 0).map Binding.phase = some .unbinding ∧ (n.binding? 0).map Binding.running = some none ∧
      binding0.parts.Nodup ∧ (∀ q ∈ binding0.parts, q < 16) ∧ (∀ c ∈ n.ctxsOn 0, c < 40960) ∧
      (∃ k ∈ binding0.bolts, (n.bolt k).state = .leased) ∧ n.bnd.toClose = []) ∧
    (∀ y, bound.binding? 0 = some y → y.phase ≠ .unbinding ∨ y.running ≠ none) := by
  refine ⟨by decide +kernel, by decide +kernel, by decide +kernel, by decide +kernel, by decide +kernel,
    by decide +kernel, by decide +kernel, by decide +kernel, by decide +kernel, by decide +kernel, ?_⟩
  intro y hy
  cases hy
  decide

/-! ### Spools, contexts, frames -/

/-- As `bound`, with spool 0 open, the owner's, rings of the smallest size. -/
def spooled : State := ld bound [(F.SPOOL_SIZE_OPEN, 0, 1), (F.SPOOL_OWNER_OWNER, 0, 1)]

theorem test_hyp_SpoolsOpenAndClose :
    let d := desc0 []
    let s := waits spooled
    (Accepted s d ∧ ((Desc.of d).ownerOk && (Desc.of d).spoolOk) = true) ∧ (Desc.of (desc0 [(12, 1023)])).spoolOk = true ∧
    s.on F.SPOOL_SIZE_OPEN 0 = true ∧ s.on F.SPOOL_SIZE_OPEN 1023 = false ∧
    s.rd F.SPOOL_OWNER_OWNER 0 = 1 ∧ (ld s [(F.SPOOL_OWNER_OWNER, 0, 2)]).rd F.SPOOL_OWNER_OWNER 0 ≠ 1 ∧
    (s.bnd.ctxs.any fun c => c.2.spool == 0 && s.rd F.CTX_STATE_STATE c.1 != 6) = true ∧
    (let u := ld s [(F.CTX_STATE_STATE, 5, 6)]
     u.bnd.ctxs.any fun c => c.2.spool == 0 && u.rd F.CTX_STATE_STATE c.1 != 6) = false := by
  (try dsimp only); (repeat' apply And.intro) <;> decide +kernel

/-- The last slot, the first, and the one that is open. -/
theorem test_hyp_ContextsOpenAndResume :
    let x := Desc.of (desc0 [(8, 40958)])
    let s := waits spooled
    let held := Desc.of (desc0 [(8, 4)])
    (Accepted s (desc0 [(8, 40958)]) ∧
      (x.ownerOk && x.ctxOk && x.targetOk && x.spoolOk && decide (x.deadline < 2 ^ 20)) = true) ∧
    s.openCodes x = [] ∧ s.openCodes held = [0x10] ∧
    s.binding? x.target = some binding0 ∧ s.ctx? 40959 = none ∧ s.ctx? 5 = some ctx0 ∧ ctx0.owner = held.owner ∧
    (let h := ld s [(F.CTX_STATE_STATE, 5, 4), (F.CTX_STATE_HOLD_CAUSE, 5, 2)]
     h.rd F.CTX_STATE_STATE 5 = 4 ∧ h.rd F.CTX_STATE_HOLD_CAUSE 5 = 2) ∧
    s.rd F.CTX_STATE_STATE 5 ≠ 4 ∧ ctx0.owner ≠ (Desc.of (desc0 [(2, 1)])).owner := by
  (try dsimp only); (repeat' apply And.intro) <;> decide +kernel

theorem test_hyp_ContextsCloseAndMove :
    let d := desc0 [(8, 4)]
    let x := Desc.of d
    let s := waits bound
    let r := waits (framed .running)
    let p : State := { s with bnd := { s.bnd with bindings := [(0, { binding0 with capacity := 1 }),
      (1, { binding0 with capacity := 1, parts := [1] })] } }
    (Accepted s d ∧ (x.ownerOk && x.ctxOk) = true ∧ x.targetOk = true ∧ x.ctx = 5 ∧ x.target = 0) ∧
    s.ctx? 5 = some ctx0 ∧ free0.ctx? 5 = none ∧ ctx0.owner = x.owner ∧ ({ ctx0 with owner := 2 }).owner ≠ x.owner ∧
    ((s.framesOf 5).any fun f => f.stage == .running) = false ∧
    ((r.framesOf 5).any fun f => f.stage == .running) = true ∧
    s.binding? 0 = some binding0 ∧ binding0.owner = x.owner ∧ ctx0.binding = x.target ∧ s.binding? 15 = none ∧
    (({ ctx0 with binding := 1 }).binding ≠ x.target ∧ p.freePlace? 0 1 = none) ∧ s.freePlace? 0 1 ≠ none ∧
    ctx0.handle = binding0.handle ∧ ctx0.handle ≠ ({ binding0 with handle := 1023 }).handle := by
  (try dsimp only); (repeat' apply And.intro) <;> decide +kernel

/-- P0's bundle has a delta plan. -/
def planned : State := { bound with bnd := { bnd0 with
  bundles := [(1, { bundle0 with hdr := { hdr0 with plan := some badPlan } })] } }

theorem test_hyp_RefreshCausesAndTwinAnswers :
    let p := ld planned [(F.CTX_SEL_SEL, 0, 5)]
    (p.rd F.CTX_SEL_SEL (pathIx .host) = 5 ∧ p.ctx? 5 = some ctx0 ∧ (p.planOf 5).isSome = true) ∧
    (bound.planOf 5).isSome = false ∧
    (let f : State := { bound with bnd := { bnd0 with ctxs := [(5, { ctx0 with fetching := true })] } }
     f.ctx? 5 = some { ctx0 with fetching := true }) ∧
    (bound.ctx? 5).map Ctx.fetching = some false ∧ isVideo ((ld bound [(F.CTX_INPUT_CODEC, 5, 2)]).codec 5) = true := by
  (try dsimp only); (repeat' apply And.intro) <;> decide +kernel

/-- A tail that moves by nothing, by the whole ring, by one more; the message of an unsent entry. -/
theorem test_hyp_DoorbellsMoveTheRings :
    let n := ringSize (spooled.rd F.SPOOL_SIZE_SQ_LOG2 0)
    z.doorbells = false ∧ spooled.doorbells = true ∧ spooled.on F.SPOOL_SIZE_OPEN 0 = true ∧
    up.on F.SPOOL_SIZE_OPEN 0 = false ∧
    (ringDist 0 0 ≤ ringDist n 0 ∧ ringDist n 0 ≤ n) ∧ ¬ (ringDist (n + 1) 0 ≤ n) ∧ ¬ (ringDist 0 1 ≤ n) ∧
    ringDist 0 (spooled.rd F.SPOOL_CQ_HEAD_INDEX 0) ≤ 0 ∧ 0 < ringDist 1 (spooled.rd F.SPOOL_CQ_HEAD_INDEX 0) ∧
    (let s : State := { spooled with bnd := { bnd0 with spools := [(0, { stalled := true, fails := 2, unsent := 1 })] } }
     let t := ld s [(F.SPOOL_IRQ_EN, 0, 1), (F.SPOOL_IRQ_TIME_US, 0, 1)]
     (s.spool 0).stalled = true ∧ s.cqRoom 0 = true ∧ (s.spool 0).fails = 2 ∧ (s.spool 0).stopped = false ∧
     t.on F.SPOOL_IRQ_EN 0 = true ∧ t.rd F.SPOOL_IRQ_TIME_US 0 ≠ 0 ∧ (t.spool 0).unsent ≠ 0) ∧
    (spooled.spool 0).stalled = false ∧ (spooled.spool 0).fails = 0 := by
  (try dsimp only); (repeat' apply And.intro) <;> decide +kernel

/-- An entry waits on spool 0. -/
def entered : State := { spooled with bnd := { bnd0 with spools := [(0, { waiting := [0] })] } }

/-- An entry of context 5 with an opcode and a payload length. -/
def entry0 (op len : Nat) : Unit64 := descOf [(0, op), (4, 5), (16, len)]

theorem test_hyp_SubmissionEntriesAreTakenInOrder :
    let f := fun op len => frameOf (entry0 op len) 0 (entered.rd F.SPOOL_HEAD_INDEX 0) 0
    let st := fun n => (ld entered [(F.CTX_STATE_STATE, 5, n)]).rd F.CTX_STATE_STATE 5
    (entered.canTake 0 = true ∧ entered.cqRoom 0 = true) ∧ spooled.canTake 0 = false ∧
    (let s := ld entered [(F.SPOOL_CQ_TAIL_INDEX, 0, ringSize (entered.rd F.SPOOL_SIZE_CQ_LOG2 0))]
     s.canTake 0 = true ∧ s.cqRoom 0 = false) ∧
    (f 3 0).opcode = 3 ∧ ((f 0 0).opcode ≠ 1 ∧ (f 0 0).opcode ≠ 2 ∧ (f 0 0).opcode ≠ 3) ∧
    ((f 1 17).opcode = 1 ∧ (f 1 17).ctx = 5 ∧ entered.ctx? 5 = some ctx0 ∧ ctx0.spool = 0) ∧
    entered.ctx? 0 = none ∧ (st 4 = 4 ∧ st 5 = 5 ∧ st 6 = 6 ∧ st 1 ≠ 4 ∧ st 1 ≠ 5 ∧ st 1 ≠ 6) ∧
    ctx0.moving = none ∧
    (let room := ((entered.hdrOf 5).map BundleHdr.intakeBytes).getD 0
     badLength (f 1 16) room = true ∧ badLength (f 1 17) room = false ∧ badLength (f 1 room) room = false ∧
     badLength (f 1 (room + 1)) room = true ∧ entered.intakeUsed 0 + room ≤ room ∧
     (let u : State := { entered with bnd := { entered.bnd with frames := [{ frame0 .ready with intake := 1 }] } }
      room < u.intakeUsed 0 + room)) := by
  (try dsimp only); (repeat' apply And.intro) <;> decide +kernel

/-- A raw picture of 16 rows of 64 bytes: its layout, its width, the bytes of its planes. -/
def raw0 (lay w n : Nat) : List Byte :=
  ([lay, 0, 0, 0, w, 0, 16, 0, 64].map (BitVec.ofNat 8)) ++ List.replicate (23 + n) 0

theorem test_hyp_PayloadsArriveAndDecode :
    let c5 : CtxIx := ⟨5, by decide⟩
    let s := framed .payload
    let d := framed .decode
    let dec := framed (.decoding 0)
    (s.firstAt c5.val (fun g => g.stage == .payload) = some (frame0 .payload) ∧ s.ctx? 5 = some ctx0 ∧
      ctx0.lastSeal < (frame0 .payload).sealSeq ∧ (frame0 .payload).opcode = 1) ∧
    ¬ (frame0 .payload).sealSeq ≤ ctx0.lastSeal ∧
    (({ s with bnd := { s.bnd with bindings := [(0, { binding0 with grants := [] })] } } : State).codecFault
      (frame0 .payload) ≠ 0 ∧ s.codecFault (frame0 .payload) = 0) ∧
    ((d.bnd.frames.any fun g => g.stage == .decoding 0) = false ∧ d.on F.PWR_INPUT_FRONT 0 = false ∧
      d.on I.admitStop 0 = false ∧ .decodeReset 0 ∉ d.recoveries ∧
      (let ws := d.waitingOn 0
       let low := ws.filter (d.belowShare 0)
       d.urgent (if low.isEmpty then ws else low) = some (frame0 .decode))) ∧
    (dec.bnd.frames.find? (fun g => g.stage == .decoding 0) = some (frame0 (.decoding 0)) ∧
      dec.hdrOf 5 = some hdr0) ∧
    tooLarge .hevc 16 16 = false ∧ tooLarge .hevc 16384 16384 = true ∧
    (let b := ld dec [(F.CTX_DECODE_BROKEN, 5, 1)]
     (isVideo (frame0 (.decoding 0)).codec && b.on F.CTX_DECODE_BROKEN 5) = true ∧
       dec.on F.CTX_DECODE_BROKEN 5 = false) ∧
    (let r : State := { bound with bnd := { bnd0 with frames := [{ frame0 .decode with opcode := 2 }] } }
     r.firstAt 5 (fun g => g.stage == .decode && g.opcode == 2) = some { frame0 .decode with opcode := 2 } ∧
       r.hdrOf 5 = some hdr0) ∧
    rawHeader [] = none ∧ rawHeader (raw0 2 16 1024) = some ⟨true, 16, 16, 64⟩ ∧
    rawHeader (raw0 1 16 1536) = some ⟨false, 16, 16, 64⟩ ∧ rawHeader (raw0 1 18 1536) = some ⟨false, 18, 16, 64⟩ ∧
    rawHeader (raw0 1 17 1536) = none ∧ (hdr0.width = 16 ∧ hdr0.layout ≠ .rgb24) ∧
    (let v := ld bound [(F.CTX_SEL_SEL, 0, 5)]
     v.rd F.CTX_SEL_SEL (pathIx .host) = 5 ∧ v.ctx? 5 = some ctx0) := by
  (try dsimp only); (repeat' apply And.intro) <;> decide +kernel

/-- A ready frame of 100 µs of age on a context with a deadline of 1 µs and the drop policy. -/
def late : State :=
  { ld (framed .ready) [(F.CTX_DEADLINE_US_DEADLINE, 5, 1), (F.CTX_SPOOL_LATE_POLICY, 5, 1)] with us := 100 }

/-- Whatever the age's tolerance: the frame is late. -/
theorem test_late_frame_is_passed_over : late.passedOver (frame0 .ready) = true := by
  have h1 : late.rd F.CTX_SPOOL_LATE_POLICY 5 = 1 := by decide +kernel
  have h2 : late.rd F.CTX_DEADLINE_US_DEADLINE 5 = 1 := by decide +kernel
  have h3 : 1 < late.age 0 := by simp only [State.age, late]; omega
  simp [State.passedOver, State.isLate, frame0, h1, h2, h3]

theorem test_hyp_FramesAreAdmittedAndCompleted :
    let r := framed .ready
    let x := framed .running
    (r.binding? 0 = some binding0 ∧ r.admits 0 binding0 = true ∧
      (r.job? 0).filter (fun j => j.self != 0) = none) ∧
    (ld r [(I.admitStop, 0, 1)]).admits 0 binding0 = false ∧
    bound.urgent (bound.readyFrames 0) = none ∧
    (r.urgent (r.readyFrames 0) = some (frame0 .ready) ∧ r.passedOver (frame0 .ready) = false) ∧
    late.urgent (late.readyFrames 0) = some (frame0 .ready) ∧
    (let j1 : Job := { job0 with self := 1 }
     let f : State := { jobbed with weft := { jobs := [(0, j1)] } }
     let g : State := { jobbed with weft := { jobs := [(0, { j1 with start := some (5, 0) })] } }
     f.admits 0 binding0 = true ∧ (f.job? 0).filter (fun j => j.self != 0) = some j1 ∧ j1.start = none ∧
     (g.job? 0).map Job.start = some (some (5, 0)) ∧ g.admits 0 binding0 = true ∧ g.ctxAdmits 5 = true ∧
     (g.ctx? 5).any (fun y => y.binding == 0) = true) ∧
    (x.binding? 0 = some { binding0 with running := some 5 } ∧
      x.firstAt 5 (fun g => g.stage == .running) = some (frame0 .running) ∧
      x.framesOf 5 = [frame0 .running] ∧ x.bnd.cmd = none ∧ (frame0 .running).follower = false ∧
      (frame0 .running).resultMax = 100) ∧ binding0.running = none := by
  (try dsimp only); (repeat' apply And.intro) <;> decide +kernel

/-! ### Weft links, jobs, twins -/

/-- Link 0 in a state; node 0. -/
def link (n : Nat) : State := ld up [(F.WEFT_LINK_STATE_STATE, 0, n)]

theorem test_hyp_LinksTrainAndSpareALane :
    let k : State := { ld (link 1) [(I.identOk, 0, 1)] with weft := { pairKeys := [(0, 1)] } }
    let b := ld (link 3) [(F.WEFT_LINK_STATE_BAD_LANE, 0, 3)]
    let limit := (link 2).cfgIn cfgLaneSwapCe 100 100000
    ((link 0).weftOn = true ∧ (link 0).rd F.WEFT_LINK_STATE_STATE 0 = 0) ∧ z.weftOn = false ∧
    ((link 1).rd F.WEFT_LINK_STATE_STATE 0 = 1 ∧ expectNode (link 1).node 0 = 7 ∧ expectNode 15 9 = 14 ∧
      (link 1).rd F.WEFT_CFG_CONFIG 0 < 4) ∧
    (k.on I.identOk 0 = true ∧ (k.weft.pairKeys.any fun e => e.1 == 0) = true ∧ (link 1).on I.identOk 0 = false) ∧
    ((link 2).linkUp 0 = true ∧ (link 3).linkUp 0 = true ∧ (link 1).linkUp 0 = false ∧ (link 4).linkUp 0 = false) ∧
    (link 2).rd F.WEFT_LINK_STATE_STATE 0 = 2 ∧
    (b.rd F.WEFT_LINK_STATE_STATE 0 = 3 ∧ b.rd F.WEFT_LINK_STATE_BAD_LANE 0 = 3) ∧
    (∀ i < 5, ¬ limit < [limit, limit, limit, limit].getD i 0) ∧
    (limit < [limit + 1].getD 0 0 ∧ ∀ i < 4, i ≠ 0 → ¬ limit < [limit + 1].getD i 0) ∧
    (link 2).rd I.laneOver 0 < 2 ∧ 2 ≤ (ld b [(I.laneOver, 0, 2)]).rd I.laneOver 0 := by
  (try dsimp only); (repeat' apply And.intro) <;> decide +kernel

/-- A flit kept for replay on link 0; routes to node 2 over link 1 and, back over the same link, to node 3. -/
def kept0 : State :=
  { ld (link 2) [(F.WEFT_ROUTE_DATA_VALID, 2, 1), (F.WEFT_ROUTE_DATA_LINK, 2, 1), (F.WEFT_ROUTE_DATA_VALID, 3, 1),
      (F.WEFT_ROUTE_DATA_LINK, 3, 0)] with weft := { replay := [(0, 5, .flit 0 "JOIN" [])] } }

theorem test_hyp_FlitsAreReplayedAndRelayed :
    (kept0.linkUp 0 = true ∧ (link 0).linkUp 0 = false) ∧
    ((freeUpTo 0 5 kept0.weft.replay).filter fun e => e.1 == 0) = [] ∧
    ((freeUpTo 0 4 kept0.weft.replay).filter fun e => e.1 == 0) ≠ [] ∧
    (ld kept0 [(I.retries, 0, 16)]).rd I.retries 0 = 16 ∧ kept0.rd I.retries 0 ≠ 16 ∧
    kept0.node = 0 ∧ kept0.hopTo 1 = none ∧ kept0.hopTo 3 = some 0 ∧ kept0.hopTo 2 = some 1 := by
  (repeat' apply And.intro) <;> decide +kernel

/-- The wiring table of R222. -/
theorem test_wiring_table : (List.range 8).map (fun slot => (List.range 7).map (partner slot)) =
    [[7, 1, 2, 3, 4, 5, 6], [6, 0, 7, 2, 3, 4, 5], [5, 6, 0, 1, 7, 3, 4], [4, 5, 6, 0, 1, 2, 7],
     [3, 7, 5, 6, 0, 1, 2], [2, 3, 4, 7, 6, 0, 1], [1, 2, 3, 4, 5, 7, 0], [0, 4, 1, 5, 2, 6, 3]] := by decide

theorem test_hyp_RouteTableFollowsTheWiring :
    (z.node < 16 ∧ ∀ k < 10, z.linkUp k = false) ∧ directLink 0 1 = some 1 ∧ (ld up [(F.WEFT_LINK_STATE_STATE, 1, 2)]).linkUp 1 = true ∧
    (ld up [(F.WEFT_LINK_STATE_STATE, 8, 2)]).linkUp 8 = true ∧
    (ld up [(F.WEFT_LINK_STATE_STATE, 8, 2)]).linkUp 7 = false := by
  (repeat' apply And.intro) <;> decide +kernel

/-- A job of packages 0 and 1 whose handle is 1, in a state, its second participant joined. -/
def joined (n : Nat) : State :=
  { ld jobbed [(F.WEFT_JOB_STATE_STATE, 0, n), (F.WEFT_JOB_STATE_HANDLE, 0, 1)] with
    weft := { jobs := [(0, { job0 with joins := [(1, 0, [0])] })] } }

def hdr1 (job epoch : Nat) : JobHdr := ⟨⟨1, by decide⟩, BitVec.ofNat 12 job, BitVec.ofNat 4 epoch, 0⟩

theorem test_hyp_JobsFormRunAndBreak :
    let j : Job := { job0 with joins := [(1, 0, [0])] }
    let s := joined 2
    let b : State := { joined 1 with bnd := { bnd0 with cmd := some (.bind 0) } }
    let m : JobMsg := ⟨hdr1 1 0, true, ⟨0, by decide⟩, ⟨40, by decide⟩, ⟨16383, by decide⟩, [1]⟩
    (s.jobBinding? (hdr1 1 0).job.toNat = some 0 ∧ s.job? 0 = some j ∧ s.jobBinding? (hdr1 2 0).job.toNat = none) ∧
    (b.rd F.WEFT_JOB_STATE_STATE 0 = 1 ∧ b.bnd.cmd = some (.bind 0) ∧ b.bnd.toClose = [] ∧ b.job? 0 = some j) ∧
    (j.nodes.length = 2 ∧ 1 ∈ j.others ∧ 0 ∉ j.others) ∧ laterEpoch 1 0 = true ∧ laterEpoch 9 0 = false ∧
    s.binding? 0 = some binding0 ∧ s.rd F.WEFT_JOB_STATE_STATE 0 = 2 ∧
    (joined 3).rd F.WEFT_JOB_STATE_STATE 0 = 3 ∧
    s.current 0 j (hdr1 1 0) = true ∧ s.current 0 j (hdr1 1 1) = false ∧ j.arrived = none ∧
    (m.tagOk = true ∧ s.current 0 j m.hdr = true ∧ m.bolt.val ∈ binding0.bolts ∧ (s.bolt 40).state ≠ .leased) ∧
    (({ s with beam := beamed.beam } : State).bolt 40).state = .leased ∧
    (let a := { j with arrived := some 3, tokens := [] }
     (∀ p ∈ a.others, (3, p) ∈ a.tokens ++ [(3, 1)]) ∧ ∃ p ∈ a.others, (3, p) ∉ a.tokens ++ [(2, 1)]) := by
  (try dsimp only); (repeat' apply And.intro) <;> decide +kernel

/-- Context 5 selected, the twin of node 0 reached over W7, configuration 3. -/
def twinned : State :=
  ld bound [(F.CTX_SEL_SEL, 0, 5), (F.WEFT_CFG_CONFIG, 0, 3), (F.WEFT_ROUTE_DATA_VALID, 8, 1),
    (F.WEFT_ROUTE_DATA_LINK, 8, 7), (F.WEFT_LINK_STATE_STATE, 7, 2)]

theorem test_hyp_ShadowingStartsAndFollows :
    let s := twinned
    let p := ld s [(F.CTX_SHADOW_EN, 5, 1), (F.CTX_SHADOW_ROLE, 5, 1), (F.CTX_SHADOW_ACK_PENDING, 5, 1),
      (F.CTX_SHADOW_STATUS_STATE, 5, 3)]
    (s.rd F.CTX_SEL_SEL (pathIx .host) = 5 ∧ s.rd F.CTX_STATE_STATE 5 ≠ 0 ∧ s.rd F.CTX_STATE_STATE 5 ≠ 6 ∧
      s.rd F.CTX_SHADOW_ROLE 5 = 0) ∧ p.rd F.CTX_SHADOW_ROLE 5 ≠ 0 ∧
    (s.rd F.WEFT_CFG_CONFIG 0 = 3 ∧ bound.rd F.WEFT_CFG_CONFIG 0 ≠ 3) ∧
    (s.hopTo (s.node ^^^ 8) ≠ none ∧ (ld s [(F.WEFT_ROUTE_DATA_VALID, 8, 0)]).hopTo 8 = none) ∧
    (s.rd F.WEFT_BIND_INDEX_BINDING (pathIx .host) = 0 ∧ s.binding? 0 = some binding0 ∧
      (let o := ld s [(F.SPOOL_SIZE_OPEN, 0, 1), (F.SPOOL_OWNER_OWNER, 0, 1)]
       o.on F.SPOOL_SIZE_OPEN 0 = true ∧ o.rd F.SPOOL_OWNER_OWNER 0 = binding0.owner) ∧
      s.on F.SPOOL_SIZE_OPEN 0 = false ∧ z.binding? 0 = none) ∧
    (let a := ld s [(F.CTX_SHADOW_EN, 5, 1)]
     a.on F.CTX_SHADOW_EN 5 = true ∧ a.rd F.CTX_SHADOW_ROLE 5 = 0) ∧ s.on F.CTX_SHADOW_EN 5 = false ∧
    (p.on F.CTX_SHADOW_ACK_PENDING 5 = true ∧ (0 : BitVec 32).toNat = p.rd F.CTX_DELTA_SEQ_SEQ 5 ∧
      s.on F.CTX_SHADOW_ACK_PENDING 5 = false) ∧
    (p.rd F.CTX_SHADOW_STATUS_STATE 5 = 3 ∧ p.rd F.CTX_SHADOW_ROLE 5 = 1 ∧ p.hopTo (p.node ^^^ 8) ≠ none ∧
      p.rd F.CTX_STATE_STATE 5 ≠ 3) := by
  (try dsimp only); (repeat' apply And.intro) <;> decide +kernel

def tensors0 : ShadowState :=
  ⟨1, 0, true, [], [], [], false, 0, 0, 0⟩

theorem test_hyp_TwinsHoldAndTakeOver :
    let s := ld twinned [(F.WEFT_ACCEPT_EN, 0, 1)]
    let f : State := { s with bnd := { s.bnd with bindings := [(0, { binding0 with capacity := 1 })] } }
    let c : State := { twinned with weft := { copies := [(5, { node := 8, primary := 0, binding := 0 })] } }
    let d : State := { c with weft := { copies := [(5, { node := 8, primary := 0, binding := 0, committed := some tensors0 })] } }
    (s.rd F.WEFT_CFG_CONFIG 0 = 3 ∧ bound.rd F.WEFT_CFG_CONFIG 0 ≠ 3 ∧ s.accepting 0 0 = [0] ∧ s.accepting 1 0 = []) ∧
    (f.accepting 0 0 = [0] ∧ f.freePlace? 0 2 = none) ∧
    ((s.accepting 0 0).find? (fun i => (s.freePlace? i 2).isSome) = some 0 ∧ (s.freePlace? 0 2).isSome = true ∧
      s.binding? 0 = some binding0) ∧
    (s.copy? 5 = none ∧ c.copy? 5 = some { node := 8, primary := 0, binding := 0 }) ∧
    ((c.ctxGroups 5).any c.inReset = false ∧ (c.ctxGroups 5 = [2] ∧ (ld c [(F.PART_STATE_STATE, 2, 6)]).inReset 2 = true)) ∧
    (d.copy? 5).bind Copy.committed = some tensors0 ∧ (c.copy? 5).bind Copy.committed = none ∧
    c.ctx? 5 = some ctx0 ∧ (∀ e ∈ c.weft.copies, e.2.node = 8) := by
  (try dsimp only); (repeat' apply And.intro) <;> decide +kernel

theorem test_hyp_free_ctx_slot : z.freeCtxSlot? = some 0 := by
  have h : z.bnd.ctxs = [] := rfl
  simp [State.freeCtxSlot?, h, List.find?_range_eq_some]

/-! ### The host -/

theorem test_hyp_HostLinkCarriesResetsAndEvents :
    let d := ld up [(F.HOST_LINK_MODE, 0, 2)]
    (z.on I.dieUp 0 = false ∧ up.on I.dieUp 0 = true) ∧
    (d.rd F.HOST_LINK_MODE 0 = 2 ∧ up.rd F.HOST_LINK_MODE 0 = 0 ∧ d.on I.bme 0 = true ∧
      (ld d [(I.bme, 0, 0)]).on I.bme 0 = false) ∧
    (d.rd I.pcieOnly 0 = 0 ∧ (ld d [(I.pcieOnly, 0, 1)]).rd I.pcieOnly 0 = 1) ∧
    (¬ NoChipReset d ∧ NoChipReset z ∧ NoChipReset (ld up [(I.chipStep, 0, 1)])) ∧
    (0x100 : Word).getLsbD 8 = true ∧
    (let e := ld up [(F.HOST_EVQ_TAIL_INDEX, 0, 1)]
     e.hostReach = true ∧ ringDist 1 0 ≤ ringDist (e.rd F.HOST_EVQ_TAIL_INDEX 0) 0 ∧
       ringDist (e.rd F.HOST_EVQ_TAIL_INDEX 0) 0 < ringDist 2 0 ∧ z.hostReach = false) := by
  (try dsimp only); (repeat' apply And.intro) <;> decide +kernel

/-- As `up`, writes waiting in the queue. -/
def writes (l : List (Reg × Nat × Word)) : State := { up with host := { up.host with writeQueue := l } }

theorem test_hyp_HostWindowIsQueuedAndServed :
    let w := writes [(.PART_ARITH_CTRL, 0, 1)]
    let n := ld w [(F.HOST_STATUS_FW_UP, 0, 0)]
    let g : State := { ld (writes [(.CMD_GO, 0, 1)]) [(I.cmdDeferred, 0, 2)] with bnd := { cmd := some .waiting } }
    (up.reaches .host .PART_ARITH_CTRL = true ∧ z.reaches .host .PART_ARITH_CTRL = false) ∧
    256 ≤ (writes (List.replicate 256 (.PART_ARITH_CTRL, 0, 1))).host.writeQueue.length ∧
    (writes (List.replicate 255 (.PART_ARITH_CTRL, 0, 1))).host.writeQueue.length < 256 ∧
    (up.reaches .host .CMD_GO = true ∧ up.on F.CMD_STATUS_BUSY 0 = false ∧
      (ld up [(F.CMD_STATUS_BUSY, 0, 1)]).on F.CMD_STATUS_BUSY 0 = true ∧ (1 : Word).getLsbD 0 = true) ∧
    (hwHeld .PART_ARITH_CTRL = false ∧ n.on F.HOST_STATUS_FW_UP 0 = false ∧ w.on F.HOST_STATUS_FW_UP 0 = true ∧
      hwHeld .FW_STATE = true) ∧
    (g.host.pendingReads = [] ∧ g.bnd.cmd = some .waiting ∧ g.rd I.cmdDeferred 0 = 2 ∧
      (ld g [(I.cmdDeferred, 0, 1)]).rd I.cmdDeferred 0 = 1) ∧
    (up.hostReach = true ∧ z.hostReach = false ∧ up.host.writeQueue = [] ∧
      (regDesc .PART_ARITH_CTRL).half = .plain) ∧
    ({ up.host with pendingReads := [(.PART_ARITH_CTRL, 0, 1)] } : HostSt).pendingReads ≠ [] ∧
    ((waits up).ready = true ∧ (waits up).bnd.toClose = [] ∧ up.ready = false) ∧
    (entered.canTake 0 = true ∧ up.canTake 0 = false) ∧
    (up.fw.reading = none ∧ ({ up.fw with reading := some false } : FwSt).reading ≠ none) := by
  (try dsimp only); (repeat' apply And.intro) <;> decide +kernel

/-- A committed window of 16 GiB with one lease, in group 0. -/
def windowed : State :=
  { ld up [(F.HDM_CFG_CUR_GIB, 0, 16), (I.hdmCommitted, 0, 1)] with
    hbm := { leases := [(1, { lease0 0 .active with owner := 0, use := .hdm })] } }

theorem test_hyp_HostReachesTheHdmWindow :
    (windowed.on I.dieUp 0 = true ∧ windowed.rd F.HOST_LINK_MODE 0 = 0 ∧ windowed.hdmBytes = 2 ^ 34) ∧
    (2 ^ 34 - 64 < windowed.hdmBytes ∧ windowed.hdmLine (2 ^ 34 - 64) = none ∧ windowed.hdmBytes ≤ 2 ^ 34) ∧
    (windowed.hdmLine 0 = some (0, 0, 1) ∧ windowed.hdmLine (65536 + 4095) = some (0, 8128, 1)) ∧
    (windowed.inReset 0 = false ∧ (ld windowed [(F.PART_STATE_STATE, 0, 5)]).inReset 0 = true) ∧
    (Tab.get windowed.hbm.poison 0 false = false ∧
      Tab.get ({ windowed.hbm with poison := [(0, true)] } : HbmSt).poison 0 false = true) ∧
    (windowed.rd F.HOST_BIAS_INDEX_UNIT (pathIx .host) < 16 * windowed.rd F.HDM_CFG_CUR_GIB 0 ∧
      16 * up.rd F.HDM_CFG_CUR_GIB 0 ≤ up.rd F.HOST_BIAS_INDEX_UNIT (pathIx .host)) ∧
    (let u : State := { up with host := { up.host with doeUndo := some (up.us, 1, none) } }
     u.host.doeUndo = some (u.us, 1, none)) ∧ up.host.doeUndo = none := by
  (try dsimp only); (repeat' apply And.intro) <;> decide +kernel

/-! ### Messages, firmware, presence -/

theorem test_hyp_MessagesAreAnsweredAndOwnersOpen :
    let s : State := { ld up [(F.SEC_STATUS_BOOT_KEY, 0, 1)] with bnd := bnd0 }
    let r : ReportReq := ⟨0, 1, 1, 0, 1, true⟩
    let o : OwnerReq := ⟨true, 7, 9⟩
    (AnsweredNow s .doe ∧ AnsweredNow z .smbus ∧ AnsweredNow z .horizon ∧ z.on I.dieUp 0 = false) ∧
    ({ s.host with doeHeld := some (0, .getIdentity) } : HostSt).doeHeld ≠ none ∧
    (s.host.doeHeld = none ∧ s.host.doeClose = none ∧
      (ld s [(F.HOST_STATUS_FW_UP, 0, 0)]).on F.HOST_STATUS_FW_UP 0 = false) ∧
    ((ld s [(F.SEC_STATUS_ID_FAIL, 0, 1)]).idOk = false ∧ s.idOk = true) ∧
    (doeOnly (.openOwner o) = true ∧ doeOnly (.closeOwner 1) = true ∧ doeOnly (.getReport r) = true ∧
      doeOnly .getIdentity = false) ∧
    (s.reportAuth r = true ∧ s.reportAuth { r with seq := 0 } = false ∧ (s.owner? 1).isSome = true) ∧
    (o.sigOk = true ∧ s.on F.SEC_STATUS_BOOT_KEY 0 = true ∧ up.on F.SEC_STATUS_BOOT_KEY 0 = false ∧
      s.freeOwner? = some 2) ∧
    (s.owner? 2 = none ∧ s.bnd.cmd = none ∧ (waits s).bnd.cmd ≠ none ∧
      (s.bnd.owners.countP fun e => e.1 == 1) = 1) ∧
    (ld s [(F.SEC_STATUS_DRBG_STOP, 0, 1)]).on F.SEC_STATUS_DRBG_STOP 0 = true ∧ ¬ NoChipReset s ∧
    s.on F.SEC_STATUS_DRBG_STOP 0 = false := by
  (try dsimp only); (repeat' apply And.intro) <;> decide +kernel

def allOwned : State := { up with bnd := { owners := (List.range 4095).map fun k => (k + 1, { tenantFp := 0, key := 0 }) } }

theorem test_hyp_no_free_owner : allOwned.freeOwner? = none := by
  simp [State.freeOwner?, allOwned]

def image0 : FwImage :=
  { magicFormatOk := true, stepping := 0x11, version := 1, secVersion := 0, ledgerWrites := 1,
    ledgerReadsMin := 1, bodyLen := 64, vendorSigOk := true, ownerSigOk := false, measurement := 0 }

/-- The firmware in a state of `FW_STATE`. -/
def fwIn (n : Nat) : State := ld up [(F.FW_STATE_STATE, 0, n)]

theorem test_hyp_FirmwareLoadsUpdatesAndRestarts :
    let longest := ld (fwIn 0) [(F.FW_LOAD_LEN_LEN, 0, 2097152)]
    let tooLong := ld (fwIn 0) [(F.FW_LOAD_LEN_LEN, 0, 2097153)]
    let pend := ld (fwIn 3) [(F.FW_RESULT_ACT_PENDING, 0, 1)]
    let taken : State := { ld (fwIn 5) [(F.FW_RESULT_RESIDENT, 0, 0)] with
      fw := { handed := true, half0 := some (1, 4), slotB := some image0 } }
    (∀ n < 7, (fwIn n).rd F.FW_STATE_STATE 0 = n) ∧
    (¬ 2097152 < longest.rd F.FW_LOAD_LEN_LEN 0 ∧ 2097152 < tooLong.rd F.FW_LOAD_LEN_LEN 0) ∧
    (pend.on F.FW_RESULT_ACT_PENDING 0 = true ∧ (fwIn 3).on F.FW_RESULT_ACT_PENDING 0 = false ∧
      pend.on F.CMD_STATUS_BUSY 0 = false ∧ pend.updateBlocked = false) ∧
    (taken.ledgerReadable taken.otherImage = true ∧
      ({ taken with fw := { taken.fw with half0 := some (2, 4) } } : State).ledgerReadable (some image0) = false) ∧
    (FwRuns (fwIn 2) ∧ FwRuns (fwIn 5) ∧ ¬ FwRuns (fwIn 1) ∧ ¬ FwRuns (fwIn 6)) ∧
    (let c : State := { fwIn 3 with fw := { crashes := [0, 0, 0] }, us := 60000000 }
     c.fw.crashes.countP (fun u => c.within u 60000001) = 3 ∧ ¬ NoChipReset c ∧
       ({ c with us := 60000001 } : State).within 0 60000001 = false) ∧
    (up.imageFault image0 384 = 0 ∧ up.imageFault image0 385 = 6 ∧
      up.imageFault { image0 with stepping := 0x12 } 384 = 3) ∧
    (let g : State := { fwIn 4 with bnd := { cmd := some (.ended 255) } }
     g.rd F.FW_STATE_STATE 0 = 4 ∧ g.bnd.cmd = some (.ended 255) ∧ g.bnd.toClose = [] ∧ g.host.doeHeld = none ∧
       g.on I.cmdDeferred 0 = false) ∧
    (let l := ld (fwIn 3) [(F.FW_LOG_SIZE_EN, 0, 1)]
     l.on F.FW_LOG_SIZE_EN 0 = true ∧ ringDist 15 0 < ringSize (l.rd F.FW_LOG_SIZE_LOG2 0) ∧
       ¬ ringDist 16 0 < ringSize (l.rd F.FW_LOG_SIZE_LOG2 0)) := by
  (try dsimp only); (repeat' apply And.intro) <;> decide +kernel

/-- A presence command armed on SMBus, waiting for the press. -/
def armed (op : Nat) : State :=
  { ld z [(F.PRES_STATUS_STATE, 0, 1)] with stw := { armed := some { op := op, path := .smbus, data := [], at' := 0 } } }

theorem test_hyp_PresenceArmsPressesAndWrites :
    let j := ld live [(F.PRES_GRANT_JMP_GRANT, 0, 1)]
    let b (t : State) : State := { t with stw := { t.stw with draft := [⟨7, [1, 1, 0, 0]⟩] } }
    let p : State := { ld (armed 2) [(F.PRES_STATUS_STATE, 0, 2)] with
      stw := { (armed 2).stw with flashOps := [.presence] } }
    (z.canArm .host = false ∧ z.canArm .smbus = true ∧ up.canArm .host = true) ∧
    ((armed 5).presBusy = true ∧ (ld z [(F.PRES_STATUS_STATE, 0, 2)]).presBusy = true ∧ MayArm live .host) ∧
    (Granted j F.PRES_GRANT_JMP_GRANT ∧ ¬ Granted live F.PRES_GRANT_JMP_GRANT ∧ j.bare = false ∧ z.bare = true ∧
      Granted (ld live [(F.PRES_GRANT_SEAL_GRANT, 0, 1)]) F.PRES_GRANT_SEAL_GRANT) ∧
    numAt (toArm live .host 2).data 57 7 = 0 ∧ j.rd F.DRAFT_CTRL_STATE 0 ≠ 3 ∧
    (let w := ld j ((F.DRAFT_CTRL_STATE, 0, 3) :: (List.range 16).map fun k => (F.PRES_DATA_DATA, pathIx .host * 16 + k, 2 ^ 32 - 1))
     w.rd F.DRAFT_CTRL_STATE 0 = 3 ∧ ofLe (toArm w .host 4).data = (w.bank w.otherBank).digest) ∧
    PressCounts (b (armed 5)) { op := 5, path := .smbus, data := [], at' := 0 } ∧
    PressCounts (b (armed 2)) { op := 2, path := .smbus, data := [], at' := 0 } ∧ (z.stw.armed = none) ∧
    (p.stw.flashOps = .presence :: [] ∧ p.rd F.PRES_STATUS_STATE 0 = 2 ∧ p.stw.armed.isSome = true) ∧
    (z.stw.flashOps.head? ≠ some .presence) ∧
    ((ld z [(F.PRES_GRANT_SEAL_READY, 0, 1)]).on F.PRES_GRANT_SEAL_READY 0 = true ∧ z.on F.PRES_GRANT_SEAL_READY 0 = false) ∧
    (z.hasFn 8 0 = true ∧ z.hasFn 9 0 = true ∧ live.hasFn 8 0 = false) := by
  (try dsimp only); (repeat' apply And.intro) <;> decide +kernel

/-! ### A flash with a Draft -/

theorem length_le (n x : Nat) : (le n x).length = n := by
  induction n generalizing x with
  | zero => rfl
  | succ n ih => simp [le, ih]

theorem ofLe_le (n x : Nat) : ofLe (le n x) = x % 2 ^ (8 * n) := by
  induction n generalizing x with
  | zero => simp [le, ofLe, Nat.mod_one]
  | succ n ih =>
    simp only [le, ofLe, ih]
    rw [show 8 * (n + 1) = 8 + 8 * n by omega, Nat.pow_add, Nat.mod_mul]
    simp

theorem get_cells (l : List Byte) (m : List Host.Cell) (n a : Nat) (d : Byte) (h : n ≤ a) (h2 : a < n + l.length) :
    Tab.get ((l.zipIdx n).map (fun e => (e.2, e.1)) ++ m) a d = l.getD (a - n) d := by
  induction l generalizing n with
  | nil => simp at h2; omega
  | cons b l ih =>
    simp only [List.length_cons] at h2
    simp only [List.zipIdx_cons, List.map_cons, List.cons_append, Tab.get]
    by_cases e : n = a
    · simp [e]
    · rw [if_neg e, ih (n + 1) (by omega) (by omega), show a - n = (a - (n + 1)) + 1 by omega]; rfl

theorem read_back (l : List Byte) (d : Byte) (a n : Nat) (h : a + n ≤ l.length) :
    (List.range n).map (fun k => l.getD (a + k) d) = (l.drop a).take n := by
  apply List.ext_getElem
  · simp; omega
  · intro i h1 h2
    simp at h1
    simp [List.getD_eq_getElem?_getD, List.getElem?_eq_getElem (show a + i < l.length by omega)]

/-- The first 16 bytes of a bank's header: the magic, the format, one record, the record area's length,
generation 1. -/
def bankHead : List Byte := le 4 0x5A445231 ++ (le 2 1 ++ (le 2 1 ++ (le 4 44 ++ le 4 1)))

/-- A record 0x01: configuration 0, one package, side 0, any slot. -/
def bankArea : List Byte := [1, 1, 40, 0] ++ ([0, 1, 0, 0xFF] ++ List.replicate 36 0)

def bankHash : Nat := (Config.shake256 (bankHead.take 12 ++ bankArea)).toNat

def bankBytes : List Byte :=
  bankHead ++ (le 64 bankHash ++ (le 47 0 ++ ([0xA5] ++ bankArea)))

/-- Power-on reset with a committed Draft in bank A, and more bytes of the flash. -/
def drafted (m : List Host.Cell) : State :=
  { z with stw := { z.stw with flash := (bankBytes.zipIdx 0).map (fun e => (e.2, e.1)) ++ m } }

theorem length_bankBytes : bankBytes.length = 172 := by simp [bankBytes, bankHead, bankArea, length_le]

def bankHeader : List Byte := bankHead ++ (le 64 bankHash ++ (le 47 0 ++ [0xA5]))

theorem bankBytes_eq : bankBytes = bankHeader ++ bankArea := by simp [bankBytes, bankHeader]

theorem length_bankHeader : bankHeader.length = 128 := by simp [bankHeader, bankHead, length_le]

theorem numAt_head (k n : Nat) (l : List Byte) (h : k + n ≤ 16) : numAt (bankHead ++ l) k n = numAt bankHead k n := by
  have hl : bankHead.length = 16 := rfl
  simp only [numAt]
  rw [List.drop_append_of_le_length (by omega), List.take_append_of_le_length (by simp [hl]; omega)]

/-- A state whose flash holds bank A as `drafted` does. -/
def HasBank (s : State) : Prop := ∃ m, s.stw.flash = (bankBytes.zipIdx 0).map (fun e => (e.2, e.1)) ++ m

theorem HasBank.bytes {s : State} (hs : HasBank s) (a n : Nat) (h : a + n ≤ 172) :
    s.flashBytes a n = (bankBytes.drop a).take n := by
  obtain ⟨m, hm⟩ := hs
  rw [← read_back _ 0xFF _ _ (by rw [length_bankBytes]; exact h)]
  simp only [State.flashBytes, State.flashByte, hm]
  apply List.map_congr_left
  intro k hk
  rw [get_cells _ _ _ _ _ (by omega) (by rw [length_bankBytes]; simp at hk; omega)]
  rfl

/-- The bank read back, whatever the digest function. -/
theorem HasBank.bank {s : State} (hs : HasBank s) : s.bank 0 = { header := bankHeader, area := bankArea } := by
  have h : s.flashBytes (bankBase 0) 128 = bankHeader := by
    rw [show bankBase 0 = 0 from rfl, hs.bytes _ _ (by decide), bankBytes_eq, List.drop_zero]
    exact List.take_left' length_bankHeader
  have hn : numAt bankHeader 8 4 = 44 := by
    rw [bankHeader, numAt_head _ _ _ (by decide)]; decide
  have hb : s.flashBytes (bankBase 0 + 128) 44 = bankArea := by
    rw [show bankBase 0 + 128 = 128 from rfl, hs.bytes _ _ (by decide), bankBytes_eq,
      List.drop_left' length_bankHeader, List.take_of_length_le (by decide)]
  rw [State.bank, h, hn, show min 130944 44 = 44 from rfl, hb]

theorem bankHash_lt : bankHash < 2 ^ (8 * 64) := (Config.shake256 (bankHead.take 12 ++ bankArea)).isLt

theorem HasBank.digest {s : State} (hs : HasBank s) : (s.bank 0).digest = (s.bank 0).hash := by
  have hl : bankHead.length = 16 := rfl
  have hd : numAt bankHeader 16 64 = bankHash := by
    rw [bankHeader, numAt, List.drop_left' hl, List.take_left' (length_le _ _), ofLe_le]
    exact Nat.mod_eq_of_lt bankHash_lt
  rw [hs.bank, Bank.digest, hd]
  have hc : Bank.count ⟨bankHeader, bankArea⟩ = 1 := by
    rw [Bank.count, bankHeader, numAt_head _ _ _ (by decide)]; decide
  have ht : bankHeader.take 12 = bankHead.take 12 := by
    rw [bankHeader, List.take_append_of_le_length (by omega)]
  simp only [Bank.hash, hc, ht]
  rfl

theorem HasBank.sound {s : State} (hs : HasBank s) : (s.bank 0).sound = true ∧ (s.bank 0).usable = true := by
  have h : (s.bank 0).sound = true := by
    unfold Bank.sound
    rw [hs.digest, beq_self_eq_true, hs.bank]
    decide +kernel
  refine ⟨h, ?_⟩
  rw [Bank.usable, h, hs.bank]
  decide +kernel

theorem HasBank.drafted (m : List Host.Cell) : HasBank (drafted m) := ⟨m, rfl⟩

theorem test_hyp_a_draft_comes_into_force :
    (drafted []).rd F.STW_STATUS_DRAFT 0 = 0 ∧ (drafted []).on I.porHeld 0 = false ∧
    (drafted []).chosenBank = some 0 ∧ ((drafted []).bank 0).checked 7 = true ∧ z.chosenBank = none := by
  have hs := HasBank.drafted []
  have ho : ((drafted []).bank 1).usable = false := by decide +kernel
  refine ⟨by decide +kernel, by decide +kernel, ?_, ?_, by decide +kernel⟩
  · simp [State.chosenBank, hs.sound, ho]
  · rw [hs.bank]; decide +kernel

/-- A record 0x08 of 4 bytes in bank B. -/
def ownerCells : List Host.Cell :=
  [(6, 1), (7, 0), (8, 8), (9, 0), (10, 0), (11, 0), (128, 8), (129, 1), (130, 4), (131, 0), (132, 1), (133, 2), (134, 3), (135, 4)].map
    fun e => (0x20000 + e.1, e.2)

/-- An empty bank B. -/
def emptyCells : List Host.Cell := [(0x20006, 0), (0x20007, 0), (0x20008, 8), (0x20009, 0), (0x2000A, 0), (0x2000B, 0)]

/-- A record of a registered write queued, and an erased retirement entry in bank A. -/
def logging : State :=
  { ld z [(I.draftBank, 0, 0)] with stw := { z.stw with
      flash := [(128, 0x0A), (129, 1), (130, 20), (131, 0), (132, 1), (133, 0), (134, 0), (135, 0)]
      flashOps := [.retirement]
      retireQueue := [.core 0 0 0] } }

theorem test_hyp_StewardStartsAndKeepsItsLog :
    let rec1 : State := { z with stw := { z.stw with flashOps := [.record], records := [⟨1, 1, 1, 0, 0, 0, []⟩] } }
    let full : State := { logging with stw := { logging.stw with flash := [] } }
    ((ld z [(I.crystal, 0, 1)]).on I.crystal 0 = true ∧ z.on I.crystal 0 = false ∧ z.bare = true ∧ live.bare = false) ∧
    (live.rd F.STW_STATUS_DRAFT 0 ≠ 0 ∧ z.rd F.STW_STATUS_DRAFT 0 = 0) ∧
    (z.stw.flashOps = [] ∧ z.stw.flashOps.head? ≠ some .retirement ∧ z.stw.flashOps.head? ≠ some .record) ∧
    (IsErased z (ckptAt 511) 16 ∧ (511 ≠ 0 ∧ 511 ≠ 256)) ∧
    (rec1.stw.flashOps = .record :: [] ∧ rec1.stw.records.length = 1 ∧ 0 < rec1.circSize ∧ rec1.circSize ≤ 2 ^ 20 ∧
      IsErased rec1 (circAt 63) 64) ∧
    (logging.stw.flashOps = .retirement :: [] ∧ logging.erasedEntry? logging.bankInUse = some 136 ∧
      logging.on I.nextBank 0 = false) ∧
    (full.erasedEntry? full.bankInUse = none ∧ full.stw.overflow.length < 256) ∧
    (z.rd F.DRAFT_CTRL_STATE 0 ≠ 1 ∧ (ld z [(F.DRAFT_CTRL_STATE, 0, 1)]).rd F.DRAFT_CTRL_STATE 0 = 1) := by
  (try dsimp only); (repeat' apply And.intro) <;> decide +kernel

/-- Bank B in use, bank A staged over SMBus: its state, the Draft in force and more bytes of the flash. -/
def staged (st draft : Nat) (recs : List DraftRec) (m : List Host.Cell) : State :=
  let s := drafted m
  ld { s with stw := { s.stw with draft := recs } }
    [(F.DRAFT_CTRL_STATE, 0, st), (F.DRAFT_CTRL_PATH, 0, pathCode .smbus), (F.STW_STATUS_DRAFT, 0, draft), (I.draftBank, 0, 1)]

theorem test_hyp_a_sound_bank_is_staged (st draft : Nat) (recs : List DraftRec) (m : List Host.Cell) (slot : Nat)
    (h : slot < 8) : ((staged st draft recs m).bank 0).sound = true ∧ ((staged st draft recs m).bank 0).checked slot = true := by
  have hs : HasBank (staged st draft recs m) := ⟨m, rfl⟩
  refine ⟨hs.sound.1, ?_⟩
  rw [hs.bank]
  revert slot
  decide +kernel

/-- A record 0x07 that protects nothing more. -/
def unprotected : List DraftRec := [⟨7, [1, 1, 0, 0]⟩]

theorem test_hyp_DraftsAreStagedAndSmbusServed :
    let s := staged 2 2 unprotected emptyCells
    let o := staged 2 2 unprotected ownerCells
    let u : State := ld z [(F.DRAFT_CTRL_STATE, 0, 2), (F.DRAFT_CTRL_PATH, 0, pathCode .smbus)]
    (z.mayStage .smbus = true ∧ z.mayStage .horizon = false ∧ z.rd F.DRAFT_CTRL_STATE 0 = 0 ∧
      z.rd F.STW_STATUS_BARE_CAUSE 0 ≠ 1 ∧ (ld z [(F.STW_STATUS_BARE_CAUSE, 0, 1)]).rd F.STW_STATUS_BARE_CAUSE 0 = 1) ∧
    (Stages s .smbus 2 ∧ s.otherBank = 0 ∧ s.rd F.DRAFT_STG_ADDR_ADDR 0 / 4 * 4 < 0x20000 ∧ ¬ Stages s .host 2) ∧
    ((ld s [(F.DRAFT_STG_ADDR_ADDR, 0, 124)]).rd F.DRAFT_STG_ADDR_ADDR 0 = 124) ∧
    ((u.bank u.otherBank).sound = false ∧ (staged 2 3 [] []).bare = true ∧ s.bare = false) ∧
    (bodyOf (o.bank 1).draft 8 = some [1, 2, 3, 4] ∧ o.bankInUse = 1) ∧ (s.bank 1).draft = [] ∧
    (Stages (staged 1 2 [] []) .smbus 1 ∧ Stages (staged 3 2 [] []) .smbus 3) ∧
    (({ staged 4 2 [] [] with stw := { flashOps := [.commit] } } : State).rd F.DRAFT_CTRL_STATE 0 = 4) ∧
    (live.smbServes = true ∧ z.smbServes = false ∧ live.smbPacketOk .good true = true ∧ live.smbPacketOk .bad true = false) ∧
    (4 ≤ 32 ∧ 32 ≤ 32 ∧ 32 % 4 = 0 ∧ locate 0xC00 ≠ none ∧ locate 0xBFFC = none) := by
  (try dsimp only); (repeat' apply And.intro) <;> decide +kernel

/-- Records that both banks hold alike or that nobody protects do not ask for presence; others do. -/
theorem test_hyp_protected_records :
    let s := staged 2 2 unprotected emptyCells
    let w := staged 2 2 [] emptyCells
    bodyOf (s.bank 0).draft 8 = bodyOf (s.bank 1).draft 8 ∧ bodyOf (s.bank 0).draft 0x0E = bodyOf (s.bank 1).draft 0x0E ∧
    bodyOf ((staged 2 2 unprotected ownerCells).bank 0).draft 8 = none ∧
    s.protectedDiffer (s.bank 0).draft (s.bank 1).draft = false ∧
    w.protectedDiffer (w.bank 0).draft (w.bank 1).draft = true := by
  intro s w
  have h1 : HasBank s := ⟨_, rfl⟩
  have h2 : HasBank w := ⟨_, rfl⟩
  have h3 : HasBank (staged 2 2 unprotected ownerCells) := ⟨_, rfl⟩
  rw [h1.bank, h2.bank, h3.bank]
  exact ⟨by decide +kernel, by decide +kernel, by decide +kernel, by decide +kernel, by decide +kernel⟩

/-! ### Power -/

/-- The channel in a state of `HSW_STATE` at a step, the gate driven as given, VIN in its window. -/
def chan (st step gate : Nat) : State :=
  ld z [(F.HSW_STATE_STATE, 0, st), (F.PWR_SEQ_STEP, 0, step), (I.gate, 0, gate), (F.PWR_INPUT_WINDOW, 0, 1),
    (F.PWR_VCH_DATA_MV, 0, 50000), (F.PWR_VCH_DATA_MV, 1, 47500)]

/-- A sample of VIN, VOUT, gate drive and current. -/
def volts0 (vin vout vgs ma : Nat) : BreakerIn := ⟨vin, vout, vgs, 3300, ma, false, 0⟩

/-- VIN at the limits of its window, and beyond; a FET at its limit; the values where each clause begins. -/
theorem test_hyp_BreakerSampleGovernsTheInput :
    let s := chan 3 6 2
    let win (vin : Nat) (s : State) : Bool := (s.readSample (volts0 vin 0 0 0)).windowNow vin
    let u (x : BreakerIn) (s : State) : State := (s.readSample x).sampleFet.sampleWindow
    let hot : State := { s with pwr := { s.pwr with fetRise := 100 } }
    (win 42000 s = true ∧ win 41999 s = false ∧ win 60000 s = true ∧ win 60001 s = false ∧
      win 45999 (ld s [(F.PWR_INPUT_WINDOW, 0, 0)]) = false ∧ win 46000 (ld s [(F.PWR_INPUT_WINDOW, 0, 0)]) = true) ∧
    (s.inWindow = true ∧ s.rd I.gate 0 ≠ 0 ∧ (u (volts0 41999 0 0 0) s).inWindow = false) ∧
    ((u (volts0 50000 50000 9000 0) hot).rd I.gate 0 ≠ 0 ∧ (u (volts0 50000 50000 9000 0) hot).fetHot = true ∧
      (u (volts0 50000 50000 9000 0) s).fetHot = false) ∧
    (z.rd F.HSW_STATE_STATE 0 = 0 ∧ z.rd I.gate 0 = 0 ∧ (ld z [(F.PWR_SEQ_STEP, 0, 1)]).rd F.PWR_SEQ_STEP 0 = 1) ∧
    (let i := u (volts0 50000 47500 8000 0) (chan 1 3 1)
     i.rd F.HSW_STATE_STATE 0 = 1 ∧ i.nearInput = true ∧ i.vch 11 = 8000 ∧
       (u (volts0 50000 47499 8000 0) (chan 1 3 1)).nearInput = false) ∧
    (z.bands[0]? = some (42000, 2000000) ∧ z.bands[4]? = none) ∧
    (let p := u (volts0 50000 49000 8000 0) (chan 3 4 2)
     p.on F.HSW_STATE_PG 0 = false ∧ p.rd F.PWR_SEQ_STEP 0 = 4 ∧ p.vch 0 ≤ p.vch 1 + 1000) ∧
    (let g := u (volts0 50000 50000 9000 0) (ld (chan 3 5 2) [(F.HSW_STATE_PG, 0, 1), (I.railNow, 0, 7)])
     g.on F.HSW_STATE_PG 0 = true ∧ g.rd F.HSW_STATE_STATE 0 = 3 ∧ g.rd F.PWR_SEQ_STEP 0 = 5 ∧ g.rd I.railNow 0 = 7 ∧
       g.railsOff = true) := by
  (try dsimp only); (repeat' apply And.intro) <;> decide +kernel

theorem test_hyp_MainChannelStartsTripsAndLatches :
    let b := ld (chan 4 7 0) [(F.HSW_STATE_LAST_TRIP, 0, 1)]
    let due := ld (chan 3 6 2) [(I.bandTimer, 4, 2000)]
    let l := ld (chan 5 8 0) [(F.FAULT_ESC_SAFE, 0, 1), (F.FAULT_STATUS0_CLASS_A, 0, 16)]
    ((chan 0 2 0).rd F.PWR_SEQ_STEP 0 = 2 ∧ (chan 0 2 0).inWindow = true ∧ z.inWindow = false) ∧
    ((chan 1 3 1).rd F.HSW_STATE_STATE 0 = 1 ∧ (chan 1 3 1).nearInput = true ∧
      (ld (chan 1 3 1) [(F.PWR_VCH_DATA_MV, 1, 47499)]).nearInput = false) ∧
    ((chan 2 4 2).rd F.HSW_STATE_STATE 0 = 2 ∧ (chan 2 4 2).rd I.gate 0 ≠ 0 ∧ z.rd I.gate 0 = 0) ∧
    (due.bandDue = some 4 ∧ due.rd I.gate 0 ≠ 0 ∧ (ld due [(I.bandTimer, 4, 1999)]).bandDue = none) ∧
    (b.rd F.HSW_STATE_STATE 0 = 4 ∧ b.rd F.PWR_SEQ_STEP 0 = 7 ∧ b.fetCool = true ∧
      (ld b [(F.HSW_STATE_LAST_TRIP, 0, 5)]).fetCool = true ∧
      ({ ld b [(F.HSW_STATE_LAST_TRIP, 0, 5)] with pwr := { b.pwr with fetRise := 50 } } : State).fetCool = false ∧
      (chan 4 9 0).rd F.PWR_SEQ_STEP 0 ≠ 7) ∧
    (l.rd F.HSW_STATE_STATE 0 = 5 ∧ l.on F.FAULT_ESC_SAFE 0 = true ∧
      clearBit (l.rd F.FAULT_STATUS0_CLASS_A 0) 4 = 0 ∧
      (ld l [(F.FAULT_STATUS0_CLASS_A, 0, 0x2010)]).statusBit 13 = true ∧ (chan 6 8 0).rd F.HSW_STATE_STATE 0 = 6) ∧
    ((ld z [(F.HSW_STATE_PG, 0, 1)]).on F.HSW_STATE_PG 0 = true ∧ z.on F.HSW_STATE_PG 0 = false) ∧
    ((ld z [(I.auxRunAt, 7, 1)]).rd I.auxRunAt 7 ≠ 0 ∧ z.on I.auxDamaged 7 = false) ∧
    (let f := ld z [(F.PWR_INPUT_FRONT, 0, 1), (I.frontQuiet, 0, 1)]
     f.on F.PWR_INPUT_FRONT 0 = true ∧ f.on F.PWR_INPUT_FRONT_OWN 0 = false ∧ f.on I.frontQuiet 0 = true ∧
       z.on F.PWR_INPUT_FRONT 0 = false) := by
  (try dsimp only); (repeat' apply And.intro) <;> decide +kernel

/-- All rails good at step 6. -/
def railed : State :=
  ld (chan 3 6 2) ((List.range 7).flatMap fun r => [(F.PWR_RAIL_DATA_EN, r, 1), (F.PWR_RAIL_DATA_STATE, r, 2)])

/-- A rail being enabled at step 5. -/
def railAt (r st : Nat) : State := ld (chan 3 5 2) [(I.railNow, 0, r), (F.PWR_RAIL_DATA_STATE, r, st)]

theorem test_hyp_RailsComeUpFailAndGoDown :
    ((railAt 5 1).rd I.railNow 0 = 5 ∧ (railAt 5 1).rd F.PWR_RAIL_DATA_STATE 5 = 1 ∧ RailsRun (railAt 5 1) ∧
      95 * railNominal 5 ≤ 100 * 713 ∧ ¬ 95 * railNominal 5 ≤ 100 * 712 ∧ 100 * 787 ≤ 105 * railNominal 5 ∧
      ¬ 100 * 788 ≤ 105 * railNominal 5) ∧
    ((railAt 5 2).rd F.PWR_RAIL_DATA_STATE 5 = 2 ∧ (railAt 6 1).rd I.railNow 0 = 6 ∧ ¬ RailsRun z) ∧
    ((chan 3 11 2).rd F.PWR_SEQ_STEP 0 = 11 ∧ (ld z [(I.railDown, 0, 7)]).rd I.railDown 0 = 7 ∧
      z.rd I.railDown 0 = 0) ∧
    ((chan 3 10 2).rd F.PWR_SEQ_STEP 0 = 10 ∧ (chan 3 10 2).rd I.gate 0 ≠ 0 ∧ (chan 0 10 0).rd I.gate 0 = 0 ∧
      (chan 0 10 0).inWindow = true) ∧
    (railed.railsGood = true ∧ RailsRun railed ∧ z.railsGood = false ∧ railed.on F.PWR_RAIL_DATA_EN 6 = true ∧
      z.on F.PWR_RAIL_DATA_EN 6 = false) ∧
    (up.on I.dieUp 0 = true ∧ up.rd I.vcoreNow 0 = 0 ∧ (ld up [(I.vcoreNow, 0, 800)]).rd I.vcoreNow 0 ≠ 0 ∧
      up.pwr.voutWaiting = none) := by
  (repeat' apply And.intro) <;> decide +kernel

theorem test_hyp_ComputeDieEntersAndLeavesReset :
    (let r := ld railed [(F.PWR_SEQ_STEP, 0, 5)]
     r.rd F.PWR_SEQ_STEP 0 = 5 ∧ r.railsGood = true ∧ r.rd I.chipStep 0 ≠ 2) ∧
    (ld z [(I.chipStep, 0, 2)]).rd I.chipStep 0 = 2 ∧ (ld up [(I.chipStep, 0, 1)]).rd I.chipStep 0 = 1 ∧
    z.rd I.chipStep 0 ≠ 1 ∧
    (up.on I.dieUp 0 = true ∧ up.on F.HBM_GRP_STATE_TRAINED 0 = false) ∧
    (ld up [(F.HBM_GRP_STATE_TRAINED, 0, 1)]).on F.HBM_GRP_STATE_TRAINED 0 = true := by
  (try dsimp only); (repeat' apply And.intro) <;> decide +kernel

theorem test_hyp_CapsBudgetsAndGustsAreKept :
    (up.on I.dieUp 0 = true ∧ z.on I.dieUp 0 = false ∧ bound.on F.PART_STATE_ARR_ON 0 = true ∧
      z.on F.PART_STATE_ARR_ON 0 = false) ∧
    ((ld bound [(I.capThr, 0, 89)]).rd I.capThr 0 < 90 ∧ 90 ≤ (ld bound [(I.capThr, 0, 90)]).rd I.capThr 0 ∧
      (ld bound [(I.capIssue, 0, 255)]).rd I.capIssue 0 < 256 ∧ 256 ≤ bound.rd I.capIssue 0) ∧
    ((bound.us, bound.arraysOn) = (0, [0])) ∧
    (96 ≤ z.rd F.PWR_CORR_CORR 0 ∧ z.rd F.PWR_CORR_CORR 0 ≤ 160) := by
  (repeat' apply And.intro) <;> decide +kernel

/-- Whatever the estimate: it is above a budget of 0, or no energy was used. -/
theorem test_hyp_over_budget (e : Nat) (h : 0 < e) : 1000 * (ld bound [(I.budget, 0, 0)]).rd I.budget 0 < 256 * e := by
  have hb : (ld bound [(I.budget, 0, 0)]).rd I.budget 0 = 0 := by decide +kernel
  omega

/-! ### Horizon, sensors, cooling, faults, resets -/

/-- Node 0 with a Draft in force; node 1 in its turn. -/
def hzn : State := { live with stw := { live.stw with draft := [⟨1, [3, 16, 0, 0]⟩] } }

def frame1 (src : Nat) : List Byte := hznFrame src 0 (List.replicate 40 0) []

theorem test_hyp_HorizonFramesAreSentAndTaken :
    let s := hzn
    let other : State := { s with us := 30000, hzn := { nodes := [(0, { hb := [1], at' := 0 })] } }
    let r := ld s [(I.rqWaiting, 0, 1)]
    (s.isOpener = true ∧ (ld other [(F.STW_STATUS_NODE, 0, 1)]).isOpener = false ∧
      (ld { other with us := 30001 } [(F.STW_STATUS_NODE, 0, 1)]).isOpener = true) ∧
    (s.transmits = true ∧ z.transmits = false ∧ r.on I.rqWaiting 0 = true ∧ s.on I.rqWaiting 0 = false) ∧
    (s.listens = true ∧ z.listens = false ∧ s.on I.quarantine 1 = false ∧ (ld s [(I.quarantine, 1, 1)]).on I.quarantine 1 = true) ∧
    (frameOk (frame1 1) = true ∧ numAt (frame1 1) 1 1 % 16 = 1 ∧ s.rd F.STW_STATUS_NODE 0 = 0 ∧
      frameOk ((frame1 1).set 5 1) = false ∧ numAt (frame1 0) 1 1 % 16 = 0) ∧
    (hbEligible (List.replicate 40 0) = false ∧ numAt ((frame1 1).drop 4) 0 1 % 4 = 0) ∧
    (let l := hznFrame 1 0 (1 :: List.replicate 39 0) []
     frameOk l = true ∧ numAt (l.drop 4) 0 1 % 4 = 1) ∧
    (s.rd F.STW_STATUS_DRAFT 0 ≠ 0 ∧ z.rd F.STW_STATUS_DRAFT 0 = 0) ∧
    (let v : State := { s with hzn := { viol := List.replicate 7 (1, 0) }, us := 10000000 }
     (v.hzn.viol.filter fun v' => v.within v'.2 10000001).countP (fun v => v.1 == 1) = 7) := by
  (try dsimp only); (repeat' apply And.intro) <;> decide +kernel

/-- No partition of the state after reset is throttled. -/
theorem test_hyp_no_throttle (p : Nat) : z.rd F.PART_THROTTLE_PCT p ≤ 100 := by
  have h : z.rd F.PART_THROTTLE_PCT p = 0 := rfl
  omega

theorem test_hyp_HorizonRegisterRequestsAreServed :
    let s := ld hzn [(F.HZN_RQ_STATUS_STATE, 0, 1), (F.HZN_RQ_CTRL_NODE, 0, 1), (I.rqIdent, 0, 5)]
    let rq (op addr count : Nat) : List Byte := [0, 7, BitVec.ofNat 8 count, BitVec.ofNat 8 op] ++ le 2 addr ++ [0, 0]
    (hzn.hostReach = true ∧ hzn.rd F.HZN_RQ_STATUS_STATE 0 ≠ 1 ∧ z.hostReach = false) ∧
    (s.rd F.HZN_RQ_STATUS_STATE 0 = 1 ∧ s.on I.rqWaiting 0 = false ∧ s.rd F.HZN_RQ_CTRL_NODE 0 = 1 ∧
      numAt [(0 : Byte), 5, 8, 1] 0 1 = s.rd F.STW_STATUS_NODE 0 ∧ numAt [(0 : Byte), 5, 8, 1] 1 1 = s.rd I.rqIdent 0) ∧
    (hzn.listens = true ∧ numAt (rq 1 0 1) 0 1 = hzn.rd F.STW_STATUS_NODE 0) ∧
    (rqStatus 1 0x2FE0 8 = 0 ∧ rqStatus 1 0x2FE4 8 = 1 ∧ rqStatus 1 0 9 = 1 ∧ rqStatus 1 0 0 = 1 ∧ rqStatus 3 0 1 = 1 ∧
      rqStatus 1 2 1 = 1 ∧ rqStatus 2 0xC00 1 = 0 ∧ rqStatus 2 0xBFC 1 = 2 ∧ rqStatus 2 0xFFC 2 = 2) := by
  (try dsimp only); (repeat' apply And.intro) <;> decide +kernel

/-- A value at the limits of a sensor's range, and beyond; values of a warning, a throttle and a trip. -/
theorem test_hyp_SensorsThrottleAndTrip :
    let xs (v : Int) : List Reading := List.replicate 89 none ++ [some v]
    let hot : State := { up with thm := { subs := List.replicate 8 (List.replicate 26 (some 7000)) } }
    let t := ld z [(F.THM_STATUS_TRIPPED, 0, 1), (F.FAULT_STATUS0_CLASS_A, 0, 2)]
    ((z.calibrated (xs 9600)).getD 89 none = some 9600 ∧ inSensorRange 9600 = true ∧ inSensorRange 9601 = false ∧
      inSensorRange (-2560) = true ∧ inSensorRange (-2561) = false ∧ (z.calibrated (xs 0)).getD 0 none = none ∧
      z.sensorBad 89 = false ∧ z.cfg cfgSensorMode ≠ 1) ∧
    (z.readable 89 = true ∧ z.readable 0 = false ∧ (ld z [(F.THM_SENSOR_DATA_CAUSE, 89, 1)]).sensorBad 89 = true) ∧
    (up.on I.dieUp 0 = true ∧ up.rorMode = false ∧
      ({ up with stw := { up.stw with draft := [⟨1, [1, 2, 0, 0]⟩] } } : State).rorMode = true) ∧
    ((hot.lastValues (hot.thm.subs.map fun x => x.getD 25 none)).isSome = true ∧
      up.lastValues (up.thm.subs.map fun x => x.getD 25 none) = none) ∧
    (up.armed (.die ⟨77, by decide⟩) = true ∧ up.armed (.stack ⟨7, by decide⟩) = true ∧ z.armed (.die 0) = false) ∧
    (t.on F.THM_STATUS_TRIPPED 0 = true ∧ (∀ k < 14, k ≠ 1 → k ≠ 2 → k ≠ 3 → t.statusBit k = false) ∧
      (t.thm.zones.headD (0, [])).2.getD 0 none = none) := by
  (try dsimp only); (repeat' apply And.intro) <;> decide +kernel

/-- Fan 0 and pump 1 in a state; the steward drives. -/
def cooled (n : Nat) : State :=
  ld live [(I.driving, 0, 1), (chState (.fan 0), 0, n), (chState (.pump 1), 1, n), (I.stretch, 0, 1)]

theorem test_hyp_FansAndPumpsAreDrivenAndMeasured :
    let spin : State := { ld (cooled 2) [(I.coolRetry, 0, 1)] with us := 150000, cool := { edges := [(0, [140000, 130000])] } }
    ((cooled 1).on I.driving 0 = true ∧ z.on I.driving 0 = false ∧ (cooled 4).chIs (.fan 0) 4 = true) ∧
    ((cooled 1).on I.stretch 0 = true ∧ z.on I.stretch 0 = false) ∧
    (IsMeasured (cooled 1) (.fan 0) ∧ IsMeasured (cooled 4) (.pump 1) ∧ ¬ IsMeasured (cooled 2) (.fan 0) ∧
      ¬ IsMeasured (ld (cooled 1) [(I.spinDue, 0, 1)]) (.fan 0)) ∧
    (spin.chIs (.fan 0) 2 = true ∧ spin.spinPasses (.fan 0) ((spin.us :: spin.edges 0).take 3) = true ∧
      spin.spinPasses (.fan 0) [1, 0] = false) ∧
    (spin.on I.spinPass 0 = false ∧ spin.rd I.coolRetry 0 < spin.cfg cfgCoolRetries ∧
      (ld spin [(I.spinPass, 0, 1)]).on I.spinPass 0 = true ∧
      spin.cfg cfgCoolRetries ≤ (ld spin [(I.coolRetry, 0, 7)]).rd I.coolRetry 0) ∧
    ((ld z [(I.spinDue, 9, 1)]).on I.spinDue 9 = true ∧ (cooled 3).chIs (.pump 1) 3 = true) ∧
    ((cooled 1).on I.dieUp 0 = true) := by
  (try dsimp only); (repeat' apply And.intro) <;> decide +kernel

theorem test_hyp_FlowsAndLeaksAreWatched :
    let s := ld (cooled 1) [(F.PUMP_FLOW_TESTED, 1, 1)]
    let m : State := { s with stw := { s.stw with pins := [(10, 4, 0), (11, 4, 1)] } }
    (z.hasFn 4 1 = true ∧ live.hasFn 4 1 = false ∧ m.hasFn 4 1 = true) ∧
    (IsMeasured s (.pump 1) ∧ ¬ IsMeasured z (.pump 1)) ∧
    (m.present (.pump 1) = true ∧ m.on F.PUMP_FLOW_TESTED 1 = true ∧ m.on F.PUMP_FLOW_FLOW_FAULT 1 = false ∧
      600 * (m.edges 9).length < m.cfg cfgFlowMin * m.cfg cfgFlowK ∧
      ¬ 600 * 1000 < m.cfg cfgFlowMin * m.cfg cfgFlowK) ∧
    (m.cfg cfgMissConsec ≤ (ld m [(I.flowLow, 1, 2)]).rd I.flowLow 1 + 1 ∧ m.rd I.flowLow 1 + 1 < m.cfg cfgMissConsec) ∧
    (let f := ld m [(F.PUMP_FLOW_FLOW_FAULT, 1, 1), (I.flowGood, 1, 2)]
     f.on F.PUMP_FLOW_FLOW_FAULT 1 = true ∧ 2 ≤ f.rd I.flowGood 1) ∧
    (live.bare = false ∧ z.bare = true) ∧
    (let w : State := { live with cool := { leak := [(0, (1, 2))] } }
     w.cfg cfgLeakConsec ≤ min 15 (2 + 1) ∧ w.ropeNow 0 0 = 1 ∧ w.rd (leakFld 0) 0 ≠ 1 ∧ w.ropeNow 0 65535 = 2) := by
  (try dsimp only); (repeat' apply And.intro) <;> decide +kernel

theorem test_hyp_FaultsAreRegisteredAndCleared :
    let c := ld up [(F.FAULT_STATUS0_CLASS_A, 0, 2), (F.FAULT_ESC_SAFE, 0, 1)]
    (faultClass 0 ≠ 0 ∧ faultClass 95 = 0 ∧ faultClass 87 ≠ 0) ∧
    (up.on I.dieUp 0 = true ∧ z.on I.dieUp 0 = false) ∧
    (({ up with us := 10000 } : State).rd I.linkAt 0 + 10000 ≤ 10000 ∧ ¬ up.rd I.linkAt 0 + 10000 ≤ 9999) ∧
    (Clears c 0 2 1 ∧ ¬ Clears (ld c [(I.causeOn, 1, 1)]) 0 2 1 ∧ ¬ Clears c 0 1 1 ∧ c.on F.FAULT_ESC_SAFE 0 = true) := by
  (try dsimp only); (repeat' apply And.intro) <;> decide +kernel

theorem test_hyp_RecoveryLevelsActAndEscalate :
    let r (x : RecTarget) : State := { up with recoveries := [x] }
    ((∃ x ∈ (queued 18).hbm.xfers, x.group = 0) ∧ ¬ NoPartReset (queued 18) 0 ∧
      NoPartReset (ld (queued 18) [(F.PART_STATE_STATE, 0, 6)]) 0) ∧
    ((link 2).linkUp 0 = true) ∧
    ((framed (.decoding 0)).bnd.frames.find? (fun f => f.stage == .decoding 0) = some (frame0 (.decoding 0)) ∧
      (framed .ready).bnd.frames.find? (fun f => f.stage == .decoding 0) = none) ∧
    (isEngineReset (.clusterReset 0 0) = true ∧ RecTarget.clusterReset 0 0 ∈ (r (.clusterReset 0 0)).recoveries ∧
      isEngineReset (.partReset 0) = false) ∧
    (¬ NoChipReset up ∧ NoChipReset z ∧ ¬ NoPartReset up 15) ∧
    (RecTarget.contextAbort 0 ∈ (r (.contextAbort 0)).recoveries ∧ .weftReset 0 ∈ (r (.weftReset 0)).recoveries ∧
      .partReset 15 ∈ (r (.partReset 15)).recoveries ∧ .decodeReset 3 ∈ (r (.decodeReset 3)).recoveries ∧
      .dmaReset 0 ∉ up.recoveries) ∧
    bound.partOfAbort 0 (.clusterReset 0 101) = true ∧
    ((ld up [(I.chipStep, 0, 1)]).rd I.chipStep 0 ≠ 0 ∧
      3 ≤ ({ up with stw := { up.stw with powerCycles := [0, 0, 0] }, us := 1 } : State).cyclesInWindow.length ∧
      up.cyclesInWindow.length < 3) := by
  (try dsimp only); (repeat' apply And.intro) <;> decide +kernel

/-- P0 in a reset: fenced, in reset before and after its memory is up. -/
def resetting (st mem : Nat) : State :=
  { ld bound [(F.PART_STATE_STATE, 0, st), (F.PART_STATE_MEM_ON, 0, mem)] with recoveries := [.partReset 0] }

theorem test_hyp_PartitionAndChipResetsRunTheirSteps :
    (.partReset 0 ∈ (resetting 5 1).recoveries ∧ (resetting 5 1).rd F.PART_STATE_STATE 0 = 5 ∧
      NoCommandWaits (resetting 5 1)) ∧
    ((resetting 6 0).rd F.PART_STATE_STATE 0 = 6 ∧ (resetting 6 0).on F.PART_STATE_MEM_ON 0 = false) ∧
    ((resetting 6 1).on F.PART_STATE_MEM_ON 0 = true ∧ .partReset 0 ∉ bound.recoveries) ∧
    ((resetting 6 1).partBinding? 0 = some (0, binding0) ∧ (resetting 6 1).binding? 0 = some binding0 ∧
      (resetting 6 1).bundle? 1 = some bundle0 ∧ hasVariant hdr0 100 = true ∧ hasVariant hdr0 99 = false) ∧
    (let t := ld up ((I.chipStep, 0, 3) :: (List.range 16).map fun g => (F.HBM_GRP_STATE_TRAINED, g, 1))
     t.rd I.chipStep 0 = 3 ∧ ∀ g < 16, t.rd F.HBM_GRP_STATE_TRAINED g = 1) := by
  (try dsimp only); (repeat' apply And.intro) <;> decide +kernel

/-- The state after reset has canonical memories, and an empty queue steps. -/
theorem test_hyp_StepKeepsMemoriesCanonical : z.memoriesOk ∧ ∃ t, step z = .next t := by
  refine ⟨?_, _, rfl⟩
  unfold State.memoriesOk
  decide +kernel

/-! ### Worked examples of the manual -/

/-- The words of a list, then zeros to 32. -/
def block0 (l : List Nat) : List Word := (l ++ List.replicate (32 - l.length) 0).map (BitVec.ofNat 32)

def scratch0 (s : State) (off n : Nat) : List Nat := (List.range n).map fun k => (s.scratchByte core0 (off + k)).toNat

/-- The MXFP8 example of 03 (after R77): 5.3, −0.75, 0.1, 0.003, 2.0, −1.3, 0.033203125. -/
theorem test_mx_encode_example :
    let t := after (.mxEncode core0 .e4m3 (block0 [0x40A9999A, 0xBF400000, 0x3DCCCCCD, 0x3B449BA6, 0x40000000,
      0xBFA66666, 0x3D080000]) 0 32) bound
    scratch0 t 0 8 = [0x7B, 0xE4, 0x4D, 0x24, 0x70, 0xEA, 0x40, 0] ∧ scratch0 t 32 1 = [0x79] ∧
    t.rd F.PART_ARITH_STATUS_SAT_COUNT 0 = 0 := by
  (try dsimp only); (repeat' apply And.intro) <;> decide +kernel

/-- The DQ4 example of 03 (after R80): 0.5, 0.30, −0.21, 0.07, −0.05, 0.012, 0.4375. -/
theorem test_dq4_encode_example :
    let t := after (.dq4Encode core0 (block0 [0x3F000000, 0x3E99999A, 0xBE570A3D, 0x3D8F5C29, 0xBD4CCCCD,
      0x3C449BA6, 0x3EE00000]) 0 16) bound
    scratch0 t 0 5 = [0x46, 0x1B, 0x09, 0x06, 0] ∧ scratch0 t 16 1 = [0x7B] := by
  (try dsimp only); (repeat' apply And.intro) <;> decide +kernel

/-- The block of tile B in frame 1 of the example of 05: (0, −1.25). -/
theorem test_dq4_tie_example :
    let t := after (.dq4Encode core0 (block0 [0, 0xBFA00000]) 0 16) bound
    scratch0 t 0 2 = [0xE0, 0] ∧ scratch0 t 16 1 = [0x7C] := by
  (try dsimp only); (repeat' apply And.intro) <;> decide +kernel

/-- The example of 04: P4 of a package whose window takes extents 0-127 of each group. -/
def idleP4 : State :=
  let hdr := { hdr0 with bolts := 14, stateBytes := 9 * 2 ^ 20 }
  { waits (ld live [(F.PART_CLUSTERS_OK_CLUSTERS_OK, 4, 100), (F.PART_STATE_SWEEP_DUE, 4, 0)]) with
    bnd := { bnd0 with bindings := [], ctxs := [], cmd := some .waiting, bundles := [(1, { bundle0 with hdr := hdr })] }
    hbm := { leases := [(1, { lease0 4 .active with exts := [128, 129] }),
      (2, { lease0 4 .active with exts := List.range 128 })] } }

theorem test_bind_example_bolts_and_extents :
    idleP4.bindPlan (Desc.of (desc0 [(8, 24), (6, 16)])) ((idleP4.bundle? 1).getD bundle0) none =
      { parts := [4], bolts := [64, 66, 68, 70, 72, 74, 76, 78, 80, 82, 84, 86, 88, 90],
        places := [(4, [130, 131, 132, 133])], quadrant := 1 } := by decide +kernel

/-- The example of 06: 11 bolts free, eight of them beside P9; three spill levels. -/
def yardP9 : State :=
  let hdr := { hdr0 with bolts := 16, stateBytes := 6 * 2 ^ 20, spill := [⟨3, 1, 6⟩, ⟨6, 2, 13⟩, ⟨9, 3, 24⟩] }
  let leased := (List.range 256).filter fun b => !([128, 130, 132, 134, 136, 138, 140, 142, 0, 2, 4].contains b)
  { waits (ld live [(F.PART_CLUSTERS_OK_CLUSTERS_OK, 9, 100), (F.PART_STATE_SWEEP_DUE, 9, 0)]) with
    bnd := { bnd0 with bindings := [], ctxs := [], cmd := some .waiting, bundles := [(1, { bundle0 with hdr := hdr })] }
    beam := { bolts := leased.map fun b => (b, { state := .leased, owner := 2 }) } }

theorem test_bind_example_without_spill :
    let p := yardP9.bindPlan (Desc.of (desc0 [(8, 23), (7, 2), (14, 29), (1, 1)])) ((yardP9.bundle? 1).getD bundle0) none
    (p.codes, p.noBolts, p.noExts) = ([0x09], 5, 0) := by decide +kernel

theorem test_bind_example_with_spill :
    yardP9.bindPlan (Desc.of (desc0 [(8, 23), (7, 2), (14, 29)])) ((yardP9.bundle? 1).getD bundle0) none =
      { parts := [9], bolts := [128, 130, 132, 134, 136, 138, 140, 142, 0, 2], level := 2, slowdown := 13,
        places := [(9, [0, 1, 2, 3, 4])], quadrant := 2, grants := [(12, 29)] } := by decide +kernel

/-- The breaker example of 13: before the 28th sample of pulse C, band timers in 0.05 µs. -/
def pulseC : State := ld (chan 3 6 2) [(I.bandTimer, 1, 194900), (I.bandTimer, 2, 19900), (I.bandTimer, 3, 19900)]

theorem test_breaker_example_sample :
    let t := after (.breakerSample (volts0 45000 45000 9000 70000)) (ld pulseC [(F.PWR_VCH_DATA_MV, 0, 45000)])
    t.rd I.bandTimer 3 = 20 * 1005 ∧ t.rd I.bandTimer 4 = 0 ∧ t.bandDue = some 3 ∧ pulseC.bandDue = none := by
  (try dsimp only); (repeat' apply And.intro) <;> decide +kernel

theorem test_breaker_example_trip :
    let t := after .bandTrip (ld pulseC [(I.bandTimer, 3, 20100)])
    t.rd F.HSW_STATE_STATE 0 = 4 ∧ t.rd F.HSW_STATE_LAST_TRIP 0 = 1 ∧ t.rd F.HSW_STATE_BAND 0 = 3 ∧
    t.rd F.HSW_STATE_RETRIES 0 = 1 ∧ t.rd I.waitEnd 0 = 1000000 ∧ t.backoff 2 = 40 ∧ t.backoff 3 = 160 := by
  (try dsimp only); (repeat' apply And.intro) <;> decide +kernel

/-- The gust example of 14: one unit is 0.4258 A; 2 units in a step of 0.1 µs, 1 when 16 partitions share 100 A/µs. -/
theorem test_gust_example : z.stepUnits 425781 = 2 := by decide +kernel

/-- The demand example of 15: 88 °C, 80 °C, 32 °C, 52 °C; the fan period. -/
theorem test_demand_example :
    curveAt (64 * 88) (z.demandTable 0) = 79 ∧ curveAt (64 * 80) (z.demandTable 1) = 75 ∧
    curveAt (64 * 32) (z.demandTable 2) = 46 ∧ curveAt (64 * 52) (z.demandTable 3) = 61 ∧ z.fanPeriod = 1092 ∧
    toUnit 100 (1092 * 79) = 863 := by
  (repeat' apply And.intro) <;> decide +kernel

/-- The record example of 17: the fan fault's 64 bytes up to the CRC. -/
theorem test_record_example :
    (Record.bytes ⟨2, 35, 76874, 3160448, 412, 0, [0, 1]⟩).take 24 =
      [0xA5, 0x02, 0x23, 0x00, 0x4A, 0x2C, 0x01, 0x00, 0x80, 0x39, 0x30, 0x00, 0x9C, 0x01, 0x00, 0x00, 0x00, 0x01,
       0, 0, 0, 0, 0, 0] := by decide +kernel

/-- The check value of CRC-32C: the nine digits. -/
theorem test_crc32c : crc32c ((List.range 9).map fun k => BitVec.ofNat 8 (0x31 + k)) = 0xE3069283 := by decide +kernel

/-- A step with an empty queue lets 1 µs pass; a command leaves the queue. -/
theorem test_step_takes_the_front_command :
    (match step z with | .next t => t.us | _ => 0) = 1 ∧
    (match step (z.withPending [.crystalSwitch]) with | .next t => (t.pending, t.rd I.crystal 0) | _ => ([], 0)) = ([], 1) := by
  decide +kernel

/-- Power-on: the Draft read of a flash without a usable bank keeps bare defaults with cause 2. -/
theorem test_bare_defaults :
    let t := after (.draftInForce ⟨true, false, 3, false⟩) z
    t.rd F.STW_STATUS_DRAFT 0 = 3 ∧ t.rd F.STW_STATUS_BARE_CAUSE 0 = 2 ∧ t.statusBit 13 = true := by
  (try dsimp only); (repeat' apply And.intro) <;> decide +kernel

end Sys2Proof.Machine.Tests
end

namespace Sys2Proof.Machine

/-! ## Every command answers a next state -/

/-- A meaning answers a next state. -/
def Answers (r : Result) : Prop := ∃ t, r = .next t

theorem answers_next (t : State) : Answers (.next t) := ⟨t, rfl⟩

theorem Answers.ite {c : Prop} [Decidable c] {a b : Result} (ha : Answers a) (hb : Answers b) :
    Answers (if c then a else b) := by
  split <;> assumption

/-- Every meaning is a nest of conditions and matches whose leaves are next states: the arms with a match are
unfolded and walked through first, then those that are one next state, then those with conditions only. -/
theorem exec_answers (i : Instr) (s : State) : Answers (exec i s) := by
  cases i
  case repairRebind | vectorOp | barrierArrive | bankSpareSwitch | bankCeDecay | hbmLeaseDrainEnd |
      bundleCopyRebuilt | twinFetchReply | twinFetchTimeout | bindFirstInstruction | unbindRelease |
      payloadArrival | decodeComplete | decodeTimeLimit | rawConvert | ctxInputWrite | frameAdmit |
      frameComplete | joinFlit | joinSendTick | barrierFlit | frameStartFlit | stepTimeout | weftAcceptWrite |
      shadowUpdateMsg | fetchRequestMsg | lapseNoticeMsg | bar0WriteApply | bar0ReadTimeout | hostReadFail |
      fwImageReceived | presCancel | presArmExpire | bandTrip | capWrite | corrUpdate | faultStatusClear |
      tachEdge | contextAbortDone | beamAccess | beamScrub | hbmScrub | hbmDmaBurst | sweepComplete |
      submissionEntry | entryReadRetry | decodeStart | flitRelay | jobDataMsg | shadowRequestMsg |
      hostBadRequest | cxlMemRead | cxlMemWrite | presEnrolOwnerKey | presBadOpcode | draftInForce |
      draftEraseDone | pmbusTelemetryPoll | presencePress | coolOverrideWrite | overrideExpire | selvageFaultMsg
      | thermtrip | engineResetDone | voutCommandWriteDone =>
    dsimp only [exec, execRepairRebind, execVectorOp, execBarrierArrive, execBankSpareSwitch, execBankCeDecay,
      execHbmLeaseDrainEnd, execBundleCopyRebuilt, execTwinFetchReply, execTwinFetchTimeout,
      execBindFirstInstruction, execUnbindRelease, execPayloadArrival, execDecodeComplete, execDecodeTimeLimit,
      execRawConvert, execCtxInputWrite, execFrameAdmit, execFrameComplete, execJoinFlit, execJoinSendTick,
      execBarrierFlit, execFrameStartFlit, execStepTimeout, execWeftAcceptWrite, execShadowUpdateMsg,
      execFetchRequestMsg, execLapseNoticeMsg, execBar0WriteApply, execBar0ReadTimeout, execHostReadFail,
      execFwImageReceived, execPresCancel, execPresArmExpire, execBandTrip, execCapWrite, execCorrUpdate,
      execFaultStatusClear, execTachEdge, execContextAbortDone, execBeamAccess, execBeamScrub, execHbmScrub,
      execHbmDmaBurst, execSweepComplete, execSubmissionEntry, execEntryReadRetry, execDecodeStart,
      execFlitRelay, execJobDataMsg, execShadowRequestMsg, execHostBadRequest, execCxlMemRead, execCxlMemWrite,
      execPresEnrolOwnerKey, execPresBadOpcode, execDraftInForce, execDraftEraseDone, execPmbusTelemetryPoll,
      execPresencePress, execCoolOverrideWrite, execOverrideExpire, execSelvageFaultMsg, execThermtrip,
      execEngineResetDone, execVoutCommandWriteDone]
    repeat' first
      | with_reducible exact answers_next _
      | with_reducible apply Answers.ite
      | split
  any_goals exact answers_next _
  all_goals repeat' apply Answers.ite
  all_goals exact answers_next _

theorem step_answers (s : State) : Answers (step s) := by
  cases h : s.pending with
  | nil => exact ⟨_, step_nil s h⟩
  | cons c rest => rw [step_cons c rest s h]; exact exec_answers c _

/-- Settles O58: `exec_answers`, and from it each step. -/
theorem everyCommandCompletes : Obligations.EveryCommandCompletes :=
  ⟨exec_answers, step_answers⟩

end Sys2Proof.Machine

namespace Sys2Proof.Machine

/-! ## Frames of the register file, composed -/

theorem OnlyRegs.refl (s : State) (l : List (Fld × Nat)) : OnlyRegs s s l := ⟨rfl, .refl s l⟩

theorem OnlyRegs.trans {s t u : State} {l : List (Fld × Nat)} (h : OnlyRegs s t l) (h' : OnlyRegs t u l) :
    OnlyRegs s u l := by
  obtain ⟨ht, hst⟩ := h
  obtain ⟨hu, htu⟩ := h'
  refine ⟨?_, hst.trans htu⟩
  calc u = { t with regs := u.regs } := hu
    _ = { s with regs := u.regs } := by rw [ht]

theorem SameBut.mono {s t : State} {l l' : List (Fld × Nat)} (h : SameBut s t l) (hl : ∀ x ∈ l, x ∈ l') :
    SameBut s t l' := fun f i hf => h f i fun x hx => hf x (hl x hx)

theorem OnlyRegs.mono {s t : State} {l l' : List (Fld × Nat)} (h : OnlyRegs s t l) (hl : ∀ x ∈ l, x ∈ l') :
    OnlyRegs s t l' := ⟨h.1, h.2.mono hl⟩

theorem OnlyRegs.wr {s t : State} {l : List (Fld × Nat)} (h : OnlyRegs s t l) (f : Fld) (i v : Nat)
    (hf : (f, i) ∈ l) : OnlyRegs s (t.wr f i v) l :=
  h.trans ((onlyRegs_wr t f i v).mono (by simpa using hf))

theorem OnlyRegs.foldl {α : Type} {l : List (Fld × Nat)} (f : State → α → State) {xs : List α}
    (hf : ∀ s, ∀ x ∈ xs, OnlyRegs s (f s x) l) (s : State) : OnlyRegs s (xs.foldl f s) l := by
  induction xs generalizing s with
  | nil => exact .refl s l
  | cons x xs ih =>
    exact (hf s x (by simp)).trans (ih (fun s y hy => hf s y (by simp [hy])) _)

/-! ## Register writes by access codes -/

/-- What `writeField` leaves in its own field. -/
def State.fieldAfter (s : State) (h : Half) (i : Nat) (v : Word) (x : FldDesc) : Nat :=
  let new := writtenField h x.fld (s.rd x.fld i) v
  match x.access with
  | .rw => taken x.fld new % x.fld.size
  | .w1c => s.rd x.fld i &&& (x.fld.size - 1 - new)
  | _ => s.rd x.fld i

theorem State.rd_writeField (s : State) (h : Half) (i : Nat) (v : Word) (x : FldDesc) :
    (s.writeField h i v x).rd x.fld i = s.fieldAfter h i v x := by
  obtain ⟨f, a⟩ := x
  cases a with
  | rw => exact s.rd_wr_same ..
  | w1c => exact (s.rd_wr_same ..).trans (Nat.mod_eq_of_lt (Nat.and_lt_two_pow _ (by
      have := f.size_pos
      simp only [Fld.size] at *
      omega)))
  | ro | wo | rof => rfl

theorem State.writeField_onlyRegs (s : State) (h : Half) (i : Nat) (v : Word) (x : FldDesc) :
    OnlyRegs s (s.writeField h i v x) [(x.fld, i)] := by
  obtain ⟨f, a⟩ := x
  cases a with
  | rw | w1c => exact onlyRegs_wr ..
  | ro | wo | rof => exact .refl _ _

theorem State.writeFields_onlyRegs (s : State) (r : Reg) (i : Nat) (v : Word) :
    OnlyRegs s (s.writeFields r i v) ((regDesc r).fields.map fun x => (x.fld, i)) :=
  OnlyRegs.foldl _ (fun s x hx => (s.writeField_onlyRegs _ i v x).mono
    (by simpa using ⟨x, hx, rfl⟩)) s

/-- A write to a register of a single field. -/
theorem State.rd_writeFields_single (s : State) {r : Reg} {x : FldDesc} (h : (regDesc r).fields = [x])
    (i : Nat) (v : Word) : (s.writeFields r i v).rd x.fld i = s.fieldAfter (regDesc r).half i v x := by
  rw [writeFields, h]
  exact s.rd_writeField _ i v x

/-- The low half of `CMD_ADDR` takes bits [5:0] as 0 (R202), so that a 1 written there is not read back. -/
theorem exec_write_cmdAddr_low :
    let s := State.reset.wr I.dieUp 0 1
    ∃ t, exec (.registerWrite .firmware .CMD_ADDR_LO 0 1) s = .next t ∧ t.rd F.CMD_ADDR 0 = 0 :=
  ⟨_, rfl, by decide⟩

/-- Refutes O2: `CMD_ADDR` is a plain register of the statement, and its low half, RW, takes bits [5:0] as 0.
In the state after reset with the compute die up, firmware writes 1 to `CMD_ADDR_LO` and reads 0. -/
theorem not_registerWriteFollowsAccessCodes : ¬ Obligations.RegisterWriteFollowsAccessCodes := by
  unfold Obligations.RegisterWriteFollowsAccessCodes
  intro h
  obtain ⟨hplain, -⟩ := h .firmware .CMD_ADDR_LO 0 1 (State.reset.wr I.dieUp 0 1)
  obtain ⟨t, ht, hread, -⟩ := hplain 0 (by decide) (by decide) (by decide)
  obtain ⟨u, hu, hzero⟩ := exec_write_cmdAddr_low
  obtain rfl : u = t := Host.Outcome.next.inj (hu.symm.trans ht)
  have hone : u.rd F.CMD_ADDR 0 = 1 := hread ⟨F.CMD_ADDR, .rw⟩ (by decide)
  omega

/-! ## Selections, and the latches of LO/HI pairs -/

/-- A select or index register is one plain RW field, taken as written. -/
theorem select_field {r : Reg} (h : isSelect r = true) :
    ∃ f, (regDesc r).fields = [⟨f, .rw⟩] ∧ (regDesc r).half = .plain ∧ ∀ n, taken f n = n := by
  unfold isSelect at h
  split at h
  case h_19 => cases h
  all_goals exact ⟨_, rfl, rfl, fun _ => rfl⟩

theorem field_mod_size (v : Nat) (f : Fld) : field v f.hi f.lo % f.size = field v f.hi f.lo :=
  Nat.mod_eq_of_lt (lt_of_lt_of_le (Nat.mod_lt _ (Nat.two_pow_pos _))
    (Nat.pow_le_pow_right (by decide) (by omega)))

/-- Keys set to what an unlisted key reads as, one after the other. -/
theorem Tab.get_foldl_reset (ks : List Nat) (m : SMap Nat) (j : Nat) :
    Tab.get (ks.foldl (fun m k => Tab.put m k 0 0) m) j 0 = if j ∈ ks then 0 else Tab.get m j 0 := by
  induction ks generalizing m with
  | nil => rfl
  | cons k ks ih =>
    rw [List.foldl_cons, ih]
    by_cases hk : k = j
    · subst hk; simp
    · simp [Tab.get_put_other m hk, Ne.symm hk]

theorem State.get_latches_writeSelect (s : State) (p : Path) (r : Reg) (v : Word) (k : Nat) :
    Tab.get (s.writeSelect p r v).latches k 0 =
      if k ∈ (pairsOf r).map (latchKey p) then 0 else Tab.get s.latches k 0 := by
  have hl : (s.writeFields r (pathIx p) v).latches = s.latches := by rw [(s.writeFields_onlyRegs r _ v).1]
  rw [← Tab.get_foldl_reset, List.foldl_map, ← hl]
  rfl

theorem State.writeSelect_eq (s : State) (p : Path) (r : Reg) (v : Word) :
    let t := s.writeSelect p r v
    t = { s with regs := t.regs, latches := t.latches } := by
  unfold writeSelect
  rw [(s.writeFields_onlyRegs r (pathIx p) v).1]

theorem State.writeSelect_sameBut (s : State) (p : Path) (r : Reg) (v : Word) :
    SameBut s (s.writeSelect p r v) ((regDesc r).fields.map fun x => (x.fld, pathIx p)) :=
  (s.writeFields_onlyRegs r (pathIx p) v).2

theorem State.rd_writeSelect (s : State) (p : Path) {r : Reg} (v : Word) (h : isSelect r = true)
    {x : FldDesc} (hx : x ∈ (regDesc r).fields) :
    (s.writeSelect p r v).rd x.fld (pathIx p) = field v.toNat x.fld.hi x.fld.lo := by
  obtain ⟨f, hf, hhalf, htaken⟩ := select_field h
  obtain rfl : x = ⟨f, .rw⟩ := by simpa [hf] using hx
  calc (s.writeSelect p r v).rd f (pathIx p)
      = (s.writeFields r (pathIx p) v).rd f (pathIx p) := rfl
    _ = taken f (field v.toNat f.hi f.lo) % f.size := by
      rw [s.rd_writeFields_single hf, hhalf]; rfl
    _ = field v.toNat f.hi f.lo := by rw [htaken, field_mod_size]

/-- A read that the path reaches and that is served reads the register. -/
theorem State.readOn_of_served {s : State} {p : Path} {r : Reg} (n : Nat) (hr : s.reaches p r = true)
    (hs : p ≠ .host ∨ hwHeld r = true ∨ s.on F.HOST_STATUS_FW_UP 0 = true) :
    s.readOn p r n = s.readReg p r n := by
  have hserved : ¬ (p = .host ∧ (!hwHeld r) = true ∧ (!s.on F.HOST_STATUS_FW_UP 0) = true) := by
    rcases hs with h | h | h <;> simp [h]
  unfold readOn
  rw [hr, if_neg (by decide), if_neg hserved]

theorem State.readReg_lo {s : State} {p : Path} {r : Reg} (n : Nat) (h : (regDesc r).half = .pairLo) :
    s.readReg p r n = (s.regWord p r n, s.setLatch p (pairFld r) (s.regWord p (hiOf r) n + 1)) := by
  unfold readReg; rw [h]

theorem State.readReg_hi {s : State} {p : Path} {r : Reg} (n : Nat) (h : (regDesc r).half = .pairHi) :
    s.readReg p r n = if s.latch p (pairFld r) = 0 then (s.regWord p r n, s)
      else (s.latch p (pairFld r) - 1, s.setLatch p (pairFld r) 0) := by
  unfold readReg; rw [h]

@[simp] theorem State.latch_send (s : State) (o : Out) (p : Path) (f : Fld) :
    (s.send o).latch p f = s.latch p f := rfl

@[simp] theorem State.latch_setLatch (s : State) (p : Path) (f : Fld) (x : Nat) : (s.setLatch p f x).latch p f = x :=
  Tab.get_put_same ..

theorem State.get_latches_setLatch (s : State) (p : Path) (f : Fld) (x : Nat) {k : Nat}
    (hk : k ≠ latchKey p f) : Tab.get (s.setLatch p f x).latches k 0 = Tab.get s.latches k 0 :=
  Tab.get_put_other _ hk.symm ..

/-- A read of the LO half sends it and latches the HI half of the same moment (R7). -/
theorem loRead_completes {p : Path} {r : Reg} {s : State} (hr : s.reaches p r = true)
    (hs : p ≠ .host ∨ hwHeld r = true ∨ s.on F.HOST_STATUS_FW_UP 0 = true)
    (h : (regDesc r).half = .pairLo) :
    exec (.loRead p r) s = .next ((s.setLatch p (pairFld r) (s.regWord p (hiOf r) 0 + 1)).send
      (.word p (s.regWord p r 0 % 2 ^ 32))) := by
  show Host.Outcome.next (if _ then _ else _) = _
  rw [if_pos h, State.answerRead, State.readOn_of_served 0 hr hs, State.readReg_lo 0 h, BitVec.toNat_ofNat]

/-- A read of the HI half sends the latched half, once, or the current one (R7). -/
theorem hiRead_completes {p : Path} {r : Reg} {s : State} (hr : s.reaches p r = true)
    (hs : p ≠ .host ∨ hwHeld r = true ∨ s.on F.HOST_STATUS_FW_UP 0 = true)
    (h : (regDesc r).half = .pairHi) :
    exec (.hiRead p r) s = .next (if s.latch p (pairFld r) = 0 then s.send (.word p (s.regWord p r 0 % 2 ^ 32))
      else (s.setLatch p (pairFld r) 0).send (.word p ((s.latch p (pairFld r) - 1) % 2 ^ 32))) := by
  show Host.Outcome.next (if _ then _ else _) = _
  rw [if_pos h, State.answerRead, State.readOn_of_served 0 hr hs, State.readReg_hi 0 h]
  split <;> rw [BitVec.toNat_ofNat]

/-- Settles O3: a selection is a write to one plain field and a reset of the latches of its pairs; the reads
are `loRead_completes` and `hiRead_completes`. -/
theorem selectionsAndPairReadsActForTheirPath : Obligations.SelectionsAndPairReadsActForTheirPath := by
  unfold Obligations.SelectionsAndPairReadsActForTheirPath
  refine ⟨fun p r v s => ⟨fun hsel hw => ⟨s.writeSelect p r v, ?_, ?_, ?_, ?_, ?_, ?_⟩, fun h => ?_⟩,
    fun p r s hr hs => ⟨fun h => ⟨_, loRead_completes hr hs h, rfl, ?_, ?_, rfl⟩, fun h => ?_⟩⟩
  · show Host.Outcome.next (if _ then _ else _) = _
    rw [if_pos ⟨hsel, hw⟩]
  · exact fun x hx => s.rd_writeSelect p v hsel hx
  · intro f hf
    exact (s.get_latches_writeSelect p r v _).trans (if_pos (List.mem_map_of_mem hf))
  · intro k hk
    refine (s.get_latches_writeSelect p r v k).trans (if_neg fun hmem => ?_)
    obtain ⟨f, hf, rfl⟩ := List.mem_map.1 hmem
    exact hk f hf rfl
  · exact s.writeSelect_eq p r v
  · exact s.writeSelect_sameBut p r v
  · have hno : ¬ (isSelect r = true ∧ s.mayWrite p r = true) := by rcases h with h | h <;> simp [h]
    show Host.Outcome.next (if _ then _ else _) = _
    rw [if_neg hno]
  · rw [State.latch_send, State.latch_setLatch]
  · exact fun k hk => by rw [State.send_latches, s.get_latches_setLatch _ _ _ hk]
  · refine ⟨_, hiRead_completes hr hs h, ?_⟩
    by_cases hl : s.latch p (pairFld r) = 0
    · rw [if_pos hl, if_pos hl]
      exact ⟨rfl, hl, fun _ _ => rfl, rfl⟩
    · rw [if_neg hl, if_neg hl]
      exact ⟨rfl, by rw [State.latch_send, State.latch_setLatch],
        fun k hk => by rw [State.send_latches, s.get_latches_setLatch _ _ _ hk], rfl⟩

end Sys2Proof.Machine

namespace Sys2Proof.Machine

/-! ## Folds over the state -/

/-- What every step of a fold keeps, the fold keeps. -/
theorem foldl_keeps {α β : Type} (g : State → β) (f : State → α → State) {xs : List α}
    (hf : ∀ s, ∀ x ∈ xs, g (f s x) = g s) (s : State) : g (xs.foldl f s) = g s := by
  induction xs generalizing s with
  | nil => rfl
  | cons x xs ih => exact (ih (fun s y hy => hf s y (by simp [hy])) _).trans (hf s x (by simp))

/-- A fold that visits `x` once: what holds before the visit and what the visit establishes, when no other
step disturbs either. -/
theorem foldl_visits {α : Type} {f : State → α → State} {xs : List α} {x : α} {Before After : State → Prop}
    (hnd : xs.Nodup) (hx : x ∈ xs) (hbefore : ∀ s, ∀ y ∈ xs, y ≠ x → Before s → Before (f s y))
    (hat : ∀ s, Before s → After (f s x)) (hafter : ∀ s, ∀ y ∈ xs, y ≠ x → After s → After (f s y))
    {s : State} (hs : Before s) : After (xs.foldl f s) := by
  induction xs generalizing s with
  | nil => cases hx
  | cons y xs ih =>
    obtain ⟨hy, hnd⟩ := List.nodup_cons.1 hnd
    by_cases hyx : y = x
    · subst hyx
      refine List.foldlRecOn xs f (hat s hs) fun t ht z hz => ?_
      exact hafter t z (by simp [hz]) (fun h => hy (h ▸ hz)) ht
    · refine ih hnd ((List.mem_cons.1 hx).resolve_left (Ne.symm hyx)) (fun s z hz => hbefore s z (by simp [hz]))
        (fun s z hz => hafter s z (by simp [hz])) (hbefore s y (by simp) hyx hs)

/-- A relation that composes relates the start of a fold to its end. -/
theorem foldl_relates {α : Type} {R : State → State → Prop} (hrefl : ∀ s, R s s)
    (htrans : ∀ s t u, R s t → R t u → R s u) (f : State → α → State) {xs : List α}
    (hf : ∀ s, ∀ x ∈ xs, R s (f s x)) (s : State) : R s (xs.foldl f s) :=
  List.foldlRecOn xs f (hrefl s) fun t ht x hx => htrans s t _ ht (hf t x hx)

theorem SameButFields.foldl {α : Type} {l : List Fld} (f : State → α → State) {xs : List α}
    (hf : ∀ s, ∀ x ∈ xs, SameButFields s (f s x) l) (s : State) : SameButFields s (xs.foldl f s) l :=
  foldl_relates (R := (SameButFields · · l)) (.refl · l) (fun _ _ _ => .trans) f hf s

/-- A field whose number is not among the listed ones reads as before. -/
theorem SameButFields.rd {s t : State} {l : List Fld} (h : SameButFields s t l) (f : Fld) (i : Nat)
    (hf : ∀ x ∈ l, f.id ≠ x.id) : t.rd f i = s.rd f i := h f i hf

end Sys2Proof.Machine

section

open Sys2Proof Sys2Proof.Machine

/-! ## States that differ in listed fields only -/

theorem OnlyFields.refl (s : State) (l : List Fld) : OnlyFields s s l := ⟨rfl, .refl s l⟩

theorem OnlyFields.trans {s t u : State} {l : List Fld} (h : OnlyFields s t l) (h' : OnlyFields t u l) :
    OnlyFields s u l := by
  obtain ⟨ht, hst⟩ := h
  obtain ⟨hu, htu⟩ := h'
  refine ⟨?_, hst.trans htu⟩
  calc u = { t with regs := u.regs } := hu
    _ = { s with regs := u.regs } := by rw [ht]

theorem OnlyFields.mono {s t : State} {l l' : List Fld} (h : OnlyFields s t l) (hl : ∀ x ∈ l, x ∈ l') :
    OnlyFields s t l' := ⟨h.1, h.2.mono hl⟩

theorem onlyFields_wr (s : State) (f : Fld) (i v : Nat) {l : List Fld} (h : f ∈ l) :
    OnlyFields s (s.wr f i v) l := ⟨rfl, sameButFields_wr s f i v h⟩

theorem OnlyFields.wr {s t : State} {l : List Fld} (h : OnlyFields s t l) (f : Fld) (i v : Nat) (hf : f ∈ l) :
    OnlyFields s (t.wr f i v) l := h.trans (onlyFields_wr t f i v hf)

theorem OnlyFields.foldl {α : Type} {l : List Fld} (f : State → α → State) {xs : List α}
    (hf : ∀ s, ∀ x ∈ xs, OnlyFields s (f s x) l) (s : State) : OnlyFields s (xs.foldl f s) l :=
  foldl_relates (R := (OnlyFields · · l)) (.refl · l) (fun _ _ _ => .trans) f hf s

theorem OnlyFields.ite {s a b : State} {l : List Fld} {c : Prop} [Decidable c] (ha : OnlyFields s a l)
    (hb : OnlyFields s b l) : OnlyFields s (if c then a else b) l := by
  split <;> assumption

/-- A field whose number is not among the listed ones reads as before. -/
theorem OnlyFields.rd {s t : State} {l : List Fld} (h : OnlyFields s t l) (f : Fld) (i : Nat)
    (hf : ∀ x ∈ l, f.id ≠ x.id) : t.rd f i = s.rd f i := h.2.rd f i hf

theorem OnlyFields.memories {s t : State} {l : List Fld} (h : OnlyFields s t l) : t.memories = s.memories := by
  rw [h.1]; rfl

theorem Sys2Proof.Machine.SameMemories.sameBytes {s t : State} (h : SameMemories s t) : SameBytes s t := by
  obtain ⟨hbeam, -, hhbm, -, hscratch, -, hflash⟩ := h
  exact ⟨hbeam, hhbm, hscratch, hflash⟩

end

namespace Sys2Proof.Machine

/-! ## Writes to several instances -/

theorem State.wrAll_onlyFields (s : State) (f : Fld) (is : List Nat) (v : Nat) :
    OnlyFields s (s.wrAll f is v) [f] :=
  OnlyFields.foldl (fun s i => s.wr f i v) (fun s i _ => onlyFields_wr s f i v (by simp)) s

/-- A second write of the same value leaves what the first one wrote. -/
theorem State.rd_wr_again {s : State} {f : Fld} {i v : Nat} (j : Nat) (h : s.rd f i = v % f.size) :
    (s.wr f j v).rd f i = v % f.size := by
  by_cases hk : regKey f j = regKey f i
  · simp [rd, wr, hk]
  · rw [s.rd_wr_key v hk, h]

theorem State.rd_wrAll (s : State) {f : Fld} {is : List Nat} {i : Nat} (v : Nat) (hi : i ∈ is) :
    (s.wrAll f is v).rd f i = v % f.size := by
  unfold wrAll
  obtain ⟨pre, post, rfl⟩ := List.append_of_mem hi
  rw [List.foldl_append, List.foldl_cons]
  exact List.foldlRecOn (motive := fun t : State => t.rd f i = v % f.size) post _ (rd_wr_same ..)
    fun t ht j _ => rd_wr_again j ht

/-! ## What equal memories mean -/

theorem sameMemories_of_memories {s t : State} (h : t.memories = s.memories) : SameMemories s t := by
  simp only [State.memories, Prod.mk.injEq, List.cons.injEq, and_true] at h
  obtain ⟨⟨hbeam, hhbm, hscratch, -, hflash⟩, hbeamP, hhbmP, hscratchP⟩ := h
  exact ⟨hbeam, hbeamP, hhbm, hhbmP, hscratch, hscratchP, hflash⟩

/-! ## Class B faults -/

/-- The collector's registers as a class B source sets them: status bit, cause, first-source latch or
overflow (R474-R476). -/
def State.noteFault (s : State) (src detail : Nat) : State :=
  let first := s.rd F.FAULT_FIRST_SRC_VALID 0 == 0
  let s := s.wr (statusFld src) 0 (setBit (s.rd (statusFld src) 0) (src % 32))
  let s := if faultIsCondition src then s.wr I.causeOn src 1 else s
  if first then
    (((s.wr F.FAULT_FIRST_SRC_SOURCE 0 src).wr F.FAULT_FIRST_SRC_CLASS 0 2).wr
      F.FAULT_FIRST_SRC_DETAIL 0 detail).wr F.FAULT_FIRST_SRC_VALID 0 1
  else (s.wr F.FAULT_OVF_OVF 0 1).bump F.FAULT_OVF_LATER 0

/-- Registers that `noteFault` writes beside the status field. -/
def noteFields : List Fld :=
  [I.causeOn, F.FAULT_FIRST_SRC_SOURCE, F.FAULT_FIRST_SRC_CLASS, F.FAULT_FIRST_SRC_DETAIL,
    F.FAULT_FIRST_SRC_VALID, F.FAULT_OVF_OVF, F.FAULT_OVF_LATER]

/-- A class B source: the collector's registers, a record, a host event (R473). -/
theorem State.fault_classB (s : State) {src : Nat} (detail : Nat) (h : faultClass src = 2) :
    ∃ data ev, s.fault src detail = ((s.noteFault src detail).record 2 src data).event 11 ev := by
  unfold fault noteFault
  simp only [h, reduceIte, OfNat.ofNat_ne_zero, OfNat.ofNat_ne_one]
  exact ⟨_, _, rfl⟩

/-- After its status bit `noteFault` writes `noteFields` only. -/
theorem State.noteFault_onlyFields (s : State) (src detail : Nat) :
    OnlyFields (s.wr (statusFld src) 0 (setBit (s.rd (statusFld src) 0) (src % 32))) (s.noteFault src detail)
      noteFields := by
  unfold noteFault
  extract_lets first s1 s2
  have h2 : OnlyFields s1 s2 noteFields := .ite (onlyFields_wr _ _ _ _ (by decide)) (.refl _ _)
  refine .ite ?_ ?_
  · exact (((h2.wr _ _ _ (by decide)).wr _ _ _ (by decide)).wr _ _ _ (by decide)).wr _ _ _ (by decide)
  · exact (h2.wr _ _ _ (by decide)).wr _ _ _ (by decide)

/-- A class B source changes registers, what is sent to the host, and the recorder's queues. -/
theorem State.fault_eq (s : State) {src : Nat} (detail : Nat) (h : faultClass src = 2) :
    let t := s.fault src detail
    t = { s with regs := t.regs, out := t.out, host := t.host, stw := { s.stw with
      records := t.stw.records, flashOps := t.stw.flashOps } } := by
  obtain ⟨data, ev, ht⟩ := s.fault_classB detail h
  dsimp only
  rw [ht, event_eq, record_eq, (s.noteFault_onlyFields src detail).1]
  dsimp only [wr]

theorem State.memories_fault (s : State) {src : Nat} (detail : Nat) (h : faultClass src = 2) :
    (s.fault src detail).memories = s.memories := by
  rw [s.fault_eq detail h]; rfl

theorem testBit_setBit (m k : Nat) : (setBit m k).testBit k = true := by
  unfold setBit
  split
  · assumption
  · next h => rw [Nat.add_comm, Nat.testBit_two_pow_add_eq, Bool.not_eq_true _ |>.mp h]; rfl

/-- A class B source sets its status bit (R474). -/
theorem State.statusBit_fault (s : State) {src : Nat} (detail : Nat) (h : faultClass src = 2)
    (hwidth : src % 32 < (statusFld src).hi - (statusFld src).lo + 1) :
    (s.fault src detail).statusBit src = true := by
  have hstatus : (s.fault src detail).rd (statusFld src) 0 =
      setBit (s.rd (statusFld src) 0) (src % 32) % (statusFld src).size := by
    obtain ⟨data, ev, ht⟩ := s.fault_classB detail h
    have hapart : ∀ x ∈ noteFields ++ recordFields ++ eventFields, (statusFld src).id ≠ x.id := by
      unfold statusFld
      split
      · decide
      · split <;> decide
    rw [ht, (event_frame _ _ _).rd _ _ fun x hx => hapart x (by simp [hx]),
      (record_frame _ _ _ _).rd _ _ fun x hx => hapart x (by simp [hx]),
      (s.noteFault_onlyFields src detail).rd _ _ fun x hx => hapart x (by simp [hx]), rd_wr_same]
  unfold statusBit
  rw [hstatus, Fld.size, Nat.testBit_mod_two_pow, testBit_setBit]
  simpa using hwidth

end Sys2Proof.Machine

section

open Sys2Proof Sys2Proof.Machine

/-- Settings are read from the Draft, which register writes leave alone. -/
theorem OnlyFields.cfg {s t : State} {l : List Fld} (h : OnlyFields s t l) (x : Setting) : t.cfg x = s.cfg x := by
  rw [h.1]; rfl

theorem OnlyFields.stw {s t : State} {l : List Fld} (h : OnlyFields s t l) : t.stw = s.stw := by rw [h.1]

theorem OnlyFields.hbm {s t : State} {l : List Fld} (h : OnlyFields s t l) : t.hbm = s.hbm := by rw [h.1]

theorem OnlyFields.arr {s t : State} {l : List Fld} (h : OnlyFields s t l) : t.arr = s.arr := by rw [h.1]

theorem OnlyFields.bnd {s t : State} {l : List Fld} (h : OnlyFields s t l) : t.bnd = s.bnd := by rw [h.1]

end

namespace Sys2Proof.Machine

/-! ## Retirements and row repair (R54, R57, R113) -/

/-- A retirement made joins the list of those made, and the steward's queue. -/
theorem State.retire_eq (s : State) (r : Retirement) :
    let t := s.retire r
    t = { s with arr := { s.arr with made := t.arr.made }, stw := { s.stw with
      retireQueue := t.stw.retireQueue, flashOps := t.stw.flashOps } } := by
  unfold retire; dsimp only; split <;> rfl

theorem State.retireExtent_eq (s : State) (e : Fin 10240) :
    let t := s.retireExtent e
    t = { s with
      arr := { s.arr with made := t.arr.made }
      hbm := { s.hbm with retired := t.hbm.retired }
      stw := { s.stw with retireQueue := t.stw.retireQueue, flashOps := t.stw.flashOps } } := by
  unfold retireExtent; dsimp only; split
  · rfl
  · rw [retire_eq]

theorem State.mem_retired_retireExtent (s : State) (e : Fin 10240) (k : Nat) :
    k ∈ (s.retireExtent e).hbm.retired ↔ k ∈ s.hbm.retired ∨ k = e.val := by
  unfold retireExtent
  split
  · next h => exact ⟨.inl, fun hk => hk.elim id fun hk => hk ▸ h⟩
  · rw [retire_eq]; simp

theorem State.mem_retired_foldl_retireExtent (es : List (Fin 10240)) (s : State) (k : Nat) :
    k ∈ (es.foldl State.retireExtent s).hbm.retired ↔ k ∈ s.hbm.retired ∨ ∃ e ∈ es, k = e.val := by
  induction es generalizing s with
  | nil => simp
  | cons e es ih => simp [ih, mem_retired_retireExtent, or_assoc]

/-- What the retirement of extents leaves alone. -/
def State.besideRetired (s : State) : SMap Nat × List (Nat × Nat × Nat × Nat) × BndSt ×
    (List (List Host.Cell) × List (SMap Bool)) := (s.regs, s.hbm.rows, s.bnd, s.memories)

theorem State.besideRetired_retireExtents (es : List (Fin 10240)) (s : State) :
    (es.foldl State.retireExtent s).besideRetired = s.besideRetired :=
  foldl_keeps State.besideRetired _ (fun s e _ => by rw [retireExtent_eq]; rfl) s

/-- The extents lost to rows of a group that could not be repaired. -/
def lostOf (g : Nat) (lost : List (Fin 10240)) : List (Fin 10240) := lost.filter fun e => e.val / 640 == g

/-- Queued rows of a group. -/
def State.rowsOf (s : State) (g : Nat) : List (Nat × Nat × Nat × Nat) := s.hbm.rows.filter fun r => r.1 == g

/-- The three registers of a group after the repair of its rows. -/
def State.noteRepair (s : State) (g bad : Nat) : State :=
  ((s.wr F.HBM_GRP_REPAIR_PENDING g 0).wr F.HBM_GRP_REPAIR_DONE g (min 255 ((s.rowsOf g).length - bad))).bumpBy
    F.HBM_GRP_REPAIR_FAILED g bad

theorem State.repairRows_regs (s : State) (g : Nat) (lost : List (Fin 10240)) :
    (s.repairRows g lost).regs = (s.noteRepair g (lostOf g lost).length).regs :=
  congrArg (·.1) (besideRetired_retireExtents _ _)

theorem State.repairRows_rows (s : State) (g : Nat) (lost : List (Fin 10240)) :
    (s.repairRows g lost).hbm.rows = s.hbm.rows.filter fun r => r.1 != g :=
  congrArg (·.2.1) (besideRetired_retireExtents _ _)

theorem State.repairRows_bnd (s : State) (g : Nat) (lost : List (Fin 10240)) :
    (s.repairRows g lost).bnd = s.bnd := congrArg (·.2.2.1) (besideRetired_retireExtents _ _)

theorem State.memories_repairRows (s : State) (g : Nat) (lost : List (Fin 10240)) :
    (s.repairRows g lost).memories = s.memories := congrArg (·.2.2.2) (besideRetired_retireExtents _ _)

theorem State.mem_retired_repairRows (s : State) (g : Nat) (lost : List (Fin 10240)) (k : Nat) :
    k ∈ (s.repairRows g lost).hbm.retired ↔ k ∈ s.hbm.retired ∨ ∃ e ∈ lostOf g lost, k = e.val :=
  mem_retired_foldl_retireExtent _ _ k

/-- The registers of a group that the repair of its rows writes. -/
def repairPlaces (g : Nat) : List (Fld × Nat) :=
  [(F.HBM_GRP_REPAIR_PENDING, g), (F.HBM_GRP_REPAIR_DONE, g), (F.HBM_GRP_REPAIR_FAILED, g)]

theorem State.repairRows_sameBut (s : State) (g : Nat) (lost : List (Fin 10240)) :
    SameBut s (s.repairRows g lost) (repairPlaces g) := by
  intro f i hf
  rw [State.rd_congr (s.repairRows_regs g lost)]
  exact (((SameBut.refl s _).wr _ g _ (by simp [repairPlaces])).wr _ g _ (by simp [repairPlaces])).wr _ g _
    (by simp [repairPlaces]) f i hf

theorem State.repairRows_frame (s : State) (g : Nat) (lost : List (Fin 10240)) :
    SameButFields s (s.repairRows g lost)
      [F.HBM_GRP_REPAIR_PENDING, F.HBM_GRP_REPAIR_DONE, F.HBM_GRP_REPAIR_FAILED] := fun f i hf =>
  s.repairRows_sameBut g lost f i fun x hx => regKey_inj_id (hf x.1 (by
    rcases (by simpa [repairPlaces] using hx : x = _ ∨ x = _ ∨ x = _) with rfl | rfl | rfl <;> simp))

/-- The rows of a group wait for their repair: its queue and its count of failures are as in `s`. -/
def RepairDue (s t : State) (g : Nat) : Prop :=
  t.rowsOf g = s.rowsOf g ∧ t.rd F.HBM_GRP_REPAIR_FAILED g = s.rd F.HBM_GRP_REPAIR_FAILED g

/-- The rows of a group have been repaired, from state `s` on. -/
def RepairMade (s t : State) (g bad : Nat) : Prop :=
  t.rd F.HBM_GRP_REPAIR_PENDING g = 0 ∧ t.rd F.HBM_GRP_REPAIR_DONE g = min 255 ((s.rowsOf g).length - bad) ∧
  Rises s t F.HBM_GRP_REPAIR_FAILED g bad

theorem RepairDue.repairRows {s t : State} {g : Nat} (h : RepairDue s t g) (lost : List (Fin 10240)) :
    RepairMade s (t.repairRows g lost) g (lostOf g lost).length := by
  obtain ⟨hrows, hfailed⟩ := h
  have hrd (f : Fld) := State.rd_congr (t.repairRows_regs g lost) f g
  simp only [State.noteRepair, hrows] at hrd
  have hbelow : min 255 ((s.rowsOf g).length - (lostOf g lost).length) < F.HBM_GRP_REPAIR_DONE.size :=
    lt_of_le_of_lt (min_le_left _ _) (by decide)
  refine ⟨?_, ?_, ?_⟩
  · rw [hrd, State.bumpBy, State.rd_wr_id _ _ _ _ (by decide), State.rd_wr_id _ _ _ _ (by decide),
      State.rd_wr_same, Nat.zero_mod]
  · rw [hrd, State.bumpBy, State.rd_wr_id _ _ _ _ (by decide), State.rd_wr_same, Nat.mod_eq_of_lt hbelow]
  · unfold Rises
    rw [hrd, State.rd_bumpBy, State.rd_wr_id _ _ _ _ (by decide), State.rd_wr_id _ _ _ _ (by decide), hfailed]

/-- The repair of another group's rows leaves a group's registers alone. -/
theorem State.rd_repairRows_other (s : State) {g g' : Nat} (lost : List (Fin 10240)) (hg : g < 16) (hg' : g' < 16)
    (h : g' ≠ g) (f : Fld) : (s.repairRows g' lost).rd f g = s.rd f g := by
  refine s.repairRows_sameBut g' lost f g fun x hx => ?_
  have hx2 : x.2 = g' := by
    rcases (by simpa [repairPlaces] using hx : x = _ ∨ x = _ ∨ x = _) with rfl | rfl | rfl <;> rfl
  unfold regKey
  rw [hx2]
  omega

theorem RepairDue.other {s t : State} {g g' : Nat} (h : RepairDue s t g) (lost : List (Fin 10240)) (hg : g < 16)
    (hg' : g' < 16) (hne : g' ≠ g) : RepairDue s (t.repairRows g' lost) g := by
  obtain ⟨hrows, hfailed⟩ := h
  refine ⟨?_, (t.rd_repairRows_other lost hg hg' hne _).trans hfailed⟩
  rw [← hrows, State.rowsOf, t.repairRows_rows, List.filter_filter]
  refine List.filter_congr fun r _ => ?_
  by_cases hr : r.1 = g <;> simp [hr, Ne.symm hne]

/-- All groups' rows are repaired as the memory domain powers up. -/
theorem repairMade_all (s : State) (lost : List (Fin 10240)) {g : Nat} (hg : g < 16) :
    RepairMade s ((List.range 16).foldl (State.repairRows · · lost) s) g (lostOf g lost).length := by
  refine foldl_visits (Before := (RepairDue s · g)) (After := (RepairMade s · g (lostOf g lost).length))
    List.nodup_range (List.mem_range.2 hg) ?_ (fun t ht => ht.repairRows lost) ?_ ⟨rfl, rfl⟩
  · exact fun t g' hg' hne ht => ht.other lost hg (List.mem_range.1 hg') hne
  · intro t g' hg' hne ht
    have hrd := t.rd_repairRows_other lost hg (List.mem_range.1 hg') hne
    unfold RepairMade Rises at *
    rwa [hrd, hrd, hrd]

theorem rows_repairRows_foldl (gs : List Nat) (lost : List (Fin 10240)) (s : State)
    (r : Nat × Nat × Nat × Nat) :
    r ∈ (gs.foldl (State.repairRows · · lost) s).hbm.rows ↔ r ∈ s.hbm.rows ∧ r.1 ∉ gs := by
  induction gs generalizing s with
  | nil => simp
  | cons g gs ih => simp [ih, State.repairRows_rows, and_assoc]

theorem mem_retired_repairRows_foldl (gs : List Nat) (lost : List (Fin 10240)) (s : State) {e : Fin 10240}
    (he : e ∈ lost) (hg : e.val / 640 ∈ gs ∨ e.val ∈ s.hbm.retired) :
    e.val ∈ (gs.foldl (State.repairRows · · lost) s).hbm.retired := by
  induction gs generalizing s with
  | nil => simpa using hg
  | cons g gs ih =>
    refine ih _ ?_
    rw [State.mem_retired_repairRows]
    rcases hg with hg | hg
    · rcases List.mem_cons.1 hg with rfl | hg
      · exact .inr (.inr ⟨e, by simp [lostOf, he], rfl⟩)
      · exact .inl hg
    · exact .inr (.inl hg)

/-- The state with every group's training flag set, before the repair of rows. -/
def State.allTrained (s : State) : State := s.wrAll F.HBM_GRP_STATE_TRAINED (List.range 16) 1

theorem State.allTrained_onlyFields (s : State) : OnlyFields s s.allTrained [F.HBM_GRP_STATE_TRAINED] :=
  s.wrAll_onlyFields ..

/-- The state at the end of training. -/
def State.trained (s : State) (lost : List (Fin 10240)) : State :=
  (List.range 16).foldl (State.repairRows · · lost) s.allTrained

/-- The end of training writes each group's flag and repairs its rows. -/
theorem hbmTrained_completes (lost : List (Fin 10240)) {s : State} (hup : s.on I.dieUp 0 = true)
    (hnot : s.on F.HBM_GRP_STATE_TRAINED 0 = false) :
    exec (.hbmTrained lost) s = .next (s.trained lost) :=
  if_pos ⟨hup, by rw [hnot]; rfl⟩

theorem hbmTrained_ignored (lost : List (Fin 10240)) {s : State}
    (h : ¬ (s.on I.dieUp 0 = true ∧ s.on F.HBM_GRP_STATE_TRAINED 0 = false)) :
    exec (.hbmTrained lost) s = .next s :=
  if_neg fun hs => h ⟨hs.1, by simpa using hs.2⟩

theorem State.trained_frame (s : State) (lost : List (Fin 10240)) :
    SameButFields s.allTrained (s.trained lost)
      [F.HBM_GRP_REPAIR_PENDING, F.HBM_GRP_REPAIR_DONE, F.HBM_GRP_REPAIR_FAILED] :=
  SameButFields.foldl _ (fun s g _ => s.repairRows_frame g lost) _

/-- The repairs of a group, from the state before training on. -/
theorem State.trained_repairMade (s : State) (lost : List (Fin 10240)) {g : Nat} (hg : g < 16) :
    RepairMade s (s.trained lost) g (lostOf g lost).length := by
  have h := repairMade_all s.allTrained lost hg
  have hrows : s.allTrained.rowsOf g = s.rowsOf g := by rw [rowsOf, s.allTrained_onlyFields.hbm]; rfl
  unfold RepairMade Rises at *
  rwa [hrows, s.allTrained_onlyFields.rd F.HBM_GRP_REPAIR_FAILED g (by decide)] at h

theorem State.rd_trained (s : State) (lost : List (Fin 10240)) {g : Nat} (hg : g < 16) :
    (s.trained lost).rd F.HBM_GRP_STATE_TRAINED g = 1 :=
  ((s.trained_frame lost).rd _ g (by decide)).trans (s.rd_wrAll 1 (List.mem_range.2 hg))

theorem State.trained_sameButFields (s : State) (lost : List (Fin 10240)) :
    SameButFields s (s.trained lost) [F.HBM_GRP_STATE_TRAINED, F.HBM_GRP_REPAIR_PENDING, F.HBM_GRP_REPAIR_DONE,
      F.HBM_GRP_REPAIR_FAILED] :=
  (s.allTrained_onlyFields.2.mono (by simp)).trans ((s.trained_frame lost).mono (by simp))

theorem State.memories_trained (s : State) (lost : List (Fin 10240)) :
    (s.trained lost).memories = s.memories :=
  (memories_foldl _ (fun s g => s.memories_repairRows g lost) _ _).trans s.allTrained_onlyFields.memories

theorem State.trained_bnd (s : State) (lost : List (Fin 10240)) : (s.trained lost).bnd = s.bnd :=
  (foldl_keeps State.bnd _ (fun s g _ => s.repairRows_bnd g lost) _).trans s.allTrained_onlyFields.bnd

theorem State.mem_rows_trained (s : State) (lost : List (Fin 10240)) (r : Nat × Nat × Nat × Nat) :
    r ∈ (s.trained lost).hbm.rows ↔ r ∈ s.hbm.rows ∧ 16 ≤ r.1 := by
  rw [trained, rows_repairRows_foldl, s.allTrained_onlyFields.hbm, List.mem_range, Nat.not_lt]

theorem State.mem_retired_trained (s : State) {lost : List (Fin 10240)} {e : Fin 10240} (he : e ∈ lost) :
    e.val ∈ (s.trained lost).hbm.retired :=
  mem_retired_repairRows_foldl _ _ _ he (.inl (List.mem_range.2 (by have := e.isLt; omega)))

end Sys2Proof.Machine

namespace Sys2Proof.Machine

/-! ## The compute die leaves and enters reset (R415, R494) -/

/-- Registers of the weft window that the steward writes. -/
def weftCfgFields : List Fld :=
  [F.WEFT_LINK_STATE_EXPECT, F.WEFT_LINK_STATE_STATE, F.WEFT_CFG_NODE, F.WEFT_CFG_CONFIG, F.WEFT_CFG_SYMPATHY,
    F.WEFT_CFG_STEP_TIMEOUT_MS]

/-- The links' part of the weft window. -/
def State.weftLinks (s : State) : State :=
  let node := s.rd F.STW_STATUS_NODE 0
  (List.range 10).foldl (fun s k =>
    let s := s.wr F.WEFT_LINK_STATE_EXPECT k (expectNode node k)
    if linkUsed (s.cfg cfgConfig) (s.cfg ⟨0x01, 1, 1, 8⟩) (node % 8) k then s
    else s.wr F.WEFT_LINK_STATE_STATE k 6) s

theorem State.weftLinks_onlyFields (s : State) : OnlyFields s s.weftLinks weftCfgFields :=
  OnlyFields.foldl _ (fun s k _ =>
    have h := onlyFields_wr s F.WEFT_LINK_STATE_EXPECT k _ (by decide)
    .ite h (h.wr _ _ _ (by decide))) s

@[simp] theorem State.cfg_wr (s : State) (f : Fld) (i v : Nat) (x : Setting) : (s.wr f i v).cfg x = s.cfg x := rfl

theorem State.weftCfg_eq (s : State) :
    s.weftCfg = (((s.weftLinks.wr F.WEFT_CFG_NODE 0 (s.rd F.STW_STATUS_NODE 0)).wr F.WEFT_CFG_CONFIG 0
      (s.cfg cfgConfig)).wr F.WEFT_CFG_SYMPATHY 0 (field (s.cfg cfgFlags) 1 1)).wr F.WEFT_CFG_STEP_TIMEOUT_MS 0
      (s.cfgIn cfgStepTimeout 1 1000) := by
  have hcfg (x : Setting) : s.weftLinks.cfg x = s.cfg x := s.weftLinks_onlyFields.cfg x
  have heq : s.weftCfg = (((s.weftLinks.wr F.WEFT_CFG_NODE 0 (s.rd F.STW_STATUS_NODE 0)).wr F.WEFT_CFG_CONFIG 0
      (s.weftLinks.cfg cfgConfig)).wr F.WEFT_CFG_SYMPATHY 0 (field (s.weftLinks.cfg cfgFlags) 1 1)).wr
      F.WEFT_CFG_STEP_TIMEOUT_MS 0 (s.weftLinks.cfgIn cfgStepTimeout 1 1000) := by
    unfold weftCfg weftLinks
    simp only [cfg_wr, cfgIn]
  rw [heq, cfgIn, hcfg, hcfg, hcfg, cfgIn]

theorem State.weftCfg_onlyFields (s : State) : OnlyFields s s.weftCfg weftCfgFields := by
  rw [weftCfg_eq]
  exact (((s.weftLinks_onlyFields.wr _ _ _ (by decide)).wr _ _ _ (by decide)).wr _ _ _ (by decide)).wr _ _ _
    (by decide)

theorem State.rd_weftCfg_node (s : State) :
    s.weftCfg.rd F.WEFT_CFG_NODE 0 = s.rd F.STW_STATUS_NODE 0 % F.WEFT_CFG_NODE.size := by
  rw [weftCfg_eq, rd_wr_id _ _ _ _ (by decide), rd_wr_id _ _ _ _ (by decide), rd_wr_id _ _ _ _ (by decide),
    rd_wr_same]

theorem State.rd_weftCfg_config (s : State) :
    s.weftCfg.rd F.WEFT_CFG_CONFIG 0 = s.cfg cfgConfig % F.WEFT_CFG_CONFIG.size := by
  rw [weftCfg_eq, rd_wr_id _ _ _ _ (by decide), rd_wr_id _ _ _ _ (by decide), rd_wr_same]

/-- Registers of the partitions' shares and first budgets. -/
def shareFields : List Fld := [F.PART_CAP_FRACTION_FRACTION, I.budget, F.PART_POWER_BUDGET_W]

/-- A partition's share and first budget. -/
def State.share (s : State) (p : Nat) : State :=
  let f := s.cfg (cfgFraction p)
  let b := (s.cfg cfgCapW - s.cfg cfgReserveW) * f
  ((s.wr F.PART_CAP_FRACTION_FRACTION p f).wr I.budget p b).wr F.PART_POWER_BUDGET_W p (toUnit 256 b)

theorem State.share_onlyFields (s : State) (p : Nat) : OnlyFields s (s.share p) shareFields :=
  ((onlyFields_wr s _ _ _ (by decide)).wr _ _ _ (by decide)).wr _ _ _ (by decide)

theorem State.shares_onlyFields (s : State) : OnlyFields s s.shares shareFields :=
  OnlyFields.foldl State.share (fun s p _ => s.share_onlyFields p) s

theorem State.rd_share_same (s : State) (p : Nat) :
    (s.share p).rd F.PART_CAP_FRACTION_FRACTION p = s.cfg (cfgFraction p) % F.PART_CAP_FRACTION_FRACTION.size := by
  unfold share
  rw [rd_wr_id _ _ _ _ (by decide), rd_wr_id _ _ _ _ (by decide), rd_wr_same]

theorem State.rd_share_other (s : State) {p q : Nat} (hp : p < 16) (hq : q < 16) (h : q ≠ p) :
    (s.share q).rd F.PART_CAP_FRACTION_FRACTION p = s.rd F.PART_CAP_FRACTION_FRACTION p := by
  unfold share
  rw [rd_wr_id _ _ _ _ (by decide), rd_wr_id _ _ _ _ (by decide), rd_wr_ix _ _ (by omega) (by omega) h]

theorem State.rd_shares (s : State) {p : Nat} (hp : p < 16) :
    s.shares.rd F.PART_CAP_FRACTION_FRACTION p = s.cfg (cfgFraction p) % F.PART_CAP_FRACTION_FRACTION.size := by
  refine foldl_visits (f := State.share) (Before := fun t => t.cfg (cfgFraction p) = s.cfg (cfgFraction p))
    (After := fun t => t.rd F.PART_CAP_FRACTION_FRACTION p = _) List.nodup_range (List.mem_range.2 hp)
    (fun t q _ _ ht => ((t.share_onlyFields q).cfg _).trans ht) (fun t ht => ?_) (fun t q hq hne ht => ?_) rfl
  · rw [t.rd_share_same, ht]
  · rw [t.rd_share_other hp (List.mem_range.1 hq) hne, ht]

/-- The die up, and the step that follows: of the chip reset in progress, or of the power sequence, in which
the steward writes the weft window. -/
def State.raiseDie (s : State) : State :=
  let up := (s.wr I.dieUp 0 1).wr I.linkAt 0 s.us
  if s.rd I.chipStep 0 == 2 then up.wr I.chipStep 0 3 else (up.wr F.PWR_SEQ_STEP 0 6).weftCfg

/-- The die after its reset is released, before the retirements handed over are in force. -/
def State.leaveReset (s : State) : State :=
  (s.raiseDie.shares.wr I.bootCount 0 (s.raiseDie.rd I.bootCount 0 + 1)).wr F.SEC_STATUS_BOOT_KEY 0 1

/-- The retirements that the steward hands over (R363). -/
def State.handedOver (s : State) : List Retirement := s.stw.repair ++ s.stw.overflow

/-- They are noted in the compute die, which has no sensor samples yet. -/
def State.noteHanded (s : State) : State :=
  { s with arr := { s.arr with user := s.handedOver }, thm := { s.thm with subs := [] } }

/-- They are in force (R54). -/
def State.applyHanded (s : State) : State := s.handedOver.foldl State.applyRetirement s.noteHanded

/-- The retirements in force, exchanges made (R97), maps read (R65). -/
def State.takeRetirements (s : State) : State :=
  (List.finRange 16).foldl State.readMaps s.applyHanded.makeExchanges

theorem exec_resetRelease {s : State} (h : s.rd I.chipStep 0 = 2 ∨
    (s.rd F.PWR_SEQ_STEP 0 = 5 ∧ s.railsGood = true)) :
    exec .computeDieResetRelease s = .next s.leaveReset.takeRetirements := by
  have hgo : (s.rd I.chipStep 0 == 2) = true ∨ (s.rd F.PWR_SEQ_STEP 0 == 5 && s.railsGood) = true := by
    simpa using h
  show execComputeDieResetRelease s = _
  unfold execComputeDieResetRelease State.leaveReset State.raiseDie State.takeRetirements State.applyHanded
    State.noteHanded State.handedOver
  simp only [if_pos hgo]

theorem exec_resetRelease_ignored {s : State} (h : ¬ s.rd I.chipStep 0 = 2)
    (h' : ¬ (s.rd F.PWR_SEQ_STEP 0 = 5 ∧ s.railsGood = true)) :
    exec .computeDieResetRelease s = .next s :=
  if_neg (by simpa [h] using h')

/-! ### The die raised -/

/-- Registers that `raiseDie` writes. -/
def raiseFields : List Fld := [I.dieUp, I.linkAt, I.chipStep, F.PWR_SEQ_STEP] ++ weftCfgFields

/-- Registers that `leaveReset` writes after it. -/
def bootFields : List Fld := [I.bootCount, F.SEC_STATUS_BOOT_KEY] ++ shareFields

theorem State.raiseDie_of_reset {s : State} (h : s.rd I.chipStep 0 = 2) :
    s.raiseDie = ((s.wr I.dieUp 0 1).wr I.linkAt 0 s.us).wr I.chipStep 0 3 :=
  if_pos (by simp [h])

theorem State.raiseDie_of_power {s : State} (h : s.rd I.chipStep 0 ≠ 2) :
    s.raiseDie = (((s.wr I.dieUp 0 1).wr I.linkAt 0 s.us).wr F.PWR_SEQ_STEP 0 6).weftCfg :=
  if_neg (by simp [h])

theorem State.raiseDie_onlyFields (s : State) : OnlyFields s s.raiseDie raiseFields := by
  have hup : OnlyFields s ((s.wr I.dieUp 0 1).wr I.linkAt 0 s.us) raiseFields :=
    (onlyFields_wr s _ _ _ (by decide)).wr _ _ _ (by decide)
  exact .ite (hup.wr _ _ _ (by decide)) ((hup.wr _ _ _ (by decide)).trans
    ((weftCfg_onlyFields _).mono (by decide)))

theorem State.rd_raiseDie_up (s : State) :
    s.raiseDie.rd I.dieUp 0 = 1 ∧ s.raiseDie.rd I.linkAt 0 = s.us % 2 ^ 64 := by
  by_cases h : s.rd I.chipStep 0 = 2
  · rw [raiseDie_of_reset h, rd_wr_id _ _ _ _ (by decide), rd_wr_id _ _ _ _ (by decide), rd_wr_same,
      rd_wr_id _ _ _ _ (by decide), rd_wr_same]
    exact ⟨rfl, rfl⟩
  · rw [raiseDie_of_power h, (weftCfg_onlyFields _).rd _ _ (by decide), (weftCfg_onlyFields _).rd _ _ (by decide),
      rd_wr_id _ _ _ _ (by decide), rd_wr_id _ _ _ _ (by decide), rd_wr_same, rd_wr_id _ _ _ _ (by decide),
      rd_wr_same]
    exact ⟨rfl, rfl⟩

/-- In a chip reset its next step follows; from power the sequence is over and the weft window is written. -/
theorem State.raiseDie_step (s : State) :
    if s.rd I.chipStep 0 = 2 then
      s.raiseDie.rd I.chipStep 0 = 3 ∧ s.raiseDie.rd F.PWR_SEQ_STEP 0 = s.rd F.PWR_SEQ_STEP 0
    else s.raiseDie.rd F.PWR_SEQ_STEP 0 = 6 ∧ s.raiseDie.rd I.chipStep 0 = s.rd I.chipStep 0 ∧
      s.raiseDie.rd F.WEFT_CFG_NODE 0 = s.rd F.STW_STATUS_NODE 0 % F.WEFT_CFG_NODE.size ∧
      s.raiseDie.rd F.WEFT_CFG_CONFIG 0 = s.cfg cfgConfig % F.WEFT_CFG_CONFIG.size := by
  split
  · next h =>
    rw [raiseDie_of_reset h, rd_wr_same, rd_wr_id _ _ _ _ (by decide), rd_wr_id _ _ _ _ (by decide),
      rd_wr_id _ _ _ _ (by decide)]
    exact ⟨rfl, rfl⟩
  · next h =>
    rw [raiseDie_of_power h, (weftCfg_onlyFields _).rd _ _ (by decide), (weftCfg_onlyFields _).rd _ _ (by decide),
      rd_wr_same, rd_wr_id _ _ _ _ (by decide), rd_wr_id _ _ _ _ (by decide), rd_wr_id _ _ _ _ (by decide),
      rd_weftCfg_node, rd_wr_id _ _ _ _ (by decide), rd_wr_id _ _ _ _ (by decide), rd_wr_id _ _ _ _ (by decide),
      rd_weftCfg_config]
    exact ⟨rfl, rfl, rfl, rfl⟩

theorem State.leaveReset_onlyFields_raised (s : State) : OnlyFields s.raiseDie s.leaveReset bootFields :=
  (((shares_onlyFields _).mono (by decide)).wr _ _ _ (by decide)).wr _ _ _ (by decide)

theorem State.leaveReset_onlyFields (s : State) : OnlyFields s s.leaveReset (raiseFields ++ bootFields) :=
  (s.raiseDie_onlyFields.mono fun _ => List.mem_append_left _).trans
    (s.leaveReset_onlyFields_raised.mono fun _ => List.mem_append_right _)

/-- A new per-boot key, counted (R320). -/
theorem State.rd_leaveReset_boot (s : State) :
    s.leaveReset.rd I.bootCount 0 = (s.rd I.bootCount 0 + 1) % 2 ^ 32 ∧
      s.leaveReset.rd F.SEC_STATUS_BOOT_KEY 0 = 1 := by
  rw [leaveReset, rd_wr_id _ _ _ _ (by decide), rd_wr_same, rd_wr_same, s.raiseDie_onlyFields.rd _ _ (by decide)]
  exact ⟨rfl, rfl⟩

theorem State.rd_leaveReset_share (s : State) {p : Nat} (hp : p < 16) :
    s.leaveReset.rd F.PART_CAP_FRACTION_FRACTION p =
      s.cfg (cfgFraction p) % F.PART_CAP_FRACTION_FRACTION.size := by
  rw [leaveReset, rd_wr_id _ _ _ _ (by decide), rd_wr_id _ _ _ _ (by decide), rd_shares _ hp,
    s.raiseDie_onlyFields.cfg]

/-! ### The retirements handed over -/

theorem State.retireBolt_eq (s : State) (b : Nat) :
    let t := s.retireBolt b
    t = { s with beam := { s.beam with bolts := t.beam.bolts } } := by
  unfold retireBolt; dsimp only; split <;> rfl

/-- Registers that a retirement handed over writes. -/
def retirementFields : List Fld := [I.bankFailing, I.spareUsed, I.sparedBank, F.HBM_GRP_REPAIR_PENDING]

/-- A retirement handed over changes registers, bolts, queued rows and retired extents. -/
theorem State.applyRetirement_eq (s : State) (r : Retirement) :
    let t := s.applyRetirement r
    t = { s with
      regs := t.regs
      beam := { s.beam with bolts := t.beam.bolts }
      hbm := { s.hbm with rows := t.hbm.rows, retired := t.hbm.retired } } := by
  cases r with
  | core | cluster | extent => rfl
  | bank q g b => unfold applyRetirement; dsimp only; split <;> rfl
  | bolt b x =>
    cases x with
    | none => dsimp only [applyRetirement]; rw [retireBolt_eq]
    | some f => rfl
  | row g c bank row => unfold applyRetirement; dsimp only; split <;> rfl

theorem State.applyRetirement_frame (s : State) (r : Retirement) :
    SameButFields s (s.applyRetirement r) retirementFields := by
  cases r with
  | core | cluster | extent => exact .refl _ _
  | bank q g b =>
    have h := sameButFields_wr s I.bankFailing (bankIx (q.val * 32 + g.val) b.val) 1 (l := retirementFields)
      (by decide)
    unfold applyRetirement; dsimp only; split
    · exact h
    · exact (h.wr _ _ _ (by decide)).wr _ _ _ (by decide)
  | bolt b x =>
    cases x with
    | none => exact .of_regs (by rw [applyRetirement, retireBolt_eq]) _
    | some f => exact .of_regs rfl _
  | row g c bank row =>
    unfold applyRetirement; dsimp only; split
    · exact .refl _ _
    · exact sameButFields_wr _ _ _ _ (by decide)

/-- The banks named stay failing. -/
theorem State.applyRetirement_keeps_failing {s : State} {i : Nat} (h : s.rd I.bankFailing i = 1)
    (r : Retirement) : (s.applyRetirement r).rd I.bankFailing i = 1 := by
  cases r with
  | core | cluster | extent => exact h
  | bank q g b =>
    have hw : (s.wr I.bankFailing (bankIx (q.val * 32 + g.val) b.val) 1).rd I.bankFailing i = 1 :=
      rd_wr_again _ h
    unfold applyRetirement; dsimp only; split
    · exact hw
    · rw [rd_wr_id _ _ _ _ (by decide), rd_wr_id _ _ _ _ (by decide), hw]
  | bolt b x =>
    cases x with
    | none => rw [applyRetirement, retireBolt_eq]; exact h
    | some f => exact h
  | row g c bank row =>
    unfold applyRetirement; dsimp only; split
    · exact h
    · exact (rd_wr_id _ _ _ _ (by decide)).trans h

theorem State.rd_applyRetirement_bank (s : State) (q : Fin 4) (g : Fin 32) (b : Fin 33) :
    (s.applyRetirement (.bank q g b)).rd I.bankFailing (bankIx (q.val * 32 + g.val) b.val) = 1 := by
  unfold applyRetirement; dsimp only; split
  · exact rd_wr_same ..
  · rw [rd_wr_id _ _ _ _ (by decide), rd_wr_id _ _ _ _ (by decide)]; exact rd_wr_same ..

/-- Extents retired stay retired. -/
theorem State.applyRetirement_keeps_retired {s : State} {e : Nat} (h : e ∈ s.hbm.retired) (r : Retirement) :
    e ∈ (s.applyRetirement r).hbm.retired := by
  cases r with
  | core | cluster => exact h
  | extent e' => exact List.mem_append_left _ h
  | bank q g b => unfold applyRetirement; dsimp only; split <;> exact h
  | bolt b x =>
    cases x with
    | none => rw [applyRetirement, retireBolt_eq]; exact h
    | some f => exact h
  | row g c bank row => unfold applyRetirement; dsimp only; split <;> exact h

/-- What one retirement establishes and the others keep holds when all have been applied. -/
theorem applyRetirements_establish {P : State → Prop} {r : Retirement} {rs : List Retirement} (hr : r ∈ rs)
    (hat : ∀ s : State, P (s.applyRetirement r)) (hkeep : ∀ (s : State) (r' : Retirement), P s → P (s.applyRetirement r'))
    (s : State) : P (rs.foldl State.applyRetirement s) := by
  obtain ⟨pre, post, rfl⟩ := List.append_of_mem hr
  rw [List.foldl_append, List.foldl_cons]
  exact List.foldlRecOn (motive := P) post _ (hat _) fun t ht r' _ => hkeep t r' ht

/-! ### Exchanges of fixed bolts, and maps -/

/-- The exchange of one fixed bolt (R97). -/
def State.exchangeOne (s : State) (f : Nat) : State :=
  match ((List.finRange 256).filter fun b => b.val / 64 == f / 64 && s.boltFree b.val).getLast? with
  | some r => (s.exchangeBolts f r.val).retire (.bolt r (some (Fin.ofNat 256 f)))
  | none => s.fault 83 f

/-- What exchanges leave alone. -/
def State.besideBolts (s : State) : HbmSt × List Retirement × (List (List Host.Cell) × List (SMap Bool)) :=
  (s.hbm, s.arr.user, s.memories)

theorem State.of_besideBolts {s t : State} (h : t.besideBolts = s.besideBolts) :
    t.hbm = s.hbm ∧ t.arr.user = s.arr.user ∧ t.memories = s.memories := by
  simpa only [besideBolts, Prod.mk.injEq] using h

theorem State.besideBolts_of_onlyFields {s t : State} {l : List Fld} (h : OnlyFields s t l) :
    t.besideBolts = s.besideBolts := by
  rw [h.1]; rfl

theorem State.besideBolts_exchangeOne (s : State) (f : Nat) : (s.exchangeOne f).besideBolts = s.besideBolts := by
  unfold exchangeOne; split
  · rw [retire_eq]; rfl
  · rw [s.fault_eq f (by decide)]; rfl

theorem State.exchangeOne_frame (s : State) (f : Nat) : SameButFields s (s.exchangeOne f) (faultBFields 83) := by
  unfold exchangeOne; split
  · exact .of_regs (by rw [retire_eq]; rfl) _
  · exact fault_frame f s (by decide)

theorem State.besideBolts_makeExchanges (s : State) : s.makeExchanges.besideBolts = s.besideBolts :=
  foldl_keeps State.besideBolts _ (fun s f _ => s.besideBolts_exchangeOne f) s

theorem State.makeExchanges_frame (s : State) : SameButFields s s.makeExchanges (faultBFields 83) :=
  (SameButFields.foldl _ (fun s f _ => s.exchangeOne_frame f) s).trans (.of_regs rfl _)

/-- The registers of the clusters' maps. -/
def mapFields : List Fld :=
  [F.PART_CL_RETIRED_CORES, F.PART_CL_DATA_RETIRED, F.PART_CL_DATA_SPARE_FREE, F.PART_CLUSTERS_OK_CLUSTERS_OK]

theorem State.readMaps_onlyFields (s : State) (p : Part) : OnlyFields s (s.readMaps p) mapFields :=
  (OnlyFields.foldl _ (fun s _ _ => ((onlyFields_wr s _ _ _ (by decide)).wr _ _ _ (by decide)).wr _ _ _
    (by decide)) s).wr _ _ _ (by decide)

end Sys2Proof.Machine

namespace Sys2Proof.Machine

/-! ### The retirements in force -/

/-- Every register that `takeRetirements` can write. -/
def handOverFields : List Fld := retirementFields ++ faultBFields 83 ++ mapFields

theorem State.takeRetirements_onlyFields (s : State) :
    OnlyFields s.applyHanded.makeExchanges s.takeRetirements mapFields :=
  OnlyFields.foldl State.readMaps (fun s p _ => s.readMaps_onlyFields p) _

theorem State.applyHanded_frame (s : State) : SameButFields s s.applyHanded retirementFields :=
  (SameButFields.of_regs (t := s.noteHanded) rfl _).trans
    (SameButFields.foldl State.applyRetirement (fun s r _ => s.applyRetirement_frame r) _)

theorem State.takeRetirements_frame (s : State) : SameButFields s s.takeRetirements handOverFields :=
  ((s.applyHanded_frame.mono fun x hx => by simp [handOverFields, hx]).trans
    ((makeExchanges_frame _).mono fun x hx => by simp [handOverFields, hx])).trans
    (s.takeRetirements_onlyFields.2.mono fun x hx => by simp [handOverFields, hx])

/-- Beside registers and bolts, the exchanges and the maps leave what the retirements applied left. -/
theorem State.takeRetirements_beside (s : State) :
    s.takeRetirements.hbm = s.applyHanded.hbm ∧ s.takeRetirements.arr.user = s.applyHanded.arr.user ∧
      s.takeRetirements.memories = s.applyHanded.memories :=
  of_besideBolts ((besideBolts_of_onlyFields s.takeRetirements_onlyFields).trans (besideBolts_makeExchanges _))

theorem State.takeRetirements_user (s : State) : s.takeRetirements.arr.user = s.handedOver := by
  have harr : s.applyHanded.arr = s.noteHanded.arr :=
    foldl_keeps State.arr State.applyRetirement (fun s r _ => by rw [applyRetirement_eq]) _
  rw [s.takeRetirements_beside.2.1, harr]; rfl

theorem State.memories_takeRetirements (s : State) : s.takeRetirements.memories = s.memories := by
  have hmem : s.applyHanded.memories = s.noteHanded.memories :=
    memories_foldl State.applyRetirement (fun s r => by rw [applyRetirement_eq]; rfl) _ _
  rw [s.takeRetirements_beside.2.2, hmem]; rfl

theorem State.takeRetirements_exchange (s : State) : s.takeRetirements.stw.exchange = [] := by
  rw [s.takeRetirements_onlyFields.stw]; rfl

theorem State.rd_takeRetirements_bank (s : State) {q : Fin 4} {g : Fin 32} {b : Fin 33}
    (h : .bank q g b ∈ s.handedOver) :
    s.takeRetirements.rd I.bankFailing (bankIx (q.val * 32 + g.val) b.val) = 1 := by
  rw [s.takeRetirements_onlyFields.rd _ _ (by decide), (makeExchanges_frame _).rd _ _ (by decide)]
  exact applyRetirements_establish (P := fun t => t.rd I.bankFailing (bankIx (q.val * 32 + g.val) b.val) = 1) h
    (fun t => t.rd_applyRetirement_bank q g b) (fun t r ht => applyRetirement_keeps_failing ht r) _

theorem State.mem_retired_takeRetirements (s : State) {e : Fin 10240}
    (h : .extent e ∈ s.handedOver) : e.val ∈ s.takeRetirements.hbm.retired := by
  rw [s.takeRetirements_beside.1]
  exact applyRetirements_establish (P := fun t => e.val ∈ t.hbm.retired) h
    (fun t => List.mem_append_right _ (List.mem_singleton.2 rfl))
    (fun t r ht => applyRetirement_keeps_retired ht r) _

/-! ### The reset asserted -/

theorem regKey_div (f : Fld) (i : Nat) : regKey f i / 2 ^ 20 = f.id := by
  unfold regKey; omega

/-- The loss of the die in a chip reset leaves every register that is neither the compute die's nor one of
its selections. -/
theorem State.rd_dieLost_of_kept (s : State) {f : Fld} (i : Nat) (hc : computeFld f.id = false)
    (hs : selectFld f.id = false) : (s.dieLost true).rd f i = s.rd f i := by
  unfold rd dieLost clearCompute
  dsimp only
  rw [Tab.get_clear_of_false]
  rw [regKey_div, hc, hs]
  rfl

theorem weftFld_kept {id : Nat} (h : weftFld id = true) : computeFld id = false ∧ selectFld id = false := by
  simp only [weftFld, computeFld, selectFld, Bool.or_eq_true, Bool.and_eq_true, decide_eq_true_eq, beq_iff_eq,
    Bool.or_eq_false_iff, Bool.and_eq_false_iff, decide_eq_false_iff_not, beq_eq_false_iff_ne] at *
  omega

theorem exec_resetAssert {s : State} (h : s.rd I.chipStep 0 = 1) :
    exec .computeDieResetAssert s = .next (((State.wr { s with stw := { s.stw with exchange := s.badFixed } }
      I.chipStep 0 2).wr I.dieUp 0 0).dieLost true) := if_pos h

/-- Settles O50: the release raises the die and takes the retirements over (`takeRetirements`), the end of training
repairs the rows group by group (`trained`), the assertion loses the die but for `PD_WEFTIO`. -/
theorem computeDieEntersAndLeavesReset : Obligations.ComputeDieEntersAndLeavesReset := by
  unfold Obligations.ComputeDieEntersAndLeavesReset
  refine ⟨fun s => ⟨exec_resetRelease_ignored, fun h => ⟨_, exec_resetRelease h, ?_⟩,
    fun h => if_neg h, fun h => ⟨_, exec_resetAssert h, ?_, ?_, rfl, rfl, rfl, rfl, rfl, fun f i hf => ?_⟩⟩,
    fun lost s => ⟨hbmTrained_ignored lost, fun ⟨hup, hnot⟩ => ⟨_, hbmTrained_completes lost hup hnot, ?_⟩⟩⟩
  · have hframe := s.leaveReset.takeRetirements_frame
    have hstw : s.leaveReset.stw = s.stw := s.leaveReset_onlyFields.stw
    have hmem : s.leaveReset.takeRetirements.memories = s.memories :=
      s.leaveReset.memories_takeRetirements.trans s.leaveReset_onlyFields.memories
    have hstep := s.raiseDie_step
    obtain ⟨hup, hlink⟩ := s.rd_raiseDie_up
    obtain ⟨hboot, hkey⟩ := s.rd_leaveReset_boot
    have hraised (f : Fld) (i : Nat) (hf : ∀ x ∈ handOverFields ++ bootFields, f.id ≠ x.id) :
        s.leaveReset.takeRetirements.rd f i = s.raiseDie.rd f i :=
      (hframe.rd f i fun x hx => hf x (List.mem_append_left _ hx)).trans
        (s.leaveReset_onlyFields_raised.rd f i fun x hx => hf x (List.mem_append_right _ hx))
    refine ⟨?_, ?_, ?_, ?_, ?_, s.leaveReset.takeRetirements_exchange, (sameMemories_of_memories hmem).sameBytes,
      fun p hp => ?_, fun q g b hb => s.leaveReset.rd_takeRetirements_bank (by rwa [State.handedOver, hstw]),
      fun e he => s.leaveReset.mem_retired_takeRetirements (by rwa [State.handedOver, hstw]), ?_⟩
    · rw [hraised _ _ (by decide), hup]
    · rw [hraised _ _ (by decide), hlink]
    · rw [hframe.rd _ _ (by decide), hboot]
    · rw [hframe.rd _ _ (by decide), hkey]
    · rw [s.leaveReset.takeRetirements_user, State.handedOver, hstw]
    · rw [hframe.rd _ _ (by decide), s.rd_leaveReset_share hp]
    · rwa [hraised _ _ (by decide), hraised _ _ (by decide), hraised _ _ (by decide), hraised _ _ (by decide)]
  · rw [State.rd_dieLost_of_kept _ _ (by decide) (by decide), State.rd_wr_id _ _ _ _ (by decide), State.rd_wr_same]
    rfl
  · rw [State.rd_dieLost_of_kept _ _ (by decide) (by decide), State.rd_wr_same]
    rfl
  · obtain ⟨hc, hs⟩ := weftFld_kept hf
    have hstep : I.chipStep.id ≠ f.id := fun h => by rw [← h] at hf; exact absurd hf (by decide)
    have hup : I.dieUp.id ≠ f.id := fun h => by rw [← h] at hf; exact absurd hf (by decide)
    rw [State.rd_dieLost_of_kept _ _ hc hs, State.rd_wr_id _ _ _ _ hup, State.rd_wr_id _ _ _ _ hstep]
    rfl
  · refine ⟨fun g hg => ?_, s.mem_rows_trained lost, fun e he => s.mem_retired_trained he,
      (sameMemories_of_memories (s.memories_trained lost)).sameBytes, s.trained_bnd lost,
      s.trained_sameButFields lost⟩
    obtain ⟨hpending, hdone, hfailed⟩ := s.trained_repairMade lost hg
    exact ⟨s.rd_trained lost hg, hpending, hdone, hfailed⟩

end Sys2Proof.Machine

namespace Sys2Proof.Machine

/-! ## Weft links: the shared operations -/

theorem State.wrAll_onlyRegs (s : State) (f : Fld) (is : List Nat) (v : Nat) :
    OnlyRegs s (s.wrAll f is v) (is.map fun i => (f, i)) :=
  OnlyRegs.foldl _ (fun s i hi => (onlyRegs_wr s f i v).mono (by simpa using hi)) s

theorem State.rd_wrAll_other (s : State) {f : Fld} {is : List Nat} {i : Nat} (v : Nat)
    (h : ∀ j ∈ is, regKey f i ≠ regKey f j) : (s.wrAll f is v).rd f i = s.rd f i := by
  refine (s.wrAll_onlyRegs f is v).2 f i fun x hx => ?_
  obtain ⟨j, hj, rfl⟩ := List.mem_map.1 hx
  exact h j hj

theorem Tab.mem_drop {α : Type} (m : SMap α) (k : Nat) (e : Nat × α) : e ∈ drop m k ↔ e ∈ m ∧ e.1 ≠ k := by
  induction m with
  | nil => simp [drop]
  | cons x m ih =>
    obtain ⟨j, v⟩ := x
    unfold drop
    split
    · next h =>
      subst h
      rw [ih, List.mem_cons]
      exact ⟨fun ⟨he, hk⟩ => ⟨.inr he, hk⟩, fun ⟨he, hk⟩ => ⟨he.resolve_left fun h => hk (by rw [h]), hk⟩⟩
    · next h =>
      rw [List.mem_cons, List.mem_cons, ih]
      constructor
      · rintro (rfl | ⟨he, hk⟩)
        · exact ⟨.inl rfl, h⟩
        · exact ⟨.inr he, hk⟩
      · rintro ⟨rfl | he, hk⟩
        · exact .inl rfl
        · exact .inr ⟨he, hk⟩

theorem Tab.mem_insert_same {α : Type} (m : SMap α) (k : Nat) (v : α) : (k, v) ∈ insert m k v := by
  induction m with
  | nil => simp [insert]
  | cons x m ih =>
    unfold insert
    split
    · exact List.mem_cons_of_mem _ ih
    · split <;> exact List.mem_cons_self

theorem Tab.mem_insert_other {α : Type} (m : SMap α) (k : Nat) (v : α) {e : Nat × α} (h : e.1 ≠ k) :
    e ∈ insert m k v ↔ e ∈ m := by
  have hne : e ≠ (k, v) := fun he => h (by rw [he])
  induction m with
  | nil => simp [insert, hne]
  | cons x m ih =>
    obtain ⟨j, w⟩ := x
    unfold insert
    split
    · simp only [List.mem_cons, ih]
    · split
      · next hj =>
        have hne' : e ≠ (j, w) := fun he => h (by rw [he]; exact hj)
        simp [hne, hne']
      · simp [hne]

theorem SameMemories.trans {s t u : State} (h : SameMemories s t) (h' : SameMemories t u) : SameMemories s u := by
  obtain ⟨h1, h2, h3, h4, h5, h6, h7⟩ := h
  obtain ⟨h1', h2', h3', h4', h5', h6', h7'⟩ := h'
  exact ⟨h1'.trans h1, h2'.trans h2, h3'.trans h3, h4'.trans h4, h5'.trans h5, h6'.trans h6, h7'.trans h7⟩

/-! ### Class C faults and violations -/

/-- A class C fault changes its count, the recorder's registers and the steward's queues (R473). -/
theorem State.classC_eq (s : State) (rule arg : Nat) :
    let t := s.classC rule arg
    t = { s with regs := t.regs, stw := { s.stw with
      classC := t.stw.classC, records := t.stw.records, flashOps := t.stw.flashOps } } := by
  unfold classC; dsimp only; split
  · rw [record_eq]; rfl
  · rfl

theorem State.classC_weft (s : State) (rule arg : Nat) : (s.classC rule arg).weft = s.weft := by
  rw [classC_eq]

/-- A violation is counted twice, as such and as a class C fault, and leaves the weft's state alone. -/
theorem State.weftViolation_spec (s : State) (rule k : Nat) :
    WeftViolation s (s.weftViolation rule k) ∧ (s.weftViolation rule k).weft = s.weft ∧
      SameMemories s (s.weftViolation rule k) ∧
      SameButFields s (s.weftViolation rule k) (F.WEFT_VIOL_COUNT :: classCFields) := by
  have hframe := (s.bump F.WEFT_VIOL_COUNT 0).classC_frame rule k
  refine ⟨⟨?_, ?_⟩, (classC_weft _ _ _).trans rfl, sameMemories_of_memories (memories_classC _ _ _), ?_⟩
  · exact (hframe.rd _ 0 (by decide)).trans (s.rd_bumpBy _ 0 1)
  · have hcount : (s.bump F.WEFT_VIOL_COUNT 0).rd F.FAULT_CLASSC_COUNT 0 = s.rd F.FAULT_CLASSC_COUNT 0 :=
      s.rd_wr_id _ _ _ (by decide)
    exact ((s.bump F.WEFT_VIOL_COUNT 0).classC_count rule k).trans (by rw [hcount])
  · exact (sameButFields_wr s _ _ _ List.mem_cons_self).trans
      (hframe.mono fun x hx => List.mem_cons_of_mem _ hx)

/-! ### Flits -/

theorem State.sendFlit_eq (s : State) (k : Nat) (kind : String) (args : List Nat) :
    let t := s.sendFlit k kind args
    t = { s with regs := t.regs, out := t.out, weft := { s.weft with
      replay := t.weft.replay, waiting := t.weft.waiting } } := by
  unfold sendFlit; dsimp only; split <;> rfl

theorem State.sendFlit_sameBut (s : State) (k : Nat) (kind : String) (args : List Nat) :
    SameBut s (s.sendFlit k kind args) [(I.lseq, k)] := by
  unfold sendFlit; dsimp only; split
  · exact fun _ _ _ => rfl
  · exact sameBut_wr s _ _ _ (by simp)

theorem State.sendFlit_put (s : State) (k : Nat) (kind : String) (args : List Nat) :
    FlitPut s (s.sendFlit k kind args) k (.flit k kind args) := by
  unfold FlitPut sendFlit; dsimp only; split
  · exact ⟨rfl, rfl, rfl⟩
  · exact ⟨rfl, rfl, rd_wr_same ..⟩

/-! ### Links that go DOWN -/

/-- A link going DOWN, before its fault: its state, its count, its flits dropped (R227). -/
def State.dropLink (s : State) (k : Nat) : State :=
  let s := (s.wr F.WEFT_LINK_STATE_STATE k 4).bump F.WEFT_LINK_STATE_DOWNS k
  { s with weft := { s.weft with
    replay := s.weft.replay.filter (fun e => e.1 != k)
    waiting := s.weft.waiting.filter (fun e => e.1 != k) } }

theorem State.linkDown_eq (s : State) (k : Nat) : s.linkDown k = (s.dropLink k).fault 81 k := rfl

theorem State.linkDown_spec (s : State) (k : Nat) : LinkDown s (s.linkDown k) k := by
  have hclass : faultClass 81 = 2 := by decide
  have hframe := fault_frame k (s.dropLink k) hclass
  have hweft : ((s.dropLink k).fault 81 k).weft = (s.dropLink k).weft := by rw [fault_eq _ _ hclass]
  rw [linkDown_eq]
  refine ⟨?_, ?_, statusBit_fault _ _ hclass (by decide), ?_, ?_, ?_⟩
  · rw [hframe.rd _ _ (by decide)]
    exact (rd_wr_id _ _ _ _ (by decide)).trans (rd_wr_same ..)
  · unfold Rises
    rw [hframe.rd _ _ (by decide)]
    refine (rd_bumpBy _ _ _ _).trans ?_
    rw [rd_wr_id _ _ _ _ (by decide)]
  · rw [hweft]
    exact fun e he => by simpa using (List.mem_filter.1 he).2
  · rw [hweft]
    exact fun e he => by simpa using (List.mem_filter.1 he).2
  · exact sameMemories_of_memories (memories_fault _ _ hclass)

/-- Registers of the seconds' check of a link's lanes (R226). -/
def fecFields : List Fld := [F.WEFT_LINK_ERR_FEC_CORR, I.laneOver]

/-- A link that goes DOWN within a check of its lanes. -/
theorem linkDown_within {s u v t : State} {k : Nat} (hsu : OnlyFields s u fecFields) (h : LinkDown u v k)
    (hvt : OnlyFields v t fecFields) : LinkDown s t k := by
  obtain ⟨hstate, hdowns, hstatus, hreplay, hwaiting, hmem⟩ := h
  have hweft : t.weft = v.weft := by rw [hvt.1]
  refine ⟨?_, ?_, ?_, ?_, ?_, ?_⟩
  · rw [hvt.rd _ _ (by decide), hstate]
  · unfold Rises at *
    rw [hvt.rd _ _ (by decide), hdowns, hsu.rd _ _ (by decide)]
  · unfold State.statusBit at *
    rwa [hvt.rd _ _ (by decide)]
  · rwa [hweft]
  · rwa [hweft]
  · exact ((sameMemories_of_memories hsu.memories).trans hmem).trans (sameMemories_of_memories hvt.memories)

/-! ### Lanes that fail (R226) -/

theorem State.laneFails_spared {s : State} {k lane : Nat} (h : s.rd F.WEFT_LINK_STATE_STATE k = 2)
    (hl : lane < 4) : s.laneFails k lane =
      ((s.wr F.WEFT_LINK_STATE_BAD_LANE k lane).wr F.WEFT_LINK_STATE_STATE k 3).sendFlit k "LANE_SWAP" [lane] := by
  rw [laneFails, if_pos h, if_pos hl]

theorem State.laneFails_second {s : State} {k lane : Nat} (h : s.rd F.WEFT_LINK_STATE_STATE k = 3)
    (hl : lane ≠ s.rd F.WEFT_LINK_STATE_BAD_LANE k) : s.laneFails k lane = s.linkDown k := by
  rw [laneFails, if_neg (by omega), if_pos ⟨h, hl⟩]

theorem State.laneFails_ignored {s : State} {k lane : Nat}
    (h : s.rd F.WEFT_LINK_STATE_STATE k = 2 ∧ lane = 4 ∨
      s.rd F.WEFT_LINK_STATE_STATE k = 3 ∧ lane = s.rd F.WEFT_LINK_STATE_BAD_LANE k ∨
      s.rd F.WEFT_LINK_STATE_STATE k ≠ 2 ∧ s.rd F.WEFT_LINK_STATE_STATE k ≠ 3) : s.laneFails k lane = s := by
  rcases h with ⟨h, hl⟩ | ⟨h, hl⟩ | ⟨h, h'⟩
  · rw [laneFails, if_pos h, if_neg (by omega)]
  · rw [laneFails, if_neg (by omega), if_neg (by simp [hl])]
  · rw [laneFails, if_neg h, if_neg (by simp [h'])]

end Sys2Proof.Machine

namespace Sys2Proof.Machine

/-! ## Training of a link (R222-R225, R231) -/

/-- The instances of a lane's second count of a link. -/
def laneIxs (k : Nat) : List Nat := (List.range 5).map (k * 8 + ·)

/-- The registers of a link at the start of its training. -/
def State.resetLink (s : State) (k : Nat) : State :=
  let s := (s.wr F.WEFT_LINK_STATE_STATE k 1).wr F.WEFT_LINK_STATE_BAD_LANE k 7
  let s := ((s.wr I.identOk k 0).wr I.retries k 0).wr I.rxDiscard k 0
  ((s.wr I.lseq k 0).wr I.lackRx k 0).wrAll I.laneOver (laneIxs k) 0

/-- The places that the start of training writes. -/
def trainPlaces (k : Nat) : List (Fld × Nat) :=
  [(F.WEFT_LINK_STATE_STATE, k), (F.WEFT_LINK_STATE_BAD_LANE, k), (I.identOk, k), (I.retries, k), (I.rxDiscard, k),
    (I.lseq, k), (I.lackRx, k)] ++ (List.range 5).map fun lane => (I.laneOver, k * 8 + lane)

theorem State.resetLink_onlyRegs (s : State) (k : Nat) : OnlyRegs s (s.resetLink k) (trainPlaces k) := by
  have hlanes : ∀ x ∈ (laneIxs k).map (fun i => (I.laneOver, i)), x ∈ trainPlaces k := fun x hx => by
    rw [laneIxs, List.map_map] at hx
    exact List.mem_append_right _ hx
  refine OnlyRegs.trans ?_ ((wrAll_onlyRegs _ I.laneOver (laneIxs k) 0).mono hlanes)
  repeat' apply OnlyRegs.wr
  · exact .refl _ _
  all_goals exact List.mem_append_left _ (by simp)

theorem State.rd_resetLink (s : State) (k : Nat) :
    (s.resetLink k).rd F.WEFT_LINK_STATE_STATE k = 1 ∧ (s.resetLink k).rd F.WEFT_LINK_STATE_BAD_LANE k = 7 ∧
      (s.resetLink k).rd I.identOk k = 0 ∧ (s.resetLink k).rd I.lseq k = 0 ∧ (s.resetLink k).rd I.lackRx k = 0 := by
  have hlanes (u : State) (f : Fld) (hf : ∀ x ∈ [I.laneOver], f.id ≠ x.id) :
      (u.wrAll I.laneOver (laneIxs k) 0).rd f k = u.rd f k := (u.wrAll_onlyFields ..).rd f k hf
  unfold resetLink
  refine ⟨?_, ?_, ?_, ?_, ?_⟩ <;> rw [hlanes _ _ (by decide)]
  all_goals
    simp (disch := decide) only [rd_wr_id, rd_wr_same]
    rfl

/-- No flit of a link kept or waiting, no key. -/
def State.clearLink (s : State) (k : Nat) : State :=
  { s with weft := { s.weft with
    replay := s.weft.replay.filter (fun e => e.1 != k)
    waiting := s.weft.waiting.filter (fun e => e.1 != k)
    pairKeys := Tab.drop s.weft.pairKeys k } }

theorem exec_linkTrainStart (l : LinkIx) (far : Bool) (s : State) :
    exec (.linkTrainStart l far) s =
      if s.weftOn = true ∧ s.rd F.WEFT_LINK_STATE_STATE l.val ≠ 6 ∧
        (far = true ∨ s.rd F.WEFT_LINK_STATE_STATE l.val = 0)
      then .next ((s.resetLink l.val).clearLink l.val) else .next s := rfl

theorem mem_filter_other {α : Type} (m : List (Nat × α)) (k : Nat) (e : Nat × α) :
    e ∈ m.filter (fun e => e.1 != k) ↔ e ∈ m ∧ e.1 ≠ k := by
  simp

theorem State.rd_clearLink (s : State) (k : Nat) (f : Fld) (i : Nat) : (s.clearLink k).rd f i = s.rd f i := rfl

/-- What is left of a link's flits and keys. -/
theorem State.clearLink_spec (s : State) (k : Nat) :
    (∀ e, e ∈ (s.clearLink k).weft.replay ↔ e ∈ s.weft.replay ∧ e.1 ≠ k) ∧
      (∀ e, e ∈ (s.clearLink k).weft.pairKeys ↔ e ∈ s.weft.pairKeys ∧ e.1 ≠ k) :=
  ⟨mem_filter_other _ k, Tab.mem_drop _ k⟩

/-- The link is in training, not identified, with no flit kept and no key (R225). -/
theorem State.startTraining_spec (s : State) (k : Nat) :
    let t := (s.resetLink k).clearLink k
    t.rd F.WEFT_LINK_STATE_STATE k = 1 ∧ t.rd F.WEFT_LINK_STATE_BAD_LANE k = 7 ∧ t.rd I.identOk k = 0 ∧
      t.rd I.lseq k = 0 ∧ t.rd I.lackRx k = 0 ∧
      (∀ e, e ∈ t.weft.replay ↔ e ∈ s.weft.replay ∧ e.1 ≠ k) ∧
      (∀ e, e ∈ t.weft.pairKeys ↔ e ∈ s.weft.pairKeys ∧ e.1 ≠ k) ∧
      t = { s with regs := t.regs, weft := { s.weft with
        replay := t.weft.replay, waiting := t.weft.waiting, pairKeys := t.weft.pairKeys } } ∧
      SameBut s t (trainPlaces k) := by
  obtain ⟨hregs, hsame⟩ := s.resetLink_onlyRegs k
  obtain ⟨hreplay, hkeys⟩ := (s.resetLink k).clearLink_spec k
  have hweft : (s.resetLink k).weft = s.weft := by rw [hregs]
  rw [hweft] at hreplay hkeys
  simp only [rd_clearLink]
  obtain ⟨hstate, hbad, hident, hseq, hlack⟩ := s.rd_resetLink k
  refine ⟨hstate, hbad, hident, hseq, hlack, hreplay, hkeys, ?_, hsame⟩
  dsimp only [clearLink]
  rw [hregs]

theorem exec_identFlit (l : LinkIx) (node : Node) (c : Fin 4) (s : State) :
    exec (.identFlit l node c) s =
      if s.rd F.WEFT_LINK_STATE_STATE l.val = 1 then
        if node.val = expectNode (s.wr F.WEFT_LINK_STATE_PEER l.val node.val).node l.val ∧
          c.val = (s.wr F.WEFT_LINK_STATE_PEER l.val node.val).rd F.WEFT_CFG_CONFIG 0
        then .next ((s.wr F.WEFT_LINK_STATE_PEER l.val node.val).wr I.identOk l.val 1)
        else .next (((s.wr F.WEFT_LINK_STATE_PEER l.val node.val).wr F.WEFT_LINK_STATE_STATE l.val 5).classC 223 l.val)
      else .next s := rfl

/-- In training the identity is compared with the expected partner and the own configuration (R223). -/
theorem exec_identFlit_training {l : LinkIx} {s : State} (h : s.rd F.WEFT_LINK_STATE_STATE l.val = 1) (node : Node)
    (c : Fin 4) :
    exec (.identFlit l node c) s =
      if node.val = expectNode s.node l.val ∧ c.val = s.rd F.WEFT_CFG_CONFIG 0
      then .next ((s.wr F.WEFT_LINK_STATE_PEER l.val node.val).wr I.identOk l.val 1)
      else .next (((s.wr F.WEFT_LINK_STATE_PEER l.val node.val).wr F.WEFT_LINK_STATE_STATE l.val 5).classC
        223 l.val) := by
  have hnode : (s.wr F.WEFT_LINK_STATE_PEER l.val node.val).node = s.node := s.rd_wr_id _ _ _ (by decide)
  rw [exec_identFlit, if_pos h, hnode, s.rd_wr_id _ _ _ (by decide)]

theorem rd_peer {s : State} {k : Nat} (node : Node) :
    (s.wr F.WEFT_LINK_STATE_PEER k node.val).rd F.WEFT_LINK_STATE_PEER k = node.val :=
  (s.rd_wr_same ..).trans (Nat.mod_eq_of_lt node.isLt)

theorem State.identified_spec (s : State) (k : Nat) (node : Node) :
    let t := (s.wr F.WEFT_LINK_STATE_PEER k node.val).wr I.identOk k 1
    t.rd F.WEFT_LINK_STATE_PEER k = node.val ∧ t.rd I.identOk k = 1 ∧
      OnlyRegs s t [(F.WEFT_LINK_STATE_PEER, k), (I.identOk, k)] :=
  ⟨(rd_wr_id _ _ _ _ (by decide)).trans (rd_peer node), rd_wr_same ..,
    ((OnlyRegs.refl s _).wr _ _ _ (by simp)).wr _ _ _ (by simp)⟩

theorem State.classC_spec (s : State) (rule arg : Nat) :
    let t := s.classC rule arg
    Rises s t F.FAULT_CLASSC_COUNT 0 1 ∧ t.weft = s.weft ∧ SameMemories s t ∧ SameButFields s t classCFields :=
  ⟨s.classC_count rule arg, s.classC_weft rule arg, sameMemories_of_memories (s.memories_classC rule arg),
    s.classC_frame rule arg⟩

/-- An identity that differs makes the link MISWIRED, as a class C fault (R223). -/
theorem State.miswired_spec (s : State) (k : Nat) (node : Node) :
    let t := ((s.wr F.WEFT_LINK_STATE_PEER k node.val).wr F.WEFT_LINK_STATE_STATE k 5).classC 223 k
    t.rd F.WEFT_LINK_STATE_PEER k = node.val ∧ t.rd F.WEFT_LINK_STATE_STATE k = 5 ∧
      Rises s t F.FAULT_CLASSC_COUNT 0 1 ∧ t.weft = s.weft ∧ SameMemories s t ∧
      SameButFields s t (F.WEFT_LINK_STATE_PEER :: F.WEFT_LINK_STATE_STATE :: classCFields) := by
  obtain ⟨hcount, hweft, hmem, hframe⟩ :=
    State.classC_spec ((s.wr F.WEFT_LINK_STATE_PEER k node.val).wr F.WEFT_LINK_STATE_STATE k 5) 223 k
  refine ⟨?_, ?_, ?_, hweft, hmem, ?_⟩
  · rw [hframe.rd _ _ (by decide), rd_wr_id _ _ _ _ (by decide), rd_peer]
  · rw [hframe.rd _ _ (by decide), rd_wr_same]; rfl
  · unfold Rises at *
    rwa [rd_wr_id _ _ _ _ (by decide), rd_wr_id _ _ _ _ (by decide)] at hcount
  · exact ((((SameButFields.refl s _).wr _ _ _ (by simp)).wr _ _ _ (by simp))).trans
      (hframe.mono fun x hx => by simp [hx])

theorem exec_keyFlit (l : LinkIx) (ok : Bool) (v : BitVec 448) (s : State) :
    exec (.keyFlit l ok v) s =
      if s.rd F.WEFT_LINK_STATE_STATE l.val = 1 then
        if ok then .next { s with weft := { s.weft with
          pairKeys := Tab.insert s.weft.pairKeys l.val (Config.pairKey (s.rd I.bootCount 0) v) } }
        else .next (s.weftViolation 231 l.val)
      else .next s := rfl

/-- A key is noted for the link alone (R231). -/
theorem State.keyed_spec (s : State) (k : Nat) (key : BitVec 512) :
    let t : State := { s with weft := { s.weft with pairKeys := Tab.insert s.weft.pairKeys k key } }
    (t.weft.pairKeys.any fun e => e.1 == k) = true ∧
      (∀ e, e.1 ≠ k → (e ∈ t.weft.pairKeys ↔ e ∈ s.weft.pairKeys)) ∧
      t = { s with weft := { s.weft with pairKeys := t.weft.pairKeys } } :=
  ⟨List.any_eq_true.2 ⟨_, Tab.mem_insert_same .., by simp⟩, fun _ he => Tab.mem_insert_other _ _ _ he, rfl⟩

theorem exec_linkTrained (l : LinkIx) (s : State) :
    exec (.linkTrained l) s =
      if s.rd F.WEFT_LINK_STATE_STATE l.val = 1 ∧ s.on I.identOk l.val = true ∧
        (s.weft.pairKeys.any fun e => e.1 == l.val) = true
      then .next ((s.wr F.WEFT_LINK_STATE_STATE l.val 2).heard l.val) else .next s := rfl

/-- A valid flit is noted under the link's peer (R249), which no register of the link's state hides. -/
theorem State.heard_onlyRegs {s t : State} {k : Nat} {l : List (Fld × Nat)} (h : OnlyRegs s t l)
    (hpeer : t.rd F.WEFT_LINK_STATE_PEER k = s.rd F.WEFT_LINK_STATE_PEER k) (hl : heardPlace s k ∈ l) :
    OnlyRegs s (t.heard k) l :=
  h.wr _ _ _ (by rw [hpeer]; exact hl)

theorem State.trained_spec (s : State) (k : Nat) :
    let t := (s.wr F.WEFT_LINK_STATE_STATE k 2).heard k
    t.rd F.WEFT_LINK_STATE_STATE k = 2 ∧ OnlyRegs s t [(F.WEFT_LINK_STATE_STATE, k), heardPlace s k] :=
  ⟨(rd_wr_id _ _ _ _ (by decide)).trans (rd_wr_same ..),
    heard_onlyRegs ((OnlyRegs.refl s _).wr _ _ _ (by simp)) (rd_wr_id _ _ _ _ (by decide)) (by simp)⟩

theorem exec_linkRxTimeout (l : LinkIx) (s : State) :
    exec (.linkRxTimeout l) s = if s.linkUp l.val then .next (s.linkDown l.val) else .next s := rfl

/-! ## Lanes of a link (R226) -/

theorem exec_laneBlockLockLoss (l : LinkIx) (lane : Fin 5) (s : State) :
    exec (.laneBlockLockLoss l lane) s = .next (s.laneFails l.val lane.val) := rfl

/-- The spare takes over for a lane: the far end is told (R226). -/
theorem State.spared_spec (s : State) (k : Nat) {lane : Nat} (hl : lane < 4) :
    let t := ((s.wr F.WEFT_LINK_STATE_BAD_LANE k lane).wr F.WEFT_LINK_STATE_STATE k 3).sendFlit k "LANE_SWAP" [lane]
    t.rd F.WEFT_LINK_STATE_STATE k = 3 ∧ t.rd F.WEFT_LINK_STATE_BAD_LANE k = lane ∧
      FlitPut s t k (.flit k "LANE_SWAP" [lane]) ∧ t.memories = s.memories ∧
      SameBut s t [(F.WEFT_LINK_STATE_STATE, k), (F.WEFT_LINK_STATE_BAD_LANE, k), (I.lseq, k)] := by
  set u := (s.wr F.WEFT_LINK_STATE_BAD_LANE k lane).wr F.WEFT_LINK_STATE_STATE k 3 with hu
  have hsend := u.sendFlit_sameBut k "LANE_SWAP" [lane]
  have hrd (f : Fld) (hf : f.id ≠ I.lseq.id) : (u.sendFlit k "LANE_SWAP" [lane]).rd f k = u.rd f k :=
    hsend f k fun x hx => by rw [List.mem_singleton.1 hx]; exact regKey_inj_id hf
  refine ⟨?_, ?_, ?_, ?_, ?_⟩
  · rw [hrd _ (by decide)]; exact rd_wr_same ..
  · rw [hrd _ (by decide), hu, rd_wr_id _ _ _ _ (by decide), rd_wr_same]
    exact Nat.mod_eq_of_lt (lt_trans hl (by decide))
  · have hseq : u.rd I.lseq k = s.rd I.lseq k :=
      (rd_wr_id _ _ _ _ (by decide)).trans (rd_wr_id _ _ _ _ (by decide))
    have hput := u.sendFlit_put k "LANE_SWAP" [lane]
    unfold FlitPut at *
    rwa [hseq] at hput
  · rw [sendFlit_eq]; rfl
  · exact (((SameBut.refl s _).wr _ _ _ (by simp)).wr _ _ _ (by simp)).trans (hsend.mono (by simp))

theorem exec_laneSwapFlit (l : LinkIx) (lane : Fin 5) (s : State) :
    exec (.laneSwapFlit l lane) s =
      if ¬ s.linkUp l.val then .next s
      else if lane.val = 4 then .next (s.weftViolation 229 l.val)
      else if s.rd F.WEFT_LINK_STATE_STATE l.val = 2 then
        .next (((s.wr F.WEFT_LINK_STATE_BAD_LANE l.val lane.val).wr F.WEFT_LINK_STATE_STATE l.val 3).heard l.val)
      else if s.rd F.WEFT_LINK_STATE_BAD_LANE l.val = lane.val then .next (s.heard l.val)
      else .next (s.linkDown l.val) := rfl

theorem State.linkUp_iff (s : State) (k : Nat) :
    s.linkUp k = true ↔ s.rd F.WEFT_LINK_STATE_STATE k = 2 ∨ s.rd F.WEFT_LINK_STATE_STATE k = 3 := by
  simp [linkUp]

theorem State.switched_spec (s : State) (k : Nat) {lane : Nat} (hl : lane < 4) :
    let t := ((s.wr F.WEFT_LINK_STATE_BAD_LANE k lane).wr F.WEFT_LINK_STATE_STATE k 3).heard k
    t.rd F.WEFT_LINK_STATE_STATE k = 3 ∧ t.rd F.WEFT_LINK_STATE_BAD_LANE k = lane ∧
      OnlyRegs s t [(F.WEFT_LINK_STATE_STATE, k), (F.WEFT_LINK_STATE_BAD_LANE, k), heardPlace s k] := by
  refine ⟨?_, ?_, ?_⟩
  · exact (rd_wr_id _ _ _ _ (by decide)).trans (rd_wr_same ..)
  · refine (rd_wr_id _ _ _ _ (by decide)).trans ((rd_wr_id _ _ _ _ (by decide)).trans ((rd_wr_same ..).trans ?_))
    exact Nat.mod_eq_of_lt (lt_trans hl (by decide))
  · exact heard_onlyRegs (((OnlyRegs.refl s _).wr _ _ _ (by simp)).wr _ _ _ (by simp))
      ((rd_wr_id _ _ _ _ (by decide)).trans (rd_wr_id _ _ _ _ (by decide))) (by simp)

end Sys2Proof.Machine

namespace Sys2Proof.Machine

/-! ## The seconds' check of a link's lanes (R226) -/

/-- A lane's count of a second lies above the threshold. -/
def State.noisy (s : State) (counts : List Nat) (lane : Nat) : Prop :=
  s.cfgIn cfgLaneSwapCe 100 100000 < counts.getD lane 0

/-- The lanes that carry traffic: 0-3, or with the spare in use all but the bad one. -/
def State.activeLanes (s : State) (k : Nat) : List Nat :=
  if s.rd F.WEFT_LINK_STATE_STATE k = 3 then (List.range 5).filter (· != s.rd F.WEFT_LINK_STATE_BAD_LANE k)
  else List.range 4

/-- One lane judged by its count. -/
def State.judgeLane (k : Nat) (counts : List Nat) (s : State) (lane : Nat) : State :=
  let i := k * 8 + lane
  if s.cfgIn cfgLaneSwapCe 100 100000 < counts.getD lane 0 then
    let n := s.rd I.laneOver i + 1
    if 3 ≤ n then (s.wr I.laneOver i 0).laneFails k lane else s.wr I.laneOver i n
  else s.wr I.laneOver i 0

/-- The corrected symbols of a second added. -/
def State.addFec (s : State) (k n : Nat) : State := s.bumpBy F.WEFT_LINK_ERR_FEC_CORR k n

theorem exec_fecSecondCheck (l : LinkIx) (counts : List Nat) (s : State) :
    exec (.fecSecondCheck l counts) s =
      if s.linkUp l.val then
        .next (((s.addFec l.val counts.sum).activeLanes l.val).foldl (State.judgeLane l.val counts)
          (s.addFec l.val counts.sum))
      else .next s := rfl

theorem State.addFec_onlyRegs (s : State) (k n : Nat) :
    OnlyRegs s (s.addFec k n) [(F.WEFT_LINK_ERR_FEC_CORR, k)] := onlyRegs_wr ..

theorem State.rd_addFec (s : State) (k n : Nat) (f : Fld) (i : Nat) (hf : F.WEFT_LINK_ERR_FEC_CORR.id ≠ f.id) :
    (s.addFec k n).rd f i = s.rd f i := s.rd_wr_id _ _ _ hf

theorem State.rises_addFec (s : State) (k n : Nat) :
    Rises s (s.addFec k n) F.WEFT_LINK_ERR_FEC_CORR k n := s.rd_bumpBy ..

theorem State.activeLanes_addFec (s : State) (k n : Nat) : (s.addFec k n).activeLanes k = s.activeLanes k := by
  unfold activeLanes
  rw [s.rd_addFec _ _ _ _ (by decide), s.rd_addFec _ _ _ _ (by decide)]

theorem State.activeLanes_nodup (s : State) (k : Nat) : (s.activeLanes k).Nodup := by
  unfold activeLanes
  split
  · exact List.nodup_range.filter _
  · exact List.nodup_range

theorem State.mem_activeLanes (s : State) (k i : Nat) :
    i ∈ s.activeLanes k ↔ if s.rd F.WEFT_LINK_STATE_STATE k = 3
      then i < 5 ∧ i ≠ s.rd F.WEFT_LINK_STATE_BAD_LANE k else i < 4 := by
  unfold activeLanes
  split <;> simp

theorem State.activeLanes_lt {s : State} {k i : Nat} (h : i ∈ s.activeLanes k) : i < 5 := by
  rw [mem_activeLanes] at h
  split at h <;> omega

/-- Lanes' counts of seconds of lanes that have none above the threshold. -/
def State.quiet (s : State) (k : Nat) (lanes : List Nat) : State :=
  s.wrAll I.laneOver (lanes.map (k * 8 + ·)) 0

/-- Quiet lanes lose their counts of seconds, and nothing else happens. -/
theorem judgeLanes_quiet {k : Nat} {counts lanes : List Nat} {s : State} (h : ∀ i ∈ lanes, ¬ s.noisy counts i) :
    lanes.foldl (State.judgeLane k counts) s = s.quiet k lanes := by
  induction lanes generalizing s with
  | nil => rfl
  | cons i lanes ih =>
    have hi : State.judgeLane k counts s i = s.wr I.laneOver (k * 8 + i) 0 := if_neg (h i (by simp))
    have hrest : ∀ j ∈ lanes, ¬ (s.wr I.laneOver (k * 8 + i) 0).noisy counts j := fun j hj => h j (by simp [hj])
    rw [List.foldl_cons, hi, ih hrest]
    rfl

theorem State.quiet_onlyRegs (s : State) {k : Nat} {lanes : List Nat} (h : ∀ i ∈ lanes, i < 5) :
    OnlyRegs s (s.quiet k lanes) ((List.range 5).map fun i => (I.laneOver, k * 8 + i)) := by
  refine (s.wrAll_onlyRegs I.laneOver _ 0).mono fun x hx => ?_
  obtain ⟨i, hi, rfl⟩ : ∃ i ∈ lanes, (I.laneOver, k * 8 + i) = x := by simpa using hx
  exact List.mem_map.2 ⟨i, List.mem_range.2 (h i hi), rfl⟩

theorem State.quiet_onlyFields (s : State) (k : Nat) (lanes : List Nat) :
    OnlyFields s (s.quiet k lanes) [I.laneOver] := s.wrAll_onlyFields ..

theorem State.rd_quiet (s : State) {k i : Nat} {lanes : List Nat} (h : i ∈ lanes) :
    (s.quiet k lanes).rd I.laneOver (k * 8 + i) = 0 :=
  (s.rd_wrAll 0 (List.mem_map_of_mem h)).trans (Nat.zero_mod _)

/-- A lane that is not among the quiet ones keeps its count of seconds. -/
theorem State.rd_quiet_other (s : State) {k i : Nat} {lanes : List Nat} (hk : k < 10) (hi : i < 5)
    (hlt : ∀ j ∈ lanes, j < 5) (h : i ∉ lanes) :
    (s.quiet k lanes).rd I.laneOver (k * 8 + i) = s.rd I.laneOver (k * 8 + i) := by
  refine s.rd_wrAll_other 0 fun x hx => ?_
  obtain ⟨j, hj, rfl⟩ := List.mem_map.1 hx
  have hne : i ≠ j := fun hij => h (hij ▸ hj)
  have := hlt j hj
  exact regKey_inj_ix (by omega) (by omega) (by omega)

/-! ### One lane above the threshold -/

theorem State.cfg_of_draft {s t : State} (h : t.stw.draft = s.stw.draft) (x : Setting) : t.cfg x = s.cfg x := by
  unfold cfg; rw [h]

theorem State.linkDown_draft (s : State) (k : Nat) : (s.linkDown k).stw.draft = s.stw.draft := by
  rw [linkDown_eq, fault_eq _ _ (by decide)]; rfl

theorem State.laneFails_draft (s : State) (k lane : Nat) : (s.laneFails k lane).stw.draft = s.stw.draft := by
  unfold laneFails
  split
  · split
    · rw [sendFlit_eq]; rfl
    · rfl
  · split
    · exact s.linkDown_draft k
    · rfl

theorem State.noisy_judgeLane (s : State) (k lane : Nat) (counts counts' : List Nat) (i : Nat) :
    (State.judgeLane k counts s lane).noisy counts' i ↔ s.noisy counts' i := by
  have hdraft : (State.judgeLane k counts s lane).stw.draft = s.stw.draft := by
    unfold judgeLane; dsimp only; split
    · split
      · exact laneFails_draft _ _ _
      · rfl
    · rfl
  unfold noisy cfgIn
  rw [cfg_of_draft hdraft]

/-- With one lane above the threshold the lanes before and after it are quiet. -/
theorem judgeLanes_one_loud {k j : Nat} {counts lanes : List Nat} {s : State} (hnd : lanes.Nodup) (hj : j ∈ lanes)
    (h : ∀ i ∈ lanes, i ≠ j → ¬ s.noisy counts i) :
    ∃ pre post, lanes = pre ++ j :: post ∧ j ∉ pre ∧ j ∉ post ∧
      lanes.foldl (State.judgeLane k counts) s =
        (State.judgeLane k counts (s.quiet k pre) j).quiet k post := by
  obtain ⟨pre, post, rfl⟩ := List.append_of_mem hj
  have hpre : j ∉ pre := fun hm => (List.disjoint_of_nodup_append hnd) hm List.mem_cons_self
  have hpost : j ∉ post := (List.nodup_cons.1 (List.nodup_append.1 hnd).2.1).1
  have hquiet (i : Nat) : (s.quiet k pre).noisy counts i ↔ s.noisy counts i := by
    unfold State.noisy State.cfgIn
    rw [(s.quiet_onlyFields k pre).cfg]
  refine ⟨pre, post, rfl, hpre, hpost, ?_⟩
  rw [List.foldl_append, List.foldl_cons, judgeLanes_quiet fun i hi => h i (by simp [hi]) fun hij => hpre (hij ▸ hi),
    judgeLanes_quiet fun i hi => ?_]
  rw [State.noisy_judgeLane, hquiet]
  exact h i (by simp [hi]) fun hij => hpost (hij ▸ hi)

theorem judgeLane_counts {k lane : Nat} {counts : List Nat} {s : State} (h : s.noisy counts lane)
    (hn : s.rd I.laneOver (k * 8 + lane) < 2) :
    State.judgeLane k counts s lane = s.wr I.laneOver (k * 8 + lane) (s.rd I.laneOver (k * 8 + lane) + 1) :=
  (if_pos h).trans (if_neg (by omega))

theorem judgeLane_fails {k lane : Nat} {counts : List Nat} {s : State} (h : s.noisy counts lane)
    (hn : 2 ≤ s.rd I.laneOver (k * 8 + lane)) :
    State.judgeLane k counts s lane = (s.wr I.laneOver (k * 8 + lane) 0).laneFails k lane :=
  (if_pos h).trans (if_pos (by omega))

/-- Registers that a failing lane writes. -/
def laneFields : List Fld :=
  [F.WEFT_LINK_STATE_STATE, F.WEFT_LINK_STATE_BAD_LANE, F.WEFT_LINK_STATE_DOWNS, I.lseq] ++ faultBFields 81

theorem State.linkDown_frame (s : State) (k : Nat) : SameButFields s (s.linkDown k) laneFields := by
  have hdrop : SameButFields s (s.dropLink k) laneFields :=
    (((SameButFields.refl s laneFields).wr F.WEFT_LINK_STATE_STATE k 4 (by decide)).wr F.WEFT_LINK_STATE_DOWNS k _
      (by decide)).trans (.of_regs rfl _)
  exact hdrop.trans ((fault_frame k _ (by decide)).mono fun x hx => List.mem_append_right _ hx)

theorem State.laneFails_frame (s : State) (k lane : Nat) : SameButFields s (s.laneFails k lane) laneFields := by
  unfold laneFails
  split
  · split
    · refine (((SameButFields.refl s laneFields).wr F.WEFT_LINK_STATE_BAD_LANE k lane (by decide)).wr
        F.WEFT_LINK_STATE_STATE k 3 (by decide)).trans fun f i hf => ?_
      refine sendFlit_sameBut _ _ _ _ f i fun x hx => ?_
      rw [List.mem_singleton.1 hx]
      exact regKey_inj_id (hf I.lseq (by decide))
    · exact .refl _ _
  · split
    · exact s.linkDown_frame k
    · exact .refl _ _

/-- The places that the check of a link writes while no lane fails. -/
def fecPlaces (k : Nat) : List (Fld × Nat) :=
  (F.WEFT_LINK_ERR_FEC_CORR, k) :: (List.range 5).map fun i => (I.laneOver, k * 8 + i)

/-- The check of a link that carries traffic. -/
def State.checked (s : State) (k : Nat) (counts : List Nat) : State :=
  (s.activeLanes k).foldl (State.judgeLane k counts) (s.addFec k counts.sum)

theorem exec_fecSecondCheck_up {l : LinkIx} {s : State} (h : s.linkUp l.val = true) (counts : List Nat) :
    exec (.fecSecondCheck l counts) s = .next (s.checked l.val counts) := by
  rw [exec_fecSecondCheck, if_pos h, s.activeLanes_addFec]
  rfl

/-- With every lane quiet the counts of seconds are cleared. -/
theorem State.checked_quiet {s : State} {k : Nat} {counts : List Nat}
    (h : ∀ i ∈ s.activeLanes k, ¬ s.noisy counts i) :
    Rises s (s.checked k counts) F.WEFT_LINK_ERR_FEC_CORR k counts.sum ∧
      (∀ i ∈ s.activeLanes k, (s.checked k counts).rd I.laneOver (k * 8 + i) = 0) ∧
      OnlyRegs s (s.checked k counts) (fecPlaces k) := by
  have heq : s.checked k counts = (s.addFec k counts.sum).quiet k (s.activeLanes k) := judgeLanes_quiet h
  rw [heq]
  refine ⟨?_, fun i hi => rd_quiet _ hi, ?_⟩
  · exact ((quiet_onlyFields _ _ _).rd _ _ (by decide)).trans (s.rises_addFec k _)
  · exact ((s.addFec_onlyRegs k _).mono (by simp [fecPlaces])).trans
      ((quiet_onlyRegs _ fun i hi => activeLanes_lt hi).mono fun x hx => List.mem_cons_of_mem _ hx)

/-- The lane above the threshold keeps its count of seconds until it is judged. -/
theorem State.rd_before_judged {s : State} {k j n : Nat} {pre : List Nat} (hk : k < 10) (hj : j < 5)
    (hlt : ∀ i ∈ pre, i < 5) (h : j ∉ pre) :
    ((s.addFec k n).quiet k pre).rd I.laneOver (k * 8 + j) = s.rd I.laneOver (k * 8 + j) :=
  (rd_quiet_other _ hk hj hlt h).trans (s.rd_addFec _ _ _ _ (by decide))

theorem State.noisy_before_judged {s : State} {k n : Nat} (pre counts : List Nat) {j : Nat}
    (h : s.noisy counts j) : ((s.addFec k n).quiet k pre).noisy counts j := by
  unfold noisy cfgIn at *
  rwa [(quiet_onlyFields _ k pre).cfg, addFec, bumpBy, cfg_wr]

/-- A first or second second above the threshold is counted. -/
theorem State.checked_counts {s : State} {k j : Nat} {counts : List Nat} (hk : k < 10) (hj : j ∈ s.activeLanes k)
    (hloud : s.noisy counts j) (hothers : ∀ i ∈ s.activeLanes k, i ≠ j → ¬ s.noisy counts i)
    (hn : s.rd I.laneOver (k * 8 + j) < 2) :
    Rises s (s.checked k counts) F.WEFT_LINK_ERR_FEC_CORR k counts.sum ∧
      (s.checked k counts).rd I.laneOver (k * 8 + j) = s.rd I.laneOver (k * 8 + j) + 1 ∧
      OnlyRegs s (s.checked k counts) (fecPlaces k) := by
  obtain ⟨pre, post, hlanes, hpre, hpost, heq⟩ := judgeLanes_one_loud (k := k) (s := s.addFec k counts.sum)
    (s.activeLanes_nodup k) hj hothers
  have hlt : ∀ i ∈ pre ++ j :: post, i < 5 := fun i hi => activeLanes_lt (hlanes ▸ hi)
  have hltpre : ∀ i ∈ pre, i < 5 := fun i hi => hlt i (by simp [hi])
  have hltpost : ∀ i ∈ post, i < 5 := fun i hi => hlt i (by simp [hi])
  have hj5 : j < 5 := hlt j (by simp)
  have hrd := rd_before_judged (s := s) (n := counts.sum) hk hj5 hltpre hpre
  rw [judgeLane_counts (noisy_before_judged pre counts hloud) (by rw [hrd]; exact hn), hrd] at heq
  rw [checked, heq]
  refine ⟨?_, ?_, ?_⟩
  · exact ((quiet_onlyFields _ _ _).rd _ _ (by decide)).trans ((rd_wr_id _ _ _ _ (by decide)).trans
      (((quiet_onlyFields _ _ _).rd _ _ (by decide)).trans (s.rises_addFec k _)))
  · rw [rd_quiet_other _ hk hj5 hltpost hpost, rd_wr_same]
    exact Nat.mod_eq_of_lt (lt_of_lt_of_le (Nat.succ_lt_succ hn) (by decide))
  · have hadd := (s.addFec_onlyRegs k counts.sum).mono (l' := fecPlaces k) (by simp [fecPlaces])
    have hquiet (u : State) {lanes : List Nat} (h : ∀ i ∈ lanes, i < 5) :
        OnlyRegs u (u.quiet k lanes) (fecPlaces k) :=
      (u.quiet_onlyRegs h).mono fun x hx => List.mem_cons_of_mem _ hx
    exact ((hadd.trans (hquiet _ hltpre)).wr _ _ _ (List.mem_cons_of_mem _
      (List.mem_map.2 ⟨j, List.mem_range.2 hj5, rfl⟩))).trans (hquiet _ hltpost)

/-- A third second above the threshold: the lane fails, after and before registers of the check alone. -/
theorem State.checked_fails {s : State} {k j : Nat} {counts : List Nat} (hk : k < 10) (hj : j ∈ s.activeLanes k)
    (hloud : s.noisy counts j) (hothers : ∀ i ∈ s.activeLanes k, i ≠ j → ¬ s.noisy counts i)
    (hn : 2 ≤ s.rd I.laneOver (k * 8 + j)) :
    ∃ u, OnlyFields s u fecFields ∧ Rises s u F.WEFT_LINK_ERR_FEC_CORR k counts.sum ∧
      OnlyFields (u.laneFails k j) (s.checked k counts) [I.laneOver] := by
  obtain ⟨pre, post, hlanes, hpre, -, heq⟩ := judgeLanes_one_loud (k := k) (s := s.addFec k counts.sum)
    (s.activeLanes_nodup k) hj hothers
  have hlt : ∀ i ∈ pre ++ j :: post, i < 5 := fun i hi => activeLanes_lt (hlanes ▸ hi)
  have hrd := rd_before_judged (s := s) (n := counts.sum) hk (hlt j (by simp)) (fun i hi => hlt i (by simp [hi])) hpre
  rw [judgeLane_fails (noisy_before_judged pre counts hloud) (by rw [hrd]; exact hn)] at heq
  refine ⟨((s.addFec k counts.sum).quiet k pre).wr I.laneOver (k * 8 + j) 0, ?_, ?_, ?_⟩
  · have hadd : OnlyFields s (s.addFec k counts.sum) fecFields := onlyFields_wr s _ _ _ (by decide)
    exact (hadd.trans ((quiet_onlyFields _ _ _).mono (by decide))).wr _ _ _ (by decide)
  · exact (rd_wr_id _ _ _ _ (by decide)).trans (((quiet_onlyFields _ _ _).rd _ _ (by decide)).trans
      (s.rises_addFec k _))
  · rw [checked, heq]; exact quiet_onlyFields _ _ _

/-- The failing lane is replaced by the spare, or takes the link DOWN. -/
theorem State.checked_third {s : State} {k j : Nat} {counts : List Nat} (hk : k < 10) (hup : s.linkUp k = true)
    (hj : j ∈ s.activeLanes k) (hloud : s.noisy counts j)
    (hothers : ∀ i ∈ s.activeLanes k, i ≠ j → ¬ s.noisy counts i) (hn : 2 ≤ s.rd I.laneOver (k * 8 + j)) :
    Rises s (s.checked k counts) F.WEFT_LINK_ERR_FEC_CORR k counts.sum ∧
      if s.rd F.WEFT_LINK_STATE_STATE k = 2 then
        (s.checked k counts).rd F.WEFT_LINK_STATE_STATE k = 3 ∧
          (s.checked k counts).rd F.WEFT_LINK_STATE_BAD_LANE k = j ∧ SameMemories s (s.checked k counts)
      else LinkDown s (s.checked k counts) k := by
  obtain ⟨u, hsu, hrises, hut⟩ := checked_fails hk hj hloud hothers hn
  have hstate := hsu.rd F.WEFT_LINK_STATE_STATE k (by decide)
  have hbad := hsu.rd F.WEFT_LINK_STATE_BAD_LANE k (by decide)
  refine ⟨?_, ?_⟩
  · exact (hut.rd _ _ (by decide)).trans (((u.laneFails_frame k j).rd _ _ (by decide)).trans hrises)
  rw [mem_activeLanes] at hj
  split
  · next h2 =>
    have hj4 : j < 4 := by rwa [if_neg (by omega)] at hj
    rw [laneFails_spared (hstate.trans h2) hj4] at hut
    obtain ⟨hthree, hlane, -, hmem, -⟩ := u.spared_spec k hj4
    exact ⟨(hut.rd _ _ (by decide)).trans hthree, (hut.rd _ _ (by decide)).trans hlane,
      sameMemories_of_memories (hut.memories.trans (hmem.trans hsu.memories))⟩
  · next h2 =>
    have h3 : s.rd F.WEFT_LINK_STATE_STATE k = 3 := ((s.linkUp_iff k).1 hup).resolve_left h2
    rw [if_pos h3] at hj
    rw [laneFails_second (hstate.trans h3) (by rw [hbad]; exact hj.2)] at hut
    exact linkDown_within hsu (u.linkDown_spec k) (hut.mono (by decide))

/-- Settles O31: each command is its equation (`exec_…`) and what the state it answers shows (`…_spec`); the
seconds' check folds over the lanes that carry traffic, at most one of which is above the threshold. -/
theorem linksTrainAndSpareALane : Obligations.LinksTrainAndSpareALane := by
  unfold Obligations.LinksTrainAndSpareALane
  refine ⟨fun l s => ⟨fun far hon hoff hfar => ?_, fun far h => ?_,
    fun node c => ⟨fun h hnode hc => ?_, fun h hdiff => ?_, fun h => ?_⟩,
    fun v => ⟨fun h => ?_, fun h => ?_, fun ok h => ?_⟩, ⟨fun h => ?_, fun h => ?_⟩, fun h => ?_, fun h => ?_⟩,
    fun l s => ⟨fun lane => ⟨fun h hl => ?_, fun h hl => ?_, fun h => ?_, fun h hl => ?_, fun h hl => ?_,
      fun h hl hbad => ?_, fun h hl hbad => ?_, fun h2 h3 => ?_⟩,
    fun counts => ⟨fun h => ?_, fun h hquiet => ?_, fun j hup hused hloud hothers => ⟨fun hn => ?_, fun hn => ?_⟩⟩⟩⟩
  · exact ⟨_, (exec_linkTrainStart l far s).trans (if_pos ⟨hon, hoff, hfar⟩), s.startTraining_spec l.val⟩
  · exact (exec_linkTrainStart l far s).trans (if_neg h)
  · exact ⟨_, (exec_identFlit_training h node c).trans (if_pos ⟨hnode, hc⟩), s.identified_spec l.val node⟩
  · exact ⟨_, (exec_identFlit_training h node c).trans (if_neg hdiff), s.miswired_spec l.val node⟩
  · exact (exec_identFlit l node c s).trans (if_neg h)
  · exact ⟨_, (exec_keyFlit l true v s).trans ((if_pos h).trans (if_pos rfl)), s.keyed_spec l.val _⟩
  · exact ⟨_, (exec_keyFlit l false v s).trans ((if_pos h).trans (if_neg (by decide))),
      s.weftViolation_spec 231 l.val⟩
  · exact (exec_keyFlit l ok v s).trans (if_neg h)
  · exact ⟨_, (exec_linkTrained l s).trans (if_pos h), s.trained_spec l.val⟩
  · exact (exec_linkTrained l s).trans (if_neg h)
  · exact ⟨_, (exec_linkRxTimeout l s).trans (if_pos h), s.linkDown_spec l.val⟩
  · exact (exec_linkRxTimeout l s).trans (if_neg (by simp [h]))
  · obtain ⟨hthree, hlane, hput, hmem, hframe⟩ := s.spared_spec l.val hl
    exact ⟨_, (exec_laneBlockLockLoss l lane s).trans (congrArg _ (State.laneFails_spared h hl)), hthree, hlane, hput,
      sameMemories_of_memories hmem, hframe⟩
  · exact ⟨_, (exec_laneBlockLockLoss l lane s).trans (congrArg _ (State.laneFails_second h hl)),
      s.linkDown_spec l.val⟩
  · exact (exec_laneBlockLockLoss l lane s).trans (congrArg _ (State.laneFails_ignored h))
  · rw [Completes, exec_laneSwapFlit, if_neg (not_not.2 ((s.linkUp_iff _).2 (.inl h))), if_neg (by omega), if_pos h]
    exact ⟨_, rfl, s.switched_spec l.val hl⟩
  · rw [Completes, exec_laneSwapFlit, if_neg (not_not.2 ((s.linkUp_iff _).2 h)), if_pos hl]
    obtain ⟨hviolation, -, hmem, hframe⟩ := s.weftViolation_spec 229 l.val
    exact ⟨_, rfl, hviolation, hmem, hframe⟩
  · rw [Completes, exec_laneSwapFlit, if_neg (not_not.2 ((s.linkUp_iff _).2 (.inr h))), if_neg (by omega),
      if_neg (by omega), if_pos hbad.symm]
    exact ⟨_, rfl, onlyRegs_wr ..⟩
  · rw [Completes, exec_laneSwapFlit, if_neg (not_not.2 ((s.linkUp_iff _).2 (.inr h))), if_neg (by omega),
      if_neg (by omega), if_neg (Ne.symm hbad)]
    exact ⟨_, rfl, s.linkDown_spec l.val⟩
  · rw [exec_laneSwapFlit, if_pos fun hup => ((s.linkUp_iff _).1 hup).elim h2 h3]
  · rw [exec_fecSecondCheck, h]; rfl
  · obtain ⟨hrises, hzero, honly⟩ := State.checked_quiet (s := s) (k := l.val) (counts := counts)
      fun i hi => hquiet i ((s.mem_activeLanes l.val i).1 hi)
    exact ⟨_, exec_fecSecondCheck_up h counts, hrises, fun i hi => hzero i ((s.mem_activeLanes l.val i).2 hi), honly⟩
  · exact ⟨_, exec_fecSecondCheck_up hup counts, State.checked_counts l.isLt ((s.mem_activeLanes l.val j).2 hused)
      hloud (fun i hi => hothers i ((s.mem_activeLanes l.val i).1 hi)) hn⟩
  · exact ⟨_, exec_fecSecondCheck_up hup counts, State.checked_third l.isLt hup ((s.mem_activeLanes l.val j).2 hused)
      hloud (fun i hi => hothers i ((s.mem_activeLanes l.val i).1 hi)) hn⟩

end Sys2Proof.Machine

namespace Sys2Proof.Machine

/-! ## Writes to scratch -/

/-- Cores are numbered without repetition. -/
theorem coreIx_injective : Function.Injective coreIx := by
  rintro ⟨p, k, c⟩ ⟨p', k', c'⟩ h
  simp only [coreIx, clusterIx] at h
  have hp : p = p' := Fin.ext (by omega)
  have hk : k = k' := Fin.ext (by omega)
  have hc : c = c' := Fin.ext (by omega)
  rw [hp, hk, hc]

/-- The bytes written read back. -/
theorem scratchAt_scratchWrite (s : State) (c : CoreId) {off : Nat} {bs : List Byte} (h : off + bs.length ≤ 24576) :
    scratchAt (s.scratchWrite c off bs) c off bs.length = bs := by
  refine List.ext_getElem (by simp [scratchAt]) fun k hk hk' => ?_
  simp only [scratchAt, List.getElem_map, List.getElem_range]
  rw [s.scratchByte_scratchWrite c c off (off + k) bs (by omega) h, if_pos ⟨rfl, by omega, by omega⟩,
    Nat.add_sub_cancel_left, List.getD_eq_getElem _ _ hk']

/-- Every other byte reads as before. -/
theorem scratchOutside_scratchWrite (s : State) (c : CoreId) {off : Nat} {bs : List Byte}
    (h : off + bs.length ≤ 24576) :
    ScratchOutside s (s.scratchWrite c off bs) c fun o => decide (off ≤ o ∧ o < off + bs.length) := by
  intro d o ho hd
  rw [s.scratchByte_scratchWrite c d off o bs ho h, if_neg]
  rintro ⟨hcore, hin⟩
  exact of_decide_eq_false (hd (coreIx_injective hcore)) hin

/-- A write to scratch leaves the register file and all but scratch and its poison marks alone. -/
theorem onlyVector_scratchWrite (s : State) (c : CoreId) (off : Nat) (bs : List Byte) :
    OnlyVector s (s.scratchWrite c off bs) c := ⟨rfl, fun _ _ _ => rfl⟩

/-! ## The counters of the arithmetic (R92, R131) -/

theorem State.countArith_onlyRegs (s : State) (c : CoreId) (sat nan : Nat) :
    OnlyRegs s (s.countArith c sat nan)
      [(F.PART_ARITH_STATUS_SAT_COUNT, c.part.val), (F.PART_ARITH_STATUS_NAN_COUNT, c.part.val)] :=
  ((OnlyRegs.refl s _).wr _ _ _ (by simp)).wr _ _ _ (by simp)

theorem arithCounted_countArith (s : State) (c : CoreId) (sat nan : Nat) :
    ArithCounted s (s.countArith c sat nan) c sat nan := by
  constructor
  · exact (State.rd_wr_id _ _ _ _ (by decide)).trans (s.rd_bumpBy ..)
  · exact (State.rd_bumpBy ..).trans (by rw [State.bumpBy, s.rd_wr_id _ _ _ (by decide)]; rfl)

/-! ## Bytes of codes -/

theorem le_length (n v : Nat) : (le n v).length = n := by
  induction n generalizing v with
  | zero => rfl
  | succ n ih => rw [le, List.length_cons, ih]

theorem codeBytes_length (n : Nat) (cs : List Nat) : (codeBytes n cs).length = n * cs.length := by
  induction cs with
  | nil => rfl
  | cons c cs ih =>
    rw [codeBytes, List.flatMap_cons, List.length_append, le_length, ← codeBytes, ih, List.length_cons]
    ring

/-! ## Selections (R33, R91) -/

theorem sortBy_ins_length {α : Type} (le : α → α → Bool) (x : α) (l : List α) :
    (sortBy.ins le x l).length = l.length + 1 := by
  induction l with
  | nil => rfl
  | cons y l ih =>
    rw [sortBy.ins]
    split
    · rfl
    · rw [List.length_cons, ih, List.length_cons]

theorem sortBy_length {α : Type} (le : α → α → Bool) (l : List α) : (sortBy le l).length = l.length := by
  induction l with
  | nil => rfl
  | cons x l ih => rw [sortBy, sortBy_ins_length, ih, List.length_cons]

theorem ranked_length (x : List Word) : (ranked x).length = x.length := by
  rw [ranked, sortBy_length, List.length_zipIdx]

/-- The selected elements are as many as the mask has ones, or fewer. -/
theorem kept_length_le (x : List Word) (mask : List Bool) :
    ((x.zip mask).filterMap fun e => if e.2 then some e.1.toNat else none).length ≤ mask.count true := by
  induction x generalizing mask with
  | nil => simp
  | cons w x ih =>
    cases mask with
    | nil => simp
    | cons b mask =>
      have := ih mask
      cases b <;> simp <;> omega

theorem exec_topK {c : CoreId} {k : Fin 257} {x : List Word} {dst : Nat} (s : State) (h : x.length ≤ 65536) :
    exec (.topK c k x dst) s = .next (s.scratchWrite c dst
      (codeBytes 4 (((ranked x).take k.val).map fun e => e.1.toNat) ++
        codeBytes 4 (((ranked x).take k.val).map fun e => e.2))) := by
  show execTopK c k x dst s = _
  rw [execTopK, List.take_of_length_le h]

theorem exec_compaction {c : CoreId} {x : List Word} {mask : List Bool} {dst : Nat} (s : State)
    (h : x.length ≤ 65536) :
    exec (.compaction c x mask dst) s = .next (s.scratchWrite c dst
      (codeBytes 4 ((x.zip mask).filterMap fun e => if e.2 then some e.1.toNat else none))) := by
  show execCompaction c x mask dst s = _
  rw [execCompaction, List.take_of_length_le h]

/-- What a command that writes `bs` to scratch and does nothing else completes with. -/
theorem scratchWrite_completes {i : Instr} {s : State} {c : CoreId} {dst n : Nat} {bs : List Byte}
    (hexec : exec i s = .next (s.scratchWrite c dst bs)) (hn : bs.length = n) (h : dst + n ≤ 24576) :
    Completes i s fun t =>
      scratchAt t c dst n = bs ∧ ScratchOutside s t c (fun o => decide (dst ≤ o ∧ o < dst + n)) ∧
      t.free = s.free ∧ OnlyVector s t c ∧ SameBut s t [] := by
  subst hn
  exact ⟨_, hexec, scratchAt_scratchWrite s c h, scratchOutside_scratchWrite s c h, rfl,
    onlyVector_scratchWrite s c dst bs, fun _ _ _ => rfl⟩

/-! ## The write-back in DS24 (R86-R88) -/

/-- The lane's generator one step on. -/
def State.advanceLane (s : State) (c : CoreId) (lane : Nat) : State :=
  let m := Tab.put s.arr.xorshift (coreIx c * 16 + lane) (xorshift (s.lane c lane)) (s.laneSeed c lane)
  { s with arr := { s.arr with xorshift := m } }

/-- The state after a write-back. -/
def State.wroteBack (s : State) (c : CoreId) (lane : Nat) (x : Word) (dst : Nat) : State :=
  let r := ds24Write x.toNat (xorshift (s.lane c lane) % 256)
  ((s.advanceLane c lane).scratchWrite c dst (le 3 r.code)).countArith c r.sat 0

theorem exec_ds24Writeback (c : CoreId) (lane : Fin 16) (x : Word) (dst : Nat) (s : State) :
    exec (.ds24Writeback c lane x dst) s = .next (s.wroteBack c lane.val x dst) := rfl

/-- The seed of a lane is a function of four fields that the arithmetic's counters are none of. -/
theorem State.laneSeed_of_sameBut {s t : State} {c : CoreId}
    (h : SameBut s t [(F.PART_ARITH_STATUS_SAT_COUNT, c.part.val), (F.PART_ARITH_STATUS_NAN_COUNT, c.part.val)])
    (lane : Nat) : t.laneSeed c lane = s.laneSeed c lane := by
  have hrd : ∀ (f : Fld) (i : Nat), F.PART_ARITH_STATUS_SAT_COUNT.id ≠ f.id →
      F.PART_ARITH_STATUS_NAN_COUNT.id ≠ f.id → t.rd f i = s.rd f i := fun f i hsat hnan =>
    h f i (by simpa using ⟨regKey_inj_id hsat.symm, regKey_inj_id hnan.symm⟩)
  unfold laneSeed State.on
  dsimp only
  rw [hrd I.srFixed _ (by decide) (by decide), hrd F.PART_CL_DATA_LOGICAL _ (by decide) (by decide),
    hrd F.PART_CL_DATA_MAPPED _ (by decide) (by decide), hrd I.srSeed _ (by decide) (by decide)]

/-- A write-back changes the register file in the two counters only. -/
theorem State.wroteBack_sameBut (s : State) (c : CoreId) (lane : Nat) (x : Word) (dst : Nat) :
    SameBut s (s.wroteBack c lane x dst)
      [(F.PART_ARITH_STATUS_SAT_COUNT, c.part.val), (F.PART_ARITH_STATUS_NAN_COUNT, c.part.val)] :=
  (((s.advanceLane c lane).scratchWrite c dst _).countArith_onlyRegs c _ 0).2

theorem State.wroteBack_xorshift (s : State) (c : CoreId) (lane : Nat) (x : Word) (dst : Nat) :
    (s.wroteBack c lane x dst).arr.xorshift =
      Tab.put s.arr.xorshift (coreIx c * 16 + lane) (xorshift (s.lane c lane)) (s.laneSeed c lane) := rfl

/-- A write-back changes the two counters, scratch and the generators. -/
theorem State.wroteBack_eq (s : State) (c : CoreId) (lane : Nat) (x : Word) (dst : Nat) :
    let t := s.wroteBack c lane x dst
    t = { s with regs := t.regs, arr := { t.arr with
              user := s.arr.user, made := s.arr.made, parity := s.arr.parity, acc := s.arr.acc
              preds := s.arr.preds, weights := s.arr.weights, vregs := s.arr.vregs, loops := s.arr.loops
              ibuf := s.arr.ibuf } } := by
  unfold wroteBack
  generalize ds24Write x.toNat _ = r
  rfl

/-- A write-back leaves the lane's generator one step on (R88). -/
theorem State.wroteBack_lane (s : State) (c : CoreId) (lane : Nat) (x : Word) (dst : Nat) :
    (s.wroteBack c lane x dst).lane c lane = xorshift (s.lane c lane) := by
  rw [State.lane, laneSeed_of_sameBut (s.wroteBack_sameBut c lane x dst) lane, s.wroteBack_xorshift c lane x dst,
    Tab.get_put_same]

/-- A write-back leaves the DS24 code in scratch (R86, R87). -/
theorem State.wroteBack_scratch (s : State) (c : CoreId) (lane : Nat) (x : Word) {dst : Nat} (h : dst + 3 ≤ 24576) :
    let t := s.wroteBack c lane x dst
    scratchAt t c dst 3 = le 3 (ds24Write x.toNat (xorshift (s.lane c lane) % 256)).code ∧
      ScratchOutside s t c fun o => decide (dst ≤ o ∧ o < dst + 3) := by
  intro t
  set bs := le 3 (ds24Write x.toNat (xorshift (s.lane c lane) % 256)).code
  have hlen : bs.length = 3 := le_length ..
  have hread := scratchAt_scratchWrite (s.advanceLane c lane) c (off := dst) (bs := bs) (by omega)
  have houtside := scratchOutside_scratchWrite (s.advanceLane c lane) c (off := dst) (bs := bs) (by omega)
  rw [hlen] at hread houtside
  exact ⟨hread, houtside⟩

theorem wf_topK (c : CoreId) (k : Fin 257) (x : List Word) (dst : Nat) :
    WellFormed.ok (.topK c k x dst) = true ↔ x.length ≤ 65536 ∧ dst + 8 * min k.val x.length ≤ 24576 := by
  show (decide _ && decide _) = true ↔ _
  rw [Bool.and_eq_true, decide_eq_true_eq, decide_eq_true_eq]

theorem wf_compaction (c : CoreId) (x : List Word) (mask : List Bool) (dst : Nat) :
    WellFormed.ok (.compaction c x mask dst) = true ↔
      (x.length ≤ 65536 ∧ mask.length = x.length) ∧ dst + 4 * mask.count true ≤ 24576 := by
  show (decide _ && _ == _ && decide _) = true ↔ _
  rw [Bool.and_eq_true, Bool.and_eq_true, decide_eq_true_eq, beq_iff_eq, decide_eq_true_eq]

/-- Settles O9: each command writes a list of bytes to scratch (`scratchWrite_completes`); a write-back also
advances its lane's generator and counts. -/
theorem writebackAndSelectionsWriteScratch : Obligations.WritebackAndSelectionsWriteScratch := by
  unfold Obligations.WritebackAndSelectionsWriteScratch
  refine fun c s => ⟨fun lane x dst hdst => ?_, fun k x dst hwf => ?_, fun x mask dst hwf => ?_⟩
  · obtain ⟨hread, houtside⟩ := s.wroteBack_scratch c lane.val x hdst
    refine ⟨_, exec_ds24Writeback c lane x dst s, s.wroteBack_lane c lane.val x dst, fun j hj d => ?_, hread,
      arithCounted_countArith _ c _ 0, houtside, s.wroteBack_eq c lane.val x dst,
      s.wroteBack_sameBut c lane.val x dst⟩
    rw [s.wroteBack_xorshift c lane.val x dst, Tab.get_put_other _ hj.symm]
  · obtain ⟨hx, hfits⟩ := (wf_topK c k x dst).1 hwf
    refine scratchWrite_completes (exec_topK s hx) ?_ ?_
    · rw [List.length_append, codeBytes_length, codeBytes_length, List.length_map, List.length_map]
      omega
    · rwa [List.length_take, ranked_length]
  · obtain ⟨⟨hx, -⟩, hfits⟩ := (wf_compaction c x mask dst).1 hwf
    refine scratchWrite_completes (exec_compaction s hx) (codeBytes_length ..) ?_
    have := kept_length_le x mask
    omega

end Sys2Proof.Machine

namespace Sys2Proof.Machine

/-! ## The ends of frames: what they write, and which frames are left -/

/-- Registers that the ends of frames write: the state of the context, its counters, the completion ring, the
spool's message (R182, R191, R192, R217, R271). -/
def frameEndFields : List Fld :=
  [F.CTX_DECODE_BROKEN, F.CTX_STATE_QUEUED, F.CTX_STATE_STATE, F.SPOOL_CQ_TAIL_INDEX, F.CTX_LAST_AGE_AGE_US,
    F.CTX_FRAMES_DONE_COUNT, F.CTX_FRAMES_LATE_COUNT, F.CTX_FRAMES_FAILED_COUNT, I.msixPending]

/-- What every operation at the end of a frame keeps: the registers outside `frameEndFields`; and no frame is
new. -/
def OnlyEnds (s t : State) : Prop := SameButFields s t frameEndFields ∧ ∀ g ∈ t.bnd.frames, g ∈ s.bnd.frames

theorem OnlyEnds.refl (s : State) : OnlyEnds s s := ⟨.refl _ _, fun _ h => h⟩

theorem OnlyEnds.trans {s t u : State} (h : OnlyEnds s t) (h' : OnlyEnds t u) : OnlyEnds s u :=
  ⟨h.1.trans h'.1, fun g hg => h.2 g (h'.2 g hg)⟩

theorem OnlyEnds.of_onlyFields {s t : State} (h : OnlyFields s t frameEndFields) : OnlyEnds s t :=
  ⟨h.2, fun g hg => by rwa [h.bnd] at hg⟩

theorem OnlyEnds.of_eq {s t : State} (hregs : t.regs = s.regs) (hframes : t.bnd.frames = s.bnd.frames) :
    OnlyEnds s t := ⟨.of_regs hregs _, fun _ hg => hframes ▸ hg⟩

theorem OnlyEnds.setFrames {s : State} {fs : List Frame} (h : ∀ g ∈ fs, g ∈ s.bnd.frames) :
    OnlyEnds s (s.setFrames fs) := ⟨.of_regs rfl _, h⟩

theorem OnlyEnds.ite {s a b : State} {c : Prop} [Decidable c] (ha : OnlyEnds s a) (hb : OnlyEnds s b) :
    OnlyEnds s (if c then a else b) := by
  split <;> assumption

theorem State.breakDecode_onlyFields (s : State) (c : Nat) : OnlyFields s (s.breakDecode c) frameEndFields :=
  .ite (onlyFields_wr _ _ _ _ (by decide)) (.refl _ _)

theorem State.syncCtx_onlyFields (s : State) (c : Nat) : OnlyFields s (s.syncCtx c) frameEndFields := by
  unfold syncCtx
  extract_lets fs u st
  have hu : OnlyFields s u frameEndFields := onlyFields_wr _ _ _ _ (by decide)
  exact .ite (hu.wr _ _ _ (by decide)) hu

theorem State.setSpool_onlyEnds (s : State) (k : Nat) (x : SpoolSt) : OnlyEnds s (s.setSpool k x) := .of_eq rfl rfl

theorem State.hostSend_onlyEnds (s : State) (o : Out) : OnlyEnds s (s.hostSend o) := by
  rw [hostSend_eq]; exact .of_eq rfl rfl

theorem State.msixSend_onlyEnds (s : State) (v : Nat) : OnlyEnds s (s.msixSend v) :=
  ⟨(s.msixSend_frame v).mono (by decide), by rw [msixSend_eq]; exact fun _ h => h⟩

theorem State.spoolDue_onlyEnds (s : State) (k : Nat) : OnlyEnds s (s.spoolDue k) :=
  .ite ((s.msixSend_onlyEnds k).trans (setSpool_onlyEnds ..)) (.refl s)

theorem State.spoolMessage_onlyEnds (s : State) (k : Nat) : OnlyEnds s (s.spoolMessage k) :=
  (s.setSpool_onlyEnds k _).trans (spoolDue_onlyEnds ..)

/-- The counters of the frame's context raised at its completion (R191, R196). -/
def State.countEnd (s : State) (f : Frame) (status age : Nat) (late : Bool) : State :=
  let s := s.wr F.CTX_LAST_AGE_AGE_US f.ctx age
  if status = 0 then
    let s := s.wr F.CTX_FRAMES_DONE_COUNT f.ctx (s.rd F.CTX_FRAMES_DONE_COUNT f.ctx + 1)
    if late then s.wr F.CTX_FRAMES_LATE_COUNT f.ctx (s.rd F.CTX_FRAMES_LATE_COUNT f.ctx + 1) else s
  else s.wr F.CTX_FRAMES_FAILED_COUNT f.ctx (s.rd F.CTX_FRAMES_FAILED_COUNT f.ctx + 1)

theorem State.countEnd_onlyFields (s : State) (f : Frame) (status age : Nat) (late : Bool) :
    OnlyFields s (s.countEnd f status age late) frameEndFields := by
  unfold countEnd
  extract_lets u v
  have hu : OnlyFields s u frameEndFields := onlyFields_wr _ _ _ _ (by decide)
  have hv : OnlyFields s v frameEndFields := hu.wr _ _ _ (by decide)
  exact .ite (.ite (hv.wr _ _ _ (by decide)) hv) (hu.wr _ _ _ (by decide))

/-- The completion entry put into its ring, and its reserved place given back (R190, R191). -/
def State.putEntry (s : State) (sp : Nat) (o : Out) : State :=
  let tail := s.rd F.SPOOL_CQ_TAIL_INDEX sp
  let s := (s.hostSend o).wr F.SPOOL_CQ_TAIL_INDEX sp (tail + 1)
  s.setSpool sp { s.spool sp with reserved := (s.spool sp).reserved - 1 }

theorem State.putEntry_onlyEnds (s : State) (sp : Nat) (o : Out) : OnlyEnds s (s.putEntry sp o) :=
  ((s.hostSend_onlyEnds o).trans (.of_onlyFields (onlyFields_wr _ _ _ _ (by decide)))).trans (setSpool_onlyEnds ..)

/-- A completion is an entry, the counts of a frame that counts, and the spool's message. -/
theorem State.complete_eq (s : State) (f : Frame) (status : Nat) (counts : Bool) :
    ∃ o age late, s.complete f status counts =
      (if counts then (s.putEntry f.spool o).countEnd f status age late
        else s.putEntry f.spool o).spoolMessage f.spool :=
  ⟨_, _, _, rfl⟩

theorem State.complete_onlyEnds (s : State) (f : Frame) (status : Nat) (counts : Bool) :
    OnlyEnds s (s.complete f status counts) := by
  obtain ⟨o, age, late, h⟩ := s.complete_eq f status counts
  have hput := s.putEntry_onlyEnds f.spool o
  rw [h]
  exact (OnlyEnds.ite (hput.trans (.of_onlyFields (countEnd_onlyFields _ f status age late))) hput).trans
    (spoolMessage_onlyEnds ..)

theorem State.flushFrom_onlyEnds (n : Nat) (s : State) (c : Nat) : OnlyEnds s (State.flushFrom n s c) := by
  induction n generalizing s with
  | zero => exact .refl s
  | succ n ih =>
    unfold flushFrom
    split
    · next f _ =>
      split
      · next st _ =>
        have hend : OnlyEnds s (if f.follower then s else s.complete f st true) :=
          .ite (.refl s) (s.complete_onlyEnds f st true)
        exact (hend.trans (.setFrames fun g hg => List.mem_of_mem_eraseP hg)).trans (ih _)
      · exact .refl s
    · exact .refl s

theorem State.flush_onlyEnds (s : State) (c : Nat) : OnlyEnds s (s.flush c) :=
  (flushFrom_onlyEnds ..).trans (.of_onlyFields (syncCtx_onlyFields ..))

/-- A frame of a predicate, ended with a status unless it has ended before. -/
def Frame.endedBy (p : Frame → Bool) (status : Nat) (f : Frame) : Frame :=
  if p f && !f.isDone then { f with stage := .done status, intake := 0, plain := [], picture := [] } else f

theorem State.endFrames_onlyEnds (s : State) (p : Frame → Bool) (status : Nat) :
    OnlyEnds (s.setFrames (s.bnd.frames.map (Frame.endedBy p status))) (s.endFrames p status) := by
  unfold endFrames
  extract_lets hit u v
  have hu : OnlyFields s u frameEndFields :=
    .foldl _ (fun t f _ => .ite (t.breakDecode_onlyFields f.ctx) (.refl t _)) s
  refine foldl_relates OnlyEnds.refl (fun _ _ _ => .trans) _ (fun t c _ => t.flush_onlyEnds c) v |> .trans ?_
  refine ⟨hu.2, fun g hg => ?_⟩
  have hmap : g ∈ u.bnd.frames.map (Frame.endedBy p status) := hg
  rwa [hu.bnd] at hmap

/-! ### Records of the same entry -/

theorem Frame.same_iff (f g : Frame) : f.same g = true ↔ g.ctx = f.ctx ∧ g.spool = f.spool ∧ g.ix = f.ix := by
  simp [same, and_assoc]

theorem Frame.same_self (f : Frame) : f.same f = true := f.same_iff f |>.2 ⟨rfl, rfl, rfl⟩

theorem Frame.same_endedBy (f : Frame) (p : Frame → Bool) (status : Nat) (g : Frame) :
    f.same (g.endedBy p status) = f.same g := by
  unfold endedBy; split <;> rfl

theorem Frame.isDone_endedBy {p : Frame → Bool} {f : Frame} (h : p f = true) (status : Nat) :
    (f.endedBy p status).isDone = true := by
  unfold endedBy
  split
  · rfl
  · simp_all

/-- After a frame is ended, every record of its entry has ended. -/
theorem State.endFrame_frameEnded (s : State) {f g : Frame} (hsame : g.same f = true) (status : Nat) :
    FrameEnded (s.endFrame g status) f := by
  intro h hh hfh
  obtain ⟨-, hframes⟩ := s.endFrames_onlyEnds g.same status
  obtain ⟨k, -, rfl⟩ := List.mem_map.1 (hframes h hh)
  refine Frame.isDone_endedBy ?_ status
  rw [Frame.same_endedBy, Frame.same_iff] at hfh
  rw [Frame.same_iff] at hsame ⊢
  obtain ⟨hc, hs, hi⟩ := hsame
  simpa [hc, hs, hi] using hfh

theorem State.endFrame_frame (s : State) (f : Frame) (status : Nat) :
    SameButFields s (s.endFrame f status) frameEndFields :=
  (s.endFrames_onlyEnds f.same status).1

theorem State.endFrame_sameMemories {s u : State} (h : u.memories = s.memories) (f : Frame) (status : Nat) :
    SameMemories s (u.endFrame f status) :=
  sameMemories_of_memories ((u.memories_endFrames f.same status).trans h)

/-- A frame replaced by another record of its entry is among the frames. -/
theorem State.mem_setFrame {s : State} {f g : Frame} (hf : f ∈ s.bnd.frames) (hsame : g.same f = true) :
    g ∈ (s.setFrame g).bnd.frames :=
  List.mem_map.2 ⟨f, hf, if_pos hsame⟩

/-! ## Payloads that fail to decode (R216) -/

theorem State.failDecode_frame (s : State) (f : Frame) (cause : Nat) :
    SameButFields s (s.failDecode f cause) (F.CTX_DECODE_FAILS :: F.CTX_DECODE_LAST_CAUSE :: frameEndFields) := by
  have h := (sameButFields_wr s F.CTX_DECODE_FAILS f.ctx
    (min (s.rd F.CTX_DECODE_FAILS f.ctx + 1) (F.CTX_DECODE_FAILS.size - 1))
    (l := F.CTX_DECODE_FAILS :: F.CTX_DECODE_LAST_CAUSE :: frameEndFields) (by simp)).wr
    F.CTX_DECODE_LAST_CAUSE f.ctx cause (by simp)
  exact h.trans ((endFrame_frame _ f 1).mono fun x hx => by simp [hx])

/-- A payload that fails from a state that differs from `s` neither in its context's count of failures nor in
memory. -/
theorem State.failDecode_spec {s u : State} {f g : Frame} {cause : Nat} (hsame : g.same f = true)
    (hcount : u.rd F.CTX_DECODE_FAILS f.ctx = s.rd F.CTX_DECODE_FAILS f.ctx) (hmem : u.memories = s.memories)
    (hcause : cause < 16) :
    DecodeFailed s (u.failDecode g cause) f cause ∧ SameMemories s (u.failDecode g cause) := by
  obtain ⟨hctx, -, -⟩ := (g.same_iff f).1 hsame
  set v := (u.bump F.CTX_DECODE_FAILS g.ctx).wr F.CTX_DECODE_LAST_CAUSE g.ctx cause with hv
  have hframe : SameButFields v (u.failDecode g cause) frameEndFields := v.endFrame_frame g 1
  refine ⟨⟨?_, ?_, v.endFrame_frameEnded hsame 1⟩, endFrame_sameMemories (u := v) hmem g 1⟩
  · rw [Rises, hframe.rd _ _ (by decide), hv, State.rd_wr_id _ _ _ _ (by decide), hctx, bump, u.rd_bumpBy,
      ← hctx, hcount]
  · rw [hframe.rd _ _ (by decide), hv, ← hctx, State.rd_wr_same]
    exact Nat.mod_eq_of_lt hcause

end Sys2Proof.Machine

namespace Sys2Proof.Machine

/-! ## A context's entry in its table -/

theorem Tab.find?_insert_same {α : Type} (m : SMap α) (k : Nat) (v : α) :
    (insert m k v).find? (·.1 == k) = some (k, v) := by
  induction m with
  | nil => simp [insert]
  | cons e m ih =>
    obtain ⟨k', w⟩ := e
    rw [insert]
    split
    · next h => rw [List.find?_cons_of_neg (by simpa using h.ne), ih]
    · split <;> simp

theorem State.ctx?_setCtx (s : State) (c : Nat) (x : Ctx) : (s.setCtx c x).ctx? c = some x := by
  rw [ctx?, setCtx, Tab.find?_insert_same]; rfl

/-- The oldest frame with a property is a frame of its context that has it. -/
theorem State.firstAt_some {s : State} {c : Nat} {p : Frame → Bool} {f : Frame} (h : s.firstAt c p = some f) :
    f ∈ s.bnd.frames ∧ f.ctx = c ∧ p f = true := by
  have hp := List.find?_some h
  rw [Bool.and_eq_true, beq_iff_eq] at hp
  exact ⟨List.mem_of_find?_eq_some h, hp⟩

/-! ## Payloads that arrive (R213, R215, R328, R537) -/

theorem State.codecFault_lt (s : State) (f : Frame) : s.codecFault f < 16 := by
  unfold codecFault
  dsimp only
  split
  · decide
  · split <;> decide

/-- The fault of a payload's codec is read from its context's bundle and binding. -/
theorem State.codecFault_congr {s t : State} {f g : Frame} {x y : Ctx} (hcodec : g.codec = f.codec)
    (hs : s.ctx? f.ctx = some x) (ht : t.ctx? g.ctx = some y) (hhandle : y.handle = x.handle)
    (hbinding : y.binding = x.binding) (hbundles : t.bnd.bundles = s.bnd.bundles)
    (hbindings : t.bnd.bindings = s.bnd.bindings) : t.codecFault g = s.codecFault f := by
  simp only [codecFault, hdrOf, hasShare, bundle?, binding?, hs, ht, hcodec, hhandle, hbinding, hbundles,
    hbindings, Option.bind_some]

/-- The frame of a payload whose tag verifies, held for its decode. -/
def Frame.held (f : Frame) (x : Payload) : Frame :=
  { f with stage := .decode, plain := x.plain, randomAccess := x.randomAccess }

/-- A payload held for its decode; its SEQ is the context's last. -/
def State.holdPayload (s : State) (c : Nat) (y : Ctx) (f : Frame) (x : Payload) : State :=
  (s.setCtx c { y with lastSeal := f.sealSeq }).setFrame (f.held x)

theorem State.holdPayload_ctx (s : State) (c : Nat) (y : Ctx) (f : Frame) (x : Payload) :
    (s.holdPayload c y f x).ctx? c = some { y with lastSeal := f.sealSeq } := s.ctx?_setCtx ..

theorem State.codecFault_holdPayload {s : State} {y : Ctx} {f : Frame} (hy : s.ctx? f.ctx = some y) (x : Payload) :
    (s.holdPayload f.ctx y f x).codecFault (f.held x) = s.codecFault f :=
  codecFault_congr rfl hy (s.holdPayload_ctx ..) rfl rfl rfl rfl

section

variable {c : CtxIx} {x : Payload} {f : Frame} {y : Ctx} {s : State}

theorem exec_payloadArrival_refused (hf : s.firstAt c.val (fun g => g.stage == .payload) = some f)
    (hy : s.ctx? c.val = some y) (hbad : x.tagOk = false ∨ f.sealSeq ≤ y.lastSeal) :
    exec (.payloadArrival c x) s = .next ((s.bump F.SEC_AUTH_PAYLOAD_FAILS 0).endFrame f 3) := by
  have hno : ¬ (x.tagOk = true ∧ y.lastSeal < f.sealSeq) := by
    rintro ⟨htag, hseal⟩
    rcases hbad with h | h
    · exact Bool.false_ne_true (h.symm.trans htag)
    · omega
  show execPayloadArrival c x s = _
  rw [execPayloadArrival, hf, hy]
  exact if_neg hno

theorem exec_payloadArrival_verified (hf : s.firstAt c.val (fun g => g.stage == .payload) = some f)
    (hy : s.ctx? c.val = some y) (htag : x.tagOk = true) (hseal : y.lastSeal < f.sealSeq) :
    exec (.payloadArrival c x) s = .next (if f.opcode = 1 ∧ s.codecFault f ≠ 0
      then (s.holdPayload c.val y f x).failDecode (f.held x) (s.codecFault f) else s.holdPayload c.val y f x) := by
  obtain ⟨-, hctx, -⟩ := State.firstAt_some hf
  rw [← hctx] at hy
  rw [← hctx, ← State.codecFault_holdPayload hy x, apply_ite Host.Outcome.next]
  show execPayloadArrival c x s = _
  rw [execPayloadArrival, hf, ← hctx, hy]
  exact if_pos ⟨htag, hseal⟩

end

/-! ## Decode engines (R210) -/

/-- The most urgent frame is one of those given. -/
theorem State.urgent_mem {s : State} {fs : List Frame} {f : Frame} (h : s.urgent fs = some f) : f ∈ fs := by
  cases fs with
  | nil => cases h
  | cons g fs =>
    obtain rfl := Option.some.inj h
    refine List.foldlRecOn (motive := (· ∈ g :: fs)) fs _ (by simp) fun b hb a ha => ?_
    split
    · exact List.mem_cons_of_mem _ ha
    · exact hb

theorem exec_decodeStart {e : EngineIx} {s : State} {f : Frame}
    (hfree : (s.bnd.frames.any fun g => g.stage == .decoding e.val) = false) (hfront : s.on F.PWR_INPUT_FRONT 0 = false)
    (hstop : s.on I.admitStop 0 = false) (hreset : .decodeReset e ∉ s.recoveries)
    (hf : s.urgent (if ((s.waitingOn e.val).filter (s.belowShare e.val)).isEmpty then s.waitingOn e.val
      else (s.waitingOn e.val).filter (s.belowShare e.val)) = some f) :
    exec (.decodeStart e) s = .next (s.setFrame { f with stage := .decoding e.val }) := by
  show execDecodeStart e s = _
  rw [execDecodeStart, hfree, hfront, hstop, hf]
  exact if_neg (by simpa using hreset)

/-- The use of engine `e` forgotten at the end of its window. -/
def State.endWindow (s : State) (e : Nat) : State :=
  { s with bnd := { s.bnd with decodeUse := s.bnd.decodeUse.filter (·.1 != e) } }

theorem exec_decodeShareWindow (e : EngineIx) (s : State) :
    exec (.decodeShareWindow e) s = .next (s.endWindow e.val) := rfl

theorem State.usedOn_endWindow (s : State) (e k b : Nat) :
    (s.endWindow e).usedOn k b = if k = e then 0 else s.usedOn k b := by
  unfold usedOn endWindow
  dsimp only
  induction s.bnd.decodeUse with
  | nil => simp
  | cons u us ih =>
    by_cases hu : u.1 = e
    · rw [List.filter_cons_of_neg (by simp [hu]), ih]
      split
      · rfl
      · next hk => simp [hu, Ne.symm hk]
    · rw [List.filter_cons_of_pos (by simp [hu]), List.map_cons, List.sum_cons, ih, List.map_cons, List.sum_cons]
      by_cases hk : k = e
      · rw [if_pos hk, if_pos hk, if_neg fun h => hu (h.1.trans hk)]
      · rw [if_neg hk, if_neg hk]

/-! ## Decoded pictures (R203, R206, R216, R217) -/

theorem State.chargeTo_regs (s : State) (e : Nat) (f : Frame) (n : Nat) : (s.chargeTo e f n).regs = s.regs := by
  unfold chargeTo; split <;> rfl

theorem State.chargeTo_frames (s : State) (e : Nat) (f : Frame) (n : Nat) :
    (s.chargeTo e f n).bnd.frames = s.bnd.frames := by
  unfold chargeTo; split <;> rfl

theorem State.memories_chargeTo (s : State) (e : Nat) (f : Frame) (n : Nat) :
    (s.chargeTo e f n).memories = s.memories := by
  unfold chargeTo; split <;> rfl

/-- The frame of a picture that is ready. -/
def Frame.shown (f : Frame) (hdr : BundleHdr) (w h : Nat) (bytes : List Nat) : Frame :=
  { f with stage := .ready, plain := [], picture := bytes, intake := pictureBytes hdr.layout w h }

/-- A picture of the bundle's size makes its frame ready. -/
theorem State.picture_ready {s : State} {f : Frame} {hdr : BundleHdr} {w h : Nat} (bytes : List Nat)
    (hf : f ∈ s.bnd.frames) (hw : w = hdr.width) (hh : h = hdr.height) :
    let t := s.picture f hdr w h bytes
    f.shown hdr w h bytes ∈ t.bnd.frames ∧ t.regs = s.regs ∧ t.memories = s.memories := by
  have heq : s.picture f hdr w h bytes = s.setFrame (f.shown hdr w h bytes) := if_pos ⟨hw, hh⟩
  rw [heq]
  exact ⟨mem_setFrame hf f.same_self, rfl, rfl⟩

/-- A picture of another size ends its frame. -/
theorem State.picture_ends {s : State} {f : Frame} {hdr : BundleHdr} {w h : Nat} (bytes : List Nat)
    (hne : w ≠ hdr.width ∨ h ≠ hdr.height) :
    FrameEnded (s.picture f hdr w h bytes) f ∧ (s.picture f hdr w h bytes).memories = s.memories := by
  have heq : s.picture f hdr w h bytes =
      (s.setFrame (f.shown hdr w h bytes)).endFrame (f.shown hdr w h bytes) 2 := if_neg (by tauto)
  rw [heq]
  exact ⟨endFrame_frameEnded _ f.same_self 2, memories_endFrames ..⟩

/-- The payload of a frame that had discarded units, counted (R217). -/
def State.noteDiscard (s : State) (f : Frame) (discarded : Bool) : State :=
  if discarded then s.bump F.CTX_DECODE_DISCARDS f.ctx else s

theorem State.noteDiscard_onlyFields (s : State) (f : Frame) (d : Bool) :
    OnlyFields s (s.noteDiscard f d) [F.CTX_DECODE_DISCARDS] :=
  .ite (onlyFields_wr _ _ _ _ (by simp)) (.refl _ _)

/-- The reference of a video payload is lost: its context's decode state is broken and it is no random access
point, or it leads one (R217). -/
def State.lacksReference (s : State) (f : Frame) (rasl : Bool) : Bool :=
  isVideo f.codec && ((s.on F.CTX_DECODE_BROKEN f.ctx && !f.randomAccess) || rasl)

/-- The decode state of a picture's context after a successful decode. -/
def State.noteSource (s : State) (f : Frame) : State :=
  (if isVideo f.codec then s.wr F.CTX_DECODE_BROKEN f.ctx 0 else s).wr F.CTX_DECODE_SOURCE f.ctx (codecCode f.codec)

theorem State.noteSource_onlyFields (s : State) (f : Frame) :
    OnlyFields s (s.noteSource f) [F.CTX_DECODE_BROKEN, F.CTX_DECODE_SOURCE] :=
  OnlyFields.wr (.ite (onlyFields_wr _ _ _ _ (by simp)) (.refl _ _)) _ _ _ (by simp)

theorem State.rd_noteSource (s : State) (f : Frame) :
    (s.noteSource f).rd F.CTX_DECODE_SOURCE f.ctx = codecCode f.codec := by
  rw [noteSource, rd_wr_same]
  cases f.codec <;> rfl

theorem State.rd_noteSource_broken (s : State) {f : Frame} (h : isVideo f.codec = true) :
    (s.noteSource f).rd F.CTX_DECODE_BROKEN f.ctx = 0 := by
  rw [noteSource, if_pos h, rd_wr_id _ _ _ _ (by decide), rd_wr_same]
  rfl

section

variable (s : State) {f : Frame} (hdr : BundleHdr) {p : Picture} (d : Bool) {rasl : Bool}

theorem State.lacksReference_noteDiscard (f : Frame) (rasl : Bool) :
    (s.noteDiscard f d).lacksReference f rasl = s.lacksReference f rasl := by
  unfold lacksReference State.on
  rw [(s.noteDiscard_onlyFields f d).rd _ _ (by decide)]

theorem State.decoded_tooLarge (h : tooLarge f.codec p.width p.height = true) :
    s.decoded f hdr p d rasl = (s.noteDiscard f d).failDecode f 4 := if_pos h

theorem State.decoded_lost (h : tooLarge f.codec p.width p.height = false)
    (hlost : s.lacksReference f rasl = true) :
    s.decoded f hdr p d rasl = (s.noteDiscard f d).failDecode f 6 :=
  (if_neg (by simp [h])).trans (if_pos ((s.lacksReference_noteDiscard d f rasl).trans hlost))

theorem State.decoded_good (h : tooLarge f.codec p.width p.height = false)
    (hgood : s.lacksReference f rasl = false) :
    s.decoded f hdr p d rasl = ((s.noteDiscard f d).noteSource f).picture f hdr p.width p.height
      (convertPicture hdr.layout (f.codec == .jpeg) p) :=
  (if_neg (by simp [h])).trans (if_neg (by
    rw [← Bool.not_eq_true, ← s.lacksReference_noteDiscard d] at hgood
    exact hgood))

end

end Sys2Proof.Machine

namespace Sys2Proof.Machine

/-! ## A payload's decode, and its end (R216) -/

/-- A decode's end as its outcome finds the machine: the engine time charged, discarded units counted. -/
def State.decodeEnded (s : State) (e : Nat) (f : Frame) (p : Picture) (d : Bool) : State :=
  (s.chargeTo e f (p.width * p.height)).noteDiscard f d

section

variable (s : State) (e : Nat) (f : Frame) (p : Picture) (d : Bool)

theorem State.rd_decodeEnded {g : Fld} (i : Nat) (hg : g.id ≠ F.CTX_DECODE_DISCARDS.id) :
    (s.decodeEnded e f p d).rd g i = s.rd g i :=
  ((noteDiscard_onlyFields _ f d).rd g i (by simpa using hg)).trans (rd_congr (s.chargeTo_regs ..) g i)

theorem State.memories_decodeEnded : (s.decodeEnded e f p d).memories = s.memories :=
  (noteDiscard_onlyFields _ f d).memories.trans (s.memories_chargeTo ..)

theorem State.decodeEnded_frames : (s.decodeEnded e f p d).bnd.frames = s.bnd.frames := by
  rw [decodeEnded, (noteDiscard_onlyFields _ f d).bnd, chargeTo_frames]

theorem State.lacksReference_chargeTo (n : Nat) (rasl : Bool) :
    (s.chargeTo e f n).lacksReference f rasl = s.lacksReference f rasl := by
  unfold lacksReference State.on
  rw [rd_congr (s.chargeTo_regs e f n)]

theorem State.lacksReference_eq (rasl : Bool) : s.lacksReference f rasl =
    (isVideo f.codec && s.on F.CTX_DECODE_BROKEN f.ctx && !f.randomAccess || isVideo f.codec && rasl) := by
  rw [lacksReference, Bool.and_or_distrib_left, Bool.and_assoc]

end

section

variable {e : EngineIx} {f : Frame} {hdr : BundleHdr} {s : State}
  (hf : s.bnd.frames.find? (fun g => g.stage == .decoding e.val) = some f) (hhdr : s.hdrOf f.ctx = some hdr)

include hf hhdr

theorem exec_decodeComplete_picture (p : Picture) (d rasl : Bool) :
    exec (.decodeComplete e (.picture p d rasl)) s =
      .next ((s.chargeTo e.val f (p.width * p.height)).decoded f hdr p d rasl) := by
  show execDecodeComplete e (.picture p d rasl) s = _
  rw [execDecodeComplete, hf]
  dsimp only
  rw [hhdr]

theorem exec_decodeComplete_failed (cause : Fin 13) :
    exec (.decodeComplete e (.failed cause)) s =
      .next ((s.chargeTo e.val f (hdr.width * hdr.height)).decodeFails f cause.val) := by
  show execDecodeComplete e (.failed cause) s = _
  rw [execDecodeComplete, hf]
  dsimp only
  rw [hhdr]

/-- A picture larger than R203 allows. -/
theorem decodeComplete_tooLarge {p : Picture} (d rasl : Bool) (h : tooLarge f.codec p.width p.height = true) :
    exec (.decodeComplete e (.picture p d rasl)) s = .next ((s.decodeEnded e.val f p d).failDecode f 4) := by
  rw [exec_decodeComplete_picture hf hhdr, State.decoded_tooLarge _ _ _ h, State.decodeEnded]

/-- A picture without its reference. -/
theorem decodeComplete_lost {p : Picture} (d : Bool) {rasl : Bool} (h : tooLarge f.codec p.width p.height = false)
    (hlost : s.lacksReference f rasl = true) :
    exec (.decodeComplete e (.picture p d rasl)) s = .next ((s.decodeEnded e.val f p d).failDecode f 6) := by
  rw [exec_decodeComplete_picture hf hhdr,
    State.decoded_lost _ _ _ h ((s.lacksReference_chargeTo ..).trans hlost), State.decodeEnded]

/-- A picture that is decoded. -/
theorem decodeComplete_good {p : Picture} (d : Bool) {rasl : Bool} (h : tooLarge f.codec p.width p.height = false)
    (hgood : s.lacksReference f rasl = false) :
    exec (.decodeComplete e (.picture p d rasl)) s =
      .next (((s.decodeEnded e.val f p d).noteSource f).picture f hdr p.width p.height
        (convertPicture hdr.layout (f.codec == .jpeg) p)) := by
  rw [exec_decodeComplete_picture hf hhdr,
    State.decoded_good _ _ _ h ((s.lacksReference_chargeTo ..).trans hgood), State.decodeEnded]

omit hhdr in
theorem exec_decodeTimeLimit :
    exec (.decodeTimeLimit e) s = .next ((s.bump F.DEC_DATA_ENDED e.val).failDecode f 8) := by
  show execDecodeTimeLimit e s = _
  rw [execDecodeTimeLimit, hf]

end

/-- A decode that fails with a cause ends its payload with it; one that shows no frame has been decoded to its
end before. -/
theorem State.decodeFails_spec {s u : State} {f : Frame} {cause : Nat}
    (hcount : u.rd F.CTX_DECODE_FAILS f.ctx = s.rd F.CTX_DECODE_FAILS f.ctx) (hmem : u.memories = s.memories)
    (hcause : cause < 16) :
    DecodeFailed s (u.decodeFails f cause) f cause ∧ SameMemories s (u.decodeFails f cause) := by
  unfold decodeFails
  split
  · next h =>
    subst h
    exact failDecode_spec (u := u.setFrame { f with stage := .ready }) f.same_self hcount hmem hcause
  · exact failDecode_spec f.same_self hcount hmem hcause

/-! ## Raw frames (R214, R215) -/

section

variable {c : CtxIx} {f : Frame} {hdr : BundleHdr} {s : State}
  (hf : s.firstAt c.val (fun g => g.stage == .decode && g.opcode == 2) = some f) (hhdr : s.hdrOf c.val = some hdr)

include hf hhdr

theorem exec_rawConvert_badHeader (h : rawHeader f.plain = none) :
    exec (.rawConvert c) s = .next (s.failDecode f 9) := by
  show execRawConvert c s = _
  rw [execRawConvert, hf, hhdr]
  dsimp only
  rw [h]

theorem exec_rawConvert {h : RawHdr} (hh : rawHeader f.plain = some h) :
    exec (.rawConvert c) s = if h.rgb = true ∧ hdr.layout ≠ .rgb24 then .next (s.failDecode f 10)
      else .next ((s.wr F.CTX_DECODE_SOURCE c.val 5).picture f hdr h.width h.height
        (rawPicture hdr.layout h f.plain)) := by
  show execRawConvert c s = _
  rw [execRawConvert, hf, hhdr]
  dsimp only
  rw [hh]

end

/-! ## The codec of a context (R217, R221) -/

/-- The codec is read from one field. -/
theorem State.codec_wr (s : State) {f : Fld} (i v c : Nat) (hf : f.id ≠ F.CTX_INPUT_CODEC.id) :
    (s.wr f i v).codec c = s.codec c := by
  unfold codec
  rw [s.rd_wr_id _ _ _ hf]
  rfl

theorem exec_ctxInputWrite {path : Path} {v : Word} {x : Ctx} {s : State}
    (hx : s.ctx? (s.rd F.CTX_SEL_SEL (pathIx path)) = some x) :
    let c := s.rd F.CTX_SEL_SEL (pathIx path)
    let k := field v.toNat 2 0
    let u := s.wr F.CTX_INPUT_CODEC c (if k ≤ 4 then k else 0)
    exec (.ctxInputWrite path v) s = .next (u.wr F.CTX_DECODE_BROKEN c (bit (isVideo (u.codec c)))) := by
  show execCtxInputWrite path v s = _
  rw [execCtxInputWrite, hx]

/-! ## The statement, clause by clause -/

theorem payloadArrival_spec (c : CtxIx) (x : Payload) (f : Frame) (y : Ctx) (s : State)
    (hf : s.firstAt c.val (fun g => g.stage == .payload) = some f) (hy : s.ctx? c.val = some y) :
    (x.tagOk = true → y.lastSeal < f.sealSeq → (f.opcode ≠ 1 ∨ s.codecFault f = 0) →
      Completes (.payloadArrival c x) s fun t =>
        f.held x ∈ t.bnd.frames ∧ (t.ctx? c.val).map Ctx.lastSeal = some f.sealSeq ∧ SameMemories s t ∧
          SameBut s t []) ∧
    (x.tagOk = true → y.lastSeal < f.sealSeq → f.opcode = 1 → s.codecFault f ≠ 0 →
      Completes (.payloadArrival c x) s fun t => DecodeFailed s t f (s.codecFault f) ∧ SameMemories s t) ∧
    ((x.tagOk = false ∨ f.sealSeq ≤ y.lastSeal) → Completes (.payloadArrival c x) s fun t =>
      Rises s t F.SEC_AUTH_PAYLOAD_FAILS 0 1 ∧ FrameEnded t f ∧ SameMemories s t) := by
  obtain ⟨hmem, -, -⟩ := State.firstAt_some hf
  refine ⟨fun htag hseal hok => ⟨s.holdPayload c.val y f x, ?_, State.mem_setFrame hmem f.same_self, ?_,
      sameMemories_of_memories rfl, fun _ _ _ => rfl⟩, fun htag hseal hop hfault => ?_, fun hbad => ?_⟩
  · rw [exec_payloadArrival_verified hf hy htag hseal, if_neg (by tauto)]
  · rw [s.holdPayload_ctx]; rfl
  · refine ⟨_, (exec_payloadArrival_verified hf hy htag hseal).trans (congrArg _ (if_pos ⟨hop, hfault⟩)), ?_⟩
    exact State.failDecode_spec f.same_self rfl rfl (s.codecFault_lt f)
  · refine ⟨_, exec_payloadArrival_refused hf hy hbad, ?_, State.endFrame_frameEnded _ f.same_self 3,
      State.endFrame_sameMemories rfl f 3⟩
    rw [Rises, (State.endFrame_frame _ f 3).rd _ _ (by decide), State.bump, s.rd_bumpBy]

theorem decodeComplete_picture_spec (e : EngineIx) (f : Frame) (hdr : BundleHdr) (s : State)
    (hf : s.bnd.frames.find? (fun g => g.stage == .decoding e.val) = some f) (hhdr : s.hdrOf f.ctx = some hdr)
    (p : Picture) (d : Bool) :
    let lost := isVideo f.codec && s.on F.CTX_DECODE_BROKEN f.ctx && !f.randomAccess
    (tooLarge f.codec p.width p.height = false → lost = false → p.width = hdr.width → p.height = hdr.height →
      Completes (.decodeComplete e (.picture p d false)) s fun t =>
        f.shown hdr p.width p.height (convertPicture hdr.layout (f.codec == .jpeg) p) ∈ t.bnd.frames ∧
        t.rd F.CTX_DECODE_SOURCE f.ctx = codecCode f.codec ∧
        (isVideo f.codec = true → t.rd F.CTX_DECODE_BROKEN f.ctx = 0) ∧ SameMemories s t) ∧
    (tooLarge f.codec p.width p.height = false → lost = false → (p.width ≠ hdr.width ∨ p.height ≠ hdr.height) →
      Completes (.decodeComplete e (.picture p d false)) s fun t => FrameEnded t f ∧ SameMemories s t) ∧
    (∀ rasl, tooLarge f.codec p.width p.height = true → Completes (.decodeComplete e (.picture p d rasl)) s fun t =>
      DecodeFailed s t f 4 ∧ SameMemories s t) ∧
    (∀ rasl, tooLarge f.codec p.width p.height = false → (lost || (isVideo f.codec && rasl)) = true →
      Completes (.decodeComplete e (.picture p d rasl)) s fun t => DecodeFailed s t f 6 ∧ SameMemories s t) := by
  intro lost
  set u := s.decodeEnded e.val f p d with hu
  have hmem : u.memories = s.memories := s.memories_decodeEnded ..
  have hcount : u.rd F.CTX_DECODE_FAILS f.ctx = s.rd F.CTX_DECODE_FAILS f.ctx :=
    s.rd_decodeEnded _ _ _ _ _ (by decide)
  have hmem' : (u.noteSource f).memories = s.memories := (u.noteSource_onlyFields f).memories.trans hmem
  have hgood : lost = false → s.lacksReference f false = false := fun h => by
    rw [s.lacksReference_eq, Bool.and_false, Bool.or_false]; exact h
  refine ⟨fun hfits hlost hwidth hheight => ?_, fun hfits hlost hne => ?_, fun rasl hlarge => ?_,
    fun rasl hfits hlost => ?_⟩
  · have hin : f ∈ (u.noteSource f).bnd.frames := by
      rw [(u.noteSource_onlyFields f).bnd, hu, s.decodeEnded_frames]
      exact List.mem_of_find?_eq_some hf
    obtain ⟨hready, hregs, hkept⟩ :=
      State.picture_ready (convertPicture hdr.layout (f.codec == .jpeg) p) hin hwidth hheight
    exact ⟨_, decodeComplete_good hf hhdr d hfits (hgood hlost), hready,
      (State.rd_congr hregs _ _).trans (u.rd_noteSource f),
      fun hvideo => (State.rd_congr hregs _ _).trans (u.rd_noteSource_broken hvideo),
      sameMemories_of_memories (hkept.trans hmem')⟩
  · obtain ⟨hended, hkept⟩ := State.picture_ends (s := u.noteSource f) (f := f)
      (convertPicture hdr.layout (f.codec == .jpeg) p) hne
    exact ⟨_, decodeComplete_good hf hhdr d hfits (hgood hlost), hended,
      sameMemories_of_memories (hkept.trans hmem')⟩
  · exact ⟨_, decodeComplete_tooLarge hf hhdr d rasl hlarge,
      State.failDecode_spec f.same_self hcount hmem (by decide)⟩
  · exact ⟨_, decodeComplete_lost hf hhdr d hfits ((s.lacksReference_eq f rasl).trans hlost),
      State.failDecode_spec f.same_self hcount hmem (by decide)⟩

theorem rawConvert_spec (c : CtxIx) (f : Frame) (hdr : BundleHdr) (s : State)
    (hf : s.firstAt c.val (fun g => g.stage == .decode && g.opcode == 2) = some f) (hhdr : s.hdrOf c.val = some hdr)
    (h : RawHdr) (hh : rawHeader f.plain = some h) :
    (h.rgb = true → hdr.layout ≠ .rgb24 → Completes (.rawConvert c) s fun t =>
      DecodeFailed s t f 10 ∧ SameMemories s t) ∧
    ((h.rgb = false ∨ hdr.layout = .rgb24) → h.width = hdr.width → h.height = hdr.height →
      Completes (.rawConvert c) s fun t =>
        f.shown hdr h.width h.height (rawPicture hdr.layout h f.plain) ∈ t.bnd.frames ∧
        t.rd F.CTX_DECODE_SOURCE c.val = 5 ∧ SameMemories s t ∧ SameBut s t [(F.CTX_DECODE_SOURCE, c.val)]) ∧
    ((h.rgb = false ∨ hdr.layout = .rgb24) → (h.width ≠ hdr.width ∨ h.height ≠ hdr.height) →
      Completes (.rawConvert c) s fun t => FrameEnded t f ∧ SameMemories s t) := by
  obtain ⟨hmem, -, -⟩ := State.firstAt_some hf
  have hexec := exec_rawConvert hf hhdr hh
  have hconverts : (h.rgb = false ∨ hdr.layout = .rgb24) → ¬ (h.rgb = true ∧ hdr.layout ≠ .rgb24) := by
    rintro (hrgb | hlay)
    · simp [hrgb]
    · simp [hlay]
  refine ⟨fun hrgb hlay => ?_, fun hlay hwidth hheight => ?_, fun hlay hne => ?_⟩
  · exact ⟨_, hexec.trans (if_pos ⟨hrgb, hlay⟩), State.failDecode_spec f.same_self rfl rfl (by decide)⟩
  · obtain ⟨hready, hregs, hkept⟩ := State.picture_ready (s := s.wr F.CTX_DECODE_SOURCE c.val 5)
      (rawPicture hdr.layout h f.plain) hmem hwidth hheight
    exact ⟨_, hexec.trans (if_neg (hconverts hlay)), hready, (State.rd_congr hregs _ _).trans (s.rd_wr_same ..),
      sameMemories_of_memories hkept, (sameBut_wr s F.CTX_DECODE_SOURCE c.val 5 (by simp)).trans
        fun g i _ => State.rd_congr hregs g i⟩
  · obtain ⟨hended, hkept⟩ := State.picture_ends (s := s.wr F.CTX_DECODE_SOURCE c.val 5) (f := f)
      (rawPicture hdr.layout h f.plain) hne
    exact ⟨_, hexec.trans (if_neg (hconverts hlay)), hended, sameMemories_of_memories hkept⟩

theorem ctxInputWrite_spec (path : Path) (v : Word) (x : Ctx) (s : State) :
    let c := s.rd F.CTX_SEL_SEL (pathIx path)
    let k := field v.toNat 2 0
    s.ctx? c = some x → Completes (.ctxInputWrite path v) s fun t =>
      t.rd F.CTX_INPUT_CODEC c = (if k ≤ 4 then k else 0) ∧
      (isVideo (t.codec c) = true → t.rd F.CTX_DECODE_BROKEN c = 1) ∧
      OnlyRegs s t [(F.CTX_INPUT_CODEC, c), (F.CTX_DECODE_BROKEN, c)] := by
  intro c k hx
  refine ⟨_, exec_ctxInputWrite hx, ?_, fun hvideo => ?_, ?_⟩
  · have hk : (if k ≤ 4 then k else 0) < F.CTX_INPUT_CODEC.size := by
      have : F.CTX_INPUT_CODEC.size = 8 := rfl
      split <;> omega
    rw [State.rd_wr_id _ _ _ _ (by decide), State.rd_wr_same]
    exact Nat.mod_eq_of_lt hk
  · rw [State.codec_wr _ _ _ _ (by decide)] at hvideo
    rw [State.rd_wr_same, hvideo]
    rfl
  · exact ((OnlyRegs.refl s _).wr _ _ _ (by simp [c])).wr _ _ _ (by simp [c])

/-- Settles O29: the ends of frames write `frameEndFields` only and leave no record of the entry that has not
ended (`endFrame_frameEnded`), so that a failure shows its cause (`failDecode_spec`). -/
theorem payloadsArriveAndDecode : Obligations.PayloadsArriveAndDecode := by
  unfold Obligations.PayloadsArriveAndDecode
  refine ⟨fun c x f y s hf hy => payloadArrival_spec c x f y s hf hy, fun e s => ⟨?_, ?_⟩,
    fun e f hdr s hf hhdr => ⟨fun p d => decodeComplete_picture_spec e f hdr s hf hhdr p d, fun cause => ?_, ?_⟩,
    fun c f hdr s hf hhdr => ⟨fun h => ?_, fun h hh => rawConvert_spec c f hdr s hf hhdr h hh⟩,
    ctxInputWrite_spec⟩
  · intro f hfree hfront hstop hreset hf
    have hwaits : f ∈ s.waitingOn e.val := by
      have := State.urgent_mem hf
      split at this
      · exact this
      · exact (List.mem_filter.1 this).1
    exact ⟨_, exec_decodeStart hfree hfront hstop hreset hf,
      State.mem_setFrame (List.mem_filter.1 hwaits).1 f.same_self, rfl⟩
  · refine ⟨_, exec_decodeShareWindow e s, fun b => ?_, fun k hk b => ?_, rfl⟩
    · rw [s.usedOn_endWindow, if_pos rfl]
    · rw [s.usedOn_endWindow, if_neg hk]
  · exact ⟨_, exec_decodeComplete_failed hf hhdr cause,
      State.decodeFails_spec (State.rd_congr (s.chargeTo_regs ..) _ _) (s.memories_chargeTo ..) (by omega)⟩
  · obtain ⟨hfailed, hmem⟩ := State.failDecode_spec (s := s) (u := s.bump F.DEC_DATA_ENDED e.val) (cause := 8)
      f.same_self (State.rd_wr_id _ _ _ _ (by decide)) rfl (by decide)
    refine ⟨_, exec_decodeTimeLimit hf, hfailed, ?_, hmem⟩
    rw [Rises, (State.failDecode_frame _ f 8).rd _ _ (by decide), State.bump, s.rd_bumpBy]
  · exact ⟨_, exec_rawConvert_badHeader hf hhdr h, State.failDecode_spec f.same_self rfl rfl (by decide)⟩

end Sys2Proof.Machine

namespace Sys2Proof.Machine
/-! PROOFS. What every operation of the model leaves of the memories: the lemmas `State.memories_…` say that
an operation stores nothing and marks no poison, so that a proof about the memories needs to look only at the
operations that do. -/

@[simp] theorem State.memories_mk (pending us free regs latches out arr beam hbm bnd host fw weft stw pwr thm cool hzn
    recoveries) : (State.mk pending us free regs latches out arr beam hbm bnd host fw weft stw pwr thm cool hzn
      recoveries).memories =
      ([beam.bytes, hbm.bytes, arr.scratch, arr.ibuf, stw.flash], [beam.poison, hbm.poison, arr.scratchPoison]) := rfl

@[simp] theorem State.memories_fold (s : State) :
    ([s.beam.bytes, s.hbm.bytes, s.arr.scratch, s.arr.ibuf, s.stw.flash],
      [s.beam.poison, s.hbm.poison, s.arr.scratchPoison]) = s.memories := rfl

@[simp] theorem State.memories_cond {c : Prop} [Decidable c] (a b : State) :
    (if c then a else b).memories = if c then a.memories else b.memories := apply_ite ..

/-- A step of a fold keeps the memories of the state `g` finds in the folded value (a predicate of its own, so that
`simp` can prove it as a side condition). -/
def KeepsMemories {σ α : Type} (g : σ → State) (f : σ → α → σ) : Prop :=
  ∀ s x, (g (f s x)).memories = (g s).memories

@[simp] theorem keepsMemories_iff {σ α : Type} (g : σ → State) (f : σ → α → σ) :
    KeepsMemories g f ↔ ∀ s x, (g (f s x)).memories = (g s).memories := Iff.rfl

theorem memories_foldl_of_keeps {σ α : Type} (g : σ → State) (f : σ → α → σ) (hf : KeepsMemories g f)
    (l : List α) (s : σ) : (g (l.foldl f s)).memories = (g s).memories := by
  induction l generalizing s with
  | nil => rfl
  | cons x l ih => exact (ih _).trans (hf s x)

@[simp] theorem State.memories_foldl_keeps {α : Type} (f : State → α → State) (hf : KeepsMemories id f)
    (l : List α) (s : State) : (l.foldl f s).memories = s.memories := memories_foldl_of_keeps id f hf l s
@[simp] theorem State.memories_foldl_snd {α β : Type} (f : β × State → α → β × State)
    (hf : KeepsMemories Prod.snd f) (l : List α) (x : β × State) : (l.foldl f x).2.memories = x.2.memories :=
  memories_foldl_of_keeps _ f hf l x
@[simp] theorem State.memories_foldl_fst {α β : Type} (f : State × β → α → State × β)
    (hf : KeepsMemories Prod.fst f) (l : List α) (x : State × β) : (l.foldl f x).1.memories = x.1.memories :=
  memories_foldl_of_keeps _ f hf l x
@[simp] theorem State.memories_foldl_snd_snd {α β γ : Type} (f : β × γ × State → α → β × γ × State)
    (hf : KeepsMemories (fun x => x.2.2) f) (l : List α) (x : β × γ × State) :
    (l.foldl f x).2.2.memories = x.2.2.memories := memories_foldl_of_keeps (fun x => x.2.2) f hf l x

/-- The memories after a command: those of the state it answers, and the old ones when it answers none. -/
def resultMemories (s : State) (r : Result) : List (List Host.Cell) × List (SMap Bool) :=
  match r with
  | .next t => t.memories
  | _ => s.memories

@[simp] theorem resultMemories_next (s t : State) : resultMemories s (.next t) = t.memories := rfl

@[simp] theorem resultMemories_cond {c : Prop} [Decidable c] (s : State) (a b : Result) :
    resultMemories s (if c then a else b) = if c then resultMemories s a else resultMemories s b := by
  split <;> rfl

@[simp] theorem State.memories_after (s : State) (f : State → Result) :
    (s.after f).memories = resultMemories s (f s) := by
  unfold State.after resultMemories
  cases f s <;> rfl

/-! ### Memories kept: the register file -/

@[simp] theorem State.memories_draw (s : State) : s.draw.2.memories = s.memories := by simp [State.draw]

/-! ### Memories kept: host events (09) -/

@[simp] theorem State.memories_loseEvent (s : State) : s.loseEvent.memories = s.memories := by
  simp [State.loseEvent]

@[simp] theorem State.memories_writeEvent (s : State) (e : Event) : (s.writeEvent e).memories = s.memories := by
  simp [State.writeEvent]

/-! ### Memories kept: the fault collector (16) -/

@[simp] theorem State.memories_causeEnds (s : State) (src : Nat) : (s.causeEnds src).memories = s.memories := by
  simp [State.causeEnds]

@[simp] theorem State.memories_clearStatus (s : State) (src : Nat) : (s.clearStatus src).memories = s.memories := by
  simp [State.clearStatus, State.leaveSafe, State.rearm]

/-! ### Memories kept: bolts -/

@[simp] theorem State.memories_leaseBolts (s : State) (bs : List Nat) (owner : Nat) :
    (s.leaseBolts bs owner).memories = s.memories := by simp [State.leaseBolts]

@[simp] theorem State.memories_retireBolt (s : State) (b : Nat) : (s.retireBolt b).memories = s.memories := by
  unfold State.retireBolt
  dsimp only
  split <;> simp

/-! ### Memories kept: retirements -/

@[simp] theorem State.memories_retire (s : State) (r : Retirement) : (s.retire r).memories = s.memories := by
  simp [State.retire]

@[simp] theorem State.memories_repairDecision (s : State) (p : Part) :
    (s.repairDecision p).memories = s.memories := by simp [State.repairDecision, State.decideCluster]

@[simp] theorem State.memories_readMaps (s : State) (p : Part) : (s.readMaps p).memories = s.memories := by
  simp -implicitDefEqProofs [State.readMaps]

/-! ### Memories kept: HBM leases -/

@[simp] theorem State.memories_dropLease (s : State) (id : Nat) : (s.dropLease id).memories = s.memories := by
  simp [State.dropLease]

@[simp] theorem State.memories_newLease (s : State) (g owner : Nat) (exts : List Nat) (slot : Nat) (use : LeaseUse) :
    (s.newLease g owner exts slot use).2.memories = s.memories := by simp [State.newLease]

@[simp] theorem State.memories_makeLeases (s : State) (owner : Nat) (use : LeaseUse) (ps : List (Nat × List Nat)) :
    (s.makeLeases owner use ps).2.memories = s.memories := by
  unfold State.makeLeases
  refine memories_foldl_of_keeps Prod.snd _ (fun x p => ?_) ps ([], s)
  dsimp only
  split <;> simp

/-! ### Memories kept: HBM contents -/

@[simp] theorem State.memories_queueRow (s : State) (g : HomeGroup) (chan : Fin 16) (bank row : Nat) :
    (s.queueRow g chan bank row).memories = s.memories := by simp [State.queueRow]

/-! ### Memories kept: tables -/

@[simp] theorem State.memories_setBundle (s : State) (bundle : Nat) (x : Bundle) :
    (s.setBundle bundle x).memories = s.memories := by simp [State.setBundle]

/-! ### Memories kept: aborted frames -/

@[simp] theorem State.memories_faultCtx (s : State) (p ctx level cause cluster : Nat) :
    (s.faultCtx p ctx level cause cluster).memories = s.memories := by simp [State.faultCtx]

@[simp] theorem State.memories_escalate (s : State) (p level : Nat) (cluster : Option Nat) :
    (s.escalate p level cluster).memories = s.memories := by
  unfold State.escalate
  (repeat' split) <;> simp

@[simp] theorem State.memories_abortWith (s : State) (b : BindIx) (p detail : Nat) :
    (s.abortWith b p detail).memories = s.memories := by
  unfold State.abortWith
  split <;> simp

/-! ### Memories kept: ending bindings and owners -/

@[simp] theorem State.memories_advanceGen (s : State) (p : Nat) : (s.advanceGen p).memories = s.memories := by
  simp [State.advanceGen]

@[simp] theorem State.memories_closeSpool (s : State) (sp : Nat) : (s.closeSpool sp).memories = s.memories := by
  simp [State.closeSpool]

/-! ### Memories kept: the command window -/

@[simp] theorem State.memories_reapDisplaced (s : State) : s.reapDisplaced.memories = s.memories := by
  simp [State.reapDisplaced]

/-! ### Memories kept: schedules on partitions -/

@[simp] theorem State.memories_partBound (s : State) (p : Nat) : (s.partBound p).memories = s.memories := by
  simp [State.partBound]

@[simp] theorem State.memories_sweepResult (s : State) (p : Part) (failed : List (Cluster × CoreIx)) (dur : Nat) :
    (s.sweepResult p failed dur).memories = s.memories := by simp [State.sweepResult]

/-! ### Memories kept: engine resets -/

@[simp] theorem State.memories_failDecode (s : State) (f : Frame) (cause : Nat) :
    (s.failDecode f cause).memories = s.memories := by simp [State.failDecode]

@[simp] theorem State.memories_resetDma (s : State) (g : Nat) : (s.resetDma g).memories = s.memories := by
  refine State.memories_foldl _ (fun s c => ?_) _ _
  split <;> simp

@[simp] theorem State.memories_endRecovery (s : State) (t : RecTarget) : (s.endRecovery t).memories = s.memories := by
  simp [State.endRecovery]

/-! ### Memories kept: chip reset and power cycle -/

@[simp] theorem State.memories_disableRail (s : State) : s.disableRail.memories = s.memories := by
  simp [State.disableRail]

@[simp] theorem State.memories_retireExtent (s : State) (e : Fin 10240) :
    (s.retireExtent e).memories = s.memories := by simp [State.retireExtent]

@[simp] theorem State.memories_corePending (s : State) (c : CoreId) : (s.corePending c).memories = s.memories := by
  simp [State.corePending]

@[simp] theorem State.memories_coreFault (s : State) (c : CoreId) (cause : Nat) :
    (s.coreFault c cause).memories = s.memories := by
  unfold State.coreFault
  dsimp only
  (repeat' split) <;> simp

@[simp] theorem memories_execPartCtrlWrite (path : Path) (v : Word) (s : State) :
    resultMemories s (execPartCtrlWrite path v s) = s.memories := by simp [execPartCtrlWrite]

/-! ### Memories kept: layers -/

@[simp] theorem State.memories_ds24Draw (s : State) (p x : Nat) : (s.ds24Draw p x).2.memories = s.memories := by
  simp [State.ds24Draw]

@[simp] theorem State.memories_activate (s : State) (a : Activation) (x : Nat) :
    (s.activate a x).2.memories = s.memories := by
  unfold State.activate
  (repeat' split) <;> simp

@[simp] theorem State.memories_encodeBlock (s : State) (p : Nat) (d : DeltaRun) (layer : Nat) (x block : List Nat) :
    (s.encodeBlock p d layer x block).2.memories = s.memories := by simp [State.encodeBlock]

@[simp] theorem State.memories_applyTiles (s : State) (p : Nat) (d : DeltaRun) (layer : Nat) (l : DeltaLayer) (tau
    : Nat × Int) (peak : Nat) (x : List Nat) :
    (s.applyTiles p d layer l tau peak x).2.2.memories = s.memories := by
  unfold State.applyTiles
  simp [apply_ite Prod.snd]

@[simp] theorem State.memories_updateSum (s : State) (p : Nat) (l : DeltaLayer) (dq : List (Nat × Num)) (o :
    OutElem) (old : Nat) :
    (s.updateSum p l dq o old).2.memories = s.memories := by
  unfold State.updateSum
  simp -implicitDefEqProofs [apply_ite Prod.snd]

@[simp] theorem State.memories_layerOut (s : State) (d : DeltaRun) (layer : Nat) (l : DeltaLayer) :
    (s.layerOut d layer l).2.memories = s.memories := by simp [State.layerOut]

@[simp] theorem State.memories_deltaLayer (s : State) (p scale peak : Nat) (inputs : List (List Word)) (d :
    DeltaRun) (layer : Nat) (l : DeltaLayer) :
    (s.deltaLayer p scale peak inputs d layer l).2.memories = s.memories := by
  unfold State.deltaLayer
  simp [apply_ite Prod.snd]

@[simp] theorem State.memories_runDelta (s : State) (p : Nat) (plan : DeltaPlan) (d : DeltaSt) (scale peak : Nat)
    (inputs : List (List Word)) :
    (s.runDelta p plan d scale peak inputs).2.memories = s.memories := by simp [State.runDelta]

@[simp] theorem State.memories_runRefresh (s : State) (p : Nat) (plan : DeltaPlan) (dense : List (List Word × List
    Word)) :
    (s.runRefresh p plan dense).2.memories = s.memories := by simp [State.runRefresh]

/-! ### Memories kept: the decision point (R148-R150) -/

@[simp] theorem State.memories_decideRefresh (s : State) (c : Nat) : (s.decideRefresh c).2.memories = s.memories := by
  unfold State.decideRefresh
  dsimp only
  (repeat' split) <;> simp

/-! ### Memories kept: the header write (R137, R138, R161) -/

@[simp] theorem State.memories_stateWrite (s : State) (c p : Nat) (plan : DeltaPlan) (q : Decision) (r :
    FrameResult) (x : Ctx) (d : DeltaSt) :
    (s.stateWrite c p plan q r x d).memories = s.memories := by
  unfold State.stateWrite
  dsimp only
  (repeat' split) <;> simp

@[simp] theorem State.memories_headerWrite (s : State) (c p : Nat) (plan : DeltaPlan) (q : Decision) (r :
    FrameResult) :
    (s.headerWrite c p plan q r).memories = s.memories := by
  unfold State.headerWrite
  split <;> simp

/-! ### Memories kept: wiring and links -/

@[simp] theorem State.memories_sendFlit (s : State) (k : Nat) (kind : String) (args : List Nat) :
    (s.sendFlit k kind args).memories = s.memories := by simp [State.sendFlit]

@[simp] theorem State.memories_flitTo (s : State) (d : Nat) (kind : String) (args : List Nat) :
    (s.flitTo d kind args).memories = s.memories := by
  unfold State.flitTo
  split <;> simp

@[simp] theorem State.memories_messageTo (s : State) (d : Nat) (kind : String) (args : List Nat) :
    (s.messageTo d kind args).memories = s.memories := by
  unfold State.messageTo
  split <;> simp

@[simp] theorem State.memories_heard (s : State) (k : Nat) : (s.heard k).memories = s.memories := by
  simp [State.heard]

@[simp] theorem State.memories_weftViolation (s : State) (rule k : Nat) :
    (s.weftViolation rule k).memories = s.memories := by simp [State.weftViolation]

/-! ### Memories kept: jobs -/

@[simp] theorem State.memories_setJob (s : State) (b : Nat) (j : Job) : (s.setJob b j).memories = s.memories := by
  simp [State.setJob]

@[simp] theorem State.memories_passBarrier (s : State) (b : Nat) (j : Job) :
    (s.passBarrier b j).memories = s.memories := by
  unfold State.passBarrier
  split <;> simp

@[simp] theorem State.memories_peerLost (s : State) (b : BindIx) (j : Job) (step : Nat) :
    (s.peerLost b j step).memories = s.memories := by simp [State.peerLost]

@[simp] theorem State.memories_tryForm (s : State) (b : Nat) (j : Job) : (s.tryForm b j).memories = s.memories := by
  simp [State.tryForm]

/-! ### Memories kept: throttling within a job -/

@[simp] theorem State.memories_restretch (s : State) : s.restretch.memories = s.memories := by
  simp [State.restretch]

/-! ### Memories kept: shadowing -/

@[simp] theorem State.memories_sendUpdate (s : State) (c : Nat) (whole : Bool) :
    (s.sendUpdate c whole).memories = s.memories := by simp [State.sendUpdate]

@[simp] theorem memories_execCtxShadowEnable (path : Path) (s : State) :
    resultMemories s (execCtxShadowEnable path s) = s.memories := by simp [execCtxShadowEnable]

@[simp] theorem memories_execWeftAcceptWrite (path : Path) (v : Word) (s : State) :
    resultMemories s (execWeftAcceptWrite path v s) = s.memories := by
  unfold execWeftAcceptWrite
  dsimp only
  split <;> simp

@[simp] theorem State.memories_setCopy (s : State) (slot : Nat) (x : Copy) :
    (s.setCopy slot x).memories = s.memories := by simp [State.setCopy]

@[simp] theorem State.memories_takeOver (s : State) (slot : Nat) : (s.takeOver slot).memories = s.memories := by
  unfold State.takeOver
  split
  · next x c _ _ => cases x.committed <;> simp
  · rfl

/-! ### Memories kept: the start of a command -/

@[simp] theorem State.memories_readDesc (s : State) : s.readDesc.memories = s.memories := by simp [State.readDesc]

@[simp] theorem State.memories_startCmd (s : State) : s.startCmd.memories = s.memories := by simp [State.startCmd]

@[simp] theorem memories_execCmdGo (_path : Path) (s : State) :
    resultMemories s (execCmdGo _path s) = s.memories := by simp [execCmdGo]

@[simp] theorem State.memories_acceptSeq (s : State) (x : Desc) : (s.acceptSeq x).memories = s.memories := by
  unfold State.acceptSeq
  split <;> simp [State.setOwner]

@[simp] theorem State.memories_setCmd (s : State) (c : CmdRun) : (s.setCmd c).memories = s.memories := by
  simp [State.setCmd]

/-! ### Memories kept: what a bind asks for -/

@[simp] theorem State.memories_showMissing (s : State) (p : BindPlan) : (s.showMissing p).memories = s.memories := by
  simp [State.showMissing]

/-! ### Memories kept: granting a bind -/

@[simp] theorem State.memories_displace (s : State) (b : Nat) (parts : List Nat) :
    (s.displace b parts).memories = s.memories := by
  unfold State.displace
  dsimp only
  split
  · rfl
  · simp only [State.memories_reapDisplaced, State.memories_mk, State.memories_fold]
    exact State.memories_foldl _ (fun s c => by split <;> rfl) _ _

@[simp] theorem State.memories_startJob (s : State) (b : Nat) (m : JobMap) :
    (s.startJob b m).memories = s.memories := by simp [State.startJob]

/-! ### Memories kept: ending a binding -/

@[simp] theorem State.memories_startUnbind (s : State) (b : Nat) (abort : Bool) :
    (s.startUnbind b abort).memories = s.memories := by
  unfold State.startUnbind
  split <;> simp

/-! ### Memories kept: contexts -/

@[simp] theorem State.memories_openRegs (s : State) (c : Nat) (x : Desc) (y : Binding) (plan : Option DeltaPlan) :
    (s.openRegs c x y plan).memories = s.memories := by
  unfold State.openRegs
  split <;> simp

@[simp] theorem State.memories_openCtx (s : State) (c : Nat) (x : Desc) (y : Binding) (place : Nat) :
    (s.openCtx c x y place).memories = s.memories := by simp [State.openCtx]

@[simp] theorem State.memories_stopCtx (s : State) (c : Nat) : (s.stopCtx c).memories = s.memories := by
  simp [State.stopCtx]

/-! ### Memories kept: refresh requests and the twin's answers (05) -/

@[simp] theorem memories_execCtxForceRefresh (path : Path) (s : State) :
    resultMemories s (execCtxForceRefresh path s) = s.memories := by simp [execCtxForceRefresh]

/-! ### Memories kept: answers -/

@[simp] theorem State.memories_mailbox (s : State) (path : Nat) (bs : List Byte) :
    (s.mailbox path bs).memories = s.memories := by simp -implicitDefEqProofs [State.mailbox]

@[simp] theorem State.memories_reply (s : State) (path : MsgPath) (bs : List Byte) :
    (s.reply path bs).memories = s.memories := by
  unfold State.reply
  split <;> simp

/-! ### Memories kept: attestation reports -/

@[simp] theorem State.memories_acceptReport (s : State) (r : ReportReq) :
    (s.acceptReport r).memories = s.memories := by
  unfold State.acceptReport
  split <;> simp

/-! ### Memories kept: owners -/

@[simp] theorem State.memories_openOwner (s : State) (r : OwnerReq) : (s.openOwner r).2.2.memories = s.memories := by
  unfold State.openOwner
  (repeat' split) <;> simp

@[simp] theorem State.memories_markUndo (s : State) (o : Nat) : (s.markUndo o).memories = s.memories := by
  simp [State.markUndo]

/-! ### Memories kept: what the firmware window shows -/

@[simp] theorem State.memories_showIdent (s : State) (version : BitVec 32) (m : BitVec 512) :
    (s.showIdent version m).memories = s.memories := by simp [State.showIdent]

@[simp] theorem State.memories_showImage (s : State) (img : Option FwImage) :
    (s.showImage img).memories = s.memories := by
  unfold State.showImage
  split <;> simp

@[simp] theorem State.memories_setOther (s : State) (img : Option FwImage) :
    (s.setOther img).memories = s.memories := by simp [State.setOther]

/-! ### Memories kept: loading -/

@[simp] theorem State.memories_refuseLoad (s : State) (reason : Nat) :
    (s.refuseLoad reason).memories = s.memories := by simp [State.refuseLoad]

@[simp] theorem State.memories_readImage (s : State) (stage : Bool) : (s.readImage stage).memories = s.memories := by
  simp [State.readImage]

@[simp] theorem memories_execFwLoad (s : State) : resultMemories s (execFwLoad s) = s.memories := by
  simp [execFwLoad]

@[simp] theorem memories_execFwStage (s : State) : resultMemories s (execFwStage s) = s.memories := by
  simp [execFwStage]

@[simp] theorem State.memories_loadImage (s : State) (i : FwImage) : (s.loadImage i).memories = s.memories := by
  unfold State.loadImage
  split <;> simp

@[simp] theorem State.memories_stageImage (s : State) (i : FwImage) : (s.stageImage i).memories = s.memories := by
  simp [State.stageImage]

@[simp] theorem State.memories_imageReadFailed (s : State) : s.imageReadFailed.memories = s.memories := by
  unfold State.imageReadFailed
  split <;> simp

/-! ### Memories kept: live update -/

@[simp] theorem memories_execFwActivate (s : State) : resultMemories s (execFwActivate s) = s.memories := by
  simp [execFwActivate]

@[simp] theorem memories_execFwActivateCancel (s : State) :
    resultMemories s (execFwActivateCancel s) = s.memories := by simp [execFwActivateCancel]

/-! ### Memories kept: the ledger -/

@[simp] theorem State.memories_commitLedger (s : State) : s.commitLedger.memories = s.memories := by
  simp [State.commitLedger]

@[simp] theorem State.memories_handOver (s : State) : s.handOver.memories = s.memories := by simp [State.handOver]

@[simp] theorem State.memories_coldTakeover (s : State) : s.coldTakeover.memories = s.memories := by
  simp [State.coldTakeover]

/-! ### Memories kept: crashes -/

@[simp] theorem State.memories_endHandoff (s : State) : s.endHandoff.memories = s.memories := by
  simp [State.endHandoff]

@[simp] theorem State.memories_stayCtx (s : State) (c : Nat) : (s.stayCtx c).memories = s.memories := by
  unfold State.stayCtx
  split <;> simp

/-! ### Memories kept: the log ring -/

@[simp] theorem memories_execFwLogEnable (v : Word) (s : State) :
    resultMemories s (execFwLogEnable v s) = s.memories := by simp [execFwLogEnable]

@[simp] theorem memories_execFwLogHeadWrite (v : Word) (s : State) :
    resultMemories s (execFwLogHeadWrite v s) = s.memories := by simp [execFwLogHeadWrite]

/-! ### Memories kept: checkpoints (R506, R507) -/

@[simp] theorem State.memories_queueCheckpoint (s : State) (kind : Nat) :
    (s.queueCheckpoint kind).memories = s.memories := by simp [State.queueCheckpoint]

/-! ### Memories kept: pins (R367-R369) -/

@[simp] theorem State.memories_setPins (s : State) : s.setPins.memories = s.memories := by simp [State.setPins]

/-! ### Memories kept: the end of a command -/

@[simp] theorem State.memories_presEvent (s : State) (op result path sources : Nat) (fp : List Byte) :
    (s.presEvent op result path sources fp).memories = s.memories := by simp [State.presEvent]

@[simp] theorem State.memories_presEnd (s : State) (a : Armed) (result : Nat) (fp : List Byte) :
    (s.presEnd a result fp).memories = s.memories := by simp [State.presEnd]

@[simp] theorem State.memories_showFp (s : State) (fp : List Byte) : (s.showFp fp).memories = s.memories := by
  simp [State.showFp]

@[simp] theorem State.memories_presComplete (s : State) (a : Armed) (sources : Nat) :
    (s.presComplete a sources).memories = s.memories := by
  simp [State.presComplete, State.authorise, State.discardStaging]

@[simp] theorem State.memories_presCheck (s : State) : s.presCheck.memories = s.memories := by
  unfold State.presCheck
  split <;> simp

/-! ### Memories kept: arming -/

@[simp] theorem State.memories_presRefuseBusy (s : State) (path : Path) (op : Nat) :
    (s.presRefuseBusy path op).memories = s.memories := by simp [State.presRefuseBusy]

@[simp] theorem State.memories_arm (s : State) (path : Path) (op : Nat) : (s.arm path op).memories = s.memories := by
  simp [State.arm]

@[simp] theorem State.memories_presArm (s : State) (path : Path) (op : Nat) :
    (s.presArm path op).memories = s.memories := by simp [State.presArm]

@[simp] theorem memories_execPresClearEventLog (path : Path) (s : State) :
    resultMemories s (execPresClearEventLog path s) = s.memories := by simp [execPresClearEventLog]

@[simp] theorem memories_execPresEnrolOwnerKey (path : Path) (keyOk : Bool) (s : State) :
    resultMemories s (execPresEnrolOwnerKey path keyOk s) = s.memories := by
  unfold execPresEnrolOwnerKey
  dsimp only
  (repeat' split) <;> simp

@[simp] theorem memories_execPresRemoveOwner (path : Path) (s : State) :
    resultMemories s (execPresRemoveOwner path s) = s.memories := by simp [execPresRemoveOwner]

@[simp] theorem memories_execPresRewriteProtected (path : Path) (s : State) :
    resultMemories s (execPresRewriteProtected path s) = s.memories := by simp [execPresRewriteProtected]

@[simp] theorem memories_execPresReadIdentity (path : Path) (s : State) :
    resultMemories s (execPresReadIdentity path s) = s.memories := by simp [execPresReadIdentity]

@[simp] theorem memories_execPresBadOpcode (path : Path) (op : BitVec 8) (s : State) :
    resultMemories s (execPresBadOpcode path op s) = s.memories := by
  unfold execPresBadOpcode
  dsimp only
  (repeat' split) <;> simp

@[simp] theorem memories_execPresCancel (path : Path) (s : State) :
    resultMemories s (execPresCancel path s) = s.memories := by
  unfold execPresCancel
  split <;> simp

/-! ### Memories kept: staging -/

@[simp] theorem memories_execDraftBegin (path : Path) (s : State) :
    resultMemories s (execDraftBegin path s) = s.memories := by simp [execDraftBegin]

@[simp] theorem State.memories_stagingError (s : State) : s.stagingError.memories = s.memories := by
  simp [State.stagingError]

@[simp] theorem memories_execDraftCommit (path : Path) (s : State) :
    resultMemories s (execDraftCommit path s) = s.memories := by simp [execDraftCommit, State.refuseCommit]

@[simp] theorem memories_execDraftAbort (path : Path) (s : State) :
    resultMemories s (execDraftAbort path s) = s.memories := by simp [execDraftAbort]

/-! ### Memories kept: reading the log (R514, R515) -/

@[simp] theorem memories_execLogFetch (path : Path) (v : Word) (s : State) :
    resultMemories s (execLogFetch path v s) = s.memories := by simp [execLogFetch]

/-! ### Memories kept: the spool engine -/

@[simp] theorem State.memories_fetchNext (s : State) (sp : Nat) : (s.fetchNext sp).memories = s.memories := by
  simp [State.fetchNext]

@[simp] theorem State.memories_takeEntry (s : State) (sp : Nat) : (s.takeEntry sp).memories = s.memories := by
  simp [State.takeEntry]

@[simp] theorem State.memories_stall (s : State) (sp : Nat) : (s.stall sp).memories = s.memories := by
  simp [State.stall]

@[simp] theorem State.memories_answer (s : State) (f : Frame) (status : Nat) (counts : Bool) :
    (s.answer f status counts).memories = s.memories := by simp [State.answer]

@[simp] theorem State.memories_takeFrame (s : State) (f : Frame) (x : Ctx) :
    (s.takeFrame f x).memories = s.memories := by simp [State.takeFrame]

@[simp] theorem State.memories_countRead (s : State) (how : ReadFail) : (s.countRead how).memories = s.memories := by
  unfold State.countRead
  split <;> simp

@[simp] theorem State.memories_entryFailed (s : State) (sp : Nat) : (s.entryFailed sp).memories = s.memories := by
  simp [State.entryFailed]

/-! ### Memories kept: payloads -/

@[simp] theorem State.memories_setFrame (s : State) (f : Frame) : (s.setFrame f).memories = s.memories := by
  simp [State.setFrame]

@[simp] theorem State.memories_endFrame (s : State) (f : Frame) (status : Nat) :
    (s.endFrame f status).memories = s.memories := by simp [State.endFrame]

/-! ### Memories kept: pictures (R206) -/

@[simp] theorem State.memories_picture (s : State) (f : Frame) (hdr : BundleHdr) (w bundle : Nat) (bytes : List Nat) :
    (s.picture f hdr w bundle bytes).memories = s.memories := by simp [State.picture]

@[simp] theorem State.memories_decodeFails (s : State) (f : Frame) (cause : Nat) :
    (s.decodeFails f cause).memories = s.memories := by simp [State.decodeFails]

@[simp] theorem State.memories_decoded (s : State) (f : Frame) (hdr : BundleHdr) (p : Picture) (discarded rasl :
    Bool) :
    (s.decoded f hdr p discarded rasl).memories = s.memories := by simp [State.decoded]

/-! ### Memories kept: raw frames (R214, R215) -/

@[simp] theorem memories_execCtxInputWrite (path : Path) (v : Word) (s : State) :
    resultMemories s (execCtxInputWrite path v s) = s.memories := by
  unfold execCtxInputWrite
  dsimp only
  split <;> simp

/-! ### Memories kept: admission -/

@[simp] theorem State.memories_startFrame (s : State) (b : Nat) (x : Binding) (f : Frame) :
    (s.startFrame b x f).memories = s.memories := by
  unfold State.startFrame
  dsimp only
  (repeat' split) <;> simp [State.readState]

@[simp] theorem State.memories_frameStart (s : State) (b : Nat) (f : Frame) :
    (s.frameStart b f).memories = s.memories := by
  unfold State.frameStart
  split <;> simp

/-! ### Memories kept: completion -/

@[simp] theorem State.memories_afterFrame (s : State) (c : Nat) : (s.afterFrame c).memories = s.memories := by
  simp [State.afterFrame]

@[simp] theorem State.memories_leavePartition (s : State) (b c : Nat) (x : Binding) :
    (s.leavePartition b c x).memories = s.memories := by simp [State.leavePartition]

@[simp] theorem State.memories_writeHeader (s : State) (f : Frame) (p : Nat) (r : FrameResult) :
    (s.writeHeader f p r).2.memories = s.memories := by
  unfold State.writeHeader
  split <;> simp

/-! ### Memories kept: readings -/

@[simp] theorem State.memories_addEnergy (s : State) (e : Nat) : (s.addEnergy e).memories = s.memories := by
  simp [State.addEnergy]

/-! ### Memories kept: off, and on again -/

@[simp] theorem State.memories_waitFor (s : State) (tenths : Nat) : (s.waitFor tenths).memories = s.memories := by
  simp [State.waitFor]

@[simp] theorem State.memories_startInrush (s : State) : s.startInrush.memories = s.memories := by
  simp [State.startInrush]

@[simp] theorem State.memories_inrush (s : State) : s.inrush.memories = s.memories := by simp [State.inrush]

@[simp] theorem State.memories_restart (s : State) : s.restart.memories = s.memories := by
  simp [State.restart, State.fromInsertion]

/-! ### Memories kept: rails -/

@[simp] theorem State.memories_enableRail (s : State) (r : Nat) : (s.enableRail r).memories = s.memories := by
  simp [State.enableRail]

@[simp] theorem State.memories_startRails (s : State) : s.startRails.memories = s.memories := by
  simp [State.startRails]

/-! ### Memories kept: the commands -/

@[simp] theorem memories_execLatchClr (path : Path) (s : State) :
    resultMemories s (execLatchClr path s) = s.memories := by simp [execLatchClr]

@[simp] theorem State.memories_regulatorFails (s : State) (r n : Nat) :
    (s.regulatorFails r n).memories = s.memories := by simp [State.regulatorFails]

@[simp] theorem State.memories_commandCore (s : State) (mv : Nat) : (s.commandCore mv).memories = s.memories := by
  simp [State.commandCore]

@[simp] theorem State.memories_requestCore (s : State) (mv : Nat) : (s.requestCore mv).memories = s.memories := by
  simp [State.requestCore]

/-! ### Memories kept: the compute die leaves reset -/

@[simp] theorem State.memories_exchangeBolts (s : State) (f r : Nat) :
    (s.exchangeBolts f r).memories = s.memories := by simp [State.exchangeBolts]

@[simp] theorem State.memories_applyRetirement (s : State) (r : Retirement) :
    (s.applyRetirement r).memories = s.memories := by
  unfold State.applyRetirement
  split <;> simp

@[simp] theorem State.memories_weftCfg (s : State) : s.weftCfg.memories = s.memories := by
  unfold State.weftCfg
  dsimp only
  simp only [State.memories_wr]
  refine State.memories_foldl _ (fun s k => ?_) _ _
  split <;> simp

/-! ### Memories kept: throttles (R426) -/

@[simp] theorem State.memories_setThrottle (s : State) (p : Nat) : (s.setThrottle p).memories = s.memories := by
  simp [State.setThrottle]

@[simp] theorem State.memories_askCore (s : State) : s.askCore.memories = s.memories := by simp [State.askCore]

/-! ### Memories kept: cap and budgets -/

@[simp] theorem State.memories_setBudgets (s : State) : s.setBudgets.memories = s.memories := by
  simp [State.setBudgets]

@[simp] theorem memories_execCapWrite (path : Path) (v : Word) (s : State) :
    resultMemories s (execCapWrite path v s) = s.memories := by
  unfold execCapWrite
  split <;> simp

@[simp] theorem State.memories_addNj (s : State) (f frac : Fld) (i n : Nat) :
    (s.addNj f frac i n).memories = s.memories := by simp [State.addNj]

/-! ### Memories kept: sensors (R435) -/

@[simp] theorem State.memories_showFloors (s : State) : s.showFloors.memories = s.memories := by
  simp [State.showFloors]

@[simp] theorem State.memories_expireFloors (s : State) : s.expireFloors.memories = s.memories := by
  simp [State.expireFloors]

/-! ### Memories kept: values (R437, R444) -/

@[simp] theorem State.memories_showValues (s : State) (subs : List SubValue) :
    (s.showValues subs).memories = s.memories := by simp [State.showValues]

@[simp] theorem State.memories_setWarnings (s : State) : s.setWarnings.memories = s.memories := by
  refine State.memories_foldl _ (fun s z => ?_) _ _
  split <;> simp

/-! ### Memories kept: demand (R455) -/

@[simp] theorem State.memories_setDemand (s : State) (subs : List SubValue) :
    (s.setDemand subs).memories = s.memories := by simp [State.setDemand]

/-! ### Memories kept: applied duty (R456) -/

@[simp] theorem State.memories_applyDuty (s : State) (pump : Bool) : (s.applyDuty pump).memories = s.memories := by
  simp -implicitDefEqProofs [State.applyDuty]

@[simp] theorem State.memories_applyPump (s : State) : s.applyPump.memories = s.memories := by
  simp [State.applyPump]

@[simp] theorem State.memories_setSampling (s : State) (zs : List (Option Int)) :
    (s.setSampling zs).memories = s.memories := by simp [State.setSampling]

/-! ### Memories kept: edges -/

@[simp] theorem State.memories_setEdges (s : State) (k : Nat) (es : List Nat) :
    (s.setEdges k es).memories = s.memories := by simp [State.setEdges]

@[simp] theorem State.memories_chEdge (s : State) (c : Channel) : (s.chEdge c).memories = s.memories := by
  unfold State.chEdge
  dsimp only
  (repeat' split) <;> simp

/-! ### Memories kept: drive -/

@[simp] theorem State.memories_measured (s : State) (c : Channel) (valid : Bool) (rpm : Nat) :
    (s.measured c valid rpm).memories = s.memories := by
  unfold State.measured
  dsimp only
  (repeat' split) <;> simp

/-! ### Memories kept: overrides -/

@[simp] theorem memories_execCoolOverrideWrite (path : Path) (v : Word) (s : State) :
    resultMemories s (execCoolOverrideWrite path v s) = s.memories := by
  unfold execCoolOverrideWrite
  (repeat' split) <;> simp

/-! ### Memories kept: spin-ups -/

@[simp] theorem State.memories_spinUp (s : State) (c : Channel) : (s.spinUp c).memories = s.memories := by
  unfold State.spinUp
  split <;> simp

/-! ### Memories kept: the collector -/

@[simp] theorem State.memories_linkHeard (s : State) : s.linkHeard.memories = s.memories := by
  simp [State.linkHeard]

@[simp] theorem memories_execFaultStatusClear (path : Path) (k : Fin 4) (v : Word) (s : State) :
    resultMemories s (execFaultStatusClear path k v s) = s.memories := by
  unfold execFaultStatusClear
  split <;> simp [State.clearFaults]

/-! ### Memories kept: partition reset -/

@[simp] theorem State.memories_loseGroup (s : State) (g : Nat) : (s.loseGroup g).memories = s.memories := by
  refine (State.memories_foldl _ (fun s c => ?_) _ _).trans (by simp)
  dsimp only
  split <;> simp

@[simp] theorem State.memories_rekey (s : State) (g : Nat) : (s.rekey g).memories = s.memories := by
  simp [State.rekey]

@[simp] theorem State.memories_startRebuild (s : State) (g : Nat) : (s.startRebuild g).memories = s.memories := by
  simp [State.startRebuild]

@[simp] theorem State.memories_startFetches (s : State) (g : Nat) : (s.startFetches g).memories = s.memories := by
  refine State.memories_foldl _ (fun s c => ?_) _ _
  split <;> simp

@[simp] theorem State.memories_rebuilt (s : State) (g handle : Nat) : (s.rebuilt g handle).memories = s.memories := by
  unfold State.rebuilt
  split <;> simp

/-! ### Memories kept: beam accesses -/

@[simp] theorem State.memories_beamAnswer (s : State) (r : BeamReq) (bs : List Byte) :
    (s.beamAnswer r bs).memories = s.memories := by
  unfold State.beamAnswer
  split <;> simp

@[simp] theorem State.memories_abortFor (s : State) (p detail : Nat) :
    (s.abortFor p detail).memories = s.memories := by
  unfold State.abortFor
  (repeat' split) <;> simp

/-! ### Memories kept: HBM -/

@[simp] theorem State.memories_hbmCe (s : State) (g : HomeGroup) (x : HbmRow) :
    (s.hbmCe g x).memories = s.memories := by simp [State.hbmCe]

@[simp] theorem State.memories_hbmUe (s : State) (g : HomeGroup) (x : HbmRow) :
    (s.hbmUe g x).memories = s.memories := by simp [State.hbmUe]

/-! ### Memories kept: the HDM window -/

@[simp] theorem memories_execHdmApply (v : Word) (s : State) : resultMemories s (execHdmApply v s) = s.memories := by
  simp [execHdmApply, State.resizeHdm, State.dropHdm, State.makeHdm]

/-! ### Memories kept: the link -/

@[simp] theorem State.memories_sendHeld (s : State) : s.sendHeld.memories = s.memories := by simp [State.sendHeld]

/-! ### Memories kept: the event queue -/

@[simp] theorem memories_execEvqEnable (v : Word) (s : State) :
    resultMemories s (execEvqEnable v s) = s.memories := by simp [execEvqEnable, State.writeEvq]

@[simp] theorem memories_execEvqHeadWrite (v : Word) (s : State) :
    resultMemories s (execEvqHeadWrite v s) = s.memories := by simp [execEvqHeadWrite]

/-! ### Memories kept: the HDM window -/

@[simp] theorem State.memories_flipBias (s : State) (offset : Nat) : (s.flipBias offset).memories = s.memories := by
  simp [State.flipBias]

@[simp] theorem State.memories_memPoison (s : State) (rule : Nat) : (s.memPoison rule).memories = s.memories := by
  simp [State.memPoison]

@[simp] theorem memories_execBiasSet (path : Path) (v : Word) (s : State) :
    resultMemories s (execBiasSet path v s) = s.memories := by simp [execBiasSet, State.setBias]

/-! ### Memories kept: DOE -/

@[simp] theorem State.memories_doeReady (s : State) (inst : Nat) (bs : List Byte) :
    (s.doeReady inst bs).memories = s.memories := by simp [State.doeReady]

@[simp] theorem State.memories_undoDoe (s : State) : s.undoDoe.memories = s.memories := by
  unfold State.undoDoe
  split <;> simp

/-! ### Memories kept: sending -/

@[simp] theorem State.memories_takeNotice (s : State) (n : Nat) (hb : List Byte) :
    (s.takeNotice n hb).memories = s.memories := by simp [State.takeNotice]

@[simp] theorem State.memories_sympathise (s : State) (cmds : List (Nat × Nat)) :
    (s.sympathise cmds).memories = s.memories := by simp [State.sympathise]

@[simp] theorem State.memories_setSympathy (s : State) (l : List (Nat × Nat)) :
    (s.setSympathy l).memories = s.memories := by simp [State.setSympathy]

@[simp] theorem State.memories_respond (s : State) (handles : List Nat) :
    (s.respond handles).memories = s.memories := by simp [State.respond]

@[simp] theorem State.memories_sendFrame (s : State) : s.sendFrame.memories = s.memories := by
  unfold State.sendFrame
  dsimp only
  (repeat' split) <;> simp

/-! ### Memories kept: receiving -/

@[simp] theorem State.memories_followLead (s : State) (hb : List Byte) (len : Nat) :
    (s.followLead hb len).memories = s.memories := by simp -implicitDefEqProofs [State.followLead]

/-! ### Memories kept: requests of this node (R375, R387) -/

@[simp] theorem memories_execHznRqSend (s : State) : resultMemories s (execHznRqSend s) = s.memories := by
  simp [execHznRqSend]

/-! ### Memories kept: writes -/

@[simp] theorem State.memories_writeField (s : State) (bundle : Half) (i : Nat) (v : Word) (x : FldDesc) :
    (s.writeField bundle i v x).memories = s.memories := by
  unfold State.writeField
  split <;> simp

@[simp] theorem State.memories_writeFields (s : State) (r : Reg) (i : Nat) (v : Word) :
    (s.writeFields r i v).memories = s.memories := by simp [State.writeFields]

@[simp] theorem State.memories_writeSelect (s : State) (p : Path) (r : Reg) (v : Word) :
    (s.writeSelect p r v).memories = s.memories := by simp [State.writeSelect]

@[simp] theorem State.memories_writePolicy (s : State) (p : Path) (c : Nat) (v : Word) :
    (s.writePolicy p c v).memories = s.memories := by simp [State.writePolicy, execCtxForceRefresh]

@[simp] theorem State.memories_writeShadow (s : State) (p : Path) (c : Nat) (v : Word) :
    (s.writeShadow p c v).memories = s.memories := by simp [State.writeShadow, execCtxShadowEnable]

@[simp] theorem State.memories_writePresCmd (s : State) (p : Path) (v : Word) :
    (s.writePresCmd p v).memories = s.memories := by
  unfold State.writePresCmd
  (repeat' split) <;> simp

@[simp] theorem State.memories_writeMsix (s : State) (n : Nat) (v : Word) :
    (s.writeMsix n v).memories = s.memories := by
  unfold State.writeMsix
  split <;> simp -implicitDefEqProofs

@[simp] theorem State.memories_writeFw (s : State) (p : Path) (r : Reg) (i : Nat) (v : Word) :
    (s.writeFw p r i v).memories = s.memories := by
  unfold State.writeFw
  split <;> simp

@[simp] theorem State.memories_writeDie (s : State) (p : Path) (r : Reg) (i : Nat) (v : Word) :
    (s.writeDie p r i v).memories = s.memories := by
  unfold State.writeDie
  split <;> simp

/-! ### Memories kept: reads -/

@[simp] theorem State.memories_readReg (s : State) (p : Path) (r : Reg) (n : Nat) :
    (s.readReg p r n).2.memories = s.memories := by
  unfold State.readReg
  dsimp only
  (repeat' split) <;> simp [State.setLatch]

@[simp] theorem State.memories_readOn (s : State) (p : Path) (r : Reg) (n : Nat) :
    (s.readOn p r n).2.memories = s.memories := by
  unfold State.readOn
  (repeat' split) <;> simp

@[simp] theorem State.memories_answerRead (s : State) (p : Path) (r : Reg) (n : Nat) :
    (s.answerRead p r n).memories = s.memories := by simp [State.answerRead]

/-! ### Memories kept: the write queue of the host window (R265, R266, R289, R290) -/

@[simp] theorem State.memories_answerDue (s : State) : s.answerDue.memories = s.memories := by
  simp [State.answerDue]

/-! ### Memories kept: the SMBus and Horizon register spaces (R384) -/

@[simp] theorem State.memories_readAt (s : State) (p : Path) (a : Nat) : (s.readAt p a).2.memories = s.memories := by
  unfold State.readAt
  split <;> simp

@[simp] theorem State.memories_readRun (s : State) (p : Path) (a n : Nat) :
    (s.readRun p a n).2.memories = s.memories := by
  induction n generalizing s a with
  | zero => rfl
  | succ n ih => simp [State.readRun, ih]

/-! ### Memories kept: SMBus (R381-R383) -/

@[simp] theorem State.memories_smbDiscard (s : State) : s.smbDiscard.memories = s.memories := by
  simp [State.smbDiscard]

@[simp] theorem State.memories_smbRead (s : State) (n : Nat) : (s.smbRead n).memories = s.memories := by
  simp [State.smbRead]

/-! ### Memories kept: scratch -/

@[simp] theorem State.memories_countArith (s : State) (c : CoreId) (sat nan : Nat) :
    (s.countArith c sat nan).memories = s.memories := by simp [State.countArith]

/-! ### Memories kept: the matrix engine -/

@[simp] theorem State.memories_passColumn (s : State) (c : CoreId) (x : Pass) (col : PassVec) (e : Nat) :
    (s.passColumn c x col e).memories = s.memories := by
  unfold State.passColumn
  split <;> simp [State.setAcc]

/-! ### Memories kept: encodings and conversions -/

@[simp] theorem State.memories_drawNan (s : State) : s.drawNan.2.memories = s.memories := by simp [State.drawNan]

@[simp] theorem State.memories_drawWord (s : State) : s.drawWord.2.memories = s.memories := by simp [State.drawWord]

@[simp] theorem State.memories_toFp32 (s : State) (x : Num) : (s.toFp32 x).2.memories = s.memories := by
  unfold State.toFp32
  dsimp only
  (repeat' split) <;> simp

@[simp] theorem State.memories_convert (s : State) (k : Conv) (sat : Bool) (x : Nat) :
    (s.convert k sat x).2.memories = s.memories := by
  unfold State.convert
  split <;> simp

/-! ### Memories kept: vector operations (R90) -/

@[simp] theorem State.memories_drawNear (s : State) (ok : Nat → Bool) (nearest : Nat) :
    (s.drawNear ok nearest).2.memories = s.memories := by simp [State.drawNear]

@[simp] theorem State.memories_rounded (s : State) (x : Num) : (s.rounded x).2.memories = s.memories := by
  unfold State.rounded
  split <;> simp

@[simp] theorem State.memories_minMax (s : State) (max : Bool) (x y : Nat) :
    (s.minMax max x y).2.memories = s.memories := by
  unfold State.minMax
  dsimp only
  (repeat' split) <;> simp

@[simp] theorem State.memories_quotient (s : State) (neg : Bool) (m : Nat) (e : Int) (n : Nat) (f : Int) (tol : Nat) :
    (s.quotient neg m e n f tol).2.memories = s.memories := by
  unfold State.quotient
  dsimp only
  (repeat' split) <;> simp

@[simp] theorem State.memories_vectorElem (s : State) (op : VOp) (x y z : Nat) :
    (s.vectorElem op x y z).2.memories = s.memories := by
  unfold State.vectorElem
  dsimp only
  (repeat' split) <;> simp

/-! ### Memories kept: the Draft (R355-R369) -/

@[simp] theorem State.memories_sampleJumper (s : State) (fitted : Bool) :
    (s.sampleJumper fitted).memories = s.memories := by simp [State.sampleJumper]

@[simp] theorem State.memories_restoreTime (s : State) (flashOk : Bool) :
    (s.restoreTime flashOk).memories = s.memories := by simp [State.restoreTime, State.restoreLog]

@[simp] theorem State.memories_takeDraft (s : State) (b : Nat) : (s.takeDraft b).memories = s.memories := by
  simp [State.takeDraft]

@[simp] theorem State.memories_startService (s : State) : s.startService.memories = s.memories := by
  simp [State.startService, State.startChannels]

end Sys2Proof.Machine

namespace Sys2Proof.Machine
/-! PROOFS. The canonical form of the memories through every operation that stores bytes or marks poison. -/

/-- `State.memoriesOk` as a predicate of the memories alone: an operation that keeps the memories keeps it. -/
def Canonical (m : List (List Host.Cell) × List (SMap Bool)) : Prop :=
  match m with
  | ([beam, hbm, scratch, ibuf, flash], [beamPoison, hbmPoison, scratchPoison]) =>
    Memory.wf (fun _ => 0) beam = true ∧ Tab.wfFrom (fun _ => false) 0 beamPoison = true ∧
    Memory.wf Config.hbmUnwritten hbm = true ∧ Tab.wfFrom (fun _ => false) 0 hbmPoison = true ∧
    Memory.wf (fun _ => 0) scratch = true ∧ Tab.wfFrom (fun _ => false) 0 scratchPoison = true ∧
    Memory.wf (fun _ => 0) ibuf = true ∧ Memory.wf (fun _ => 0xFF) flash = true
  | _ => False

theorem State.memoriesOk_iff (s : State) : s.memoriesOk ↔ Canonical s.memories := Iff.rfl

@[simp] theorem canonical_cond {c : Prop} [Decidable c] (a b : List (List Host.Cell) × List (SMap Bool)) :
    Canonical (if c then a else b) = if c then Canonical a else Canonical b := apply_ite ..

/-- A step of a fold keeps the canonical form. -/
def KeepsCanonical {α : Type} (f : State → α → State) : Prop :=
  ∀ s x, Canonical s.memories → Canonical (f s x).memories

@[simp] theorem keepsCanonical_iff {α : Type} (f : State → α → State) :
    KeepsCanonical f ↔ ∀ s x, Canonical s.memories → Canonical (f s x).memories := Iff.rfl

@[simp] theorem State.canonical_foldl {α : Type} (f : State → α → State) (hf : KeepsCanonical f) (l : List α)
    {s : State} (h : Canonical s.memories) : Canonical (l.foldl f s).memories :=
  State.foldl_memoriesOk f hf l h

/-! ### Canonical form kept: the fault collector (16) -/

@[simp] theorem State.canonical_dieLost (keepWeft : Bool)
    {s : State} (h : Canonical s.memories) : Canonical (s.dieLost keepWeft).memories :=
  State.dieLost_memoriesOk _ h

@[simp] theorem State.canonical_cutPower
    {s : State} (h : Canonical s.memories) : Canonical s.cutPower.memories :=
  State.cutPower_memoriesOk h

@[simp] theorem State.canonical_enterSafe (src : Nat)
    {s : State} (h : Canonical s.memories) : Canonical (s.enterSafe src).memories :=
  State.enterSafe_memoriesOk _ h

@[simp] theorem State.canonical_fault (src detail : Nat)
    {s : State} (h : Canonical s.memories) : Canonical (s.fault src detail).memories :=
  State.fault_memoriesOk _ _ h

/-! ### Canonical form kept: beam banks -/

@[simp] theorem State.canonical_bankFails (g : BankGroup) (bank : Fin 33)
    {s : State} (h : Canonical s.memories) : Canonical (s.bankFails g bank).memories := by
  unfold State.bankFails
  dsimp only
  split
  · exact h
  · split
    · refine State.canonical_foldl _ (fun s b hs => ?_) _ (by simp [h])
      split
      · split <;> simp [hs]
      · exact hs
    · simp [h]

@[simp] theorem State.canonical_bankCe (g : BankGroup) (bank : Fin 33)
    {s : State} (h : Canonical s.memories) : Canonical (s.bankCe g bank).memories := by
  simp -implicitDefEqProofs [State.bankCe, h]

@[simp] theorem State.canonical_bankUe (g : BankGroup) (bank : Fin 33)
    {s : State} (h : Canonical s.memories) : Canonical (s.bankUe g bank).memories := by
  simp -implicitDefEqProofs [State.bankUe, h]

/-! ### Canonical form kept: HBM contents -/

@[simp] theorem State.canonical_hbmWrite (place : Nat) (bs : List Byte)
    {s : State} (h : Canonical s.memories) : Canonical (s.hbmWrite place bs).memories :=
  State.hbmWrite_memoriesOk _ _ h

/-! ### Canonical form kept: beam contents -/

@[simp] theorem State.canonical_beamWrite (b o : Nat) (bs : List Byte)
    {s : State} (h : Canonical s.memories) : Canonical (s.beamWrite b o bs).memories :=
  State.beamWrite_memoriesOk _ _ _ h

@[simp] theorem State.canonical_setPoison (b l : Nat) (v : Bool)
    {s : State} (h : Canonical s.memories) : Canonical (s.setPoison b l v).memories :=
  State.setPoison_memoriesOk _ _ _ h

/-! ### Canonical form kept: ending bindings and owners -/

@[simp] theorem State.canonical_clearCores (p : Nat → Bool)
    {s : State} (h : Canonical s.memories) : Canonical (s.clearCores p).memories :=
  State.clearCores_memoriesOk _ h

@[simp] theorem State.canonical_clearArray (p : Nat)
    {s : State} (h : Canonical s.memories) : Canonical (s.clearArray p).memories := by
  simp +contextual [State.clearArray, h]

@[simp] theorem State.canonical_partOff (p state : Nat)
    {s : State} (h : Canonical s.memories) : Canonical (s.partOff p state).memories :=
  State.partOff_memoriesOk _ _ h

@[simp] theorem State.canonical_dropBinding (b : Nat)
    {s : State} (h : Canonical s.memories) : Canonical (s.dropBinding b).memories :=
  State.dropBinding_memoriesOk _ h

@[simp] theorem State.canonical_closeOwner (o : Nat)
    {s : State} (h : Canonical s.memories) : Canonical (s.closeOwner o).memories :=
  State.closeOwner_memoriesOk _ h

/-! ### Canonical form kept: the command window -/

@[simp] theorem State.canonical_finishCmd (reason : Nat)
    {s : State} (h : Canonical s.memories) : Canonical (s.finishCmd reason).memories :=
  State.finishCmd_memoriesOk _ h

@[simp] theorem State.canonical_endCmd (reason : Nat)
    {s : State} (h : Canonical s.memories) : Canonical (s.endCmd reason).memories :=
  State.endCmd_memoriesOk _ h

@[simp] theorem State.canonical_settle
    {s : State} (h : Canonical s.memories) : Canonical s.settle.memories :=
  State.settle_memoriesOk h

/-! ### Canonical form kept: schedules on partitions -/

@[simp] theorem State.canonical_placeSchedule (p owner : Nat)
    {s : State} (h : Canonical s.memories) : Canonical (s.placeSchedule p owner).memories := by
  simp +contextual [State.placeSchedule, h, State.seedLanes]

/-! ### Canonical form kept: ending a bind that cannot go on -/

@[simp] theorem State.canonical_failBind (b reason : Nat)
    {s : State} (h : Canonical s.memories) : Canonical (s.failBind b reason).memories := by
  unfold State.failBind
  split
  · exact State.canonical_endCmd _ h
  · refine State.canonical_endCmd _ (State.canonical_foldl _ (fun s p hs => ?_) _ (by simp [h]))
    dsimp only
    split
    · exact hs
    · exact State.canonical_partOff _ _ hs

@[simp] theorem State.canonical_cannotRun (b p state : Nat)
    {s : State} (h : Canonical s.memories) : Canonical (s.cannotRun b p state).memories := by
  unfold State.cannotRun
  dsimp only
  split <;> simp +contextual [h]

@[simp] theorem State.canonical_bindAgain (b p : Nat)
    {s : State} (h : Canonical s.memories) : Canonical (s.bindAgain b p).memories := by
  unfold State.bindAgain
  split <;> simp +contextual [h]

/-! ### Canonical form kept: engine resets -/

@[simp] theorem State.canonical_clearCluster (i : Nat)
    {s : State} (h : Canonical s.memories) : Canonical (s.clearCluster i).memories := by
  simp +contextual [State.clearCluster, h]

@[simp] theorem State.canonical_engineReset (t : RecTarget)
    {s : State} (h : Canonical s.memories) : Canonical (s.engineReset t).memories := by
  unfold State.engineReset
  extract_lets s1 s2
  have h1 : Canonical s1.memories := by
    dsimp only [s1]
    split
    · simp [h]
    · simp [h]
    · split <;> simp [h]
    · exact h
  have h2 : Canonical s2.memories := State.canonical_settle h1
  split <;> exact h2

/-! ### Canonical form kept: partition reset -/

@[simp] theorem State.canonical_partReset (p : Part) (cause : Nat)
    {s : State} (h : Canonical s.memories) : Canonical (s.partReset p cause).memories := by
  unfold State.partReset
  split
  · exact h
  · extract_lets run s1 s2 s3 s4 hit s5 s6
    have h3 : Canonical s3.memories := by simpa [s3, s2, s1] using h
    have h5 : Canonical s5.memories := State.canonical_settle (by simpa using State.canonical_fault _ _ h3)
    split
    · split
      · exact State.canonical_failBind _ _ h5
      · exact h5
    · exact h5

/-! ### Canonical form kept: chip reset and power cycle -/

@[simp] theorem State.canonical_chipReset (trigger : Nat)
    {s : State} (h : Canonical s.memories) : Canonical (s.chipReset trigger).memories := by
  simp +contextual [State.chipReset, h]

@[simp] theorem State.canonical_powerCycle
    {s : State} (h : Canonical s.memories) : Canonical s.powerCycle.memories := by
  simp -implicitDefEqProofs [State.powerCycle, h]

/-! ### Canonical form kept: wiring and links -/

@[simp] theorem State.canonical_linkDown (k : Nat)
    {s : State} (h : Canonical s.memories) : Canonical (s.linkDown k).memories := by
  simp -implicitDefEqProofs [State.linkDown, h]

@[simp] theorem State.canonical_laneFails (k lane : Nat)
    {s : State} (h : Canonical s.memories) : Canonical (s.laneFails k lane).memories := by
  simp +contextual [State.laneFails, h]

/-! ### Canonical form kept: the start of a command -/

@[simp] theorem State.canonical_command (d : Unit64) (tagOk ok pausable : Bool) (body : Desc → State → State)
    (hbody : ∀ d t, Canonical t.memories → Canonical (body d t).memories)
    {s : State} (h : Canonical s.memories) : Canonical (s.command d tagOk ok pausable body).memories := by
  simp -implicitDefEqProofs [State.command, h, hbody]

/-! ### Canonical form kept: bundles -/

@[simp] theorem State.canonical_loadBundle (x : Desc) (b : BundleHdr)
    {s : State} (h : Canonical s.memories) : Canonical (s.loadBundle x b).memories := by
  unfold State.loadBundle
  generalize s.freeHandle? = free
  split
  · exact State.canonical_endCmd _ h
  · cases free with
    | none => exact State.canonical_endCmd _ h
    | some k =>
      extract_lets n gs
      generalize s.roomIn gs n = first
      cases first with
      | none => exact State.canonical_endCmd _ h
      | some g =>
        dsimp only
        generalize s.roomIn _ n = second
        cases second with
        | none => exact State.canonical_endCmd _ h
        | some g2 =>
          refine State.canonical_endCmd _ ?_
          rw [State.memories_wr, State.memories_setBundle, State.memories_makeLeases, State.memories_makeLeases]
          exact h

/-! ### Canonical form kept: granting a bind -/

@[simp] theorem State.canonical_beginPart (sweep : Bool) (owner p : Nat)
    {s : State} (h : Canonical s.memories) : Canonical (s.beginPart sweep owner p).memories := by
  simp +contextual [State.beginPart, h, State.startSweep]

@[simp] theorem State.canonical_judgeBind (b : Nat)
    {s : State} (h : Canonical s.memories) : Canonical (s.judgeBind b).memories := by
  unfold State.judgeBind
  split <;> simp +contextual [h]

@[simp] theorem State.canonical_grantBind (x : Desc) (bundle : Bundle) (p : BindPlan)
    {s : State} (h : Canonical s.memories) : Canonical (s.grantBind x bundle p).memories := by
  unfold State.grantBind
  extract_lets b s1 s2 r sweep due s3 s4 s5 s6
  have h4 : Canonical s4.memories := by simpa [s4, State.setCmd, s3, r, s2, s1] using h
  have h5 : Canonical s5.memories := by
    dsimp only [s5]
    split <;> simpa using h4
  have h6 : Canonical s6.memories := State.canonical_foldl _ (fun s q hs => State.canonical_beginPart _ _ _ hs) _ h5
  split
  · exact State.canonical_judgeBind _ h6
  · exact h6

@[simp] theorem State.canonical_tryBind (x : Desc) (again : Option (List Nat)) (refuse : Nat → State → State)
    (hrefuse : ∀ c t, Canonical t.memories → Canonical (refuse c t).memories)
    {s : State} (h : Canonical s.memories) : Canonical (s.tryBind x again refuse).memories := by
  unfold State.tryBind
  split
  · exact hrefuse _ _ h
  · split
    · exact hrefuse _ _ h
    · split
      · exact hrefuse _ _ h
      · dsimp only
        split
        · exact State.canonical_grantBind _ _ _ h
        · exact hrefuse _ _ (by simpa using h)

@[simp] theorem State.canonical_afterSweep (p owner : Nat)
    {s : State} (h : Canonical s.memories) : Canonical (s.afterSweep p owner).memories := by
  simp +contextual [State.afterSweep, h]

/-! ### Canonical form kept: ending a binding -/

@[simp] theorem State.canonical_unbindCmd (rebind : Bool) (b : Nat) (desc : Unit64)
    {s : State} (h : Canonical s.memories) : Canonical (s.unbindCmd rebind b desc).memories := by
  unfold State.unbindCmd
  split <;> simp +contextual [h]

@[simp] theorem State.canonical_parkParts (parts : List Nat)
    {s : State} (h : Canonical s.memories) : Canonical (s.parkParts parts).memories := by
  simp +contextual [State.parkParts, h]

@[simp] theorem State.canonical_goOn
    {s : State} (h : Canonical s.memories) : Canonical s.goOn.memories := by
  unfold State.goOn
  split
  · dsimp only
    split
    · exact h
    · split
      · exact State.canonical_endCmd _ (State.canonical_parkParts _ h)
      · exact State.canonical_tryBind _ _ _ (fun _ _ ht => State.canonical_endCmd _ (State.canonical_parkParts _
        ht)) h
  · exact h

/-! ### Canonical form kept: owners -/

@[simp] theorem State.canonical_beginClose (o : Nat)
    {s : State} (h : Canonical s.memories) : Canonical (s.beginClose o).memories := by
  unfold State.beginClose
  split <;> simp -implicitDefEqProofs [h]

/-! ### Canonical form kept: messages -/

@[simp] theorem State.canonical_answerMsg (path : MsgPath) (id : BitVec 32) (m : VendorMsg)
    {s : State} (h : Canonical s.memories) : Canonical (s.answerMsg path id m).memories := by
  unfold State.answerMsg
  dsimp only
  split
  · simp [h]
  · split
    · split <;> simp [h]
    · split
      · simp [h]
      · split <;> simp [h]
    · (repeat' split) <;> simp [h]
    · simp [h]
    · split
      · simp [h]
      · simpa using State.canonical_beginClose _ (by simpa using h)

@[simp] theorem State.canonical_vendorMsg (path : MsgPath) (id : BitVec 32) (m : VendorMsg)
    {s : State} (h : Canonical s.memories) : Canonical (s.vendorMsg path id m).memories := by
  unfold State.vendorMsg
  split <;> simp +contextual [h]

@[simp] theorem State.canonical_answerHeld
    {s : State} (h : Canonical s.memories) : Canonical s.answerHeld.memories := by
  unfold State.answerHeld
  split <;> simp -implicitDefEqProofs [h]

/-! ### Canonical form kept: what the firmware window shows -/

@[simp] theorem State.canonical_serve
    {s : State} (h : Canonical s.memories) : Canonical s.serve.memories := by
  simp +contextual [State.serve, h, State.flushEvents]

/-! ### Canonical form kept: crashes -/

@[simp] theorem State.canonical_crash (cause : Nat)
    {s : State} (h : Canonical s.memories) : Canonical (s.crash cause).memories := by
  simp +contextual [State.crash, h]

@[simp] theorem State.canonical_restartBind (b : Nat)
    {s : State} (h : Canonical s.memories) : Canonical (s.restartBind b).memories := by
  unfold State.restartBind
  split <;> simp +contextual [h]

@[simp] theorem State.canonical_restartCmd
    {s : State} (h : Canonical s.memories) : Canonical s.restartCmd.memories := by
  unfold State.restartCmd
  split <;> simp -implicitDefEqProofs [h]

/-! ### Canonical form kept: bytes of the flash -/

@[simp] theorem State.canonical_program (a : Nat) (bs : List Byte)
    {s : State} (h : Canonical s.memories) : Canonical (s.program a bs).memories :=
  State.program_memoriesOk _ _ h

@[simp] theorem State.canonical_eraseFlash (a n : Nat)
    {s : State} (h : Canonical s.memories) : Canonical (s.eraseFlash a n).memories :=
  State.eraseFlash_memoriesOk _ _ h

/-! ### Canonical form kept: banks (R351-R353) -/

@[simp] theorem State.canonical_appendEntry (b : Nat) (r : Retirement)
    {s : State} (h : Canonical s.memories) : Canonical (s.appendEntry b r).memories := by
  unfold State.appendEntry
  split
  · exact State.canonical_program _ _ (State.canonical_program _ _ (State.canonical_program _ _ h))
  · exact h

@[simp] theorem State.canonical_writeBank (b : Nat) (recs : List DraftRec) (gen : Nat)
    {s : State} (h : Canonical s.memories) : Canonical (s.writeBank b recs gen).memories := by
  unfold State.writeBank
  exact State.canonical_program _ _ (State.canonical_program _ _ (State.canonical_program _ _
    (State.canonical_eraseFlash _ _ h)))

/-! ### Canonical form kept: event records (R502-R505) -/

@[simp] theorem State.canonical_programSlot (a : Nat) (r : Record)
    {s : State} (h : Canonical s.memories) : Canonical (s.programSlot a r).memories := by
  simp +contextual [State.programSlot, h]

@[simp] theorem State.canonical_writeCirc (r : Record)
    {s : State} (h : Canonical s.memories) : Canonical (s.writeCirc r).memories := by
  simp +contextual [State.writeCirc, h]

@[simp] theorem State.canonical_writeRecord (r : Record)
    {s : State} (h : Canonical s.memories) : Canonical (s.writeRecord r).memories := by
  simp +contextual [State.writeRecord, h]

/-! ### Canonical form kept: checkpoints (R506, R507) -/

@[simp] theorem State.canonical_writeCheckpoint (kind : Nat)
    {s : State} (h : Canonical s.memories) : Canonical (s.writeCheckpoint kind).memories := by
  unfold State.writeCheckpoint
  extract_lets pos s1 s2
  have h1 : Canonical s1.memories := State.canonical_program _ _ (State.canonical_program _ _ h)
  have h2 : Canonical s2.memories := by
    dsimp only [s2]
    split
    · exact State.canonical_eraseFlash _ _ h1
    · split
      · exact State.canonical_eraseFlash _ _ h1
      · exact h1
  exact h2

/-! ### Canonical form kept: banks written by the steward -/

@[simp] theorem State.canonical_appendOverflow (b : Nat)
    {s : State} (h : Canonical s.memories) : Canonical (s.appendOverflow b).memories := by
  simp +contextual [State.appendOverflow, h]

@[simp] theorem State.canonical_commitBank (recs : List DraftRec)
    {s : State} (h : Canonical s.memories) : Canonical (s.commitBank recs).memories := by
  simp +contextual [State.commitBank, h]

/-! ### Canonical form kept: the write of a completed command (R337, R338) -/

@[simp] theorem State.canonical_clearLog (path : Nat)
    {s : State} (h : Canonical s.memories) : Canonical (s.clearLog path).memories := by
  simp -implicitDefEqProofs [State.clearLog, h]

@[simp] theorem State.canonical_writeOwner (a : Armed)
    {s : State} (h : Canonical s.memories) : Canonical (s.writeOwner a).memories := by
  simp +contextual [State.writeOwner, h]

@[simp] theorem State.canonical_presWritten (ok : Bool)
    {s : State} (h : Canonical s.memories) : Canonical (s.presWritten ok).memories := by
  unfold State.presWritten
  split <;> simp +contextual [h]

/-! ### Canonical form kept: staging -/

@[simp] theorem canonical_execDraftStgDataWrite (path : Path) (v : Word)
    {s : State} (h : Canonical s.memories) : Canonical (resultMemories s (execDraftStgDataWrite path v s)) := by
  simp +contextual [execDraftStgDataWrite, h]

@[simp] theorem State.canonical_sealBank (b gen : Nat)
    {s : State} (h : Canonical s.memories) : Canonical (s.sealBank b gen).memories :=
  State.sealBank_memoriesOk _ _ h

@[simp] theorem State.canonical_commitStaged
    {s : State} (h : Canonical s.memories) : Canonical s.commitStaged.memories := by
  unfold State.commitStaged
  extract_lets b gen s1 s2
  have h1 : Canonical s1.memories := by
    dsimp only [s1]
    split
    · exact State.canonical_writeBank _ _ _ h
    · exact State.canonical_sealBank _ _ (State.canonical_foldl _ (fun _ _ hs => State.canonical_appendEntry _ _
      hs) _ h)
  have h2 : Canonical s2.memories := by simpa [s2] using State.canonical_appendOverflow b h1
  exact h2

@[simp] theorem State.canonical_commitWritten (ok : Bool)
    {s : State} (h : Canonical s.memories) : Canonical (s.commitWritten ok).memories := by
  unfold State.commitWritten
  dsimp only
  (repeat' split) <;> simp +contextual [h]

/-! ### Canonical form kept: flash writes (R359) -/

@[simp] theorem State.canonical_eventWritten (ok : Bool)
    {s : State} (h : Canonical s.memories) : Canonical (s.eventWritten ok).memories := by
  unfold State.eventWritten
  split <;> simp -implicitDefEqProofs [h, State.sealWritten, State.coverLost]

@[simp] theorem State.canonical_retirementWritten (ok : Bool)
    {s : State} (h : Canonical s.memories) : Canonical (s.retirementWritten ok).memories := by
  unfold State.retirementWritten
  split <;> simp -implicitDefEqProofs [h]

@[simp] theorem State.canonical_flashDone (ok : Bool)
    {s : State} (h : Canonical s.memories) : Canonical (s.flashDone ok).memories := by
  unfold State.flashDone
  split
  · exact h
  · split
    · exact State.canonical_eventWritten _ h
    · exact State.canonical_retirementWritten _ h
    · exact State.canonical_presWritten _ h
    · exact State.canonical_commitWritten _ h
    · split
      · exact State.canonical_writeCheckpoint _ h
      · simpa using h

@[simp] theorem State.canonical_flashDoneIf (op : FlashOp) (ok : Bool)
    {s : State} (h : Canonical s.memories) : Canonical (s.flashDoneIf op ok).memories := by
  simp +contextual [State.flashDoneIf, h]

/-! ### Canonical form kept: off, and on again -/

@[simp] theorem State.canonical_channelOff
    {s : State} (h : Canonical s.memories) : Canonical s.channelOff.memories := by
  simp +contextual [State.channelOff, h]

@[simp] theorem State.canonical_trip (cause band : Nat)
    {s : State} (h : Canonical s.memories) : Canonical (s.trip cause band).memories := by
  unfold State.trip
  extract_lets s1 s2 used s3 s4 s5
  have h2 : Canonical s2.memories := by
    dsimp only [s2, s1]
    split <;> simpa using h
  have h3 : Canonical s3.memories := State.canonical_channelOff h2
  split
  · refine State.canonical_fault _ _ ?_
    simpa only [s5, s4, State.memories_waitFor, State.memories_wr] using h3
  · refine State.canonical_fault _ _ (State.canonical_fault _ _ ?_)
    simpa only [State.memories_bump] using h3

/-! ### Canonical form kept: the input window -/

@[simp] theorem State.canonical_cutoff
    {s : State} (h : Canonical s.memories) : Canonical s.cutoff.memories := by simp +contextual [State.cutoff, h]

@[simp] theorem State.canonical_leftWindow
    {s : State} (h : Canonical s.memories) : Canonical s.leftWindow.memories := by
  simp +contextual [State.leftWindow, h]

@[simp] theorem State.canonical_sampleWindow
    {s : State} (h : Canonical s.memories) : Canonical s.sampleWindow.memories := by
  unfold State.sampleWindow
  extract_lets v was now above s1 s2 s3 st
  have h2 : Canonical s2.memories := by
    dsimp only [s2, s1]
    (repeat' split) <;> simpa using h
  have h3 : Canonical s3.memories := by
    dsimp only [s3]
    split
    · exact State.canonical_leftWindow h2
    · exact h2
  (repeat' split) <;> simpa using h3

/-! ### Canonical form kept: rails -/

@[simp] theorem State.canonical_railFail (r : Nat)
    {s : State} (h : Canonical s.memories) : Canonical (s.railFail r).memories := by
  simp -implicitDefEqProofs [State.railFail, h]

/-! ### Canonical form kept: the compute die leaves reset -/

@[simp] theorem State.canonical_makeExchanges
    {s : State} (h : Canonical s.memories) : Canonical s.makeExchanges.memories := by
  refine State.canonical_foldl _ (fun s f hs => ?_) _ h
  split
  · simp [hs]
  · exact State.canonical_fault _ _ hs

/-! ### Canonical form kept: sensors (R435) -/

@[simp] theorem State.canonical_sensorFails (k cause : Nat)
    {s : State} (h : Canonical s.memories) : Canonical (s.sensorFails k cause).memories := by
  simp -implicitDefEqProofs [State.sensorFails, h]

@[simp] theorem State.canonical_takeReading (xs : Sample) (k : Nat)
    {s : State} (h : Canonical s.memories) : Canonical (s.takeReading xs k).memories := by
  unfold State.takeReading
  split <;> simp -implicitDefEqProofs [h, State.sensorRecovers]

@[simp] theorem State.canonical_takeSample (xs : Sample)
    {s : State} (h : Canonical s.memories) : Canonical (s.takeSample xs).memories := by
  refine State.canonical_foldl _ (fun s k hs => State.canonical_takeReading _ _ hs) _
    (State.canonical_foldl _ (fun s k hs => ?_) _ h)
  split
  · split
    · exact State.canonical_sensorFails _ _ hs
    · exact hs
  · exact hs

/-! ### Canonical form kept: values (R437, R444) -/

@[simp] theorem State.canonical_tripped (src detail : Nat)
    {s : State} (h : Canonical s.memories) : Canonical (s.tripped src detail).memories := by
  simp -implicitDefEqProofs [State.tripped, h]

@[simp] theorem State.canonical_setRates
    {s : State} (h : Canonical s.memories) : Canonical s.setRates.memories := by
  unfold State.setRates
  extract_lets s1
  have h1 : Canonical s1.memories := by
    refine State.canonical_foldl _ (fun s z hs => ?_) _ h
    simpa using hs
  split
  · exact h1
  · split
    · exact h1
    · refine State.canonical_foldl _ (fun s z hs => ?_) _ h1
      dsimp only
      split
      · exact State.canonical_tripped _ _ hs
      · exact hs

/-! ### Canonical form kept: trip sets (R446) -/

@[simp] theorem State.canonical_downUnbound (p : Nat)
    {s : State} (h : Canonical s.memories) : Canonical (s.downUnbound p).memories := by
  simp +contextual [State.downUnbound, h]

@[simp] theorem State.canonical_sensorDown (p : Nat)
    {s : State} (h : Canonical s.memories) : Canonical (s.sensorDown p).memories := by
  unfold State.sensorDown
  split
  · exact h
  · extract_lets s1
    have h1 : Canonical s1.memories := by simpa [s1] using h
    have hstop (b : Nat) : Canonical ((s1.abortRunning b).settle.cannotRun b p 7).memories :=
      State.canonical_cannotRun _ _ _ (State.canonical_settle (by simpa using h1))
    split
    · exact h1
    · split
      · split
        · exact State.canonical_downUnbound _ (State.canonical_failBind _ _ h1)
        · exact hstop _
      · exact hstop _
      · split
        · exact State.canonical_downUnbound _ (State.canonical_endCmd _ (State.canonical_parkParts _ h1))
        · exact State.canonical_downUnbound _ h1
      · exact State.canonical_downUnbound _ h1

@[simp] theorem State.canonical_checkTripSets
    {s : State} (h : Canonical s.memories) : Canonical s.checkTripSets.memories := by
  unfold State.checkTripSets
  split
  · exact h
  · extract_lets s1 gone new src s2
    have h1 : Canonical s1.memories := by
      refine State.canonical_foldl _ (fun s p hs => ?_) _ h
      split
      · exact State.canonical_sensorDown _ hs
      · exact hs
    refine State.canonical_foldl _ (fun s d hs => State.canonical_fault _ _ hs) _ ?_
    simpa only [s2, State.memories_mk, State.memories_fold] using h1

/-! ### Canonical form kept: pumps and flows -/

@[simp] theorem State.canonical_flowReading (k : Nat) (low : Bool)
    {s : State} (h : Canonical s.memories) : Canonical (s.flowReading k low).memories := by
  unfold State.flowReading
  split
  · extract_lets n s1 s2
    have h1 : Canonical s1.memories := by simpa [s1] using h
    split
    · have h2 : Canonical s2.memories := State.canonical_fault _ _ (by simpa using h1)
      simpa using h2
    · exact h1
  · dsimp only
    split
    · simp [h]
    · split <;> simp [h]

/-! ### Canonical form kept: leaks -/

@[simp] theorem State.canonical_leakChange (z new : Nat)
    {s : State} (h : Canonical s.memories) : Canonical (s.leakChange z new).memories := by
  simp +contextual [State.leakChange, h]

/-! ### Canonical form kept: resets that are decided -/

@[simp] theorem State.canonical_missedBound (t : RecTarget) (engines : List RecTarget)
    {s : State} (h : Canonical s.memories) : Canonical (s.missedBound t engines).memories := by
  unfold State.missedBound
  split <;> simp +contextual [h]

/-! ### Canonical form kept: partition reset -/

@[simp] theorem State.canonical_rebind (b : Nat) (x : Binding) (p : Part) (failed : List (Cluster × CoreIx)) (dur :
    Nat)
    {s : State} (h : Canonical s.memories) : Canonical (s.rebind b x p failed dur).memories := by
  unfold State.rebind
  dsimp only
  (repeat' split) <;> simp +contextual [h]

@[simp] theorem State.canonical_restored (p : Part) (failed : List (Cluster × CoreIx)) (dur : Nat)
    {s : State} (h : Canonical s.memories) : Canonical (s.restored p failed dur).memories := by
  unfold State.restored
  split <;> simp +contextual [h]

@[simp] theorem State.canonical_resumeHeld
    {s : State} (h : Canonical s.memories) : Canonical s.resumeHeld.memories := by
  unfold State.resumeHeld
  (repeat' split) <;> simp +contextual [h]

/-! ### Canonical form kept: beam accesses -/

@[simp] theorem State.canonical_failTransfer (ctx : Option CtxIx)
    {s : State} (h : Canonical s.memories) : Canonical (s.failTransfer ctx).memories := by
  unfold State.failTransfer
  (repeat' split) <;> simp +contextual [h]

@[simp] theorem State.canonical_beamRefuse (r : BeamReq)
    {s : State} (h : Canonical s.memories) : Canonical (s.beamRefuse r).memories := by
  unfold State.beamRefuse
  split <;> simp +contextual [h]

@[simp] theorem State.canonical_beamEcc (r : BeamReq)
    {s : State} (h : Canonical s.memories) : Canonical (s.beamEcc r).memories := by
  unfold State.beamEcc
  split <;> simp +contextual [h]

/-! ### Canonical form kept: the HDM window -/

@[simp] theorem State.canonical_setHbmPoison (g a : Nat) (v : Bool)
    {s : State} (h : Canonical s.memories) : Canonical (s.setHbmPoison g a v).memories :=
  State.setHbmPoison_memoriesOk _ _ _ h

@[simp] theorem State.canonical_hbmEcc (g : HomeGroup) (a : Nat) (loc : HbmRow) (ecc : Ecc)
    {s : State} (h : Canonical s.memories) : Canonical (s.hbmEcc g a loc ecc).memories := by
  unfold State.hbmEcc
  split <;> simp +contextual [h]

/-! ### Canonical form kept: writes -/

@[simp] theorem State.canonical_writeStw (p : Path) (r : Reg) (i : Nat) (v : Word)
    {s : State} (h : Canonical s.memories) : Canonical (s.writeStw p r i v).memories := by
  unfold State.writeStw
  split <;> simp +contextual [h, State.writeDraftCtrl]

@[simp] theorem State.canonical_writeReg (p : Path) (r : Reg) (n : Nat) (v : Word)
    {s : State} (h : Canonical s.memories) : Canonical (s.writeReg p r n v).memories := by
  unfold State.writeReg
  (repeat' split) <;> simp +contextual [h, State.writeMailbox]

/-! ### Canonical form kept: the write queue of the host window (R265, R266, R289, R290) -/

@[simp] theorem State.canonical_applyWrite (r : Reg) (n : Nat) (v : Word)
    {s : State} (h : Canonical s.memories) : Canonical (s.applyWrite r n v).memories := by
  simp +contextual [State.applyWrite, h]

/-! ### Canonical form kept: the SMBus and Horizon register spaces (R384) -/

@[simp] theorem State.canonical_writeAt (p : Path) (a : Nat) (v : Word)
    {s : State} (h : Canonical s.memories) : Canonical (s.writeAt p a v).memories := by
  unfold State.writeAt
  split <;> simp +contextual [h]

@[simp] theorem State.canonical_writeRun (p : Path) (a n : Nat) (bs : List Byte)
    {s : State} (h : Canonical s.memories) : Canonical (s.writeRun p a n bs).memories := by
  induction n generalizing s a bs with
  | zero => exact h
  | succ n ih => exact ih _ _ (State.canonical_writeAt _ _ _ h)

/-! ### Canonical form kept: scratch -/

@[simp] theorem State.canonical_scratchWrite (c : CoreId) (off : Nat) (bs : List Byte)
    {s : State} (h : Canonical s.memories) : Canonical (s.scratchWrite c off bs).memories :=
  State.scratchWrite_memoriesOk _ _ _ h

@[simp] theorem State.canonical_powerOnReset
    {s : State} (h : Canonical s.memories) : Canonical s.powerOnReset.memories :=
  State.powerOnReset_memoriesOk h

/-! ### Canonical form kept: the Draft (R355-R369) -/

@[simp] theorem State.canonical_stayBare (x : DraftIn) (cause : Nat)
    {s : State} (h : Canonical s.memories) : Canonical (s.stayBare x cause).memories := by
  simp +contextual [State.stayBare, h]

/-! ### Canonical form kept: loss of auxiliary power (R504, R511, R513, R522, R523) -/

@[simp] theorem State.canonical_tearFlash
    {s : State} (h : Canonical s.memories) : Canonical s.tearFlash.memories := by
  unfold State.tearFlash
  (repeat' split) <;> simp +contextual [h]

end Sys2Proof.Machine

namespace Sys2Proof.Machine
/-! PROOFS. The canonical form of the memories through every command, and O59. -/

theorem canonical_execScratchUe (c : CoreId) (line : Fin 384)
    {s : State} (h : Canonical s.memories) : Canonical (resultMemories s (execScratchUe c line s)) := by
  unfold execScratchUe
  rw [resultMemories_next, State.memories_coreFault]
  obtain ⟨h1, h2, h3, h4, h5, h6, h7, h8⟩ := h
  have hmark := Tab.wfFrom_put (d := fun _ => false) (coreIx c * 512 + line.val) true h6
  exact ⟨h1, h2, h3, h4, h5, hmark, h7, h8⟩

theorem canonical_execInstrParityError (c : CoreId) (line : Fin 128)
    {s : State} (h : Canonical s.memories) : Canonical (resultMemories s (execInstrParityError c line s)) := by
  unfold execInstrParityError
  dsimp only
  split
  · simp [h]
  · obtain ⟨h1, h2, h3, h4, h5, h6, h7, h8⟩ := h
    refine ⟨h1, h2, h3, h4, h5, h6, ?_, h8⟩
    dsimp only
    exact Tab.wfFrom_clear _ h7

theorem canonical_execContextAbortDone (b : BindIx)
    {s : State} (h : Canonical s.memories) : Canonical (resultMemories s (execContextAbortDone b s)) := by
  unfold execContextAbortDone
  dsimp only
  (repeat' split) <;> simp +contextual [h]

theorem canonical_execRepairRebind (p : Part)
    {s : State} (h : Canonical s.memories) : Canonical (resultMemories s (execRepairRebind p s)) := by
  unfold execRepairRebind
  (repeat' split) <;> simp +contextual [h]

/-! ### Commands: wiring and links -/

theorem canonical_execFecSecondCheck (k : LinkIx) (counts : List Nat)
    {s : State} (h : Canonical s.memories) : Canonical (resultMemories s (execFecSecondCheck k counts s)) := by
  unfold execFecSecondCheck
  dsimp only
  split
  · refine State.canonical_foldl _ (fun s lane hs => ?_) _ (by simpa using h)
    split
    · split
      · exact State.canonical_laneFails _ _ (by simpa using hs)
      · simpa using hs
    · simpa using hs
  · exact h

theorem canonical_execFlitRelay (k : LinkIx) (f : RelayFlit)
    {s : State} (h : Canonical s.memories) : Canonical (resultMemories s (execFlitRelay k f s)) := by
  unfold execFlitRelay
  dsimp only
  (repeat' split) <;> simp +contextual [h]

/-! ### Commands: routes (R232) -/

theorem canonical_execRouteRecompute (others : List (Node × Nat))
    {s : State} (h : Canonical s.memories) : Canonical (resultMemories s (execRouteRecompute others s)) := by
  refine State.canonical_foldl _ (fun s d hs => ?_) _ h
  split <;> simpa using hs

/-! ### Commands: jobs -/

theorem canonical_execBarrierArrive (p : Part) (step : Nat) (spans : Bool)
    {s : State} (h : Canonical s.memories) : Canonical (resultMemories s (execBarrierArrive p step spans s)) := by
  unfold execBarrierArrive
  (repeat' split) <;> simp +contextual [h]

theorem canonical_execBarrierFlit (bundle : JobHdr) (step participant : Nat)
    {s : State} (h : Canonical s.memories) : Canonical (resultMemories s (execBarrierFlit bundle step participant
      s)) := by
  unfold execBarrierFlit
  (repeat' split) <;> simp +contextual [h]

theorem canonical_execStepTimeout (b : BindIx)
    {s : State} (h : Canonical s.memories) : Canonical (resultMemories s (execStepTimeout b s)) := by
  unfold execStepTimeout
  (repeat' split) <;> simp +contextual [h]

theorem canonical_execJobDataMsg (m : JobMsg)
    {s : State} (h : Canonical s.memories) : Canonical (resultMemories s (execJobDataMsg m s)) := by
  unfold execJobDataMsg
  (repeat' split) <;> simp +contextual [h]

theorem canonical_execJoinFlit (f : Join)
    {s : State} (h : Canonical s.memories) : Canonical (resultMemories s (execJoinFlit f s)) := by
  unfold execJoinFlit
  (repeat' split) <;> simp +contextual [h]

theorem canonical_execJoinSendTick (b : BindIx)
    {s : State} (h : Canonical s.memories) : Canonical (resultMemories s (execJoinSendTick b s)) := by
  unfold execJoinSendTick
  split <;> simp +contextual [h]

theorem canonical_execFrameStartFlit (bundle : JobHdr) (c : CtxIx) (age _frame : Nat)
    {s : State} (h : Canonical s.memories) : Canonical (resultMemories s (execFrameStartFlit bundle c age _frame
      s)) := by
  unfold execFrameStartFlit
  (repeat' split) <;> simp +contextual [h]

/-! ### Commands: throttling within a job -/

theorem canonical_execThrottleNotice
    {s : State} (h : Canonical s.memories) : Canonical (resultMemories s (execThrottleNotice s)) := by
  unfold execThrottleNotice
  dsimp only
  split <;> simp +contextual [h]

/-! ### Commands: shadowing -/

theorem canonical_execShadowRequestMsg (node : Node) (c : CtxIx) (measurement : BitVec 512) (fp : BitVec 256)
    {s : State} (h : Canonical s.memories) : Canonical (resultMemories s (execShadowRequestMsg node c measurement
      fp s)) := by
  unfold execShadowRequestMsg
  dsimp only
  (repeat' split) <;> simp +contextual [h]

theorem canonical_execShadowUpdateMsg (slot : CtxIx) (tagOk : Bool) (st : ShadowState)
    {s : State} (h : Canonical s.memories) : Canonical (resultMemories s (execShadowUpdateMsg slot tagOk st s)) := by
  unfold execShadowUpdateMsg
  split <;> simp +contextual [h]

theorem canonical_execFetchRequestMsg (slot : CtxIx)
    {s : State} (h : Canonical s.memories) : Canonical (resultMemories s (execFetchRequestMsg slot s)) := by
  unfold execFetchRequestMsg
  (repeat' split) <;> simp +contextual [h]

theorem canonical_execLapseNoticeMsg (reason : Fin 3) (slot : CtxIx)
    {s : State} (h : Canonical s.memories) : Canonical (resultMemories s (execLapseNoticeMsg reason slot s)) := by
  unfold execLapseNoticeMsg
  split <;> simp +contextual [h]

/-! ### Commands: bundles -/

theorem canonical_execBundleLoad (desc : Unit64) (tagOk : Bool) (b : SealedBundle)
    {s : State} (h : Canonical s.memories) : Canonical (resultMemories s (execBundleLoad desc tagOk b s)) := by
  simp +contextual [execBundleLoad, h]

theorem canonical_execBundleDrop (desc : Unit64) (tagOk : Bool)
    {s : State} (h : Canonical s.memories) : Canonical (resultMemories s (execBundleDrop desc tagOk s)) := by
  refine State.canonical_command _ _ _ _ _ (fun d t ht => ?_) h
  split
  · exact State.canonical_endCmd _ ht
  · split
    · exact State.canonical_endCmd _ ht
    · split
      · exact State.canonical_endCmd _ ht
      · exact State.canonical_endCmd _ (by simpa using ht)

/-! ### Commands: granting a bind -/

theorem canonical_execBind (desc : Unit64) (tagOk : Bool)
    {s : State} (h : Canonical s.memories) : Canonical (resultMemories s (execBind desc tagOk s)) := by
  unfold execBind
  split
  · exact h
  · exact State.canonical_command _ _ _ _ _
      (fun _ _ ht => State.canonical_tryBind _ _ _ (fun _ _ hu => State.canonical_endCmd _ hu) ht) h

theorem canonical_execSweepComplete (p : Part) (fault : Bool) (failed : List (Cluster × CoreIx)) (dur : Nat)
    {s : State} (h : Canonical s.memories) : Canonical (resultMemories s (execSweepComplete p fault failed dur s))
      := by
  unfold execSweepComplete
  split
  · exact h
  · split
    · split
      · simp [h]
      · exact State.canonical_partOff _ _ (by simpa using h)
    · split
      · exact State.canonical_failBind _ _ h
      · extract_lets s1 left s2
        have h2 : Canonical s2.memories := by
          rw [State.memories_setBinding]
          exact State.canonical_afterSweep _ _ (by simpa using h)
        simp only [resultMemories_next]
        split
        · exact State.canonical_judgeBind _ h2
        · exact h2

theorem canonical_execBindFirstInstruction (b : BindIx)
    {s : State} (h : Canonical s.memories) : Canonical (resultMemories s (execBindFirstInstruction b s)) := by
  unfold execBindFirstInstruction
  split <;> simp +contextual [h]

/-! ### Commands: ending a binding -/

theorem canonical_execUnbind (desc : Unit64) (tagOk : Bool)
    {s : State} (h : Canonical s.memories) : Canonical (resultMemories s (execUnbind desc tagOk s)) := by
  refine State.canonical_command _ _ _ _ _ (fun d t ht => ?_) h
  split
  · exact State.canonical_endCmd _ ht
  · split
    · exact State.canonical_unbindCmd _ _ _ ht
    · exact State.canonical_endCmd _ ht

theorem canonical_execRebind (desc : Unit64) (tagOk : Bool)
    {s : State} (h : Canonical s.memories) : Canonical (resultMemories s (execRebind desc tagOk s)) := by
  refine State.canonical_command _ _ _ _ _ (fun d t ht => ?_) h
  split
  · exact State.canonical_endCmd _ ht
  · split
    · exact State.canonical_endCmd _ ht
    · split
      · exact State.canonical_endCmd _ ht
      · exact State.canonical_unbindCmd _ _ _ ht

theorem canonical_execUnbindRelease (b : BindIx)
    {s : State} (h : Canonical s.memories) : Canonical (resultMemories s (execUnbindRelease b s)) := by
  unfold execUnbindRelease
  split
  · exact h
  · next x _ =>
    split
    · extract_lets s1
      have h1 : Canonical s1.memories := by simpa [s1] using h
      clear_value s1
      split
      · split
        · refine State.canonical_goOn ?_
          rw [State.memories_setCmd]
          exact State.canonical_foldl _ (fun _ _ hs => State.canonical_clearArray _ hs) _ h1
        · exact State.canonical_parkParts _ h1
      · simp only [resultMemories_next]
        split
        · exact State.canonical_endCmd _ (State.canonical_parkParts _ h1)
        · exact State.canonical_parkParts _ h1
      · exact State.canonical_parkParts _ h1
    · exact h

theorem canonical_execBoltZeroDone (bolt : BoltIx)
    {s : State} (h : Canonical s.memories) : Canonical (resultMemories s (execBoltZeroDone bolt s)) := by
  unfold execBoltZeroDone
  dsimp only
  split
  · refine State.canonical_goOn ?_
    rw [State.memories_reapOwners, State.memories_setBolt]
    obtain ⟨h1, h2, h3, h4, h5, h6, h7, h8⟩ := h
    refine ⟨?_, ?_, h3, h4, h5, h6, h7, h8⟩ <;> dsimp only
    · exact Tab.wfFrom_clear _ h1
    · exact Tab.wfFrom_clear _ h2
  · exact h

theorem canonical_execHbmLeaseDrainEnd (lease : Nat)
    {s : State} (h : Canonical s.memories) : Canonical (resultMemories s (execHbmLeaseDrainEnd lease s)) := by
  unfold execHbmLeaseDrainEnd
  split <;> simp +contextual [h]

/-! ### Commands: spools -/

theorem canonical_execSpoolOpen (desc : Unit64) (tagOk : Bool)
    {s : State} (h : Canonical s.memories) : Canonical (resultMemories s (execSpoolOpen desc tagOk s)) := by
  refine State.canonical_command _ _ _ _ _ (fun d t ht => ?_) h
  split <;> exact State.canonical_endCmd _ (by simpa using ht)

theorem canonical_execSpoolClose (desc : Unit64) (tagOk : Bool)
    {s : State} (h : Canonical s.memories) : Canonical (resultMemories s (execSpoolClose desc tagOk s)) := by
  simp +contextual [execSpoolClose, h]

/-! ### Commands: contexts -/

theorem canonical_execCtxOpen (desc : Unit64) (tagOk : Bool)
    {s : State} (h : Canonical s.memories) : Canonical (resultMemories s (execCtxOpen desc tagOk s)) := by
  refine State.canonical_command _ _ _ _ _ (fun d t ht => ?_) h
  split
  · exact State.canonical_endCmd _ ht
  · exact State.canonical_endCmd _ (by simpa using ht)
  · exact ht

theorem canonical_execCtxClose (desc : Unit64) (tagOk : Bool)
    {s : State} (h : Canonical s.memories) : Canonical (resultMemories s (execCtxClose desc tagOk s)) := by
  refine State.canonical_command _ _ _ _ _ (fun d t ht => ?_) h
  split
  · exact State.canonical_endCmd _ ht
  · split
    · exact State.canonical_endCmd _ ht
    · exact State.canonical_settle (by simpa using ht)

theorem canonical_execCtxMove (desc : Unit64) (tagOk : Bool)
    {s : State} (h : Canonical s.memories) : Canonical (resultMemories s (execCtxMove desc tagOk s)) := by
  refine State.canonical_command _ _ _ _ _ (fun d t ht => ?_) h
  split
  · split
    · exact State.canonical_endCmd _ ht
    · split
      · exact State.canonical_endCmd _ ht
      · split
        · exact State.canonical_endCmd _ ht
        · exact State.canonical_settle (by simpa using ht)
  · exact State.canonical_endCmd _ ht

theorem canonical_execCtxResume (desc : Unit64) (tagOk : Bool)
    {s : State} (h : Canonical s.memories) : Canonical (resultMemories s (execCtxResume desc tagOk s)) := by
  refine State.canonical_command _ _ _ _ _ (fun d t ht => ?_) h
  split
  · exact State.canonical_endCmd _ ht
  · split
    · exact State.canonical_endCmd _ ht
    · split
      · exact State.canonical_endCmd _ (by simpa using ht)
      · exact State.canonical_endCmd _ ht

/-! ### Commands: refresh requests and the twin's answers (05) -/

theorem canonical_execTwinFetchReply (c : CtxIx) (st : ShadowState)
    {s : State} (h : Canonical s.memories) : Canonical (resultMemories s (execTwinFetchReply c st s)) := by
  unfold execTwinFetchReply
  split <;> simp +contextual [h]

theorem canonical_execTwinFetchTimeout (c : CtxIx)
    {s : State} (h : Canonical s.memories) : Canonical (resultMemories s (execTwinFetchTimeout c s)) := by
  unfold execTwinFetchTimeout
  split <;> simp +contextual [h]

/-! ### Commands: loading -/

theorem canonical_execFwImageReceived (img : FwImage)
    {s : State} (h : Canonical s.memories) : Canonical (resultMemories s (execFwImageReceived img s)) := by
  unfold execFwImageReceived
  split <;> simp +contextual [h]

/-! ### Commands: the log ring -/

theorem canonical_execLogEntry (trace : Fin 4096) (level core : Fin 4) (args : List Word)
    {s : State} (h : Canonical s.memories) : Canonical (resultMemories s (execLogEntry trace level core args s)) := by
  unfold execLogEntry
  (repeat' split) <;> simp +contextual [h]

/-! ### Commands: arming -/

theorem canonical_execPresArmExpire
    {s : State} (h : Canonical s.memories) : Canonical (resultMemories s (execPresArmExpire s)) := by
  unfold execPresArmExpire
  split <;> simp +contextual [h]

/-! ### Commands: sources -/

theorem canonical_execPresencePress
    {s : State} (h : Canonical s.memories) : Canonical (resultMemories s (execPresencePress s)) := by
  unfold execPresencePress
  (repeat' split) <;> simp +contextual [h]

/-! ### Commands: random numbers (R341) -/

theorem canonical_execDrbgReseed (selvage : Bool)
    {s : State} (h : Canonical s.memories) : Canonical (resultMemories s (execDrbgReseed selvage s)) := by
  simp -implicitDefEqProofs [execDrbgReseed, h]

/-! ### Commands: staging -/

theorem canonical_execDraftEraseDone (st : FlashStatus)
    {s : State} (h : Canonical s.memories) : Canonical (resultMemories s (execDraftEraseDone st s)) := by
  unfold execDraftEraseDone
  (repeat' split) <;> simp +contextual [h]

/-! ### Commands: the spool engine -/

theorem canonical_execSubmissionEntry (sp : SpoolIx) (entry : Unit64)
    {s : State} (h : Canonical s.memories) : Canonical (resultMemories s (execSubmissionEntry sp entry s)) := by
  unfold execSubmissionEntry
  dsimp only
  split
  · exact h
  · split
    · simpa using h
    · split
      · simpa using h
      · split
        · simpa using h
        · (repeat' split) <;> simpa using h

theorem canonical_execEntryReadRetry (sp : SpoolIx) (failed : Option ReadFail)
    {s : State} (h : Canonical s.memories) : Canonical (resultMemories s (execEntryReadRetry sp failed s)) := by
  unfold execEntryReadRetry
  split <;> simp +contextual [h]

/-! ### Commands: payloads -/

theorem canonical_execPayloadArrival (c : CtxIx) (x : Payload)
    {s : State} (h : Canonical s.memories) : Canonical (resultMemories s (execPayloadArrival c x s)) := by
  unfold execPayloadArrival
  split <;> simp +contextual [h]

/-! ### Commands: decode engines -/

theorem canonical_execDecodeStart (e : EngineIx)
    {s : State} (h : Canonical s.memories) : Canonical (resultMemories s (execDecodeStart e s)) := by
  unfold execDecodeStart
  dsimp only
  (repeat' split) <;> simp +contextual [h]

/-! ### Commands: pictures (R206) -/

theorem canonical_execDecodeComplete (e : EngineIx) (x : DecodeResult)
    {s : State} (h : Canonical s.memories) : Canonical (resultMemories s (execDecodeComplete e x s)) := by
  unfold execDecodeComplete
  split
  · exact h
  · split <;> simpa [State.memories_chargeTo] using h

theorem canonical_execDecodeTimeLimit (e : EngineIx)
    {s : State} (h : Canonical s.memories) : Canonical (resultMemories s (execDecodeTimeLimit e s)) := by
  unfold execDecodeTimeLimit
  split <;> simp +contextual [h]

/-! ### Commands: raw frames (R214, R215) -/

theorem canonical_execRawConvert (c : CtxIx)
    {s : State} (h : Canonical s.memories) : Canonical (resultMemories s (execRawConvert c s)) := by
  unfold execRawConvert
  (repeat' split) <;> simp +contextual [h]

/-! ### Commands: admission -/

theorem canonical_execFrameAdmit (b : BindIx)
    {s : State} (h : Canonical s.memories) : Canonical (resultMemories s (execFrameAdmit b s)) := by
  unfold execFrameAdmit
  (repeat' split) <;> simp +contextual [h]

/-! ### Commands: completion -/

theorem canonical_execFrameComplete (b : BindIx) (r : FrameResult)
    {s : State} (h : Canonical s.memories) : Canonical (resultMemories s (execFrameComplete b r s)) := by
  unfold execFrameComplete
  (repeat' split) <;> simp +contextual [h]

/-! ### Commands: the commands -/

theorem canonical_execMainEnhanceTimeout
    {s : State} (h : Canonical s.memories) : Canonical (resultMemories s (execMainEnhanceTimeout s)) := by
  simp -implicitDefEqProofs [execMainEnhanceTimeout, h]

theorem canonical_execBandTrip
    {s : State} (h : Canonical s.memories) : Canonical (resultMemories s (execBandTrip s)) := by
  unfold execBandTrip
  split <;> simp +contextual [h]

theorem canonical_execAuxDamaged (k : Fin 8)
    {s : State} (h : Canonical s.memories) : Canonical (resultMemories s (execAuxDamaged k s)) := by
  simp -implicitDefEqProofs [execAuxDamaged, h]

theorem canonical_execPmbAlert (answers : List RailAnswer)
    {s : State} (h : Canonical s.memories) : Canonical (resultMemories s (execPmbAlert answers s)) := by
  unfold execPmbAlert
  extract_lets s1
  rw [resultMemories_next, State.memories_foldl (fun (s : State) r => s.send (.pmbus r "CLEAR_FAULTS" 0)) fun _ _
    => rfl]
  refine State.canonical_foldl _ (fun s a hs => ?_) _ h
  dsimp only
  split
  · simpa using hs
  · simpa using hs
  · simpa using hs
  · split
    · exact State.canonical_railFail _ (by simpa using hs)
    · simpa using hs

theorem canonical_execPmbusTelemetryPoll (x : RailReading)
    {s : State} (h : Canonical s.memories) : Canonical (resultMemories s (execPmbusTelemetryPoll x s)) := by
  unfold execPmbusTelemetryPoll
  (repeat' split) <;> simp +contextual [h]

theorem canonical_execVoutCommandWriteDone
    {s : State} (h : Canonical s.memories) : Canonical (resultMemories s (execVoutCommandWriteDone s)) := by
  unfold execVoutCommandWriteDone
  dsimp only
  (repeat' split) <;> simp +contextual [h]

/-! ### Commands: the compute die leaves reset -/

theorem canonical_execHbmTrained (lost : List (Fin 10240))
    {s : State} (h : Canonical s.memories) : Canonical (resultMemories s (execHbmTrained lost s)) := by
  unfold execHbmTrained
  split
  · rw [resultMemories_next, State.memories_foldl _ fun s g => State.memories_repairRows s g lost,
      State.memories_wrAll]
    exact h
  · exact h

/-! ### Commands: cap and budgets -/

theorem canonical_execCorrUpdate (measured : Option (Nat × Nat))
    {s : State} (h : Canonical s.memories) : Canonical (resultMemories s (execCorrUpdate measured s)) := by
  unfold execCorrUpdate
  split <;> simp +contextual [h]

theorem canonical_execEnergyApportion (p : Part) (cycles : List (CtxIx × Nat))
    {s : State} (h : Canonical s.memories) : Canonical (resultMemories s (execEnergyApportion p cycles s)) := by
  unfold execEnergyApportion
  extract_lets e total s1
  have h1 : Canonical s1.memories := by
    rw [State.memories_wr, State.memories_wr]
    exact h
  refine State.canonical_foldl _ (fun s x hs => ?_) _ h1
  split <;> simpa using hs

/-! ### Commands: the commands -/

theorem canonical_execSensorSample (xs : List Reading)
    {s : State} (h : Canonical s.memories) : Canonical (resultMemories s (execSensorSample xs s)) := by
  unfold execSensorSample
  dsimp only
  simp only [resultMemories_next, State.memories_applyPump, State.memories_setDemand, State.memories_setSampling,
    State.memories_mk, State.memories_fold]
  refine State.canonical_checkTripSets (State.canonical_setRates ?_)
  rw [State.memories_setWarnings, State.memories_showValues, State.memories_expireFloors]
  exact State.canonical_takeSample _ h

theorem canonical_execThermtrip (x : Comparator)
    {s : State} (h : Canonical s.memories) : Canonical (resultMemories s (execThermtrip x s)) := by
  unfold execThermtrip
  (repeat' split) <;> simp +contextual [h]

/-! ### Commands: edges -/

theorem canonical_execTachEdge (x : TachInput)
    {s : State} (h : Canonical s.memories) : Canonical (resultMemories s (execTachEdge x s)) := by
  unfold execTachEdge
  split <;> simp +contextual [h]

/-! ### Commands: spin-ups -/

theorem canonical_execSpinupEnd (c : Channel)
    {s : State} (h : Canonical s.memories) : Canonical (resultMemories s (execSpinupEnd c s)) := by
  simp -implicitDefEqProofs [execSpinupEnd, h]

/-! ### Commands: pumps and flows -/

theorem canonical_execFlowSecond
    {s : State} (h : Canonical s.memories) : Canonical (resultMemories s (execFlowSecond s)) := by
  refine State.canonical_foldl _ (fun s k hs => ?_) _ h
  dsimp only
  split
  · split
    · exact State.canonical_flowReading _ _ (by simpa using hs)
    · simpa using hs
  · exact hs

/-! ### Commands: leaks -/

theorem canonical_execLeakSample (rope0 rope1 : Nat) (float : Bool)
    {s : State} (h : Canonical s.memories) : Canonical (resultMemories s (execLeakSample rope0 rope1 float s)) := by
  unfold execLeakSample
  extract_lets s1
  have h1 : Canonical s1.memories := by simpa [s1] using h
  split
  · exact h1
  · refine State.canonical_foldl _ (fun s x hs => ?_) _ h1
    extract_lets run n cool s2
    have h2 : Canonical s2.memories := by simpa [s2] using hs
    split
    · exact State.canonical_leakChange _ _ h2
    · exact h2

/-! ### Commands: engine resets -/

theorem canonical_execEngineResetDone (t : RecTarget)
    {s : State} (h : Canonical s.memories) : Canonical (resultMemories s (execEngineResetDone t s)) := by
  unfold execEngineResetDone
  (repeat' split) <;> simp +contextual [h]

/-! ### Commands: partition reset -/

theorem canonical_execPartitionMemUp (p : Part) (lost : List (Fin 10240))
    {s : State} (h : Canonical s.memories) : Canonical (resultMemories s (execPartitionMemUp p lost s)) := by
  unfold execPartitionMemUp
  dsimp only
  split
  · simp only [resultMemories_next, State.memories_event, State.memories_cond, State.memories_wr,
      State.memories_startFetches, State.memories_startRebuild, State.memories_rekey, State.memories_repairRows,
      ite_self]
    exact h
  · exact h

theorem canonical_execPartitionResetComplete (p : Part) (failed : List (Cluster × CoreIx)) (dur : Nat)
    {s : State} (h : Canonical s.memories) : Canonical (resultMemories s (execPartitionResetComplete p failed dur
      s)) := by
  unfold execPartitionResetComplete
  split
  · exact State.canonical_settle (State.canonical_resumeHeld (State.canonical_restored _ _ _ (by simpa using h)))
  · exact h

/-! ### Commands: chip reset -/

theorem canonical_execComputeDieResetAssert
    {s : State} (h : Canonical s.memories) : Canonical (resultMemories s (execComputeDieResetAssert s)) := by
  simp -implicitDefEqProofs [execComputeDieResetAssert, h]

/-! ### Commands: beam accesses -/

theorem canonical_execBeamAccess (r : BeamReq)
    {s : State} (h : Canonical s.memories) : Canonical (resultMemories s (execBeamAccess r s)) := by
  unfold execBeamAccess
  (repeat' split) <;> simp +contextual [h]

theorem canonical_execBankSpareSwitch (g : BankGroup)
    {s : State} (h : Canonical s.memories) : Canonical (resultMemories s (execBankSpareSwitch g s)) := by
  unfold execBankSpareSwitch
  dsimp only
  split <;> simp +contextual [h]

theorem canonical_execBankCeDecay (b : BankId)
    {s : State} (h : Canonical s.memories) : Canonical (resultMemories s (execBankCeDecay b s)) := by
  unfold execBankCeDecay
  split <;> simp +contextual [h]

theorem canonical_execBeamScrub (g : BankGroup) (bank : Fin 33) (line : Fin 1024) (ecc : Ecc) (intervened : Bool)
    {s : State} (h : Canonical s.memories) : Canonical (resultMemories s (execBeamScrub g bank line ecc intervened
      s)) := by
  unfold execBeamScrub
  extract_lets place idle
  split
  · exact h
  · split
    · exact h
    · exact State.canonical_bankCe _ _ h
    · refine State.canonical_bankUe _ _ ?_
      obtain ⟨h1, h2, h3, h4, h5, h6, h7, h8⟩ := h
      have hmark := Tab.wfFrom_put (d := fun _ => false)
        ((2 * g.val + line.val / 512) * 16384 + line.val % 512 * 32 + place) true h2
      cases intervened
      · exact ⟨h1, hmark, h3, h4, h5, h6, h7, h8⟩
      · exact ⟨h1, h2, h3, h4, h5, h6, h7, h8⟩

/-! ### Commands: HBM -/

theorem canonical_execHbmScrub (g : HomeGroup) (line : Nat) (loc : HbmRow) (ecc : Ecc) (intervened : Bool)
    {s : State} (h : Canonical s.memories) : Canonical (resultMemories s (execHbmScrub g line loc ecc intervened
      s)) := by
  unfold execHbmScrub
  split
  · exact h
  · split
    · exact h
    · simpa using h
    · rw [resultMemories_next, State.memories_hbmUe]
      obtain ⟨h1, h2, h3, h4, h5, h6, h7, h8⟩ := h
      have hmark := Tab.wfFrom_put (d := fun _ => false) (g.val * 2 ^ 30 + line % 2 ^ 30) true h4
      cases intervened
      · exact ⟨h1, h2, h3, hmark, h5, h6, h7, h8⟩
      · exact ⟨h1, h2, h3, h4, h5, h6, h7, h8⟩

theorem canonical_execHbmDmaBurst (g : HomeGroup) (loc : HbmRow) (ecc : Ecc)
    {s : State} (h : Canonical s.memories) : Canonical (resultMemories s (execHbmDmaBurst g loc ecc s)) := by
  unfold execHbmDmaBurst
  dsimp only
  (repeat' split) <;> simp +contextual [h]

theorem canonical_execBundleCopyRebuilt (bundle : Nat)
    {s : State} (h : Canonical s.memories) : Canonical (resultMemories s (execBundleCopyRebuilt bundle s)) := by
  unfold execBundleCopyRebuilt
  split <;> simp +contextual [h]

/-! ### Commands: the link -/

theorem canonical_execHostLinkTrained (pcie : Bool) (narrow slow : Fin 3)
    {s : State} (h : Canonical s.memories) : Canonical (resultMemories s (execHostLinkTrained pcie narrow slow s))
      := by
  simp -implicitDefEqProofs [execHostLinkTrained, h]

/-! ### Commands: protocol errors and failed reads -/

theorem canonical_execHostBadRequest (k : BadRequest)
    {s : State} (h : Canonical s.memories) : Canonical (resultMemories s (execHostBadRequest k s)) := by
  unfold execHostBadRequest
  (repeat' split) <;> simp +contextual [h]

theorem canonical_execHostReadFail (how : ReadFail) (k : HostReadFor)
    {s : State} (h : Canonical s.memories) : Canonical (resultMemories s (execHostReadFail how k s)) := by
  unfold execHostReadFail
  (repeat' split) <;> simp +contextual [h]

/-! ### Commands: the HDM window -/

theorem canonical_execCxlMemRead (offset : Nat) (loc : HbmRow) (ecc : Ecc)
    {s : State} (h : Canonical s.memories) : Canonical (resultMemories s (execCxlMemRead offset loc ecc s)) := by
  unfold execCxlMemRead
  dsimp only
  (repeat' split) <;> simp +contextual [h]

theorem canonical_execCxlMemWrite (x : MemReq)
    {s : State} (h : Canonical s.memories) : Canonical (resultMemories s (execCxlMemWrite x s)) := by
  unfold execCxlMemWrite
  dsimp only
  (repeat' split) <;> simp +contextual [h]

/-! ### Commands: the write queue of the host window (R265, R266, R289, R290) -/

theorem canonical_execBar0WriteApply
    {s : State} (h : Canonical s.memories) : Canonical (resultMemories s (execBar0WriteApply s)) := by
  unfold execBar0WriteApply
  split <;> simp -implicitDefEqProofs [h]

theorem canonical_execBar0ReadTimeout
    {s : State} (h : Canonical s.memories) : Canonical (resultMemories s (execBar0ReadTimeout s)) := by
  unfold execBar0ReadTimeout
  split <;> simp +contextual [h]

/-! ### Commands: register requests over the Horizon bus (R375) -/

theorem canonical_execHznRegisterRequest (source : Node) (attachment : List Byte)
    {s : State} (h : Canonical s.memories) : Canonical (resultMemories s (execHznRegisterRequest source attachment
      s)) := by
  unfold execHznRegisterRequest
  dsimp only
  (repeat' split) <;> simp +contextual [h]

/-! ### Commands: encodings and conversions -/

theorem canonical_execDs24Writeback (c : CoreId) (lane : Fin 16) (x : Word) (dst : Nat)
    {s : State} (h : Canonical s.memories) : Canonical (resultMemories s (execDs24Writeback c lane x dst s)) := by
  simp -implicitDefEqProofs [execDs24Writeback, h]

/-! ### Commands: vector operations (R90) -/

theorem canonical_execVectorOp (c : CoreId) (op : VOp) (half : Bool) (x y z : List Word) (dst : Nat)
    {s : State} (h : Canonical s.memories) : Canonical (resultMemories s (execVectorOp c op half x y z dst s)) := by
  unfold execVectorOp
  split <;> simp +contextual [h]

theorem canonical_execAuxPowerUp (idOk : Bool)
    {s : State} (h : Canonical s.memories) : Canonical (resultMemories s (execAuxPowerUp idOk s)) := by
  simp -implicitDefEqProofs [execAuxPowerUp, h]

/-! ### Commands: the Draft (R355-R369) -/

theorem canonical_execDraftInForce (x : DraftIn)
    {s : State} (h : Canonical s.memories) : Canonical (resultMemories s (execDraftInForce x s)) := by
  unfold execDraftInForce
  split
  · exact h
  · extract_lets s1
    have h1 : Canonical s1.memories := by simpa [s1] using h
    clear_value s1
    split
    · exact State.canonical_stayBare _ _ h1
    · split
      · exact State.canonical_stayBare _ _ h1
      · split
        · exact State.canonical_stayBare _ _ (by simpa using h1)
        · simpa using h1

/-- Every command leaves the memories of the state it answers in canonical form. -/
theorem exec_canonical (i : Instr) {s : State} (h : Canonical s.memories) :
    Canonical (resultMemories s (exec i s)) := by
  cases i
  case scratchCe | ceLevelDecay | residueMismatch | linkTrainStart | identFlit | keyFlit | linkTrained |
      laneBlockLockLoss | laneSwapFlit | linkRxTimeout | flitCrcError | nakFlit | idleFlit | idleFlitSend |
      flitInvalid | joinWindowExpire | throttleNoticeLapse | shadowReplyMsg | shadowAckFlit | shadowAckTimeout |
      shadowResync | shadowRouteLost | twinTakeover | cmdDeferredStart =>
    simp -implicitDefEqProofs [exec, h, execScratchCe, execCeLevelDecay, execResidueMismatch, execLinkTrainStart,
      execIdentFlit, execKeyFlit, execLinkTrained, execLaneBlockLockLoss, execLaneSwapFlit, execLinkRxTimeout,
      execFlitCrcError, execNakFlit, execIdleFlit, State.drainWaiting, execIdleFlitSend, execFlitInvalid,
      execJoinWindowExpire, execThrottleNoticeLapse, execShadowReplyMsg, execShadowAckFlit, execShadowAckTimeout,
      execShadowResync, execShadowRouteLost, execTwinTakeover, execCmdDeferredStart]
  case cmdUnknownOpcode | boltDrainDone | getIdentity | getAttestationReport | getPerBootKey | openOwner |
      closeOwner | fwServing | handoffStart | ledgerCheckpoint | handoffComplete | watchdogExpire | fwCrash |
      fwRestartComplete | sealOpening | sealReady | grantExpire | drbgHealthFail | drbgStopTimeout | flashOpComplete |
      flashOpTimeout | retirementAppend | eventRecordWrite | presWriteDone =>
    simp -implicitDefEqProofs [exec, h, execCmdUnknownOpcode, execBoltDrainDone, execGetIdentity,
      execGetAttestationReport, execGetPerBootKey, execOpenOwner, execCloseOwner, execFwServing, execHandoffStart,
      execLedgerCheckpoint, execHandoffComplete, execWatchdogExpire, execFwCrash, execFwRestartComplete,
      execSealOpening, execSealReady, execGrantExpire, execDrbgHealthFail, execDrbgStopTimeout, execFlashOpComplete,
      execFlashOpTimeout, execRetirementAppend, execEventRecordWrite, execPresWriteDone]
  case checkpointTimer | logFetchDone | submissionDoorbell | completionDoorbell | spoolResume | decodeShareWindow |
      frameBudgetExpire | spoolIrqTimer | breakerSample | insertionDelayEnd | inrushWindowEnd | fastTrip |
      backoffEnd | retryCountReset | auxSwitchTest | railPoll | railDwellEnd | railStartTimeout |
      reverseOrderRailDisable | railRetryTimer | powerCycleRestart | pmbusCoreSilent | vcoreRequest |
      computeDieResetRelease =>
    simp -implicitDefEqProofs [exec, h, execCheckpointTimer, execLogFetchDone, execSubmissionDoorbell,
      execCompletionDoorbell, execSpoolResume, execDecodeShareWindow, execFrameBudgetExpire, execSpoolIrqTimer,
      execBreakerSample, State.sampleFet, State.readSample, State.samplePg, State.sampleBands, State.sampleFront,
      execInsertionDelayEnd, execInrushWindowEnd, execFastTrip, execBackoffEnd, execRetryCountReset,
      execAuxSwitchTest, execRailPoll, execRailDwellEnd, execRailStartTimeout, execReverseOrderRailDisable,
      execRailRetryTimer, execPowerCycleRestart, execPmbusCoreSilent, execVcoreRequest, execComputeDieResetRelease,
      State.shares]
  case frontNAssert | frontNDeassert | frontHoldEnd | budgetUpdate | capControl | droop | droopRecover | gustStep |
      heavyAhead | hintTimeout | sensorNoConversion | throttleEval | thermalRestart | fanPeriodStart |
      stretchWindowOpen | stretchWindowEnd | overrideExpire | spinupStart | retryWaitEnd | pumpSpeedSecond |
      flowGraceEnd | faultRegister | selvageFaultMsg | keepAlive =>
    simp -implicitDefEqProofs [exec, h, execFrontNAssert, execFrontNDeassert, execFrontHoldEnd, execBudgetUpdate,
      execCapControl, execDroop, execDroopRecover, execGustStep, State.stepHint, execHeavyAhead, execHintTimeout,
      execSensorNoConversion, execThrottleEval, execThermalRestart, execFanPeriodStart, execStretchWindowOpen,
      execStretchWindowEnd, execOverrideExpire, execSpinupStart, execRetryWaitEnd, execPumpSpeedSecond,
      execFlowGraceEnd, execFaultRegister, execSelvageFaultMsg, execKeepAlive]
  case selvageLinkTimeout | collectorMismatch | dmaHang | weftEndpointHang | decodeEngineHang | heddleUe | ctrlUe |
      recoveryBoundExpire | partitionResetDrain | chipResetComplete | hostLinkDown | hostLinkUp |
      hostLinkDownTimeout | hostReset | perstAssert | barBadAccess | busMasterEnable | hdmDecoderCommit |
      doeDiscovery | cdatRead | doeAbort | hznRoundStart | hznTurn | sympathyLift =>
    simp -implicitDefEqProofs [exec, h, execSelvageLinkTimeout, execCollectorMismatch, execDmaHang,
      execWeftEndpointHang, execDecodeEngineHang, execHeddleUe, execCtrlUe, execRecoveryBoundExpire,
      execPartitionResetDrain, execChipResetComplete, execHostLinkDown, execHostLinkUp, State.linkBack,
      execHostLinkDownTimeout, execHostReset, execPerstAssert, execBarBadAccess, execBusMasterEnable,
      execHdmDecoderCommit, execDoeDiscovery, execCdatRead, execDoeAbort, execHznRoundStart, execHznTurn,
      execSympathyLift]
  case hznFrameRx | quarantineEnd | hznRqTimeout | hznRegisterResponse | roleDecide | crystalSwitch | crystalFail |
      smbClockTimeout | registerWrite | selectWrite | loRead | hiRead | bar0Write | bar0Read | smbSetPointer |
      smbBlockWrite | smbBlockRead | smbBlockRead8 | matrixPass | mxEncode | dq4Encode | vectorConvert | topK |
      compaction =>
    simp -implicitDefEqProofs [exec, h, execHznFrameRx, State.hznViolation, State.takeFrameOf, State.takeHeartbeat,
      State.leaveDrive, execQuarantineEnd, execHznRqTimeout, execHznRegisterResponse, execRoleDecide,
      execCrystalSwitch, execCrystalFail, execSmbClockTimeout, execRegisterWrite, execSelectWrite, execLoRead,
      execHiRead, execBar0Write, State.enqueue, State.registerGo, execBar0Read, execSmbSetPointer, execSmbBlockWrite,
      execSmbBlockRead, execSmbBlockRead8, execMatrixPass, State.loadWeights, execMxEncode, execDq4Encode,
      execVectorConvert, execTopK, execCompaction]
  case auxPowerLoss =>
    simp -implicitDefEqProofs [exec, h, execAuxPowerLoss]
  case presCancel | biasSet | fwActivateCancel | ctxInputWrite | hznRqSend | fwLogHeadWrite | draftCommit |
      presClearEventLog | ctxForceRefresh | fwLogEnable | draftBegin | presReadIdentity | fwActivate | presBadOpcode |
      faultStatusClear | weftAcceptWrite | coolOverrideWrite | presRewriteProtected | capWrite | cmdGo | draftAbort |
      partCtrlWrite | logFetch | presEnrolOwnerKey | fwLoad | latchClr | evqHeadWrite | evqEnable | ctxShadowEnable |
      fwStage | hdmApply | presRemoveOwner =>
    simp [exec, h]
  case scratchUe => exact canonical_execScratchUe _ _ h
  case instrParityError => exact canonical_execInstrParityError _ _ h
  case contextAbortDone => exact canonical_execContextAbortDone _ h
  case repairRebind => exact canonical_execRepairRebind _ h
  case fecSecondCheck => exact canonical_execFecSecondCheck _ _ h
  case flitRelay => exact canonical_execFlitRelay _ _ h
  case routeRecompute => exact canonical_execRouteRecompute _ h
  case barrierArrive => exact canonical_execBarrierArrive _ _ _ h
  case barrierFlit => exact canonical_execBarrierFlit _ _ _ h
  case stepTimeout => exact canonical_execStepTimeout _ h
  case jobDataMsg => exact canonical_execJobDataMsg _ h
  case joinFlit => exact canonical_execJoinFlit _ h
  case joinSendTick => exact canonical_execJoinSendTick _ h
  case frameStartFlit hdr c age frame => exact canonical_execFrameStartFlit hdr c age frame h
  case throttleNotice => exact canonical_execThrottleNotice h
  case shadowRequestMsg => exact canonical_execShadowRequestMsg _ _ _ _ h
  case shadowUpdateMsg => exact canonical_execShadowUpdateMsg _ _ _ h
  case fetchRequestMsg => exact canonical_execFetchRequestMsg _ h
  case lapseNoticeMsg => exact canonical_execLapseNoticeMsg _ _ h
  case bundleLoad => exact canonical_execBundleLoad _ _ _ h
  case bundleDrop => exact canonical_execBundleDrop _ _ h
  case bind => exact canonical_execBind _ _ h
  case sweepComplete => exact canonical_execSweepComplete _ _ _ _ h
  case bindFirstInstruction => exact canonical_execBindFirstInstruction _ h
  case unbind => exact canonical_execUnbind _ _ h
  case rebind => exact canonical_execRebind _ _ h
  case unbindRelease => exact canonical_execUnbindRelease _ h
  case boltZeroDone => exact canonical_execBoltZeroDone _ h
  case hbmLeaseDrainEnd => exact canonical_execHbmLeaseDrainEnd _ h
  case spoolOpen => exact canonical_execSpoolOpen _ _ h
  case spoolClose => exact canonical_execSpoolClose _ _ h
  case ctxOpen => exact canonical_execCtxOpen _ _ h
  case ctxClose => exact canonical_execCtxClose _ _ h
  case ctxMove => exact canonical_execCtxMove _ _ h
  case ctxResume => exact canonical_execCtxResume _ _ h
  case twinFetchReply => exact canonical_execTwinFetchReply _ _ h
  case twinFetchTimeout => exact canonical_execTwinFetchTimeout _ h
  case fwImageReceived => exact canonical_execFwImageReceived _ h
  case logEntry => exact canonical_execLogEntry _ _ _ _ h
  case presArmExpire => exact canonical_execPresArmExpire h
  case presencePress => exact canonical_execPresencePress h
  case drbgReseed => exact canonical_execDrbgReseed _ h
  case draftEraseDone => exact canonical_execDraftEraseDone _ h
  case submissionEntry => exact canonical_execSubmissionEntry _ _ h
  case entryReadRetry => exact canonical_execEntryReadRetry _ _ h
  case payloadArrival => exact canonical_execPayloadArrival _ _ h
  case decodeStart => exact canonical_execDecodeStart _ h
  case decodeComplete => exact canonical_execDecodeComplete _ _ h
  case decodeTimeLimit => exact canonical_execDecodeTimeLimit _ h
  case rawConvert => exact canonical_execRawConvert _ h
  case frameAdmit => exact canonical_execFrameAdmit _ h
  case frameComplete => exact canonical_execFrameComplete _ _ h
  case mainEnhanceTimeout => exact canonical_execMainEnhanceTimeout h
  case bandTrip => exact canonical_execBandTrip h
  case auxDamaged => exact canonical_execAuxDamaged _ h
  case pmbAlert => exact canonical_execPmbAlert _ h
  case pmbusTelemetryPoll => exact canonical_execPmbusTelemetryPoll _ h
  case voutCommandWriteDone => exact canonical_execVoutCommandWriteDone h
  case hbmTrained => exact canonical_execHbmTrained _ h
  case corrUpdate => exact canonical_execCorrUpdate _ h
  case energyApportion => exact canonical_execEnergyApportion _ _ h
  case sensorSample => exact canonical_execSensorSample _ h
  case thermtrip => exact canonical_execThermtrip _ h
  case tachEdge => exact canonical_execTachEdge _ h
  case spinupEnd => exact canonical_execSpinupEnd _ h
  case flowSecond => exact canonical_execFlowSecond h
  case leakSample => exact canonical_execLeakSample _ _ _ h
  case engineResetDone => exact canonical_execEngineResetDone _ h
  case partitionMemUp => exact canonical_execPartitionMemUp _ _ h
  case partitionResetComplete => exact canonical_execPartitionResetComplete _ _ _ h
  case computeDieResetAssert => exact canonical_execComputeDieResetAssert h
  case beamAccess => exact canonical_execBeamAccess _ h
  case bankSpareSwitch => exact canonical_execBankSpareSwitch _ h
  case bankCeDecay => exact canonical_execBankCeDecay _ h
  case beamScrub => exact canonical_execBeamScrub _ _ _ _ _ h
  case hbmScrub => exact canonical_execHbmScrub _ _ _ _ _ h
  case hbmDmaBurst => exact canonical_execHbmDmaBurst _ _ _ h
  case bundleCopyRebuilt => exact canonical_execBundleCopyRebuilt _ h
  case hostLinkTrained => exact canonical_execHostLinkTrained _ _ _ h
  case hostBadRequest => exact canonical_execHostBadRequest _ h
  case hostReadFail => exact canonical_execHostReadFail _ _ h
  case cxlMemRead => exact canonical_execCxlMemRead _ _ _ h
  case cxlMemWrite => exact canonical_execCxlMemWrite _ h
  case bar0WriteApply => exact canonical_execBar0WriteApply h
  case bar0ReadTimeout => exact canonical_execBar0ReadTimeout h
  case hznRegisterRequest => exact canonical_execHznRegisterRequest _ _ h
  case ds24Writeback => exact canonical_execDs24Writeback _ _ _ _ h
  case vectorOp => exact canonical_execVectorOp _ _ _ _ _ _ _ h
  case auxPowerUp => exact canonical_execAuxPowerUp _ h
  case draftInForce => exact canonical_execDraftInForce _ h
  case draftStgDataWrite => exact canonical_execDraftStgDataWrite _ _ h

theorem step_canonical {s t : State} (h : Canonical s.memories) (ht : step s = .next t) :
    Canonical t.memories := by
  cases hp : s.pending with
  | nil =>
    rw [step_nil s hp] at ht
    cases ht
    exact h
  | cons i q =>
    rw [step_cons i q s hp] at ht
    have hi : Canonical (resultMemories (s.withPending q) (exec i (s.withPending q))) := exec_canonical i h
    rwa [ht] at hi

/-- Settles O59: every command keeps the canonical form (`exec_canonical`), and a step executes one command or
lets time pass. -/
theorem stepKeepsMemoriesCanonical : Obligations.StepKeepsMemoriesCanonical := by
  intro s t hs ht
  exact step_canonical hs ht

end Sys2Proof.Machine

namespace Sys2Proof.Machine
/-! PROOFS. Core errors without a running frame (O4). -/

/-! ### Masks -/

theorem testBit_add_two_pow_of_clear {m k : Nat} (h : m.testBit k = false) (j : Nat) :
    (m + 2 ^ k).testBit j = (decide (j = k) || m.testBit j) := by
  have hr : m % 2 ^ (k + 1) < 2 ^ k := Nat.lt_of_testBit k (by simp [h]) (by simp) fun i hi => by
    simp [Nat.testBit_mod_two_pow, show ¬ i < k + 1 by omega, show k ≠ i by omega]
  have hs : 2 ^ k + m % 2 ^ (k + 1) < 2 ^ (k + 1) := by omega
  have hm : m + 2 ^ k = 2 ^ (k + 1) * (m / 2 ^ (k + 1)) + (2 ^ k + m % 2 ^ (k + 1)) := by
    have := Nat.div_add_mod m (2 ^ (k + 1))
    omega
  have hj := Nat.testBit_two_pow_mul_add (m / 2 ^ (k + 1)) (Nat.mod_lt m (Nat.two_pow_pos (k + 1))) j
  rw [Nat.div_add_mod] at hj
  rw [hm, Nat.testBit_two_pow_mul_add _ hs, hj]
  by_cases hj : j < k + 1
  · rcases Nat.lt_succ_iff_lt_or_eq.1 hj with hlt | rfl
    · simp [hj, Nat.testBit_two_pow_add_gt hlt, show j ≠ k by omega]
    · simp [Nat.testBit_two_pow_add_eq, h]
  · simp [hj, show j ≠ k by omega]

theorem testBit_setBit_eq (m k j : Nat) : (setBit m k).testBit j = (decide (j = k) || m.testBit j) := by
  unfold setBit
  split
  · next h =>
    by_cases hj : j = k
    · simp [hj, h]
    · simp [hj]
  · next h => exact testBit_add_two_pow_of_clear (by simpa using h) j

/-! ### A core that becomes pending (R51, R61) -/

theorem State.corePending_eq (s : State) (c : CoreId) :
    s.corePending c = s.wr (pendingField s c) (clusterIx c.part.val c.cluster.val)
      (setBit (s.rd (pendingField s c) (clusterIx c.part.val c.cluster.val)) c.core.val) := rfl

theorem pendingField_size (s : State) (c : CoreId) : (pendingField s c).size = 2 ^ 17 := by
  unfold pendingField
  split <;> rfl

theorem State.corePending_onlyRegs (s : State) (c : CoreId) : OnlyRegs s (s.corePending c) [pendingPlace s c] :=
  onlyRegs_wr s _ _ _

theorem State.markedPending_corePending (s : State) (c : CoreId) : MarkedPending s (s.corePending c) c := by
  intro j hj
  rw [corePending_eq, rd_wr_same, pendingField_size, Nat.testBit_mod_two_pow, testBit_setBit_eq]
  simp [hj]

/-- A mark in a state of the same register file is a mark in the state before. -/
theorem MarkedPending.of_rd {s s' t : State} {c : CoreId} (h : MarkedPending s' t c)
    (hrd : ∀ f ∈ [F.PART_STATE_STATE, I.sweepFailed, F.PART_CL_PENDING_CORES], ∀ i, s'.rd f i = s.rd f i) :
    MarkedPending s t c := by
  have hf : pendingField s' c = pendingField s c := by
    unfold pendingField
    rw [hrd _ (by simp)]
  have hm : pendingField s c ∈ [F.PART_STATE_STATE, I.sweepFailed, F.PART_CL_PENDING_CORES] := by
    unfold pendingField
    split <;> simp
  intro j hj
  rw [← hrd _ hm, ← hf]
  exact h j hj

/-- With no frame to abort an uncorrectable error only marks its core. -/
theorem State.coreFault_of_nothingRuns {s : State} {c : CoreId} (cause : Nat) (h : NothingRuns s c.part.val) :
    s.coreFault c cause = s.corePending c := by
  have hb : (s.corePending c).bindOf c.part.val = s.bindOf c.part.val := rfl
  have hr (b : Nat) : (s.corePending c).binding? b = s.binding? b := rfl
  unfold coreFault
  simp only [beq_iff_eq, hb, hr]
  obtain h | h | ⟨b, h, hb⟩ := h
  · rw [if_pos h]
  · simp [h]
  · simp [h, hb]

/-! ### The commands -/

theorem exec_scratchCe_below {s : State} {c : CoreId} (h : s.rd I.ceLevel (coreIx c) < 7) :
    exec (.scratchCe c) s = .next (s.wr I.ceLevel (coreIx c) (s.rd I.ceLevel (coreIx c) + 1)) := by
  have hsize : I.ceLevel.size = 16 := rfl
  have hne : ¬ (s.rd I.ceLevel (coreIx c) + 1) % I.ceLevel.size = 8 := by rw [hsize]; omega
  have hv : min 8 (s.rd I.ceLevel (coreIx c) + 1) = s.rd I.ceLevel (coreIx c) + 1 := Nat.min_eq_right (by omega)
  simp only [exec, execScratchCe, hv, State.rd_wr_same, if_neg hne]

theorem exec_scratchCe_at {s : State} {c : CoreId} (h : 7 ≤ s.rd I.ceLevel (coreIx c)) :
    exec (.scratchCe c) s = .next ((s.wr I.ceLevel (coreIx c) 8).corePending c) := by
  have hv : min 8 (s.rd I.ceLevel (coreIx c) + 1) = 8 := Nat.min_eq_left (by omega)
  have h8 : 8 % I.ceLevel.size = 8 := rfl
  simp only [exec, execScratchCe, hv, State.rd_wr_same, if_pos h8]

theorem exec_ceLevelDecay (s : State) (c : CoreId) :
    exec (.ceLevelDecay c) s = .next (if s.on F.PART_STATE_ARR_ON c.part.val then
      s.wr I.ceLevel (coreIx c) (s.rd I.ceLevel (coreIx c) - 1) else s) := by
  simp only [exec, execCeLevelDecay]
  split <;> rfl

/-- The state in which a scratch line is marked poisoned. -/
def State.poisonLine (s : State) (k : Nat) : State :=
  { s with arr := { s.arr with scratchPoison := Tab.put s.arr.scratchPoison k true false } }

theorem exec_scratchUe (s : State) (c : CoreId) (line : Fin 384) :
    exec (.scratchUe c line) s = .next ((s.poisonLine (coreIx c * 512 + line.val)).coreFault c 1) := rfl

theorem exec_residueMismatch (s : State) (c : CoreId) :
    exec (.residueMismatch c) s = .next (s.coreFault c 2) := rfl

/-- The state in which an instruction line is off the list of lines that gave an error. -/
def State.dropParity (s : State) (k : Nat × Nat) : State :=
  { s with arr := { s.arr with parity := s.arr.parity.filter (· != k) } }

theorem exec_instrParityError_again {s : State} {c : CoreId} {line : Fin 128}
    (h : (coreIx c, line.val) ∈ s.arr.parity) :
    exec (.instrParityError c line) s = .next ((s.dropParity (coreIx c, line.val)).coreFault c 3) := by
  simp only [exec, execInstrParityError, List.contains_iff_mem, h, if_true]
  rfl

theorem exec_instrParityError_first {s : State} {c : CoreId} {line : Fin 128}
    (h : (coreIx c, line.val) ∉ s.arr.parity) :
    exec (.instrParityError c line) s = .next { s with
      arr := { s.arr with
        parity := s.arr.parity ++ [(coreIx c, line.val)],
        ibuf := Tab.clear (fun a => a / 64 == coreIx c * 128 + line.val) s.arr.ibuf } } := by
  simp only [exec, execInstrParityError, List.contains_iff_mem, h, if_false]

/-! ### O4 -/

theorem scratchCe_raises (c : CoreId) (s : State) :
    (s.rd I.ceLevel (coreIx c) < 7 → Completes (.scratchCe c) s fun t =>
       t.rd I.ceLevel (coreIx c) = s.rd I.ceLevel (coreIx c) + 1 ∧ OnlyRegs s t [(I.ceLevel, coreIx c)]) ∧
    (7 ≤ s.rd I.ceLevel (coreIx c) → Completes (.scratchCe c) s fun t =>
       t.rd I.ceLevel (coreIx c) = 8 ∧ MarkedPending s t c ∧
       OnlyRegs s t [(I.ceLevel, coreIx c), pendingPlace s c]) := by
  have hsize : I.ceLevel.size = 16 := rfl
  constructor <;> intro h
  · refine ⟨_, exec_scratchCe_below h, ?_, onlyRegs_wr ..⟩
    exact (s.rd_wr_same ..).trans (Nat.mod_eq_of_lt (by omega))
  · have hrd : ∀ f ∈ [F.PART_STATE_STATE, I.sweepFailed, F.PART_CL_PENDING_CORES], ∀ i,
        (s.wr I.ceLevel (coreIx c) 8).rd f i = s.rd f i := by
      intro f hf i
      exact s.rd_wr_id _ _ _ (by revert f; decide)
    have hp : pendingPlace (s.wr I.ceLevel (coreIx c) 8) c = pendingPlace s c := by
      unfold pendingPlace pendingField
      rw [hrd _ (by simp)]
    have hne : (pendingField (s.wr I.ceLevel (coreIx c) 8) c).id ≠ I.ceLevel.id := by
      unfold pendingField
      split <;> exact ne_of_beq_false rfl
    refine ⟨_, exec_scratchCe_at h, ?_, MarkedPending.of_rd (State.markedPending_corePending _ c) hrd, ?_⟩
    · exact (State.rd_wr_id _ _ _ _ hne).trans (s.rd_wr_same ..)
    · exact ((onlyRegs_wr s _ _ _).mono (by simp)).trans
        (((s.wr I.ceLevel (coreIx c) 8).corePending_onlyRegs c).mono (by simp [hp]))

theorem ceLevelDecay_falls (c : CoreId) (s : State) :
    (s.on F.PART_STATE_ARR_ON c.part.val = true → Completes (.ceLevelDecay c) s fun t =>
       t.rd I.ceLevel (coreIx c) = (s.rd I.ceLevel (coreIx c) - 1) % I.ceLevel.size ∧
       OnlyRegs s t [(I.ceLevel, coreIx c)]) ∧
    (s.on F.PART_STATE_ARR_ON c.part.val = false → exec (.ceLevelDecay c) s = .next s) := by
  constructor <;> intro h
  · refine ⟨_, exec_ceLevelDecay s c, ?_⟩
    rw [if_pos h]
    exact ⟨s.rd_wr_same .., onlyRegs_wr ..⟩
  · rw [exec_ceLevelDecay, h]
    rfl

theorem scratchUe_marks {c : CoreId} (line : Fin 384) {s : State} (h : NothingRuns s c.part.val) :
    Completes (.scratchUe c line) s fun t =>
      MarkedPending s t c ∧ Tab.get t.arr.scratchPoison (coreIx c * 512 + line.val) false = true ∧
      (∀ k, k ≠ coreIx c * 512 + line.val →
        Tab.get t.arr.scratchPoison k false = Tab.get s.arr.scratchPoison k false) ∧
      t = { s with regs := t.regs, arr := { s.arr with scratchPoison := t.arr.scratchPoison } } ∧
      SameBut s t [pendingPlace s c] := by
  have hn : NothingRuns (s.poisonLine (coreIx c * 512 + line.val)) c.part.val := h
  refine ⟨_, (exec_scratchUe s c line).trans (by rw [State.coreFault_of_nothingRuns 1 hn]), ?_, ?_, ?_, rfl, ?_⟩
  · exact State.markedPending_corePending (s.poisonLine _) c
  · exact Tab.get_put_same s.arr.scratchPoison _ true false
  · exact fun k hk => Tab.get_put_other s.arr.scratchPoison hk.symm true false false
  · exact ((s.poisonLine _).corePending_onlyRegs c).2

theorem secondParityError_marks {c : CoreId} {line : Fin 128} {s : State} (h : NothingRuns s c.part.val)
    (hl : (coreIx c, line.val) ∈ s.arr.parity) :
    Completes (.instrParityError c line) s fun t =>
      MarkedPending s t c ∧ (coreIx c, line.val) ∉ t.arr.parity ∧
      t = { s with regs := t.regs, arr := { s.arr with parity := t.arr.parity } } ∧
      SameBut s t [pendingPlace s c] := by
  have hn : NothingRuns (s.dropParity (coreIx c, line.val)) c.part.val := h
  refine ⟨_, (exec_instrParityError_again hl).trans (by rw [State.coreFault_of_nothingRuns 3 hn]), ?_, ?_, rfl, ?_⟩
  · exact State.markedPending_corePending (s.dropParity _) c
  · simp [State.corePending_eq, State.wr, State.dropParity]
  · exact ((s.dropParity _).corePending_onlyRegs c).2

theorem firstParityError_discards {c : CoreId} {line : Fin 128} {s : State}
    (hl : (coreIx c, line.val) ∉ s.arr.parity) :
    Completes (.instrParityError c line) s fun t =>
      (coreIx c, line.val) ∈ t.arr.parity ∧
      (∀ k, k / 64 = coreIx c * 128 + line.val → Tab.get t.arr.ibuf k 0 = 0) ∧
      (∀ k, k / 64 ≠ coreIx c * 128 + line.val → Tab.get t.arr.ibuf k 0 = Tab.get s.arr.ibuf k 0) ∧
      t = { s with arr := { s.arr with parity := t.arr.parity, ibuf := t.arr.ibuf } } := by
  refine ⟨_, exec_instrParityError_first hl, by simp, ?_, ?_, rfl⟩ <;> intro k hk
  · exact Tab.get_clear_of_true (fun a => a / 64 == coreIx c * 128 + line.val) _ (by simpa using hk) _
  · exact Tab.get_clear_of_false (fun a => a / 64 == coreIx c * 128 + line.val) _ (by simpa using hk) _

/-- Settles O4: with no frame running an uncorrectable error is `State.corePending`
(`State.coreFault_of_nothingRuns`), one write to the cluster's mask. -/
theorem coreErrorsMarkCoresPending : Obligations.CoreErrorsMarkCoresPending := by
  refine ⟨fun c s => ?_, fun c line il s => ⟨fun h => ⟨scratchUe_marks line h, ?_, secondParityError_marks h⟩,
    firstParityError_discards⟩⟩
  · obtain ⟨hlow, hhigh⟩ := scratchCe_raises c s
    obtain ⟨hon, hoff⟩ := ceLevelDecay_falls c s
    exact ⟨hlow, hhigh, hon, hoff⟩
  · exact ⟨_, (exec_residueMismatch s c).trans (by rw [State.coreFault_of_nothingRuns 2 h]),
      s.markedPending_corePending c, s.corePending_onlyRegs c⟩

end Sys2Proof.Machine

namespace Sys2Proof.Machine
/-! PROOFS. The ends of frames beside their registers (`State.endFrames_onlyEnds`): what else they change, and
what the end of a binding's running frame leaves. -/

/-! ### The ends of frames -/

/-- Beside registers the ends of frames change what is sent to the host, the frames and the spools. -/
def EndsOnly (s t : State) : Prop :=
  t = { s with regs := t.regs, out := t.out, host := t.host,
               bnd := { s.bnd with frames := t.bnd.frames, spools := t.bnd.spools } }

theorem EndsOnly.refl (s : State) : EndsOnly s s := rfl

theorem EndsOnly.trans {s t u : State} (h : EndsOnly s t) (h' : EndsOnly t u) : EndsOnly s u := by
  unfold EndsOnly at h h' ⊢
  rw [h] at h'
  exact h'

theorem EndsOnly.ite {s a b : State} {c : Prop} [Decidable c] (ha : EndsOnly s a) (hb : EndsOnly s b) :
    EndsOnly s (if c then a else b) := by
  split <;> assumption

theorem EndsOnly.of_onlyFields {s t : State} {l : List Fld} (h : OnlyFields s t l) : EndsOnly s t := by
  unfold EndsOnly
  rw [h.1]

theorem State.hostSend_endsOnly (s : State) (o : Out) : EndsOnly s (s.hostSend o) := by
  rw [hostSend_eq]; rfl

theorem State.msixSend_endsOnly (s : State) (v : Nat) : EndsOnly s (s.msixSend v) := by
  rw [msixSend_eq]; rfl

theorem State.setSpool_endsOnly (s : State) (k : Nat) (x : SpoolSt) : EndsOnly s (s.setSpool k x) := rfl

theorem State.setFrames_endsOnly (s : State) (fs : List Frame) : EndsOnly s (s.setFrames fs) := rfl

theorem State.spoolMessage_endsOnly (s : State) (k : Nat) : EndsOnly s (s.spoolMessage k) :=
  (s.setSpool_endsOnly k _).trans
    (.ite ((msixSend_endsOnly _ k).trans (setSpool_endsOnly ..)) (.refl _))

theorem State.putEntry_endsOnly (s : State) (sp : Nat) (o : Out) : EndsOnly s (s.putEntry sp o) :=
  ((s.hostSend_endsOnly o).trans (.of_onlyFields
    (onlyFields_wr _ F.SPOOL_CQ_TAIL_INDEX _ _ (List.mem_singleton.2 rfl)))).trans (setSpool_endsOnly ..)

theorem State.complete_endsOnly (s : State) (f : Frame) (status : Nat) (counts : Bool) :
    EndsOnly s (s.complete f status counts) := by
  obtain ⟨o, age, late, h⟩ := s.complete_eq f status counts
  have hput := s.putEntry_endsOnly f.spool o
  rw [h]
  exact (EndsOnly.ite (hput.trans (.of_onlyFields (countEnd_onlyFields _ f status age late))) hput).trans
    (spoolMessage_endsOnly ..)

theorem State.flushFrom_endsOnly (n : Nat) (s : State) (c : Nat) : EndsOnly s (State.flushFrom n s c) := by
  induction n generalizing s with
  | zero => exact .refl s
  | succ n ih =>
    unfold flushFrom
    split
    · next f _ =>
      split
      · next st _ =>
        have hend : EndsOnly s (if f.follower then s else s.complete f st true) :=
          .ite (.refl s) (s.complete_endsOnly f st true)
        exact (hend.trans (setFrames_endsOnly ..)).trans (ih _)
      · exact .refl s
    · exact .refl s

theorem State.flush_endsOnly (s : State) (c : Nat) : EndsOnly s (s.flush c) :=
  (flushFrom_endsOnly ..).trans (.of_onlyFields (syncCtx_onlyFields ..))

theorem State.endFrames_endsOnly (s : State) (p : Frame → Bool) (status : Nat) :
    EndsOnly s (s.endFrames p status) := by
  unfold endFrames
  extract_lets hit u v
  have hu : OnlyFields s u frameEndFields :=
    .foldl _ (fun t f _ => .ite (t.breakDecode_onlyFields f.ctx) (.refl t _)) s
  exact ((EndsOnly.of_onlyFields hu).trans (u.setFrames_endsOnly _)).trans
    (foldl_relates EndsOnly.refl (fun _ _ _ => .trans) _ (fun t c _ => t.flush_endsOnly c) v)

theorem State.endFrames_fields (s : State) (p : Frame → Bool) (status : Nat) :
    SameButFields s (s.endFrames p status) frameEndFields := (s.endFrames_onlyEnds p status).1

theorem EndsOnly.binding? {s t : State} (h : EndsOnly s t) (b : Nat) : t.binding? b = s.binding? b := by
  unfold EndsOnly at h
  rw [h]; rfl

/-! ### The end of a running frame -/

/-- The binding without its running frame `c`, whose transfers and parity marks are dropped. -/
def State.dropRun (s : State) (b c : Nat) (x : Binding) : State :=
  let s := s.setBinding b { x with running := none }
  { s with
    hbm := { s.hbm with xfers := s.hbm.xfers.filter fun t => t.ctx != some c }
    arr := { s.arr with parity := s.arr.parity.filter fun e => !x.parts.contains (e.1 / 4096) } }

theorem State.stopRunning_of_running {s : State} {b c : Nat} {x : Binding} (hb : s.binding? b = some x)
    (hr : x.running = some c) (status : Nat) : s.stopRunning b status =
      (s.dropRun b c x).endFrames (fun f => f.ctx == c && f.stage == .running) status := by
  unfold stopRunning
  simp only [hb, hr]
  rfl

theorem State.stopRunning_of_idle {s : State} {b : Nat} {x : Binding} (hb : s.binding? b = some x)
    (hr : x.running = none) (status : Nat) : s.stopRunning b status = s := by
  unfold stopRunning
  simp only [hb, hr]

theorem State.binding?_setBinding (s : State) (b : Nat) (x : Binding) : (s.setBinding b x).binding? b = some x := by
  simp [binding?, setBinding, Tab.find?_insert_same]

theorem State.binding?_stopRunning {s : State} {b : Nat} {x : Binding} (hb : s.binding? b = some x)
    (status : Nat) : (s.stopRunning b status).binding? b = some { x with running := none } := by
  cases hr : x.running with
  | none =>
    rw [stopRunning_of_idle hb hr, hb, ← hr]
  | some c =>
    rw [stopRunning_of_running hb hr, (endFrames_endsOnly ..).binding?]
    exact s.binding?_setBinding ..

end Sys2Proof.Machine

namespace Sys2Proof.Machine
/-! PROOFS. The repair decision of a partition, and the clearing and the placing of what a partition holds. -/

/-! ### The repair decision (R54) -/

/-- Beside registers a repair decision changes the retirements made and what is queued for the steward. -/
def DecidesOnly (s t : State) : Prop :=
  t = { s with regs := t.regs, arr := { s.arr with made := t.arr.made },
               stw := { s.stw with retireQueue := t.stw.retireQueue, flashOps := t.stw.flashOps } }

theorem DecidesOnly.refl (s : State) : DecidesOnly s s := rfl

theorem DecidesOnly.trans {s t u : State} (h : DecidesOnly s t) (h' : DecidesOnly t u) : DecidesOnly s u := by
  unfold DecidesOnly at h h' ⊢
  rw [h] at h'
  exact h'

theorem DecidesOnly.of_onlyFields {s t : State} {l : List Fld} (h : OnlyFields s t l) : DecidesOnly s t := by
  unfold DecidesOnly
  rw [h.1]

/-- The registers of a cluster that its decision writes. -/
def decideFields : List Fld :=
  [F.PART_CL_RETIRED_CORES, F.PART_CL_DATA_RETIRED, F.PART_CL_DATA_SPARE_FREE, F.PART_CL_PENDING_CORES,
    I.sweepFailed, F.PART_CL_DATA_MAPPED, F.PART_CL_DATA_LOGICAL]

/-- A part of a repair decision: it changes the retirements, and of the registers those of `decideFields`. -/
structure Decides (s t : State) : Prop where
  only : DecidesOnly s t
  fields : SameButFields s t decideFields

theorem Decides.refl (s : State) : Decides s s := ⟨.refl s, .refl s _⟩

theorem Decides.trans {s t u : State} (h : Decides s t) (h' : Decides t u) : Decides s u :=
  ⟨h.only.trans h'.only, h.fields.trans h'.fields⟩

theorem Decides.ite {s a b : State} {c : Prop} [Decidable c] (ha : Decides s a) (hb : Decides s b) :
    Decides s (if c then a else b) := by
  split <;> assumption

theorem Decides.wr {s t : State} (h : Decides s t) (f : Fld) (i v : Nat) (hf : f ∈ decideFields) :
    Decides s (t.wr f i v) :=
  h.trans ⟨.of_onlyFields (onlyFields_wr t f i v hf), sameButFields_wr t f i v hf⟩

theorem State.retire_decides (s : State) (r : Retirement) : Decides s (s.retire r) := by
  rw [retire_eq]
  exact ⟨rfl, .of_regs rfl _⟩

theorem State.decideCluster_decides (s : State) (p : Part) (c : Cluster) (logical : Nat) (map : Bool) :
    Decides s (s.decideCluster p c logical map) := by
  unfold decideCluster
  extract_lets i bad ok good new s1 s2 s3 s4 s5
  have h1 : Decides s s1 := foldl_relates Decides.refl (fun _ _ _ => .trans) _
    (fun s k _ => .ite (s.retire_decides _) (.refl s)) s
  have h2 : Decides s s2 := .ite h1 (h1.trans (s1.retire_decides _))
  have h3 : Decides s s3 := (h2.wr _ _ _ (by decide)).wr _ _ _ (by decide)
  have h4 : Decides s s4 := h3.wr _ _ _ (by decide)
  have h5 : Decides s s5 := (h4.wr _ _ _ (by decide)).wr _ _ _ (by decide)
  exact .ite ((h5.wr _ _ _ (by decide)).wr _ _ _ (by decide)) h5

/-- The decisions of a partition's clusters, before the count of the good ones is shown. -/
def State.decideClusters (s : State) (p : Part) : State :=
  ((List.finRange 100).foldl (fun (x : State × Nat) c =>
    let ok := x.1.clusterOk p.val c.val
    (x.1.decideCluster p c x.2 (96 ≤ s.countOk p.val), x.2 + bit ok)) (s, 0)).1

theorem State.repairDecision_eq (s : State) (p : Part) :
    s.repairDecision p = (s.decideClusters p).wr F.PART_CLUSTERS_OK_CLUSTERS_OK p.val (s.countOk p.val) := rfl

theorem State.decideClusters_decides (s : State) (p : Part) : Decides s (s.decideClusters p) :=
  List.foldlRecOn (motive := fun x : State × Nat => Decides s x.1) (List.finRange 100) _ (.refl s)
    fun x hx c _ => hx.trans (x.1.decideCluster_decides p c x.2 _)

theorem State.repairDecision_only (s : State) (p : Part) : DecidesOnly s (s.repairDecision p) :=
  (s.decideClusters_decides p).only.trans (.of_onlyFields (onlyFields_wr _ _ _ _ (List.mem_singleton.2 rfl)))

theorem State.repairDecision_fields (s : State) (p : Part) :
    SameButFields s (s.repairDecision p) (F.PART_CLUSTERS_OK_CLUSTERS_OK :: decideFields) :=
  ((s.decideClusters_decides p).fields.mono fun _ hx => List.mem_cons_of_mem _ hx).wr _ _ _ (by decide)

/-- The decision of one partition leaves the count of another. -/
theorem State.clustersOk_repairDecision_other (s : State) {p : Part} {q : Nat} (hq : q < 16) (h : q ≠ p.val) :
    (s.repairDecision p).rd F.PART_CLUSTERS_OK_CLUSTERS_OK q = s.rd F.PART_CLUSTERS_OK_CLUSTERS_OK q := by
  rw [repairDecision_eq, rd_wr_ix _ _ (by omega) (by omega) h.symm]
  exact (s.decideClusters_decides p).fields _ _ (by decide)

/-! ### The array of a partition (R45, R47) -/

/-- Every scratch byte of a partition's cores reads 0. -/
def ScratchZero (s : State) (p : Nat) : Prop :=
  ∀ (c : CoreId) (o : Nat), c.part.val = p → o < 24576 → s.scratchByte c o = 0

theorem ScratchZero.of_scratch {s t : State} {p : Nat} (h : ScratchZero s p) (ht : t.arr.scratch = s.arr.scratch) :
    ScratchZero t p := by
  intro c o hc ho
  unfold State.scratchByte
  rw [ht]
  exact h c o hc ho

theorem coreIx_div (c : CoreId) : coreIx c / 4096 = c.part.val := by
  have := c.cluster.isLt
  have := c.core.isLt
  simp only [coreIx, clusterIx]
  omega

theorem State.scratchByte_clearArray (s : State) (p : Nat) (c : CoreId) {o : Nat} (ho : o < 24576) :
    (s.clearArray p).scratchByte c o = if c.part.val = p then 0 else s.scratchByte c o := by
  have hk : (coreIx c * 2 ^ 15 + o) / 2 ^ 15 / 4096 = c.part.val := by
    rw [← coreIx_div c]
    omega
  unfold scratchByte clearArray clearCores
  dsimp only
  split
  · next h => exact Tab.get_clear_of_true _ _ (by simp only [hk, h, beq_self_eq_true]) _
  · next h => exact Tab.get_clear_of_false _ _ (by simpa only [hk, beq_eq_false_iff_ne] using h) _

theorem State.scratchZero_clearArray (s : State) (p : Nat) : ScratchZero (s.clearArray p) p := by
  intro c o hc ho
  rw [scratchByte_clearArray _ _ _ ho, if_pos hc]

theorem ScratchZero.clearArray {s : State} {p : Nat} (h : ScratchZero s p) (q : Nat) :
    ScratchZero (s.clearArray q) p := by
  intro c o hc ho
  rw [State.scratchByte_clearArray _ _ _ ho]
  split
  · rfl
  · exact h c o hc ho

end Sys2Proof.Machine

namespace Sys2Proof.Machine
/-! PROOFS. Core faults under a running frame, the end of a context abort, and the repair re-bind (O5). -/

/-! ### The context abort (R488) -/

/-- Registers that a context abort writes: the partitions' counters, and those of the end of a frame. -/
def abortFields : List Fld := F.PART_RECOVERY_ABORTS :: frameEndFields

/-- What the parts of a context abort keep: the registers outside `abortFields`, and what the Beam, HBM, scratch and
the steward hold. -/
structure AbortKeeps (s t : State) : Prop where
  fields : SameButFields s t abortFields
  beam : t.beam = s.beam
  hbmBytes : t.hbm.bytes = s.hbm.bytes
  hbmPoison : t.hbm.poison = s.hbm.poison
  stw : t.stw = s.stw
  scratch : t.arr.scratch = s.arr.scratch

theorem AbortKeeps.trans {s t u : State} (h : AbortKeeps s t) (h' : AbortKeeps t u) : AbortKeeps s u :=
  ⟨h.fields.trans h'.fields, h'.beam.trans h.beam, h'.hbmBytes.trans h.hbmBytes, h'.hbmPoison.trans h.hbmPoison,
    h'.stw.trans h.stw, h'.scratch.trans h.scratch⟩

theorem State.bumpAborts_onlyFields (s : State) (ps : List Nat) :
    OnlyFields s (ps.foldl (fun s p => s.bump F.PART_RECOVERY_ABORTS p) s) [F.PART_RECOVERY_ABORTS] :=
  .foldl _ (fun s p _ => onlyFields_wr s _ _ _ (by simp)) s

theorem State.bumpAborts_abortKeeps (s : State) (ps : List Nat) :
    AbortKeeps s (ps.foldl (fun s p => s.bump F.PART_RECOVERY_ABORTS p) s) := by
  obtain ⟨heq, hfields⟩ := s.bumpAborts_onlyFields ps
  constructor
  · exact hfields.mono (by simp [abortFields])
  all_goals rw [heq]

/-- A refresh cause changes the contexts only. -/
theorem State.addCause_eq (s : State) (c cause : Nat) :
    s.addCause c cause = { s with bnd := { s.bnd with ctxs := (s.addCause c cause).bnd.ctxs } } := by
  unfold addCause
  split
  · split <;> rfl
  · rfl

theorem State.addCause_abortKeeps (s : State) (c cause : Nat) : AbortKeeps s (s.addCause c cause) := by
  rw [addCause_eq]
  exact ⟨.of_regs rfl _, rfl, rfl, rfl, rfl, rfl⟩

theorem State.endFrames_abortKeeps (s : State) (p : Frame → Bool) (status : Nat) :
    AbortKeeps s (s.endFrames p status) := by
  have heq := s.endFrames_endsOnly p status
  constructor
  · exact (s.endFrames_fields p status).mono fun _ hx => List.mem_cons_of_mem _ hx
  all_goals rw [heq]

theorem State.stopRunning_abortKeeps {s : State} {b c : Nat} {x : Binding} (hb : s.binding? b = some x)
    (hr : x.running = some c) (status : Nat) : AbortKeeps s (s.stopRunning b status) := by
  rw [stopRunning_of_running hb hr]
  exact AbortKeeps.trans (t := s.dropRun b c x) ⟨.of_regs rfl _, rfl, rfl, rfl, rfl, rfl⟩ (endFrames_abortKeeps ..)

/-- The frame of a binding's context has been aborted: it runs no more and the abort is in progress. -/
structure AbortBegun (s t : State) (b : BindIx) : Prop extends AbortKeeps s t where
  idle : (t.binding? b.val).bind Binding.running = none
  aborting : .contextAbort b ∈ t.recoveries

theorem State.contextAbort_of_running {s : State} {b : BindIx} {x : Binding} (hb : s.binding? b.val = some x)
    {c : Nat} (hr : x.running = some c) : s.contextAbort b =
      let t := ((x.parts.foldl (fun s p => s.bump F.PART_RECOVERY_ABORTS p) s).addCause c 2).stopRunning b.val 4
      { t with recoveries := t.recoveries ++ [.contextAbort b] } := by
  simp [contextAbort, abortRunning, hb, hr]

theorem State.contextAbort_abortBegun {s : State} {b : BindIx} {x : Binding} (hb : s.binding? b.val = some x)
    {c : Nat} (hr : x.running = some c) : AbortBegun s (s.contextAbort b) b := by
  rw [contextAbort_of_running hb hr]
  have hu := (s.bumpAborts_abortKeeps x.parts).trans (addCause_abortKeeps _ c 2)
  have hv : ((x.parts.foldl (fun s p => s.bump F.PART_RECOVERY_ABORTS p) s).addCause c 2).binding? b.val =
      some x := by
    rw [addCause_eq, (s.bumpAborts_onlyFields x.parts).1]
    exact hb
  obtain ⟨hfields, hbeam, hbytes, hpoison, hstw, hscratch⟩ := hu.trans (stopRunning_abortKeeps hv hr 4)
  refine ⟨⟨hfields, hbeam, hbytes, hpoison, hstw, hscratch⟩, ?_, ?_⟩
  · exact congrArg (·.bind Binding.running) (binding?_stopRunning hv 4)
  · exact List.mem_append_right _ (List.mem_singleton.2 rfl)

/-! ### A core fault under a running frame (R51-R53) -/

/-- The latch of a core fault. -/
def latchFields : List Fld :=
  [F.PART_FAULT_CTX_CTX, F.PART_FAULT_CTX_LEVEL, F.PART_FAULT_CTX_CAUSE, F.PART_FAULT_CTX_CLUSTER,
    F.PART_FAULT_CTX_VALID, I.faultLive]

theorem State.faultCtx_onlyFields (s : State) (p ctx level cause cluster : Nat) :
    OnlyFields s (s.faultCtx p ctx level cause cluster) latchFields := by
  unfold faultCtx
  refine .ite (.refl _ _) ?_
  exact (((((onlyFields_wr _ _ _ _ (by decide)).wr _ _ _ (by decide)).wr _ _ _ (by decide)).wr _ _ _
    (by decide)).wr _ _ _ (by decide)).wr _ _ _ (by decide)

/-- `PART_FAULT_CTX` holds the fault given, or the one it held (R52). -/
def FaultLatched (s t : State) (p ctx level cause cluster : Nat) : Prop :=
  t.rd F.PART_FAULT_CTX_VALID p = 1 ∧
  if s.on F.PART_FAULT_CTX_VALID p then
    t.rd F.PART_FAULT_CTX_CTX p = s.rd F.PART_FAULT_CTX_CTX p ∧
    t.rd F.PART_FAULT_CTX_LEVEL p = s.rd F.PART_FAULT_CTX_LEVEL p ∧
    t.rd F.PART_FAULT_CTX_CAUSE p = s.rd F.PART_FAULT_CTX_CAUSE p ∧
    t.rd F.PART_FAULT_CTX_CLUSTER p = s.rd F.PART_FAULT_CTX_CLUSTER p
  else
    t.rd F.PART_FAULT_CTX_CTX p = ctx % 2 ^ 16 ∧ t.rd F.PART_FAULT_CTX_LEVEL p = level ∧
    t.rd F.PART_FAULT_CTX_CAUSE p = cause ∧ t.rd F.PART_FAULT_CTX_CLUSTER p = cluster

theorem State.faultCtx_latched (s : State) (p ctx : Nat) {level cause cluster : Nat} (hl : level < 16)
    (hc : cause < 16) (hk : cluster < 128) :
    FaultLatched s (s.faultCtx p ctx level cause cluster) p ctx level cause cluster := by
  unfold faultCtx FaultLatched
  by_cases hv : s.on F.PART_FAULT_CTX_VALID p
  · rw [if_pos hv, if_pos hv]
    exact ⟨by simpa [State.on] using hv, rfl, rfl, rfl, rfl⟩
  · rw [if_neg hv, if_neg hv]
    simp (disch := decide) only [State.rd_wr_id, State.rd_wr_same]
    exact ⟨rfl, rfl, Nat.mod_eq_of_lt hl, Nat.mod_eq_of_lt hc, Nat.mod_eq_of_lt hk⟩

theorem FaultLatched.of_rd {s s' t t' : State} {p ctx level cause cluster : Nat}
    (h : FaultLatched s t p ctx level cause cluster) (hs : ∀ f ∈ latchFields, s'.rd f p = s.rd f p)
    (ht : ∀ f ∈ latchFields, t'.rd f p = t.rd f p) : FaultLatched s' t' p ctx level cause cluster := by
  simp only [latchFields, List.mem_cons, forall_eq_or_imp] at hs ht
  simpa [FaultLatched, State.on, hs, ht] using h

theorem MarkedPending.rd_after {s t u : State} {c : CoreId} (h : MarkedPending s t c)
    (hrd : ∀ f ∈ [I.sweepFailed, F.PART_CL_PENDING_CORES], ∀ i, u.rd f i = t.rd f i) : MarkedPending s u c := by
  have hm : pendingField s c ∈ [I.sweepFailed, F.PART_CL_PENDING_CORES] := by
    unfold pendingField
    split <;> simp
  intro j hj
  rw [hrd _ hm]
  exact h j hj

theorem State.rd_corePending (s : State) (c : CoreId) {f : Fld} (i : Nat)
    (hf : ∀ g ∈ [I.sweepFailed, F.PART_CL_PENDING_CORES], g.id ≠ f.id) : (s.corePending c).rd f i = s.rd f i := by
  refine s.rd_wr_id _ _ _ (hf _ ?_)
  split <;> simp

/-- The fault of a core before the abort: the core pending, the fault latched. -/
def State.noteCoreFault (s : State) (c : CoreId) (x cause : Nat) : State :=
  (s.corePending c).faultCtx c.part.val x 1 cause c.cluster.val

/-- Under a running frame a core fault is noted and aborts the context; a repeated fault may ask for a repair. -/
theorem State.coreFault_of_running {s : State} {c : CoreId} {b : BindIx} {x : Nat}
    (hst : s.rd F.PART_STATE_STATE c.part.val ≠ 1) (hb : s.bindOf c.part.val = some b)
    (hr : (s.binding? b.val).bind Binding.running = some x) (cause : Nat) :
    let t := (s.noteCoreFault c x cause).contextAbort b
    s.coreFault c cause = t ∨
      ∃ y, t.binding? b.val = some y ∧ s.coreFault c cause = t.setBinding b.val { y with phase := .repair } := by
  have hb' : (s.corePending c).bindOf c.part.val = some b := hb
  have hr' : ((s.corePending c).binding? b.val).bind Binding.running = some x := hr
  unfold coreFault
  simp only [beq_iff_eq, hst, if_false, hb', hr']
  split
  · next y hy =>
    split
    · exact .inr ⟨y, hy, rfl⟩
    · exact .inl rfl
  · exact .inl rfl

theorem AbortBegun.setRepair {s t : State} {b : BindIx} (h : AbortBegun s t b) {y : Binding}
    (hy : t.binding? b.val = some y) : AbortBegun s (t.setBinding b.val { y with phase := .repair }) b := by
  obtain ⟨⟨hfields, hbeam, hbytes, hpoison, hstw, hscratch⟩, hidle, habort⟩ := h
  refine ⟨⟨hfields, hbeam, hbytes, hpoison, hstw, hscratch⟩, ?_, habort⟩
  rw [State.binding?_setBinding]
  rw [hy] at hidle
  exact hidle

theorem State.coreFault_abortBegun {s : State} {c : CoreId} {b : BindIx} {x : Nat}
    (hst : s.rd F.PART_STATE_STATE c.part.val ≠ 1) (hb : s.bindOf c.part.val = some b)
    (hr : (s.binding? b.val).bind Binding.running = some x) (cause : Nat) :
    AbortBegun (s.noteCoreFault c x cause) (s.coreFault c cause) b := by
  obtain ⟨z, hz, hzr⟩ := Option.bind_eq_some_iff.1 hr
  have hz' : (s.noteCoreFault c x cause).binding? b.val = some z := by
    unfold noteCoreFault
    rw [(faultCtx_onlyFields ..).1]
    exact hz
  have habort := contextAbort_abortBegun hz' hzr
  obtain heq | ⟨y, hy, heq⟩ := coreFault_of_running hst hb hr cause
  · rwa [heq]
  · rw [heq]
    exact habort.setRepair hy

/-- What an uncorrectable fault of a core leaves when a frame of context `x` ran on its partition. -/
def FrameLost (s t : State) (c : CoreId) (b : BindIx) (x cause : Nat) : Prop :=
  MarkedPending s t c ∧ FaultLatched s t c.part.val x 1 cause c.cluster.val ∧
  AbortBegun (s.noteCoreFault c x cause) t b

theorem State.coreFault_frameLost {s : State} {c : CoreId} {b : BindIx} {x cause : Nat}
    (hst : s.rd F.PART_STATE_STATE c.part.val ≠ 1) (hb : s.bindOf c.part.val = some b)
    (hr : (s.binding? b.val).bind Binding.running = some x) (hc : cause < 16) :
    FrameLost s (s.coreFault c cause) c b x cause := by
  have h := coreFault_abortBegun hst hb hr cause
  have hlatch := (s.corePending c).faultCtx_onlyFields c.part.val x 1 cause c.cluster.val
  refine ⟨?_, ?_, h⟩
  · refine MarkedPending.rd_after (markedPending_corePending s c) fun f hf i => ?_
    exact (h.fields f i (by revert f; decide)).trans (hlatch.rd f i (by revert f; decide))
  · refine ((s.corePending c).faultCtx_latched c.part.val x (by omega) hc (by omega)).of_rd
      (fun f hf => ?_) fun f hf => ?_
    · exact (s.rd_corePending c _ (by revert f; decide)).symm
    · exact h.fields f _ (by revert f; decide)

theorem State.noteCoreFault_keeps (s : State) (c : CoreId) (x cause : Nat) :
    s.noteCoreFault c x cause = { s with regs := (s.noteCoreFault c x cause).regs } := by
  unfold noteCoreFault
  rw [(faultCtx_onlyFields ..).1]
  rfl

theorem FrameLost.kept {s t : State} {c : CoreId} {b : BindIx} {x cause : Nat} (h : FrameLost s t c b x cause) :
    t.beam = s.beam ∧ t.hbm.bytes = s.hbm.bytes ∧ t.hbm.poison = s.hbm.poison ∧ t.stw = s.stw ∧
    t.arr.scratch = s.arr.scratch := by
  obtain ⟨-, -, ⟨-, hbeam, hbytes, hpoison, hstw, hscratch⟩, -, -⟩ := h
  rw [hbeam, hbytes, hpoison, hstw, hscratch, s.noteCoreFault_keeps]
  exact ⟨rfl, rfl, rfl, rfl, rfl⟩

/-- O5's description of a lost frame, for a state that differs from `s` in no register and in no memory but the
poison marks. -/
theorem FrameLost.spec {s t : State} {c : CoreId} {b : BindIx} {x cause : Nat} (h : FrameLost s t c b x cause) :
    MarkedPending s t c ∧ (t.binding? b.val).bind Binding.running = none ∧
    .contextAbort b ∈ t.recoveries ∧
    t.rd F.PART_FAULT_CTX_VALID c.part.val = 1 ∧
    (if s.on F.PART_FAULT_CTX_VALID c.part.val then
      t.rd F.PART_FAULT_CTX_CTX c.part.val = s.rd F.PART_FAULT_CTX_CTX c.part.val ∧
      t.rd F.PART_FAULT_CTX_LEVEL c.part.val = s.rd F.PART_FAULT_CTX_LEVEL c.part.val ∧
      t.rd F.PART_FAULT_CTX_CAUSE c.part.val = s.rd F.PART_FAULT_CTX_CAUSE c.part.val ∧
      t.rd F.PART_FAULT_CTX_CLUSTER c.part.val = s.rd F.PART_FAULT_CTX_CLUSTER c.part.val
     else
      t.rd F.PART_FAULT_CTX_CTX c.part.val = x % 2 ^ 16 ∧ t.rd F.PART_FAULT_CTX_LEVEL c.part.val = 1 ∧
      t.rd F.PART_FAULT_CTX_CAUSE c.part.val = cause ∧
      t.rd F.PART_FAULT_CTX_CLUSTER c.part.val = c.cluster.val) ∧
    t.beam = s.beam ∧ t.hbm.bytes = s.hbm.bytes ∧ t.hbm.poison = s.hbm.poison ∧
    t.stw = s.stw ∧ t.arr.scratch = s.arr.scratch := by
  obtain ⟨hmark, ⟨hvalid, hlatch⟩, habort⟩ := id h
  exact ⟨hmark, habort.idle, habort.aborting, hvalid, hlatch, h.kept⟩

/-! ### The end of a context abort (R488) -/

/-- No recovery is in progress that was not before. -/
structure NoNewRecovery (s t : State) : Prop where
  mem : ∀ r ∈ t.recoveries, r ∈ s.recoveries

theorem NoNewRecovery.of_eq {s t : State} (h : t.recoveries = s.recoveries) : NoNewRecovery s t :=
  ⟨fun _ hr => h ▸ hr⟩

theorem NoNewRecovery.refl (s : State) : NoNewRecovery s s := ⟨fun _ h => h⟩

theorem NoNewRecovery.trans {s t u : State} (h : NoNewRecovery s t) (h' : NoNewRecovery t u) :
    NoNewRecovery s u := ⟨fun r hr => h.mem r (h'.mem r hr)⟩

theorem NoNewRecovery.foldl {α : Type} {f : State → α → State} (hf : ∀ s x, NoNewRecovery s (f s x))
    (xs : List α) (s : State) : NoNewRecovery s (xs.foldl f s) :=
  foldl_relates NoNewRecovery.refl (fun _ _ _ => .trans) f (fun s x _ => hf s x) s

theorem EndsOnly.noNewRecovery {s t : State} (h : EndsOnly s t) : NoNewRecovery s t := by
  refine .of_eq ?_
  unfold EndsOnly at h
  rw [h]

theorem State.stopRunning_noNewRecovery (s : State) (b status : Nat) : NoNewRecovery s (s.stopRunning b status) := by
  unfold stopRunning
  split
  · exact .refl s
  · next x _ =>
    split
    · exact .refl s
    · next c _ =>
      exact NoNewRecovery.trans (t := s.dropRun b c x) (.of_eq rfl) (endFrames_endsOnly ..).noNewRecovery

theorem State.freeCtx_noNewRecovery (s : State) (c : Nat) : NoNewRecovery s (s.freeCtx c) := by
  refine .of_eq (?_ : (s.noteEnded c).recoveries = s.recoveries)
  unfold noteEnded
  split
  · rfl
  · dsimp only
    split <;> rfl

theorem State.releaseBolts_noNewRecovery (s : State) (bs : List Nat) : NoNewRecovery s (s.releaseBolts bs) :=
  .foldl (fun s b => .of_eq (by split <;> rfl)) bs s

theorem State.drainLease_noNewRecovery (s : State) (id : Nat) : NoNewRecovery s (s.drainLease id) := by
  refine .of_eq ?_
  unfold drainLease
  split
  · split
    · rfl
    · split <;> rfl
  · rfl

theorem State.releaseBinding_noNewRecovery (s : State) (b : Nat) : NoNewRecovery s (s.releaseBinding b) := by
  unfold releaseBinding
  split
  · exact .refl s
  · extract_lets s1 cs s2 s3 s4 s5
    have h2 : NoNewRecovery s s2 :=
      (s.stopRunning_noNewRecovery b 5).trans (endFrames_endsOnly ..).noNewRecovery
    have h5 : NoNewRecovery s s5 := ((h2.trans (.foldl freeCtx_noNewRecovery cs s2)).trans
      (releaseBolts_noNewRecovery ..)).trans (.foldl drainLease_noNewRecovery _ s4)
    exact h5.trans ⟨fun r hr => (List.mem_filter.1 hr).1⟩

theorem State.partOff_noNewRecovery (s : State) (p state : Nat) : NoNewRecovery s (s.partOff p state) := .of_eq rfl

theorem State.dropBinding_noNewRecovery (s : State) (b : Nat) : NoNewRecovery s (s.dropBinding b) := by
  unfold dropBinding
  split
  · exact .refl s
  · refine (s.releaseBinding_noNewRecovery b).trans (.foldl (fun s p => ?_) _ _)
    dsimp only
    split
    · exact .of_eq rfl
    · exact NoNewRecovery.trans (t := s.advanceGen p) (.of_eq rfl) (partOff_noNewRecovery ..)

theorem State.dropBundle_noNewRecovery (s : State) (k : Nat) : NoNewRecovery s (s.dropBundle k) := by
  unfold dropBundle
  split
  · exact .refl s
  · next x _ =>
    exact ((s.drainLease_noNewRecovery x.copy1).trans (drainLease_noNewRecovery _ x.copy2)).trans (.of_eq rfl)

theorem State.reapOwners_noNewRecovery (s : State) : NoNewRecovery s s.reapOwners := by
  refine .of_eq ?_
  unfold reapOwners
  dsimp only
  split
  · split <;> rfl
  · rfl

theorem State.closeOwner_noNewRecovery (s : State) (o : Nat) : NoNewRecovery s (s.closeOwner o) := by
  unfold closeOwner
  extract_lets s1 s2 s3 s4
  have h1 : NoNewRecovery s s1 := .foldl (fun s (x : Nat × Binding) => s.dropBinding_noNewRecovery x.1) _ s
  have h2 : NoNewRecovery s s2 := h1.trans (.foldl (fun s (x : Nat × Ctx) => s.freeCtx_noNewRecovery x.1) _ s1)
  have h3 : NoNewRecovery s s3 := h2.trans (.foldl (fun s k => .of_eq (by split <;> rfl)) _ s2)
  exact (h3.trans (.foldl (fun s (x : Nat × Bundle) => s.dropBundle_noNewRecovery x.1) _ s3)).trans
    s4.reapOwners_noNewRecovery

theorem State.endCmd_noNewRecovery (s : State) (reason : Nat) : NoNewRecovery s (s.endCmd reason) := by
  unfold endCmd
  split
  · unfold finishCmd
    extract_lets s1 _ _ s2
    have h2 : NoNewRecovery s s2 := .of_eq rfl
    exact (h2.trans (s2.msixSend_endsOnly 1024).noNewRecovery).trans
      (.foldl (fun s o => s.closeOwner_noNewRecovery o) _ _)
  · exact .of_eq rfl

theorem State.reapDisplaced_noNewRecovery (s : State) : NoNewRecovery s s.reapDisplaced :=
  .foldl (fun s (x : Nat × Binding) => s.releaseBinding_noNewRecovery x.1) _ s

theorem State.moveCtx_noNewRecovery (s : State) (c target : Nat) : NoNewRecovery s (s.moveCtx c target) := by
  refine .of_eq ?_
  unfold moveCtx
  split
  · dsimp only
    split <;> rfl
  · rfl

theorem State.settle_noNewRecovery (s : State) : NoNewRecovery s s.settle := by
  unfold settle
  split
  · split
    · exact ((s.freeCtx_noNewRecovery _).trans (reapDisplaced_noNewRecovery _)).trans (endCmd_noNewRecovery ..)
    · exact .refl s
  · split
    · exact (((s.moveCtx_noNewRecovery _ _).trans
        (EndsOnly.of_onlyFields (syncCtx_onlyFields ..)).noNewRecovery).trans
        (reapDisplaced_noNewRecovery _)).trans (endCmd_noNewRecovery ..)
    · exact .refl s
  · exact .refl s

theorem contextAbortDone_ends {s : State} {b : BindIx} (h : .contextAbort b ∈ s.recoveries) :
    Completes (.contextAbortDone b) s fun t => .contextAbort b ∉ t.recoveries := by
  have hne : .contextAbort b ∉ (s.endRecovery (.contextAbort b)).recoveries := by
    simp [State.endRecovery]
  have hc : s.recoveries.contains (.contextAbort b) = true := by simpa using h
  simp only [Completes, exec, execContextAbortDone, hc, if_true]
  split
  · next x _ =>
    refine ⟨_, rfl, fun hb => hne ?_⟩
    have hw : NoNewRecovery (s.endRecovery (.contextAbort b))
        ((s.endRecovery (.contextAbort b)).wrAll I.faultLive x.parts 0) := by
      refine .of_eq ?_
      rw [(State.wrAll_onlyFields ..).1]
    exact (hw.trans (State.settle_noNewRecovery _)).mem _ hb
  · exact ⟨_, rfl, fun hb => hne ((State.settle_noNewRecovery _).mem _ hb)⟩

theorem exec_contextAbortDone_none {s : State} {b : BindIx} (h : .contextAbort b ∉ s.recoveries) :
    exec (.contextAbortDone b) s = .next s := by
  have hc : s.recoveries.contains (.contextAbort b) = false := by simpa using h
  simp only [exec, execContextAbortDone, hc, Bool.false_eq_true, if_false]

/-! ### `PART_CTRL_WRITE` -/

theorem field_single (v : Word) (k : Nat) : field v.toNat k k = bit (v.getLsbD k) := by
  simp [field, BitVec.getLsbD, ← Nat.toNat_testBit, bit, Bool.toNat, Bool.cond_eq_ite]

theorem partCtrlWrite_sets {path : Path} {s : State} (v : Word) (h : s.rd F.PART_SEL_SEL (pathIx path) < 16) :
    Completes (.partCtrlWrite path v) s fun t =>
      t.rd F.PART_CTRL_SWEEP_NEXT (s.rd F.PART_SEL_SEL (pathIx path)) = bit (v.getLsbD 0) ∧
      t.rd F.PART_CTRL_AUTO_REPAIR (s.rd F.PART_SEL_SEL (pathIx path)) = bit (v.getLsbD 1) ∧
      OnlyRegs s t [(F.PART_CTRL_SWEEP_NEXT, s.rd F.PART_SEL_SEL (pathIx path)),
        (F.PART_CTRL_AUTO_REPAIR, s.rd F.PART_SEL_SEL (pathIx path))] := by
  have hbit (k : Nat) : bit (v.getLsbD k) < 2 := by unfold bit; split <;> omega
  simp only [Completes, exec, execPartCtrlWrite, h, if_true, field_single]
  refine ⟨_, rfl, ?_, ?_, ?_⟩
  · exact (State.rd_wr_same ..).trans (Nat.mod_eq_of_lt (hbit 0))
  · rw [State.rd_wr_id _ _ _ _ (by decide)]
    exact (State.rd_wr_same ..).trans (Nat.mod_eq_of_lt (hbit 1))
  · exact ((onlyRegs_wr ..).mono (by simp)).wr _ _ _ (by simp)

/-! ### A partition bound again (R53) -/

/-- Partition `p` goes to a state with its array on or off, its scratch zero; its generation, its count of good
clusters and the memories stay. -/
structure PartBecomes (s t : State) (p state arrOn : Nat) : Prop where
  state : t.rd F.PART_STATE_STATE p = state
  arrOn : t.rd F.PART_STATE_ARR_ON p = arrOn
  zero : ScratchZero t p
  gen : t.rd F.PART_GEN_GEN p = s.rd F.PART_GEN_GEN p
  clusters : t.rd F.PART_CLUSTERS_OK_CLUSTERS_OK p = s.rd F.PART_CLUSTERS_OK_CLUSTERS_OK p
  beam : t.beam = s.beam
  hbm : t.hbm = s.hbm
  flash : t.stw.flash = s.stw.flash

/-- Registers that matter to `PartBecomes` are not written after the partition's own. -/
theorem PartBecomes.after {s t u : State} {p state arrOn : Nat} (h : PartBecomes s t p state arrOn)
    {l : List Fld} (hu : SameButFields t u l) (hl : ∀ f ∈ [F.PART_STATE_STATE, F.PART_STATE_ARR_ON,
      F.PART_GEN_GEN, F.PART_CLUSTERS_OK_CLUSTERS_OK], ∀ x ∈ l, f.id ≠ x.id)
    (hscratch : u.arr.scratch = t.arr.scratch) (hbeam : u.beam = t.beam) (hhbm : u.hbm = t.hbm)
    (hflash : u.stw.flash = t.stw.flash) : PartBecomes s u p state arrOn where
  state := (hu _ _ (hl _ (by simp))).trans h.state
  arrOn := (hu _ _ (hl _ (by simp))).trans h.arrOn
  zero := h.zero.of_scratch hscratch
  gen := (hu _ _ (hl _ (by simp))).trans h.gen
  clusters := (hu _ _ (hl _ (by simp))).trans h.clusters
  beam := hbeam.trans h.beam
  hbm := hhbm.trans h.hbm
  flash := hflash.trans h.flash

/-- The partition's own part of a binding that cannot run. -/
def State.stopPart (s : State) (p state : Nat) : State :=
  (((s.clearArray p).wr F.PART_STATE_STATE p state).wr F.PART_STATE_ARR_ON p 0).wr F.PART_CLUSTERS_OK_VARIANT p 0

theorem State.stopPart_partBecomes (s : State) {p state : Nat} (h : state < 16) :
    PartBecomes s (s.stopPart p state) p state 0 := by
  have hs : state % F.PART_STATE_STATE.size = state := Nat.mod_eq_of_lt h
  have hclear (f : Fld) : (s.clearArray p).rd f p = s.rd f p := rfl
  unfold stopPart
  constructor
  case zero => exact (s.scratchZero_clearArray p).of_scratch rfl
  case state | arrOn | gen | clusters =>
    simp (disch := decide) only [rd_wr_id, rd_wr_same, hs, hclear, Nat.zero_mod]
  case beam | hbm | flash => rfl

/-- The contexts of a binding HELD, but those that are closing or free. -/
def State.holdCtxs (s : State) (cs : List Nat) : State :=
  cs.foldl (fun s c =>
    let st := s.rd F.CTX_STATE_STATE c
    if st = 1 ∨ st = 2 ∨ st = 3 ∨ st = 4 then s.holdCtx c 1 else s) s

def holdFields : List Fld := [F.CTX_STATE_STATE, F.CTX_STATE_HOLD_CAUSE]

theorem State.holdCtxs_onlyFields (s : State) (cs : List Nat) : OnlyFields s (s.holdCtxs cs) holdFields :=
  .foldl _ (fun _ c _ => .ite ((onlyFields_wr _ _ _ _ (by decide)).wr _ _ _ (by decide)) (.refl _ _)) s

theorem State.cannotRun_partBecomes (s : State) (b : Nat) {p state : Nat} (h : state < 16) :
    PartBecomes s (s.cannotRun b p state) p state 0 := by
  unfold cannotRun
  extract_lets s1 s2 s3 s4
  have h2 : PartBecomes s s2 p state 0 := s.stopPart_partBecomes h
  have h3 : PartBecomes s s3 p state 0 := by
    dsimp only [s3]
    split
    · exact h2.after (l := []) (.of_regs rfl _) (by simp) rfl rfl rfl rfl
    · exact h2
  have h4 : PartBecomes s s4 p state 0 := by
    obtain ⟨heq, hfields⟩ : OnlyFields s3 s4 holdFields := s3.holdCtxs_onlyFields _
    exact h3.after hfields (by decide) (by rw [heq]) (by rw [heq]) (by rw [heq]) (by rw [heq])
  clear_value s4
  have hf := s4.fault_eq p (src := 86) (by decide)
  have h5 := h4.after (s4.fault_frame (src := 86) p (by decide)) (by decide) (by rw [hf]) (by rw [hf])
    (by rw [hf]) (by rw [hf])
  have he (ev : List Byte) := (s4.fault 86 p).event_eq 5 ev
  exact h5.after ((s4.fault 86 p).event_frame 5 _) (by decide) (by rw [he]) (by rw [he]) (by rw [he]) (by rw [he])

theorem State.rd_seedLanes (s : State) (p : Nat) {f : Fld} (i : Nat)
    (hf : I.srFixed.id ≠ f.id ∧ I.srSeed.id ≠ f.id) : (s.seedLanes p).rd f i = s.rd f i := by
  obtain ⟨hfixed, hseed⟩ := hf
  exact (State.rd_wr_id _ _ _ _ hseed).trans (s.rd_wr_id _ _ _ hfixed)

theorem State.placeSchedule_partBecomes (s : State) (p owner : Nat) :
    PartBecomes s (s.placeSchedule p owner) p 2 1 := by
  have hclear (f : Fld) : (s.clearArray p).rd f p = s.rd f p := rfl
  constructor
  case zero => exact (s.scratchZero_clearArray p).of_scratch rfl
  case state | arrOn =>
    simp (disch := decide) only [placeSchedule, rd_wr_id, rd_wr_same]
    rfl
  case gen | clusters => simp (disch := decide) only [placeSchedule, rd_wr_id, rd_seedLanes, hclear]
  case beam | hbm | flash => simp only [placeSchedule, seedLanes, clearArray, clearCores, wr]

/-- The outcome of a partition bound again (R53, R47). -/
theorem State.bindAgain_partBecomes {s : State} {b : Nat} {x : Binding} {h : Bundle} (hb : s.binding? b = some x)
    (hh : s.bundle? x.handle = some h) (p : Nat) :
    let n := s.rd F.PART_CLUSTERS_OK_CLUSTERS_OK p
    (n < 96 → PartBecomes s (s.bindAgain b p) p 7 0) ∧
    (¬ n < 96 → hasVariant h.hdr n = false → PartBecomes s (s.bindAgain b p) p 0 0) ∧
    (¬ n < 96 → hasVariant h.hdr n = true → PartBecomes s (s.bindAgain b p) p 2 1) := by
  intro n
  simp only [bindAgain, hb, hh, Option.any_some]
  refine ⟨fun hn => ?_, fun hn hv => ?_, fun hn hv => ?_⟩
  · rw [if_pos hn]
    exact s.cannotRun_partBecomes b (by omega)
  · rw [if_neg hn, if_pos (by rw [hv]; rfl)]
    exact s.cannotRun_partBecomes b (by omega)
  · rw [if_neg hn, if_neg (by rw [hv]; decide)]
    exact (s.placeSchedule_partBecomes p x.owner).after (l := []) (.of_regs rfl _) (by simp) rfl rfl rfl rfl

/-- The partition's generation advanced, its array cleared, its map decided anew. -/
def State.redecide (s : State) (b : Nat) (x : Binding) (p : Part) : State :=
  (((s.setBinding b { x with phase := .loading }).advanceGen p.val).clearArray p.val).repairDecision p

theorem exec_repairRebind {s : State} {p : Part} {b : BindIx} {x : Binding} (hb : s.bindOf p.val = some b)
    (hx : s.binding? b.val = some x) (hphase : x.phase = .repair) (habort : .contextAbort b ∉ s.recoveries)
    (hst : s.rd F.PART_STATE_STATE p.val = 3) :
    exec (.repairRebind p) s = .next ((s.redecide b.val x p).bindAgain b.val p.val) := by
  have hc : s.recoveries.contains (.contextAbort b) = false := by simpa using habort
  simp only [exec, execRepairRebind, hb, hx, hphase, hc, hst, Bool.not_false, and_self, if_true]
  rfl

theorem exec_repairRebind_notBound {s : State} {p : Part} (h : s.rd F.PART_STATE_STATE p.val ≠ 3) :
    exec (.repairRebind p) s = .next s := by
  simp only [exec, execRepairRebind, h, and_false, if_false]
  split
  · rfl
  · split <;> rfl

theorem State.redecide_kept (s : State) (b : Nat) (x : Binding) (p : Part) :
    let t := s.redecide b x p
    t.rd F.PART_GEN_GEN p.val = (s.rd F.PART_GEN_GEN p.val + 1) % 64 ∧
    t.binding? b = some { x with phase := .loading } ∧ (∀ k, t.bundle? k = s.bundle? k) ∧
    t.beam = s.beam ∧ t.hbm = s.hbm ∧ t.stw.flash = s.stw.flash := by
  intro t
  let u := ((s.setBinding b { x with phase := .loading }).advanceGen p.val).clearArray p.val
  have ht : DecidesOnly u t := u.repairDecision_only p
  refine ⟨?_, ?_, fun k => ?_, ?_, ?_, ?_⟩
  · exact (u.repairDecision_fields p _ _ (by decide)).trans (rd_wr_same ..)
  · exact (congrArg (fun t : State => t.binding? b) ht).trans (s.binding?_setBinding ..)
  all_goals rw [show t = _ from ht]; rfl

/-- The repair re-bind (R53): the generation, the partition's state by its good clusters, and the memories. -/
theorem repairRebind_rebinds {s : State} {p : Part} {b : BindIx} {x : Binding} {h : Bundle}
    (hb : s.bindOf p.val = some b) (hx : s.binding? b.val = some x) (hh : s.bundle? x.handle = some h)
    (hphase : x.phase = .repair) (habort : .contextAbort b ∉ s.recoveries)
    (hst : s.rd F.PART_STATE_STATE p.val = 3) :
    Completes (.repairRebind p) s fun t =>
      t.rd F.PART_GEN_GEN p.val = (s.rd F.PART_GEN_GEN p.val + 1) % 64 ∧
      (let n := t.rd F.PART_CLUSTERS_OK_CLUSTERS_OK p.val
       if n < 96 then t.rd F.PART_STATE_STATE p.val = 7 ∧ t.rd F.PART_STATE_ARR_ON p.val = 0
       else if hasVariant h.hdr n = false then
         t.rd F.PART_STATE_STATE p.val = 0 ∧ t.rd F.PART_STATE_ARR_ON p.val = 0
       else t.rd F.PART_STATE_STATE p.val = 2 ∧ t.rd F.PART_STATE_ARR_ON p.val = 1) ∧
      (∀ (c : CoreId) (o : Nat), c.part = p → o < 24576 → t.scratchByte c o = 0) ∧
      t.beam = s.beam ∧ t.hbm = s.hbm ∧ t.stw.flash = s.stw.flash := by
  obtain ⟨hgen, hbind, hbundle, hbeam, hhbm, hflash⟩ := s.redecide_kept b.val x p
  refine ⟨_, exec_repairRebind hb hx hphase habort hst, ?_⟩
  obtain ⟨hfew, hnone, hsome⟩ := State.bindAgain_partBecomes (h := h) hbind ((hbundle x.handle).trans hh) p.val
  generalize s.redecide b.val x p = u at *
  have hcase : ∃ st on, PartBecomes u (u.bindAgain b.val p.val) p.val st on ∧
      (if u.rd F.PART_CLUSTERS_OK_CLUSTERS_OK p.val < 96 then st = 7 ∧ on = 0
       else if hasVariant h.hdr (u.rd F.PART_CLUSTERS_OK_CLUSTERS_OK p.val) = false then st = 0 ∧ on = 0
       else st = 2 ∧ on = 1) := by
    by_cases hn : u.rd F.PART_CLUSTERS_OK_CLUSTERS_OK p.val < 96
    · exact ⟨7, 0, hfew hn, by simp [hn]⟩
    · cases hv : hasVariant h.hdr (u.rd F.PART_CLUSTERS_OK_CLUSTERS_OK p.val) with
      | false => exact ⟨0, 0, hnone hn hv, by simp [hn]⟩
      | true => exact ⟨2, 1, hsome hn hv, by simp [hn]⟩
  obtain ⟨st, on, hp, hst⟩ := hcase
  refine ⟨hp.gen.trans hgen, ?_, fun c o hc => hp.zero c o (congrArg Fin.val hc), hp.beam.trans hbeam,
    hp.hbm.trans hhbm, hp.flash.trans hflash⟩
  rw [hp.clusters, hp.state, hp.arrOn]
  exact hst

/-- Settles O5: a core fault under a running frame is `State.coreFault_frameLost`; of what follows, the end of the
abort is `contextAbortDone_ends` and the re-bind `repairRebind_rebinds`. -/
theorem coreFaultsAbortFramesAndRepair : Obligations.CoreFaultsAbortFramesAndRepair := by
  refine ⟨fun c line il s b x hst hb hr => ⟨?_, ?_, fun hl => ?_⟩, fun b s => ?_, ?_, fun p s => ?_,
    fun path v s => ⟨partCtrlWrite_sets v, fun hp => ?_⟩⟩
  · exact ⟨_, exec_scratchUe s c line,
      (State.coreFault_frameLost (s := s.poisonLine _) (cause := 1) hst hb hr (by omega)).spec⟩
  · exact ⟨_, exec_residueMismatch s c, (State.coreFault_frameLost (cause := 2) hst hb hr (by omega)).spec⟩
  · exact ⟨_, exec_instrParityError_again hl,
      (State.coreFault_frameLost (s := s.dropParity _) (cause := 3) hst hb hr (by omega)).spec⟩
  · exact ⟨contextAbortDone_ends, exec_contextAbortDone_none⟩
  · exact fun p b x h s hb hx hh hphase habort hst => repairRebind_rebinds hb hx hh hphase habort hst
  · exact exec_repairRebind_notBound
  · simp only [exec, execPartCtrlWrite, if_neg (Nat.not_lt.2 hp)]

end Sys2Proof.Machine

/-! PROOFS. The matrix engine's pass (O6). -/

section

/-- A fold over a list with its positions: what holds before position `k` is visited and what the visit
establishes, when no other position disturbs either. -/
theorem List.foldl_zipIdx_visits {α σ : Type} {f : σ → α × Nat → σ} {l : List α} {k : Nat} {a : α}
    {Before After : σ → Prop} (hk : l[k]? = some a)
    (hbefore : ∀ s, ∀ y ∈ l.zipIdx, y.2 ≠ k → Before s → Before (f s y)) (hat : ∀ s, Before s → After (f s (a, k)))
    (hafter : ∀ s, ∀ y ∈ l.zipIdx, y.2 ≠ k → After s → After (f s y)) {s : σ} (hs : Before s) :
    After (l.zipIdx.foldl f s) := by
  obtain ⟨hlt, rfl⟩ := List.getElem?_eq_some_iff.1 hk
  have hsplit : l.zipIdx = (l.take k).zipIdx ++ (l[k], k) :: (l.drop (k + 1)).zipIdx (k + 1) := by
    conv => lhs; rw [← List.take_append_drop k l, List.zipIdx_append]
    rw [List.drop_eq_getElem_cons hlt, List.zipIdx_cons, List.length_take, Nat.min_eq_left hlt.le, Nat.zero_add]
  rw [hsplit, List.foldl_append, List.foldl_cons]
  rw [hsplit] at hbefore hafter
  refine List.foldlRecOn _ f (hat _ (List.foldlRecOn _ f hs fun t ht y hy => ?_)) fun t ht y hy => ?_
  · refine hbefore t y (List.mem_append_left _ hy) ?_ ht
    have := (List.mem_zipIdx hy).2.1
    have := List.length_take_le k l
    omega
  · refine hafter t y (List.mem_append_right _ (List.mem_cons_of_mem _ hy)) ?_ ht
    have := (List.mem_zipIdx hy).1
    omega

end

namespace Sys2Proof.Machine

/-! ### The weight registers (R45) -/

/-- One weight column put into its registers, from a base on. -/
def putCodes (base : Nat) (codes : List Nat) (m : SMap Nat) : SMap Nat :=
  codes.zipIdx.foldl (fun m y => if y.2 < 32 then Tab.put m (base + y.2) y.1 0 else m) m

theorem get_putCodes_other {base j : Nat} (h : ∀ q < 32, base + q ≠ j) (codes : List Nat) (m : SMap Nat) :
    Tab.get (putCodes base codes m) j 0 = Tab.get m j 0 := by
  refine List.foldlRecOn (motive := fun m' => Tab.get m' j 0 = Tab.get m j 0) codes.zipIdx _ rfl fun m' hm y _ => ?_
  split
  · next hy => rw [Tab.get_put_other _ (h _ hy), hm]
  · exact hm

theorem get_putCodes_same {base q w : Nat} {codes : List Nat} (hq : q < 32) (hw : codes[q]? = some w) (m : SMap Nat) :
    Tab.get (putCodes base codes m) (base + q) 0 = w := by
  refine List.foldl_zipIdx_visits (Before := fun _ => True) (After := fun m => Tab.get m (base + q) 0 = w) hw
    (fun _ _ _ _ h => h) (fun m' _ => ?_) (fun m' y _ hne hm => ?_) trivial
  · rw [if_pos hq, Tab.get_put_same]
  · split
    · rw [Tab.get_put_other _ (by omega), hm]
    · exact hm

theorem State.loadWeights_eq (s : State) (c : CoreId) {cols : List PassVec} (h : cols.length ≤ 16) :
    s.loadWeights c cols = { s with arr := { s.arr with
      weights := cols.zipIdx.foldl (fun m x => putCodes (coreIx c * 512 + x.2 * 32) x.1.codes m) s.arr.weights } } := by
  unfold loadWeights
  rw [List.take_of_length_le h]
  rfl

/-- The weight registers hold the codes of the columns. -/
theorem State.get_loadWeights (s : State) (c : CoreId) {cols : List PassVec} (h : cols.length ≤ 16) {k q w : Nat}
    {col : PassVec} (hk : cols[k]? = some col) (hq : q < 32) (hw : col.codes[q]? = some w) :
    Tab.get (s.loadWeights c cols).arr.weights (coreIx c * 512 + k * 32 + q) 0 = w := by
  rw [s.loadWeights_eq c h]
  refine List.foldl_zipIdx_visits (Before := fun _ => True)
    (After := fun m => Tab.get m (coreIx c * 512 + k * 32 + q) 0 = w) hk (fun _ _ _ _ h => h)
    (fun m _ => get_putCodes_same hq hw m) (fun m y _ hne hm => ?_) trivial
  rw [get_putCodes_other (by omega), hm]

/-! ### One accumulator entry (R81-R84) -/

/-- What a pass makes of an accumulator entry for one column: its bits, the saturations and the NaNs counted. -/
def passResult (x : Pass) (col : PassVec) (old : Nat) : Nat × Nat × Nat :=
  if x.pair = .int8 then
    let r := ia32Pass old (intProducts x.act col)
    (r.1, bit r.2, 0)
  else
    let r := fa32Pass old (products x.pair x.act col)
    (r.1, bit r.2.1, bit r.2.2)

theorem passResult_saturations (x : Pass) (col : PassVec) (old : Nat) : (passResult x col old).2.1 =
    if x.pair = .int8 then bit (ia32Pass old (intProducts x.act col)).2
    else bit (fa32Pass old (products x.pair x.act col)).2.1 := by
  unfold passResult
  split <;> rfl

theorem passResult_nans (x : Pass) (col : PassVec) (old : Nat) : (passResult x col old).2.2 =
    if x.pair = .int8 then 0 else bit (fa32Pass old (products x.pair x.act col)).2.2 := by
  unfold passResult
  split <;> rfl

theorem State.passColumn_eq (s : State) (c : CoreId) (x : Pass) (col : PassVec) (e : Nat) :
    let r := passResult x col (s.accEntry c e)
    s.passColumn c x col e = (s.setAcc c e r.1).countArith c r.2.1 r.2.2 := by
  unfold passColumn passResult
  cases x.pair <;> rfl

theorem State.accEntry_passColumn_same (s : State) (c : CoreId) (x : Pass) (col : PassVec) (e : Nat) :
    (s.passColumn c x col e).accEntry c e = (passResult x col (s.accEntry c e)).1 := by
  rw [passColumn_eq]
  exact Tab.get_put_same ..

theorem State.accEntry_passColumn_other (s : State) {c d : CoreId} (x : Pass) (col : PassVec) {e j : Nat}
    (he : e < 1024) (hj : j < 1024) (h : d ≠ c ∨ j ≠ e) : (s.passColumn c x col e).accEntry d j = s.accEntry d j := by
  rw [passColumn_eq]
  refine Tab.get_put_other _ (fun hkey => ?_) ..
  have hix : coreIx c = coreIx d := by omega
  obtain hd | hje := h
  · exact hd (coreIx_injective hix.symm)
  · omega

theorem ArithCounted.trans {s t u : State} {c : CoreId} {a b a' b' : Nat} (h : ArithCounted s t c a b)
    (h' : ArithCounted t u c a' b') : ArithCounted s u c (a + a') (b + b') := by
  obtain ⟨hs, hn⟩ := h
  obtain ⟨hs', hn'⟩ := h'
  rw [hs] at hs'
  rw [hn] at hn'
  constructor <;> omega

theorem State.passColumn_counted (s : State) (c : CoreId) (x : Pass) (col : PassVec) (e : Nat) :
    let r := passResult x col (s.accEntry c e)
    ArithCounted s (s.passColumn c x col e) c r.2.1 r.2.2 := by
  rw [passColumn_eq]
  exact arithCounted_countArith ..

/-! ### The columns of a pass -/

/-- What a pass changes beside the weight registers: accumulators and the two counters. -/
def OnlyAcc (s t : State) (c : CoreId) : Prop :=
  t = { s with regs := t.regs, arr := { s.arr with acc := t.arr.acc } } ∧
  SameBut s t [(F.PART_ARITH_STATUS_SAT_COUNT, c.part.val), (F.PART_ARITH_STATUS_NAN_COUNT, c.part.val)]

theorem OnlyAcc.trans {s t u : State} {c : CoreId} (h : OnlyAcc s t c) (h' : OnlyAcc t u c) : OnlyAcc s u c := by
  obtain ⟨ht, hst⟩ := h
  obtain ⟨hu, htu⟩ := h'
  refine ⟨?_, hst.trans htu⟩
  rw [ht] at hu
  exact hu

theorem State.passColumn_onlyAcc (s : State) (c : CoreId) (x : Pass) (col : PassVec) (e : Nat) :
    OnlyAcc s (s.passColumn c x col e) c := by
  rw [passColumn_eq]
  exact OnlyAcc.trans (t := s.setAcc c e _) ⟨rfl, .refl s _⟩
    ⟨(countArith_onlyRegs ..).1, (countArith_onlyRegs ..).2⟩

/-- The columns of a pass, each at its entry. -/
def State.passColumns (s : State) (c : CoreId) (x : Pass) (ys : List (PassVec × Nat)) : State :=
  ys.foldl (fun s y => if x.entry.val + y.2 < 1024 then s.passColumn c x y.1 (x.entry.val + y.2) else s) s

theorem State.passColumns_onlyAcc (s : State) (c : CoreId) (x : Pass) (ys : List (PassVec × Nat)) :
    OnlyAcc s (s.passColumns c x ys) c :=
  List.foldlRecOn (motive := (OnlyAcc s · c)) ys _ ⟨rfl, .refl s _⟩ fun t ht y _ => by
    split
    · exact ht.trans (t.passColumn_onlyAcc ..)
    · exact ht

/-- Entries of other cores, and of no column, read as before. -/
theorem State.accEntry_passColumns_other (s : State) {c d : CoreId} (x : Pass) {ys : List (PassVec × Nat)} {j : Nat}
    (hj : j < 1024) (h : d ≠ c ∨ ∀ y ∈ ys, j ≠ x.entry.val + y.2) :
    (s.passColumns c x ys).accEntry d j = s.accEntry d j :=
  List.foldlRecOn (motive := fun t : State => t.accEntry d j = s.accEntry d j) ys _ rfl fun t ht y hy => by
    split
    · next he => rw [t.accEntry_passColumn_other x _ he hj (h.imp_right (· y hy)), ht]
    · exact ht

/-- The entry of a column holds the pass of its old value. -/
theorem State.accEntry_passColumns_same (s : State) (c : CoreId) (x : Pass) {k : Nat} {col : PassVec}
    (hk : x.cols[k]? = some col) (he : x.entry.val + k < 1024) :
    (s.passColumns c x x.cols.zipIdx).accEntry c (x.entry.val + k) =
      (passResult x col (s.accEntry c (x.entry.val + k))).1 := by
  have hother (v : Nat) (t : State) (y : PassVec × Nat) (hne : y.2 ≠ k)
      (ht : t.accEntry c (x.entry.val + k) = v) :
      (if x.entry.val + y.2 < 1024 then t.passColumn c x y.1 (x.entry.val + y.2) else t).accEntry c
        (x.entry.val + k) = v := by
    split
    · next hy => rw [t.accEntry_passColumn_other x _ hy he (.inr (by omega)), ht]
    · exact ht
  refine List.foldl_zipIdx_visits
    (Before := fun t : State => t.accEntry c (x.entry.val + k) = s.accEntry c (x.entry.val + k))
    (After := fun t : State => t.accEntry c (x.entry.val + k) =
      (passResult x col (s.accEntry c (x.entry.val + k))).1) hk
    (fun t y _ hne => hother _ t y hne) (fun t ht => ?_) (fun t y _ hne => hother _ t y hne) rfl
  rw [if_pos he, t.accEntry_passColumn_same, ht]

/-- The counters rise by what each column counts of its entry's old value. -/
theorem State.passColumns_counted (s : State) (c : CoreId) (x : Pass) {ys : List (PassVec × Nat)}
    (hnd : (ys.map Prod.snd).Nodup) (he : ∀ y ∈ ys, x.entry.val + y.2 < 1024) :
    ArithCounted s (s.passColumns c x ys) c
      (ys.map fun y => (passResult x y.1 (s.accEntry c (x.entry.val + y.2))).2.1).sum
      (ys.map fun y => (passResult x y.1 (s.accEntry c (x.entry.val + y.2))).2.2).sum := by
  induction ys generalizing s with
  | nil => exact ⟨(Nat.min_eq_left (Nat.le_of_lt_succ (s.rd_lt ..))).symm,
      (Nat.min_eq_left (Nat.le_of_lt_succ (s.rd_lt ..))).symm⟩
  | cons y ys ih =>
    obtain ⟨hy, hnd⟩ := List.nodup_cons.1 hnd
    have hey := he y (by simp)
    have hold : ∀ z ∈ ys, (s.passColumn c x y.1 (x.entry.val + y.2)).accEntry c (x.entry.val + z.2) =
        s.accEntry c (x.entry.val + z.2) := by
      intro z hz
      refine s.accEntry_passColumn_other x _ hey (he z (by simp [hz])) (.inr fun heq => hy ?_)
      exact List.mem_map.2 ⟨z, hz, by omega⟩
    have hrest := ih (s.passColumn c x y.1 (x.entry.val + y.2)) hnd fun z hz => he z (by simp [hz])
    have hmap {β : Type} (g : Nat × Nat × Nat → β) : (ys.map fun z => g (passResult x z.1
        ((s.passColumn c x y.1 (x.entry.val + y.2)).accEntry c (x.entry.val + z.2)))) =
        ys.map fun z => g (passResult x z.1 (s.accEntry c (x.entry.val + z.2))) :=
      List.map_congr_left fun z hz => by rw [hold z hz]
    rw [hmap fun r => r.2.1, hmap fun r => r.2.2] at hrest
    have hfirst := s.passColumn_counted c x y.1 (x.entry.val + y.2)
    have heq : s.passColumns c x (y :: ys) =
        (s.passColumn c x y.1 (x.entry.val + y.2)).passColumns c x ys := by
      simp only [passColumns, List.foldl_cons, if_pos hey]
    rw [heq]
    exact ArithCounted.trans hfirst hrest

/-! ### `MATRIX_PASS` -/

theorem exec_matrixPass (c : CoreId) (x : Pass) (s : State) :
    exec (.matrixPass c x) s = .next ((s.loadWeights c x.cols).passColumns c x x.cols.zipIdx) := rfl

theorem passWf_iff (c : CoreId) (x : Pass) (h : WellFormed.ok (.matrixPass c x) = true) :
    (∀ col ∈ x.cols, col.codes.length ≤ 32) ∧ x.cols.length ≤ 16 ∧ x.entry.val + x.cols.length ≤ 1024 := by
  have hw : WellFormed.passWf x = true := h
  simp only [WellFormed.passWf, Bool.and_eq_true, List.all_eq_true, decide_eq_true_eq] at hw
  obtain ⟨⟨-, hcols⟩, -, hlen, hfits⟩ := hw
  refine ⟨fun col hcol => ?_, hlen, hfits⟩
  have hk : passK x.pair ≤ 32 := by unfold passK; split <;> omega
  have := hcols col hcol
  simp only [WellFormed.passVecWf, Bool.and_eq_true, beq_iff_eq] at this
  omega

/-- Settles O6: the columns write distinct entries, so each sees its entry's old value
(`State.accEntry_passColumns_same`, `State.passColumns_counted`). -/
theorem matrixPassUpdatesItsAccumulators : Obligations.MatrixPassUpdatesItsAccumulators := by
  intro c x s hwf
  obtain ⟨hcodes, hlen, hfits⟩ := passWf_iff c x hwf
  have hacc : ∀ (d : CoreId) (e : Nat), (s.loadWeights c x.cols).accEntry d e = s.accEntry d e := fun _ _ => rfl
  obtain ⟨heq, hregs⟩ := (s.loadWeights c x.cols).passColumns_onlyAcc c x x.cols.zipIdx
  have hix : ∀ y ∈ x.cols.zipIdx, y.2 < x.cols.length := fun y hy => by
    have := (List.mem_zipIdx hy).2.1
    omega
  refine ⟨_, exec_matrixPass c x s, fun k col hk => ?_, fun d e he hout => ?_, fun k q w col hk hq => ?_, ?_, ?_, hregs⟩
  · have hlt := (List.getElem?_eq_some_iff.1 hk).1
    rw [State.accEntry_passColumns_same _ c x hk (by omega), hacc]
    unfold passResult
    split <;> rfl
  · rw [State.accEntry_passColumns_other _ x he (hout.imp_right fun h y hy => ?_), hacc]
    have := hix y hy
    omega
  · have hmem := List.mem_of_getElem? hk
    have hq32 := (List.getElem?_eq_some_iff.1 hq).1
    have := hcodes col hmem
    rw [heq]
    exact s.get_loadWeights c hlen hk (by omega) hq
  · have hcount := (s.loadWeights c x.cols).passColumns_counted c x (ys := x.cols.zipIdx)
      (by simp [List.nodup_range']) (fun y hy => by have := hix y hy; omega)
    simp only [passResult_saturations, passResult_nans, hacc] at hcount
    exact hcount
  · rw [heq]
    rfl

end Sys2Proof.Machine

namespace Sys2Proof.Machine
/-! PROOFS. Vector operations (O8). -/

/-! ### A comparison's predicate bits (R38, R90) -/

theorem testBit_clearBit (m k j : Nat) : (clearBit m k).testBit j = (!decide (j = k) && m.testBit j) := by
  unfold clearBit
  split
  · next h =>
    have hm : m - 2 ^ k + 2 ^ k = m := Nat.sub_add_cancel (Nat.ge_two_pow_of_testBit h)
    have hk : (m - 2 ^ k).testBit k = false := by
      have := Nat.testBit_two_pow_add_eq (m - 2 ^ k) k
      rw [Nat.add_comm, hm, h] at this
      simpa using this.symm
    have hj := testBit_add_two_pow_of_clear hk j
    rw [hm] at hj
    rw [hj]
    by_cases hjk : j = k
    · simp [hjk, hk]
    · simp [hjk]
  · next h =>
    by_cases hjk : j = k
    · simpa [hjk] using h
    · simp [hjk]

/-- The low `k` bits of a predicate register after a comparison of `n` elements from bit `dst` on. -/
def comparePreds (k dst n : Nat) (r : Nat → Bool) (m : Nat) : Nat :=
  (List.range k).foldl (fun m i =>
    if dst ≤ i ∧ i - dst < n then if r (i - dst) then setBit m i else clearBit m i else m) m

theorem testBit_comparePreds (k dst n : Nat) (r : Nat → Bool) (m i : Nat) :
    (comparePreds k dst n r m).testBit i =
      if i < k ∧ dst ≤ i ∧ i < dst + n then r (i - dst) else m.testBit i := by
  induction k with
  | zero => simp [comparePreds]
  | succ k ih =>
    have hstep (b : Bool) (v : Nat) : (if b then setBit v k else clearBit v k).testBit i =
        if i = k then b else v.testBit i := by
      cases b <;> by_cases hik : i = k <;> simp [testBit_setBit_eq, testBit_clearBit, hik]
    have hsucc : comparePreds (k + 1) dst n r m =
        if dst ≤ k ∧ k - dst < n then
          if r (k - dst) then setBit (comparePreds k dst n r m) k else clearBit (comparePreds k dst n r m) k
        else comparePreds k dst n r m := by
      simp only [comparePreds, List.range_succ, List.foldl_append, List.foldl_cons, List.foldl_nil]
    rw [hsucc]
    by_cases hk : dst ≤ k ∧ k - dst < n
    · rw [if_pos hk, hstep, ih]
      by_cases hik : i = k
      · subst hik
        rw [if_pos rfl, if_pos (by omega)]
      · rw [if_neg hik]
        exact if_congr (by omega) rfl rfl
    · rw [if_neg hk, ih]
      exact if_congr (by omega) rfl rfl

theorem exec_vectorOp_compare (c : CoreId) (k : CmpOp) (half : Bool) (x y z : List Word) (dst : Nat) (s : State) :
    exec (.vectorOp c (.compare k) half x y z dst) s = .next { s with arr := { s.arr with
      preds := Tab.put s.arr.preds (coreIx c) (comparePreds 8 dst x.length (fun j => compareFp k
        (vectorWord half (x.getD j 0)) (vectorWord half (y.getD j 0))) (Tab.get s.arr.preds (coreIx c) 0)) 0 } } := rfl

/-! ### One element of any other operation (R90): a value, after draws -/

/-- Nothing but values left open by the manual has been drawn. -/
def OnlyDraws (s t : State) : Prop := t = { s with free := t.free } ∧ s.free ≤ t.free

theorem OnlyDraws.refl (s : State) : OnlyDraws s s := ⟨rfl, le_rfl⟩

theorem OnlyDraws.trans {s t u : State} (h : OnlyDraws s t) (h' : OnlyDraws t u) : OnlyDraws s u := by
  obtain ⟨ht, hst⟩ := h
  obtain ⟨hu, htu⟩ := h'
  rw [ht] at hu
  exact ⟨hu, hst.trans htu⟩

theorem State.draw_onlyDraws (s : State) : OnlyDraws s s.draw.2 := ⟨rfl, Nat.le_succ _⟩

theorem State.drawNan_onlyDraws (s : State) : OnlyDraws s s.drawNan.2 := s.draw_onlyDraws

theorem State.drawWord_onlyDraws (s : State) : OnlyDraws s s.drawWord.2 := s.draw_onlyDraws

theorem State.drawNear_onlyDraws (s : State) (ok : Nat → Bool) (v : Nat) : OnlyDraws s (s.drawNear ok v).2 :=
  s.draw_onlyDraws

theorem State.rounded_onlyDraws (s : State) (x : Num) : OnlyDraws s (s.rounded x).2 := by
  cases x with
  | nan => exact s.drawNan_onlyDraws
  | inf | fin => exact .refl s

theorem State.minMax_onlyDraws (s : State) (max : Bool) (x y : Nat) : OnlyDraws s (s.minMax max x y).2 := by
  unfold minMax
  dsimp only
  split
  · exact s.drawNan_onlyDraws
  · split
    · exact .refl s
    · split
      · exact .refl s
      · split
        · exact s.draw_onlyDraws
        · exact .refl s

theorem State.quotient_onlyDraws (s : State) (neg : Bool) (m : Nat) (e : Int) (n : Nat) (f : Int) (tol : Nat) :
    OnlyDraws s (s.quotient neg m e n f tol).2 := by
  unfold quotient
  split
  · exact s.drawWord_onlyDraws
  · dsimp only
    split
    · exact s.drawWord_onlyDraws
    · exact s.drawNear_onlyDraws ..

/-- The operations of one operand: NaN to NaN, a finite value by its rule, an infinity to a free word. -/
theorem OnlyDraws.unary {s : State} {a : Num} {g : Bool → Nat → Int → Nat × State}
    (hg : ∀ neg m e, OnlyDraws s (g neg m e).2) :
    OnlyDraws s (match a with
      | .nan _ => s.drawNan
      | .fin neg m e => g neg m e
      | .inf _ => s.drawWord).2 := by
  cases a with
  | nan => exact s.drawNan_onlyDraws
  | fin => exact hg ..
  | inf => exact s.drawWord_onlyDraws

theorem State.vectorElem_onlyDraws (s : State) (op : VOp) (x y z : Nat) :
    OnlyDraws s (s.vectorElem op x y z).2 := by
  cases op with
  | add | sub | mul | fma => exact s.rounded_onlyDraws _
  | compare => exact .refl s
  | min | max => exact s.minMax_onlyDraws ..
  | div =>
    simp only [vectorElem]
    split
    · exact s.drawNan_onlyDraws
    · split
      · exact s.quotient_onlyDraws ..
      · exact s.drawWord_onlyDraws
  | recip => exact .unary fun neg m e => s.quotient_onlyDraws ..
  | sqrt =>
    refine .unary fun neg m e => ?_
    split
    · exact s.drawNear_onlyDraws ..
    · split
      · exact s.drawWord_onlyDraws
      · exact s.drawNear_onlyDraws ..
  | rsqrt =>
    refine .unary fun neg m e => ?_
    split
    · exact s.drawWord_onlyDraws
    · exact s.drawNear_onlyDraws ..
  | exp2 =>
    refine .unary fun neg m e => ?_
    dsimp only
    split
    · exact s.drawWord_onlyDraws
    · exact s.drawNear_onlyDraws ..
  | log2 =>
    refine .unary fun neg m e => ?_
    split
    · exact s.drawWord_onlyDraws
    · exact s.drawNear_onlyDraws ..
  | fn f => exact .unary fun neg m e => s.drawNear_onlyDraws ..

/-! ### The elements of any other operation -/

/-- One element more: its result after those before, its draws after theirs. -/
def vectorStep (op : VOp) (half : Bool) (y z : List Word) (a : List Nat × State) (w : Word × Nat) :
    List Nat × State :=
  let v := a.2.vectorElem op (vectorWord half w.1) (vectorWord half (y.getD w.2 0)) (vectorWord half (z.getD w.2 0))
  (a.1 ++ [v.1], v.2)

/-- The results of an operation in order, and the state after the draws. -/
def State.vectorElems (s : State) (op : VOp) (half : Bool) (x y z : List Word) : List Nat × State :=
  x.zipIdx.foldl (vectorStep op half y z) ([], s)

theorem vectorStep_foldl (op : VOp) (half : Bool) (y z : List Word) (ws : List (Word × Nat)) (a : List Nat × State) :
    (ws.foldl (vectorStep op half y z) a).1.length = a.1.length + ws.length ∧
    OnlyDraws a.2 (ws.foldl (vectorStep op half y z) a).2 := by
  induction ws generalizing a with
  | nil => exact ⟨rfl, .refl _⟩
  | cons w ws ih =>
    obtain ⟨hlen, hdraws⟩ := ih (vectorStep op half y z a w)
    refine ⟨?_, OnlyDraws.trans (a.2.vectorElem_onlyDraws ..) hdraws⟩
    rw [List.foldl_cons, hlen, vectorStep, List.length_append, List.length_singleton, List.length_cons]
    omega

theorem State.vectorElems_length (s : State) (op : VOp) (half : Bool) (x y z : List Word) :
    (s.vectorElems op half x y z).1.length = x.length := by
  rw [vectorElems, (vectorStep_foldl ..).1, List.length_zipIdx, List.length_nil, Nat.zero_add]

theorem State.vectorElems_onlyDraws (s : State) (op : VOp) (half : Bool) (x y z : List Word) :
    OnlyDraws s (s.vectorElems op half x y z).2 := (vectorStep_foldl ..).2

/-- The elements of `x`, of which the first is at position `n`, have the results `r` in every state. -/
def ResultsAre (op : VOp) (half : Bool) (x y z : List Word) (n : Nat) (r : List Nat) : Prop :=
  ∀ i < x.length, ∀ u : State, u.vectorElem op (vectorWord half (x.getD i 0)) (vectorWord half (y.getD (n + i) 0))
    (vectorWord half (z.getD (n + i) 0)) = (r.getD i 0, u)

/-- Where no draw enters, the results are those given and the state stays. -/
theorem vectorStep_foldl_fixed {op : VOp} {half : Bool} {x y z : List Word} {n : Nat} {r : List Nat}
    (hlen : r.length = x.length) (h : ResultsAre op half x y z n r) (a : List Nat × State) :
    (x.zipIdx n).foldl (vectorStep op half y z) a = (a.1 ++ r, a.2) := by
  induction x generalizing n r a with
  | nil =>
    obtain rfl := List.length_eq_zero_iff.1 hlen
    simp
  | cons w x ih =>
    obtain ⟨v, r, rfl⟩ := List.exists_cons_of_length_eq_add_one hlen
    have hhead : vectorStep op half y z a (w, n) = (a.1 ++ [v], a.2) := by
      have := h 0 (by simp) a.2
      simp only [List.getD_cons_zero, Nat.add_zero] at this
      simp only [vectorStep, this]
    have htail : ResultsAre op half x y z (n + 1) r := fun i hi u => by
      have := h (i + 1) (by simpa using hi) u
      rwa [List.getD_cons_succ, List.getD_cons_succ, Nat.add_comm i 1, ← Nat.add_assoc] at this
    rw [List.zipIdx_cons, List.foldl_cons, hhead, ih (by simpa using hlen) htail]
    simp

/-- The bytes that an operation's results are stored as. -/
def resultBytes (half : Bool) (r : List Nat) : List Byte :=
  if half then codeBytes 2 (r.map fun v => (convFp bf16 false v).code) else codeBytes 4 r

theorem resultBytes_length (half : Bool) (r : List Nat) :
    (resultBytes half r).length = (if half then 2 else 4) * r.length := by
  unfold resultBytes
  split
  · rw [codeBytes_length, List.length_map]
  · rw [codeBytes_length]

theorem exec_vectorOp {op : VOp} (h : ∀ k, op ≠ .compare k) (c : CoreId) (half : Bool) (x y z : List Word) (dst : Nat)
    (s : State) : exec (.vectorOp c op half x y z dst) s =
      let r := s.vectorElems op half x y z
      .next (r.2.scratchWrite c dst (resultBytes half r.1)) := by
  show execVectorOp c op half x y z dst s = _
  cases op with
  | compare k => exact absurd rfl (h k)
  | _ => rfl

theorem wf_vectorOp {c : CoreId} {op : VOp} {half : Bool} {x y z : List Word} {dst : Nat}
    (h : ∀ k, op ≠ .compare k) (hwf : WellFormed.ok (.vectorOp c op half x y z dst) = true) :
    dst + (if half then 2 else 4) * x.length ≤ 24576 := by
  have hw : WellFormed.vectorWf op half x y z dst = true := hwf
  have hroom : WellFormed.inScratch dst (x.length * if half then 2 else 4) = true := by
    unfold WellFormed.vectorWf at hw
    cases op with
    | compare k => exact absurd rfl (h k)
    | _ => exact (Bool.and_eq_true_iff.1 hw).2
  rw [Nat.mul_comm]
  exact of_decide_eq_true hroom

/-- Settles O8: a comparison is `comparePreds`, any other operation `State.vectorElems` and one write to scratch. -/
theorem vectorOpWritesResultsOrPredicates : Obligations.VectorOpWritesResultsOrPredicates := by
  intro c op half x y z dst s hwf
  refine ⟨?_, fun hop => ⟨fun r hlen hr => ?_, ?_⟩⟩
  · rintro k rfl
    have hpreds := fun i => testBit_comparePreds 8 dst x.length (fun j => compareFp k
        (vectorWord half (x.getD j 0)) (vectorWord half (y.getD j 0))) (Tab.get s.arr.preds (coreIx c) 0) i
    refine ⟨_, exec_vectorOp_compare c k half x y z dst s, fun i hi => ?_, fun d hd => ?_, rfl⟩
    · dsimp only
      rw [Tab.get_put_same, hpreds]
      simp only [hi, true_and]
    · exact Tab.get_put_other _ (Ne.symm hd) ..
  · have hfixed : s.vectorElems op half x y z = (r, s) := by
      refine (vectorStep_foldl_fixed (n := 0) hlen (fun i hi u => ?_) ([], s)).trans (by simp)
      rw [Nat.zero_add]
      exact hr i hi u
    have hfits := wf_vectorOp hop hwf
    obtain ⟨t, ht, hread, -, hfree, -⟩ := scratchWrite_completes (n := (if half then 2 else 4) * x.length)
      ((exec_vectorOp hop c half x y z dst s).trans (by rw [hfixed])) ((resultBytes_length half r).trans (by rw [hlen]))
      hfits
    exact ⟨t, ht, hread, hfree⟩
  · obtain ⟨heq, hfree⟩ := s.vectorElems_onlyDraws op half x y z
    have hlen := (resultBytes_length half (s.vectorElems op half x y z).1).trans
      (by rw [s.vectorElems_length op half x y z])
    have hout := scratchOutside_scratchWrite (s.vectorElems op half x y z).2 c (off := dst)
      (bs := resultBytes half (s.vectorElems op half x y z).1) (by rw [hlen]; exact wf_vectorOp hop hwf)
    rw [hlen] at hout
    refine ⟨_, exec_vectorOp hop c half x y z dst s, ?_, ?_⟩
    · generalize (s.vectorElems op half x y z).2 = u at *
      rw [heq] at hout ⊢
      exact hout
    · generalize (s.vectorElems op half x y z).2 = u at *
      rw [heq]
      exact ⟨⟨rfl, fun _ _ _ => rfl⟩, fun _ _ _ => rfl, hfree⟩

end Sys2Proof.Machine

namespace Sys2Proof.Machine
/-! PROOFS. What the operations of the command window leave alone: the stored bytes, the bundles, the command, and
the registers outside a list of fields. -/

/-- What no operation that grants or releases leases touches: the bytes of the Beam, HBM and the flash, the bundles,
the command in execution and the owners that wait for it. -/
def State.held (s : State) :
    (List Host.Cell × List Host.Cell × List Host.Cell) × SMap Bundle × Option CmdRun × List Nat :=
  ((s.beam.bytes, s.hbm.bytes, s.stw.flash), s.bnd.bundles, s.bnd.cmd, s.bnd.toClose)

/-- The held parts and the fields but those of a list are as before. -/
structure Keeps (l : List Fld) (s t : State) : Prop where
  held : t.held = s.held
  fields : SameButFields s t l

namespace Keeps

variable {l : List Fld} {s t u : State}

theorem refl (s : State) : Keeps l s s := ⟨rfl, .refl s l⟩

theorem trans (h : Keeps l s t) (h' : Keeps l t u) : Keeps l s u := ⟨h'.held.trans h.held, h.fields.trans h'.fields⟩

theorem mono {l' : List Fld} (h : Keeps l s t) (hl : ∀ x ∈ l, x ∈ l') : Keeps l' s t := ⟨h.held, h.fields.mono hl⟩

theorem of_regs (hh : t.held = s.held) (hr : t.regs = s.regs) : Keeps l s t := ⟨hh, .of_regs hr l⟩

theorem wr (h : Keeps l s t) (f : Fld) (i v : Nat) (hf : f ∈ l) : Keeps l s (t.wr f i v) :=
  h.trans ⟨rfl, sameButFields_wr t f i v hf⟩

theorem ite {c : Prop} [Decidable c] (h : Keeps l s t) (h' : Keeps l s u) : Keeps l s (if c then t else u) := by
  split <;> assumption

theorem foldl {α : Type} {f : State → α → State} {xs : List α} (hf : ∀ s, ∀ x ∈ xs, Keeps l s (f s x)) (s : State) :
    Keeps l s (xs.foldl f s) := foldl_relates refl (fun _ _ _ => trans) f hf s

theorem of_onlyFields (h : OnlyFields s t l) : Keeps l s t := ⟨by rw [h.1]; rfl, h.2⟩

theorem rd (h : Keeps l s t) (f : Fld) (i : Nat) (hf : ∀ x ∈ l, f.id ≠ x.id) : t.rd f i = s.rd f i := h.fields f i hf

theorem bytes (h : Keeps l s t) :
    t.beam.bytes = s.beam.bytes ∧ t.hbm.bytes = s.hbm.bytes ∧ t.stw.flash = s.stw.flash := by
  have := h.held
  simp only [State.held, Prod.mk.injEq] at this
  exact this.1

theorem cmd (h : Keeps l s t) : t.bnd.cmd = s.bnd.cmd := congrArg (fun x => x.2.2.1) h.held

theorem toClose (h : Keeps l s t) : t.bnd.toClose = s.bnd.toClose := congrArg (fun x => x.2.2.2) h.held

theorem bundle? (h : Keeps l s t) (k : Nat) : t.bundle? k = s.bundle? k := by
  have hb : t.bnd.bundles = s.bnd.bundles := congrArg (fun x => x.2.1) h.held
  unfold State.bundle?
  rw [hb]

end Keeps

/-! ### The release of a binding (R179 step 3) -/

/-- The fields of the context window, by number. -/
def ctxFields : List Fld := ((List.range 210).filter ctxFld).map fun id => ⟨id, 0, 0, 0⟩

theorem id_ne_of_not_ctxFld {f : Fld} (h : ∀ x ∈ ctxFields, f.id ≠ x.id) : ctxFld f.id = false := by
  by_contra hc
  rw [Bool.not_eq_false] at hc
  have hlt : f.id < 210 := by
    simp only [ctxFld, Bool.or_eq_true, Bool.and_eq_true, decide_eq_true_eq] at hc
    omega
  exact h ⟨f.id, 0, 0, 0⟩ (List.mem_map.2 ⟨f.id, List.mem_filter.2 ⟨List.mem_range.2 hlt, hc⟩, rfl⟩) rfl

/-- Registers that the release of a binding writes. -/
def releaseFields : List Fld := frameEndFields ++ ctxFields

theorem State.noteEnded_eq (s : State) (c : Nat) :
    s.noteEnded c = { s with bnd := { s.bnd with spools := (s.noteEnded c).bnd.spools } } := by
  unfold noteEnded
  split
  · rfl
  · dsimp only
    split <;> rfl

theorem State.freeCtx_keeps (s : State) (c : Nat) : Keeps releaseFields s (s.freeCtx c) := by
  unfold freeCtx
  rw [noteEnded_eq]
  refine ⟨rfl, fun f i hf => ?_⟩
  have hid := id_ne_of_not_ctxFld fun x hx => hf x (List.mem_append_right _ hx)
  unfold rd
  dsimp only
  rw [Tab.get_clear_of_false]
  rw [regKey_div, hid]
  rfl

theorem State.endFrames_keeps (s : State) (p : Frame → Bool) (status : Nat) :
    Keeps frameEndFields s (s.endFrames p status) := by
  refine ⟨?_, s.endFrames_fields p status⟩
  rw [s.endFrames_endsOnly p status]
  rfl

theorem State.stopRunning_keeps (s : State) (b status : Nat) : Keeps frameEndFields s (s.stopRunning b status) := by
  cases hb : s.binding? b with
  | none =>
    rw [show s.stopRunning b status = s by simp only [stopRunning, hb]]
    exact .refl s
  | some x =>
    cases hr : x.running with
    | none =>
      rw [stopRunning_of_idle hb hr]
      exact .refl s
    | some c =>
      rw [stopRunning_of_running hb hr]
      exact Keeps.trans (t := s.dropRun b c x) (.of_regs rfl rfl) (endFrames_keeps ..)

theorem State.setBolt_keeps (s : State) (b : Nat) (x : Bolt) (l : List Fld) : Keeps l s (s.setBolt b x) :=
  .of_regs rfl rfl

theorem State.releaseBolts_keeps (s : State) (bs : List Nat) (l : List Fld) : Keeps l s (s.releaseBolts bs) :=
  .foldl (fun s _ _ => .ite (s.setBolt_keeps ..) (.refl s)) s

theorem State.drainLease_keeps (s : State) (id : Nat) (l : List Fld) : Keeps l s (s.drainLease id) := by
  unfold drainLease
  split
  · exact .ite (.of_regs rfl rfl) (.ite (.of_regs rfl rfl) (.refl s))
  · exact .refl s

/-- The parts of a release, in order: the binding's frames end, its contexts are freed, its bolts and leases drain. -/
def State.releaseParts (s : State) (b : Nat) (x : Binding) : State :=
  let s := s.stopRunning b 5
  let cs := s.ctxsOn b
  let s := cs.foldl State.freeCtx (s.endFrames (fun f => cs.contains f.ctx) 5)
  x.leases.foldl State.drainLease (s.releaseBolts x.bolts)

theorem State.releaseParts_keeps (s : State) (b : Nat) (x : Binding) : Keeps releaseFields s (s.releaseParts b x) := by
  have hend {s t : State} (h : Keeps frameEndFields s t) : Keeps releaseFields s t :=
    h.mono fun _ hx => List.mem_append_left _ hx
  unfold releaseParts
  extract_lets s1 cs s2
  have h2 : Keeps releaseFields s s2 := ((hend (s.stopRunning_keeps b 5)).trans (hend (endFrames_keeps ..))).trans
    (.foldl (fun s c _ => s.freeCtx_keeps c) _)
  exact (h2.trans (releaseBolts_keeps ..)).trans (.foldl (fun s id _ => s.drainLease_keeps id _) _)

/-- What a release drops of the tables of bindings, jobs, copies and recoveries. -/
theorem State.releaseBinding_of_binding {s : State} {b : Nat} {x : Binding} (hb : s.binding? b = some x) :
    ∃ use jobs copies recs, s.releaseBinding b =
      let t := s.releaseParts b x
      { t with bnd := { t.bnd with bindings := Tab.drop t.bnd.bindings b, decodeUse := use }
               weft := { t.weft with jobs := jobs, copies := copies }, recoveries := recs } := by
  unfold releaseBinding
  rw [hb]
  exact ⟨_, _, _, _, rfl⟩

theorem State.releaseBinding_keeps (s : State) (b : Nat) : Keeps releaseFields s (s.releaseBinding b) := by
  cases hb : s.binding? b with
  | none =>
    rw [show s.releaseBinding b = s by simp only [releaseBinding, hb]]
    exact .refl s
  | some x =>
    obtain ⟨use, jobs, copies, recs, h⟩ := releaseBinding_of_binding hb
    rw [h]
    exact (s.releaseParts_keeps b x).trans (.of_regs rfl rfl)

theorem State.reapDisplaced_keeps (s : State) : Keeps releaseFields s s.reapDisplaced :=
  .foldl (fun s x _ => s.releaseBinding_keeps x.1) s

end Sys2Proof.Machine

namespace Sys2Proof.Machine
/-! PROOFS. The command window: a command accepted, its end, its refusal. -/

/-! ### The end of a command (R174) -/

/-- A command's end changes what is sent to the host and takes the command; no owner waits for it any more. -/
def CmdTaken (s t : State) : Prop :=
  t = { s with regs := t.regs, out := t.out, host := t.host,
               bnd := { s.bnd with cmd := t.bnd.cmd, toClose := t.bnd.toClose } }

/-- The registers of the outcome of a command. -/
def State.showOutcome (s : State) (reason : Nat) : State :=
  ((s.wr F.CMD_STATUS_BUSY 0 0).wr F.CMD_STATUS_DONE 0 1).wr F.CMD_STATUS_REASON 0 reason

theorem State.endCmd_on {s : State} (hfw : s.on F.HOST_STATUS_FW_UP 0 = true) (hc : s.bnd.toClose = []) (reason : Nat) :
    s.endCmd reason = { s.showOutcome reason with
      bnd := { s.bnd with cmd := none, toClose := [] } }.msixSend 1024 := by
  simp only [endCmd, hfw, if_true, finishCmd, wr, hc, List.foldl_nil]
  rfl

theorem State.endCmd_off {s : State} (hfw : s.on F.HOST_STATUS_FW_UP 0 = false) (reason : Nat) :
    s.endCmd reason = { s with bnd := { s.bnd with cmd := some (.ended reason) } } := by
  simp only [endCmd, hfw, Bool.false_eq_true, if_false]

theorem State.showOutcome_sameBut (s : State) (reason : Nat) : SameBut s (s.showOutcome reason) cmdEnd :=
  (((sameBut_wr s _ _ _ (by simp [cmdEnd])).wr _ _ _ (by simp [cmdEnd])).wr _ _ _ (by simp [cmdEnd]))

theorem State.msixSend_sameBut (s : State) (v : Nat) : SameBut s (s.msixSend v) [(I.msixPending, v)] := by
  unfold msixSend
  split
  · exact sameBut_wr s _ _ _ (by simp)
  · intro f i _
    rw [hostSend_eq]
    rfl

theorem State.endCmd_taken {s : State} (hc : s.bnd.toClose = []) (reason : Nat) : CmdTaken s (s.endCmd reason) := by
  cases hfw : s.on F.HOST_STATUS_FW_UP 0 with
  | true =>
    rw [endCmd_on hfw hc, msixSend_eq]
    rfl
  | false =>
    rw [endCmd_off hfw]
    rfl

theorem State.endCmd_sameBut {s : State} (hc : s.bnd.toClose = []) (reason : Nat) :
    SameBut s (s.endCmd reason) cmdEnd := by
  cases hfw : s.on F.HOST_STATUS_FW_UP 0 with
  | true =>
    rw [endCmd_on hfw hc]
    exact SameBut.trans (t := s.showOutcome reason) (s.showOutcome_sameBut reason)
      (SameBut.mono (msixSend_sameBut _ _) (by simp [cmdEnd]))
  | false =>
    rw [endCmd_off hfw]
    exact fun _ _ _ => rfl

theorem State.endCmd_endsWith {s : State} (hc : s.bnd.toClose = []) {reason : Nat} (hr : reason < 256) :
    EndsWith s (s.endCmd reason) reason := by
  unfold EndsWith
  cases hfw : s.on F.HOST_STATUS_FW_UP 0 with
  | true =>
    have hrd (f : Fld) (hf : f.id ≠ I.msixPending.id) : (s.endCmd reason).rd f 0 = (s.showOutcome reason).rd f 0 := by
      rw [endCmd_on hfw hc]
      exact msixSend_sameBut _ _ f 0 (by simpa using regKey_inj_id hf)
    rw [if_pos rfl, hrd _ (by decide), hrd _ (by decide), hrd _ (by decide)]
    refine ⟨?_, ?_, ?_, ?_⟩
    · simp (disch := decide) only [showOutcome, rd_wr_id, rd_wr_same, Nat.zero_mod]
    · simp (disch := decide) only [showOutcome, rd_wr_id, rd_wr_same]
      rfl
    · exact (rd_wr_same ..).trans (Nat.mod_eq_of_lt hr)
    · rw [endCmd_on hfw hc, msixSend_eq]
  | false =>
    rw [endCmd_off hfw]
    exact ⟨rfl, rfl⟩

/-- `EndsWith` looks at two registers of the state before. -/
theorem EndsWith.of_rd {s u t : State} {reason : Nat} (h : EndsWith u t reason)
    (hfw : u.rd F.HOST_STATUS_FW_UP 0 = s.rd F.HOST_STATUS_FW_UP 0)
    (hbusy : u.rd F.CMD_STATUS_BUSY 0 = s.rd F.CMD_STATUS_BUSY 0) : EndsWith s t reason := by
  have hon : u.on F.HOST_STATUS_FW_UP 0 = s.on F.HOST_STATUS_FW_UP 0 := by rw [State.on, hfw, State.on]
  unfold EndsWith at h ⊢
  rwa [hon, hbusy] at h

theorem CmdTaken.keepsBytes {s t : State} (h : CmdTaken s t) :
    t.beam = s.beam ∧ t.hbm = s.hbm ∧ t.stw = s.stw ∧ t.arr = s.arr := by
  unfold CmdTaken at h
  rw [h]
  exact ⟨rfl, rfl, rfl, rfl⟩

/-! ### A command accepted (R165, R168) -/

theorem State.acceptSeq_eq (s : State) (x : Desc) :
    s.acceptSeq x = { s with bnd := { s.bnd with owners := (s.acceptSeq x).bnd.owners } } := by
  unfold acceptSeq
  split <;> rfl

theorem command_of_accepted {s : State} {desc : Unit64} (h : Accepted s desc) {ok : Bool} (hok : ok = true)
    (pausable : Bool) (body : Desc → State → State) :
    s.command desc true ok pausable body = body (Desc.of desc) (accepted s desc) := by
  obtain ⟨hready, hauth, hpaused, -, -, -⟩ := h
  have hp : (s.acceptSeq (Desc.of desc)).on I.cmdPaused 0 = false := by
    rw [s.acceptSeq_eq]
    exact hpaused
  simp only [State.command, hready, hauth, hok, hp, if_true, Bool.not_true, Bool.false_eq_true, if_false,
    Bool.and_false]

/-- What a command leaves alone that has been accepted and has not acted. -/
theorem nothingGranted_accepted (s : State) (desc : Unit64) (l : List (Fld × Nat)) :
    NothingGranted s (accepted s desc) l := by
  unfold accepted
  rw [s.acceptSeq_eq]
  exact ⟨rfl, rfl, rfl, rfl, rfl, rfl, rfl, rfl, fun _ _ _ => rfl⟩

theorem accepted_toClose {s : State} {desc : Unit64} (h : Accepted s desc) : (accepted s desc).bnd.toClose = [] := by
  obtain ⟨-, -, -, -, hc, -⟩ := h
  unfold accepted
  rw [s.acceptSeq_eq]
  exact hc

theorem NothingGranted.trans {s t u : State} {l : List (Fld × Nat)} (h : NothingGranted s t l)
    (h' : NothingGranted t u l) : NothingGranted s u l := by
  obtain ⟨h1, h2, h3, h4, h5, h6, h7, h8, h9⟩ := h
  obtain ⟨h1', h2', h3', h4', h5', h6', h7', h8', h9'⟩ := h'
  exact ⟨h1'.trans h1, h2'.trans h2, h3'.trans h3, h4'.trans h4, h5'.trans h5, h6'.trans h6, h7'.trans h7,
    h8'.trans h8, h9.trans h9'⟩

/-- A command that ends grants nothing more. -/
theorem State.nothingGranted_endCmd {s : State} (hc : s.bnd.toClose = []) (reason : Nat) {l : List (Fld × Nat)}
    (hl : ∀ x ∈ cmdEnd, x ∈ l) : NothingGranted s (s.endCmd reason) l := by
  have h := State.endCmd_taken hc reason
  have hregs := State.endCmd_sameBut hc reason
  unfold CmdTaken at h
  refine ⟨?_, ?_, ?_, ?_, ?_, ?_, ?_, ?_, hregs.mono hl⟩ <;> rw [h]

/-- A refused command: it ends with its reason, and nothing is granted. -/
theorem refused {s : State} {desc : Unit64} (h : Accepted s desc) {i : Instr} {reason : Nat}
    (hexec : exec i s = .next ((accepted s desc).endCmd reason)) (hr : reason < 256) :
    Completes i s fun t => EndsWith s t reason ∧ NothingGranted s t cmdEnd := by
  have hc := accepted_toClose h
  refine ⟨_, hexec, EndsWith.of_rd (State.endCmd_endsWith hc hr) ?_ ?_,
    NothingGranted.trans (nothingGranted_accepted s desc _) (State.nothingGranted_endCmd hc reason fun _ hx => hx)⟩
  all_goals unfold accepted; rw [s.acceptSeq_eq]; rfl

end Sys2Proof.Machine

namespace Sys2Proof.Machine
/-! PROOFS. `UNBIND`, `REBIND` and `UNBIND_RELEASE` (O22). -/

/-! ### Folds whose steps settle a value -/

/-- Steps that each leave a value or settle it by an idempotent function, one of which does settle it. -/
theorem foldl_settles {σ α β : Type} {g : σ → β} {f : β → β} (hf : ∀ v, f (f v) = f v) {step : σ → α → σ} {xs : List α}
    {x : α} (hx : x ∈ xs) (hat : ∀ s, g (step s x) = f (g s))
    (hstep : ∀ s y, g (step s y) = g s ∨ g (step s y) = f (g s)) (s : σ) : g (xs.foldl step s) = f (g s) := by
  obtain ⟨pre, post, rfl⟩ := List.append_of_mem hx
  rw [List.foldl_append, List.foldl_cons]
  have hpre : g (pre.foldl step s) = g s ∨ g (pre.foldl step s) = f (g s) :=
    List.foldlRecOn (motive := fun t => g t = g s ∨ g t = f (g s)) pre step (.inl rfl) fun t ht y _ => by
      obtain h | h := hstep t y <;> obtain h' | h' := ht <;> simp [h, h', hf]
  have hmid : g (step (pre.foldl step s) x) = f (g s) := by
    rw [hat]
    obtain h | h := hpre <;> simp [h, hf]
  exact List.foldlRecOn (motive := fun t => g t = f (g s)) post step hmid fun t ht y _ => by
    obtain h | h := hstep t y <;> simp [h, ht, hf]

/-! ### Contexts that close keep closing -/

theorem State.ctxState_complete (s : State) (f : Frame) (status : Nat) (counts : Bool) (c : Nat) :
    (s.complete f status counts).rd F.CTX_STATE_STATE c = s.rd F.CTX_STATE_STATE c := by
  have hsend (s : State) (o : Out) : (s.hostSend o).rd F.CTX_STATE_STATE c = s.rd F.CTX_STATE_STATE c := by
    rw [hostSend_eq]
    rfl
  have hmsix (s : State) (k : Nat) (y : SpoolSt) :
      (s.setSpool k y).rd F.CTX_STATE_STATE c = s.rd F.CTX_STATE_STATE c := rfl
  obtain ⟨o, age, late, h⟩ := s.complete_eq f status counts
  have hput : (s.putEntry f.spool o).rd F.CTX_STATE_STATE c = s.rd F.CTX_STATE_STATE c := by
    unfold putEntry
    rw [hmsix, rd_wr_id _ _ _ _ (by decide), hsend]
  have hcount (s : State) : (s.countEnd f status age late).rd F.CTX_STATE_STATE c = s.rd F.CTX_STATE_STATE c := by
    unfold countEnd
    dsimp only
    split
    · split <;> simp (disch := decide) only [rd_wr_id]
    · simp (disch := decide) only [rd_wr_id]
  have hdue (s : State) : (s.spoolDue f.spool).rd F.CTX_STATE_STATE c = s.rd F.CTX_STATE_STATE c := by
    unfold spoolDue
    dsimp only
    split
    · rw [hmsix, (msixSend_frame _ _).rd _ _ (by decide)]
    · rfl
  have hmessage (s : State) : (s.spoolMessage f.spool).rd F.CTX_STATE_STATE c = s.rd F.CTX_STATE_STATE c :=
    (hdue _).trans (hmsix s ..)
  rw [h, hmessage]
  split
  · rw [hcount, hput]
  · exact hput

theorem State.closing_syncCtx {s : State} {c : Nat} (h : s.rd F.CTX_STATE_STATE c = 5) (k : Nat) :
    (s.syncCtx k).rd F.CTX_STATE_STATE c = 5 := by
  unfold syncCtx
  extract_lets fs u st
  have hu : u.rd F.CTX_STATE_STATE c = 5 := (s.rd_wr_id _ _ _ (by decide)).trans h
  split
  · next hst =>
    have hkey : regKey F.CTX_STATE_STATE k ≠ regKey F.CTX_STATE_STATE c := fun hkey => by
      have hst5 : st = 5 := by
        dsimp only [st]
        rw [← hu]
        unfold rd
        rw [hkey]
      omega
    exact (u.rd_wr_key _ hkey).trans hu
  · exact hu

theorem State.closing_flushFrom {s : State} {c : Nat} (h : s.rd F.CTX_STATE_STATE c = 5) (n k : Nat) :
    (State.flushFrom n s k).rd F.CTX_STATE_STATE c = 5 := by
  induction n generalizing s with
  | zero => exact h
  | succ n ih =>
    unfold flushFrom
    split
    · next f _ =>
      split
      · refine ih (?_ : State.rd _ _ _ = 5)
        show State.rd (if f.follower then s else s.complete f _ true) _ _ = 5
        split
        · exact h
        · rw [ctxState_complete, h]
      · exact h
    · exact h

/-- A closing context closes on whatever frames end. -/
theorem State.closing_endFrames {s : State} {c : Nat} (h : s.rd F.CTX_STATE_STATE c = 5) (p : Frame → Bool)
    (status : Nat) : (s.endFrames p status).rd F.CTX_STATE_STATE c = 5 := by
  unfold endFrames
  extract_lets hit u v
  have hu : u.rd F.CTX_STATE_STATE c = 5 :=
    List.foldlRecOn (motive := fun t : State => t.rd F.CTX_STATE_STATE c = 5) hit _ h fun t ht f _ => by
      unfold breakDecode
      split
      · split
        · exact (t.rd_wr_id _ _ _ (by decide)).trans ht
        · exact ht
      · exact ht
  exact List.foldlRecOn (motive := fun t : State => t.rd F.CTX_STATE_STATE c = 5) _ _ hu
    fun t ht k _ => closing_syncCtx (closing_flushFrom ht _ k) k

theorem State.closing_stopRunning {s : State} {c : Nat} (h : s.rd F.CTX_STATE_STATE c = 5) {b : Nat} {x : Binding}
    (hb : s.binding? b = some x) (status : Nat) : (s.stopRunning b status).rd F.CTX_STATE_STATE c = 5 := by
  cases hr : x.running with
  | none => rwa [stopRunning_of_idle hb hr]
  | some k =>
    rw [stopRunning_of_running hb hr]
    exact closing_endFrames (s := s.dropRun b k x) h _ _

/-! ### The start of an unbind (R178, R179) -/

/-- The partitions of a list go UNBINDING that sweep, load or run. -/
def State.unbindParts (s : State) (ps : List Nat) : State :=
  ps.foldl (fun s p =>
    let st := s.rd F.PART_STATE_STATE p
    if st = 1 ∨ st = 2 ∨ st = 3 then s.wr F.PART_STATE_STATE p 4 else s) s

/-- The state of a partition when its binding unbinds. -/
def unbindState (st : Nat) : Nat := if st = 1 ∨ st = 2 ∨ st = 3 then 4 else st

theorem State.unbindParts_onlyFields (s : State) (ps : List Nat) :
    OnlyFields s (s.unbindParts ps) [F.PART_STATE_STATE] :=
  .foldl _ (fun s p _ => .ite (onlyFields_wr _ _ _ _ (by simp)) (.refl s _)) s

theorem State.rd_unbindParts (s : State) {ps : List Nat} {q : Nat} (hq : q ∈ ps) :
    (s.unbindParts ps).rd F.PART_STATE_STATE q = unbindState (s.rd F.PART_STATE_STATE q) := by
  have hwr (s : State) : (s.wr F.PART_STATE_STATE q 4).rd F.PART_STATE_STATE q = 4 := s.rd_wr_same ..
  refine foldl_settles (g := fun s : State => s.rd F.PART_STATE_STATE q) (f := unbindState) (fun v => ?_) hq
    (fun s => ?_) (fun s p => ?_) s
  · unfold unbindState
    split <;> simp_all
  · unfold unbindState
    dsimp only
    split
    · exact hwr s
    · rfl
  · by_cases hk : regKey F.PART_STATE_STATE p = regKey F.PART_STATE_STATE q
    · have hrd : s.rd F.PART_STATE_STATE p = s.rd F.PART_STATE_STATE q := by unfold rd; rw [hk]
      have hwr' : s.wr F.PART_STATE_STATE p 4 = s.wr F.PART_STATE_STATE q 4 := by unfold wr; rw [hk]
      right
      unfold unbindState
      dsimp only
      rw [hrd, hwr']
      split
      · exact hwr s
      · rfl
    · left
      dsimp only
      split
      · exact s.rd_wr_key _ hk
      · rfl

/-- An unbind before the frames in progress are dealt with. -/
def State.unbindMarked (s : State) (b : Nat) (x : Binding) (abort : Bool) : State :=
  ((s.unbindParts x.parts).setBinding b { x with phase := .unbinding, abort := abort }).wrAll F.CTX_STATE_STATE
    (s.ctxsOn b) 5

theorem State.startUnbind_of_binding {s : State} {b : Nat} {x : Binding} (hb : s.binding? b = some x) (abort : Bool) :
    s.startUnbind b abort =
      let u := s.unbindMarked b x abort
      (if abort then u.stopRunning b 5 else u).endFrames
        (fun f => (s.ctxsOn b).contains f.ctx && f.stage != .running) 5 := by
  have hcs : ((s.unbindParts x.parts).setBinding b { x with phase := .unbinding, abort := abort }).ctxsOn b =
      s.ctxsOn b := by
    rw [(s.unbindParts_onlyFields x.parts).1]
    rfl
  unfold startUnbind
  simp only [hb]
  unfold unbindMarked
  rw [← hcs]
  rfl

end Sys2Proof.Machine

namespace Sys2Proof.Machine
/-! PROOFS. The first step of `UNBIND` and `REBIND`, and the two commands (O22). -/

/-- An unbind before the frames not in progress are answered: `ABORT` ends the running one. -/
def State.unbindStopped (s : State) (b : Nat) (x : Binding) (abort : Bool) : State :=
  if abort then (s.unbindMarked b x abort).stopRunning b 5 else s.unbindMarked b x abort

/-- The binding of an unbind, once `ABORT` has been obeyed. -/
def Binding.unbound (x : Binding) (abort : Bool) : Binding :=
  { x with phase := .unbinding, abort := abort, running := if abort then none else x.running }

theorem State.binding?_unbindMarked (s : State) (b : Nat) (x : Binding) (abort : Bool) :
    (s.unbindMarked b x abort).binding? b = some { x with phase := .unbinding, abort := abort } := by
  have h : OnlyFields _ (s.unbindMarked b x abort) [F.CTX_STATE_STATE] := State.wrAll_onlyFields ..
  exact (EndsOnly.of_onlyFields h).binding? b |>.trans (binding?_setBinding ..)

theorem State.binding?_unbindStopped (s : State) (b : Nat) (x : Binding) (abort : Bool) :
    (s.unbindStopped b x abort).binding? b = some (x.unbound abort) := by
  have h := s.binding?_unbindMarked b x abort
  cases abort with
  | false => exact h
  | true => exact binding?_stopRunning h 5

theorem State.unbindMarked_partState (s : State) (b : Nat) {x : Binding} (abort : Bool) {q : Nat} (hq : q ∈ x.parts) :
    (s.unbindMarked b x abort).rd F.PART_STATE_STATE q = unbindState (s.rd F.PART_STATE_STATE q) :=
  ((wrAll_onlyFields ..).rd _ _ (by decide)).trans (s.rd_unbindParts hq)

theorem State.unbindStopped_partState (s : State) (b : Nat) {x : Binding} (abort : Bool) {q : Nat}
    (hq : q ∈ x.parts) :
    (s.unbindStopped b x abort).rd F.PART_STATE_STATE q = unbindState (s.rd F.PART_STATE_STATE q) := by
  have h := s.unbindMarked_partState b abort hq
  cases abort with
  | false => exact h
  | true => exact ((stopRunning_keeps ..).rd _ _ (by decide)).trans h

theorem State.unbindStopped_closing (s : State) (b : Nat) (x : Binding) (abort : Bool) {c : Nat}
    (hc : c ∈ s.ctxsOn b) : (s.unbindStopped b x abort).rd F.CTX_STATE_STATE c = 5 := by
  have h : (s.unbindMarked b x abort).rd F.CTX_STATE_STATE c = 5 := rd_wrAll _ 5 hc
  cases abort with
  | false => exact h
  | true => exact closing_stopRunning h (s.binding?_unbindMarked b x true) 5

/-- After every frame of some contexts has ended that does not run, a frame of theirs runs or has ended. -/
theorem State.endFrames_leavesRunning (s : State) (cs : List Nat) (status : Nat) {f : Frame}
    (hf : f ∈ (s.endFrames (fun f => cs.contains f.ctx && f.stage != .running) status).bnd.frames)
    (hctx : f.ctx ∈ cs) : f.stage = .running ∨ f.isDone = true := by
  obtain ⟨-, hframes⟩ := s.endFrames_onlyEnds (fun f => cs.contains f.ctx && f.stage != .running) status
  obtain ⟨g, -, rfl⟩ := List.mem_map.1 (hframes f hf)
  by_cases hrun : g.stage = .running
  · left
    simp [Frame.endedBy, hrun]
  · right
    refine Frame.isDone_endedBy ?_ status
    have hg : (g.endedBy (fun f => cs.contains f.ctx && f.stage != .running) status).ctx = g.ctx := by
      unfold Frame.endedBy
      split <;> rfl
    rw [hg] at hctx
    simp [hctx, hrun]

theorem State.startUnbind_unbindStarted {s : State} {b : Nat} {x : Binding} (hb : s.binding? b = some x)
    (abort : Bool) : UnbindStarted s (s.startUnbind b abort) b x abort := by
  have hbytes := (sameMemories_of_memories (s.memories_startUnbind b abort)).sameBytes
  have heq : s.startUnbind b abort = (s.unbindStopped b x abort).endFrames
    (fun f => (s.ctxsOn b).contains f.ctx && f.stage != .running) 5 := startUnbind_of_binding hb abort
  refine ⟨⟨x.unbound abort, ?_, rfl, rfl, rfl, rfl⟩, fun q hq => ?_, fun c hc => ?_, fun f hf hctx => ?_, hbytes⟩
  · rw [heq, (endFrames_endsOnly ..).binding?]
    exact s.binding?_unbindStopped ..
  · rw [heq, (endFrames_keeps ..).rd _ _ (by decide)]
    exact s.unbindStopped_partState b abort hq
  · rw [heq]
    exact closing_endFrames (s.unbindStopped_closing b x abort hc) ..
  · rw [heq] at hf
    exact endFrames_leavesRunning _ _ 5 hf hctx

/-! ### The two commands -/

theorem State.unbindCmd_of_reset {s : State} {b : Nat} {x : Binding} (hb : s.binding? b = some x)
    (h : x.parts.any s.inReset = true) (rebind : Bool) (desc : Unit64) :
    s.unbindCmd rebind b desc = s.setCmd (.held rebind b desc) := by
  simp only [unbindCmd, hb, h, if_true]

theorem State.unbindCmd_starts {s : State} {b : Nat} {x : Binding} (hb : s.binding? b = some x)
    (h : x.parts.any s.inReset = false) (rebind : Bool) (desc : Unit64) :
    s.unbindCmd rebind b desc = (s.startUnbind b ((Desc.of desc).flags.testBit 1)).setCmd
      (if rebind then .rebind b desc else .unbind b) := by
  simp only [unbindCmd, hb, h, Bool.false_eq_true, if_false]

/-- An accepted command reads the tables and registers of the state that it is accepted in. -/
theorem accepted_eq (s : State) (desc : Unit64) :
    ∃ o, accepted s desc = { s with bnd := { s.bnd with owners := o } } := ⟨_, s.acceptSeq_eq (Desc.of desc)⟩

theorem binding?_accepted (s : State) (desc : Unit64) (b : Nat) : (accepted s desc).binding? b = s.binding? b := by
  obtain ⟨o, h⟩ := accepted_eq s desc
  rw [h]
  rfl

theorem inReset_accepted (s : State) (desc : Unit64) : (accepted s desc).inReset = s.inReset := by
  obtain ⟨o, h⟩ := accepted_eq s desc
  rw [h]
  rfl

/-- What the first step of an unbind says of the state that the command was accepted in. -/
theorem UnbindStarted.of_accepted {s t : State} {desc : Unit64} {b : Nat} {x : Binding} {abort : Bool}
    (h : UnbindStarted (accepted s desc) t b x abort) : UnbindStarted s t b x abort := by
  obtain ⟨o, ho⟩ := accepted_eq s desc
  rw [ho] at h
  exact h

/-- The command on a binding that it may act on: it waits for a partition reset, or the unbind begins. -/
theorem unbindCmd_acts {s : State} {desc : Unit64} {i : Instr} {rebind : Bool} {b : Nat} {x : Binding}
    (hexec : exec i s = .next ((accepted s desc).unbindCmd rebind b desc)) (hb : s.binding? b = some x) :
    (x.parts.any s.inReset = true → Completes i s fun t =>
      t.bnd.cmd = some (.held rebind b desc) ∧ NothingGranted s t []) ∧
    (x.parts.any s.inReset = false → Completes i s fun t =>
      t.bnd.cmd = some (if rebind then .rebind b desc else .unbind b) ∧
      UnbindStarted s t b x ((Desc.of desc).flags.testBit 1)) := by
  have hb' : (accepted s desc).binding? b = some x := (binding?_accepted ..).trans hb
  refine ⟨fun hr => ⟨_, hexec, ?_⟩, fun hr => ⟨_, hexec, ?_⟩⟩
  · rw [State.unbindCmd_of_reset hb' (by rwa [inReset_accepted])]
    exact ⟨rfl, nothingGranted_accepted s desc []⟩
  · rw [State.unbindCmd_starts hb' (by rwa [inReset_accepted])]
    exact ⟨rfl, UnbindStarted.of_accepted (State.startUnbind_unbindStarted hb' _)⟩

theorem exec_unbind {s : State} {desc : Unit64} (h : Accepted s desc)
    (hok : ((Desc.of desc).ownerOk && (Desc.of desc).targetOk && (Desc.of desc).flagsOk) = true) :
    exec (.unbind desc true) s = .next (match s.binding? (Desc.of desc).target with
      | none => (accepted s desc).endCmd 0x01
      | some y => if y.owner = (Desc.of desc).owner then (accepted s desc).unbindCmd false (Desc.of desc).target desc
        else (accepted s desc).endCmd 0x03) := by
  rw [← binding?_accepted s desc]
  exact congrArg Host.Outcome.next (command_of_accepted h hok ..)

theorem exec_rebind {s : State} {desc : Unit64} (h : Accepted s desc)
    (hok : ((Desc.of desc).bindOk && (Desc.of desc).targetOk) = true) :
    exec (.rebind desc true) s = .next (match s.binding? (Desc.of desc).target with
      | none => (accepted s desc).endCmd 0x01
      | some y =>
        if y.owner ≠ (Desc.of desc).owner then (accepted s desc).endCmd 0x03
        else if (Desc.of desc).mask ≠ 0 ∧ (Desc.of desc).mask ≠ maskOf y.parts then (accepted s desc).endCmd 0x01
        else (accepted s desc).unbindCmd true (Desc.of desc).target desc) := by
  rw [← binding?_accepted s desc]
  exact congrArg Host.Outcome.next (command_of_accepted h hok ..)

end Sys2Proof.Machine

namespace Sys2Proof.Machine
/-! PROOFS. `UNBIND_RELEASE` (O22). -/

/-- A property that one element's step brings about and every step keeps holds after the fold. -/
theorem foldl_reaches {σ α : Type} {P : σ → Prop} {step : σ → α → σ} {xs : List α} {x : α} (hx : x ∈ xs)
    (hat : ∀ s, P (step s x)) (hkeep : ∀ s y, P s → P (step s y)) (s : σ) : P (xs.foldl step s) := by
  obtain ⟨pre, post, rfl⟩ := List.append_of_mem hx
  rw [List.foldl_append, List.foldl_cons]
  exact List.foldlRecOn post step (hat _) fun t ht y _ => hkeep t y ht

/-! ### What a release ends -/

/-- The slot of a context is free: no entry of the table, and its state register reads 0. -/
def CtxFree (s : State) (c : Nat) : Prop := s.ctx? c = none ∧ s.rd F.CTX_STATE_STATE c = 0

theorem ctx?_eq_none_iff (s : State) (c : Nat) : s.ctx? c = none ↔ ∀ e ∈ s.bnd.ctxs, e.1 ≠ c := by
  simp [State.ctx?]

theorem State.ctx?_freeCtx (s : State) (k c : Nat) :
    (s.freeCtx k).ctx? c = none ↔ k = c ∨ s.ctx? c = none := by
  have hctxs : (s.freeCtx k).bnd.ctxs = Tab.drop s.bnd.ctxs k := by
    unfold freeCtx
    rw [noteEnded_eq]
  simp only [ctx?_eq_none_iff, hctxs, Tab.mem_drop]
  constructor
  · intro h
    by_cases hk : k = c
    · exact .inl hk
    · exact .inr fun e he hec => h e ⟨he, fun hek => hk (hek ▸ hec)⟩ hec
  · rintro (rfl | h) e ⟨he, hek⟩
    · exact hek
    · exact h e he

theorem State.ctxState_freeCtx_same (s : State) {c : Nat} (hc : c < 40960) :
    (s.freeCtx c).rd F.CTX_STATE_STATE c = 0 := by
  unfold freeCtx rd
  dsimp only
  rw [Tab.get_clear_of_true]
  · rfl
  · have hmod : regKey F.CTX_STATE_STATE c % 2 ^ 20 = c := by
      unfold regKey
      omega
    rw [regKey_div, hmod, beq_self_eq_true]
    rfl

theorem State.ctxState_freeCtx_other (s : State) {k c : Nat} (hc : c < 40960) (h : k ≠ c) :
    (s.freeCtx k).rd F.CTX_STATE_STATE c = s.rd F.CTX_STATE_STATE c := by
  have hmod : regKey F.CTX_STATE_STATE c % 2 ^ 20 = c := by
    unfold regKey
    omega
  unfold freeCtx
  rw [noteEnded_eq]
  unfold rd
  dsimp only
  rw [Tab.get_clear_of_false]
  rw [hmod, beq_eq_false_iff_ne.2 h.symm, Bool.and_false]

theorem State.ctxFree_freeCtx (s : State) {c : Nat} (hc : c < 40960) : CtxFree (s.freeCtx c) c :=
  ⟨(s.ctx?_freeCtx c c).2 (.inl rfl), s.ctxState_freeCtx_same hc⟩

theorem CtxFree.freeCtx {s : State} {c : Nat} (h : CtxFree s c) (hc : c < 40960) (k : Nat) :
    CtxFree (s.freeCtx k) c := by
  obtain ⟨hctx, hst⟩ := h
  refine ⟨(s.ctx?_freeCtx k c).2 (.inr hctx), ?_⟩
  by_cases hk : k = c
  · rw [hk, State.ctxState_freeCtx_same _ hc]
  · rw [State.ctxState_freeCtx_other _ hc hk, hst]

theorem State.bolt_setBolt_same (s : State) (k : Nat) (x : Bolt) : (s.setBolt k x).bolt k = x :=
  Tab.get_put_same ..

theorem State.bolt_setBolt_other (s : State) {j k : Nat} (x : Bolt) (h : j ≠ k) :
    (s.setBolt j x).bolt k = s.bolt k := Tab.get_put_other _ h ..

/-- The state of a bolt when a lease of its binding ends. -/
def releasedBolt (x : BoltState) : BoltState := if x = .leased then .draining else x

theorem State.boltState_releaseBolts (s : State) {bs : List Nat} {k : Nat} (hk : k ∈ bs) :
    ((s.releaseBolts bs).bolt k).state = releasedBolt (s.bolt k).state := by
  have hself (s : State) : ((if (s.bolt k).state = .leased then s.setBolt k { s.bolt k with state := .draining }
      else s).bolt k).state = releasedBolt (s.bolt k).state := by
    unfold releasedBolt
    split
    · rw [bolt_setBolt_same]
    · rfl
  refine foldl_settles (g := fun s : State => (s.bolt k).state) (f := releasedBolt) (fun v => ?_) hk hself
    (fun s j => ?_) s
  · unfold releasedBolt
    split <;> simp_all
  · by_cases hj : j = k
    · subst hj
      exact .inr (hself s)
    · left
      dsimp only
      split
      · rw [bolt_setBolt_other _ _ hj]
      · rfl

theorem State.drainLease_eq (s : State) (id : Nat) : s.drainLease id = { s with hbm := (s.drainLease id).hbm } := by
  unfold drainLease
  split
  · split
    · rfl
    · split <;> rfl
  · rfl

theorem State.drainLeases_eq (s : State) (ids : List Nat) :
    ids.foldl State.drainLease s = { s with hbm := (ids.foldl State.drainLease s).hbm } :=
  List.foldlRecOn (motive := fun t : State => t = { s with hbm := t.hbm }) ids State.drainLease rfl
    fun t ht id _ => (t.drainLease_eq id).trans (by rw [ht])

theorem State.releaseBolts_eq (s : State) (bs : List Nat) :
    s.releaseBolts bs = { s with beam := (s.releaseBolts bs).beam } :=
  List.foldlRecOn (motive := fun t : State => t = { s with beam := t.beam }) bs _ rfl fun t ht b _ => by
    split
    · rw [ht]; rfl
    · exact ht

theorem State.ctxsOn_eq_of_bnd {s t : State} (h : t.bnd = s.bnd) (b : Nat) : t.ctxsOn b = s.ctxsOn b := by
  unfold ctxsOn
  rw [h]

theorem State.beam_endFrames (s : State) (p : Frame → Bool) (status : Nat) : (s.endFrames p status).beam = s.beam := by
  rw [s.endFrames_endsOnly p status]

theorem State.beam_freeCtx (s : State) (c : Nat) : (s.freeCtx c).beam = s.beam := by
  unfold freeCtx
  rw [noteEnded_eq]

/-- The release of a binding without a running frame frees its contexts and drains its leased bolts. -/
theorem State.releaseParts_of_idle {s : State} {b : Nat} {x : Binding} (hb : s.binding? b = some x)
    (hr : x.running = none) :
    (∀ c ∈ s.ctxsOn b, c < 40960 → CtxFree (s.releaseParts b x) c) ∧
    ∀ k ∈ x.bolts, ((s.releaseParts b x).bolt k).state = releasedBolt (s.bolt k).state := by
  unfold releaseParts
  rw [stopRunning_of_idle hb hr]
  extract_lets v cs u
  rw [(u.releaseBolts x.bolts).drainLeases_eq x.leases]
  constructor
  · intro c hc hlt
    have hfree : CtxFree u c := foldl_reaches (P := (CtxFree · c)) hc (fun s => s.ctxFree_freeCtx hlt)
      (fun s k h => h.freeCtx hlt k) _
    have heq := u.releaseBolts_eq x.bolts
    generalize u.releaseBolts x.bolts = v at heq
    rw [heq]
    exact hfree
  · intro k hk
    have hbeam : u.beam = s.beam := List.foldlRecOn (motive := fun t : State => t.beam = s.beam) cs State.freeCtx
      (s.beam_endFrames ..) fun t ht c _ => (t.beam_freeCtx c).trans ht
    have hbolt : u.bolt k = s.bolt k := by
      unfold bolt
      rw [hbeam]
    exact (u.boltState_releaseBolts hk).trans (by rw [hbolt])

/-! ### Generations -/

theorem State.advanceGen_onlyFields (s : State) (p : Nat) : OnlyFields s (s.advanceGen p) [F.PART_GEN_GEN] :=
  onlyFields_wr _ _ _ _ (by simp)

theorem State.advanceGens_onlyFields (s : State) (ps : List Nat) :
    OnlyFields s (ps.foldl State.advanceGen s) [F.PART_GEN_GEN] := .foldl _ (fun s p _ => s.advanceGen_onlyFields p) s

theorem State.partGen_advanceGens (s : State) {ps : List Nat} (hnd : ps.Nodup) (hlt : ∀ q ∈ ps, q < 16) {q : Nat}
    (hq : q ∈ ps) : (ps.foldl State.advanceGen s).rd F.PART_GEN_GEN q = (s.rd F.PART_GEN_GEN q + 1) % 64 := by
  have hother (t : State) (p : Nat) (hp : p ∈ ps) (hpq : p ≠ q) :
      (t.advanceGen p).rd F.PART_GEN_GEN q = t.rd F.PART_GEN_GEN q := by
    have := hlt p hp
    have := hlt q hq
    exact t.rd_wr_key _ (regKey_inj_ix (by omega) (by omega) hpq)
  refine foldl_visits (Before := fun t : State => t.rd F.PART_GEN_GEN q = s.rd F.PART_GEN_GEN q) hnd hq
    (fun t p hp hpq ht => (hother t p hp hpq).trans ht) (fun t ht => ?_)
    (fun t p hp hpq ht => (hother t p hp hpq).trans ht) rfl
  rw [← ht]
  exact t.rd_wr_same ..

/-! ### The binding released -/

/-- A binding has been released: it and its contexts are gone, its partitions have new generations, its bolts
drain; every stored byte is as before. -/
structure Released (s t : State) (b : Nat) (x : Binding) : Prop where
  binding : t.binding? b = none
  ctxs : ∀ c ∈ s.ctxsOn b, c < 40960 → CtxFree t c
  gens : ∀ q ∈ x.parts, t.rd F.PART_GEN_GEN q = (s.rd F.PART_GEN_GEN q + 1) % 64
  bolts : ∀ k ∈ x.bolts, (s.bolt k).state = .leased → (t.bolt k).state = .draining
  beam : t.beam.bytes = s.beam.bytes
  hbm : t.hbm.bytes = s.hbm.bytes
  flash : t.stw.flash = s.stw.flash

/-- The generations of the partitions advance and the binding is released. -/
def State.endBinding (s : State) (b : Nat) (x : Binding) : State :=
  (x.parts.foldl State.advanceGen s).releaseBinding b

/-- Registers that the end of a binding writes. -/
def endFields : List Fld := F.PART_GEN_GEN :: releaseFields

theorem State.endBinding_keeps (s : State) (b : Nat) (x : Binding) : Keeps endFields s (s.endBinding b x) :=
  (Keeps.mono (.of_onlyFields (s.advanceGens_onlyFields x.parts)) (by simp [endFields])).trans
    ((releaseBinding_keeps ..).mono fun _ h => List.mem_cons_of_mem _ h)

theorem binding?_drop_same (m : SMap Binding) (b : Nat) : ((Tab.drop m b).find? (·.1 == b)).map (·.2) = none := by
  simp [Tab.mem_drop]

theorem State.endBinding_released {s : State} {b : Nat} {x : Binding} (hb : s.binding? b = some x)
    (hr : x.running = none) (hnd : x.parts.Nodup) (hlt : ∀ q ∈ x.parts, q < 16) :
    Released s (s.endBinding b x) b x := by
  have hadv := s.advanceGens_onlyFields x.parts
  have hkeeps := s.endBinding_keeps b x
  have hgens (q : Nat) (hq : q ∈ x.parts) : (s.endBinding b x).rd F.PART_GEN_GEN q = (s.rd F.PART_GEN_GEN q + 1) % 64 :=
    ((releaseBinding_keeps ..).rd _ _ (by decide)).trans (s.partGen_advanceGens hnd hlt hq)
  unfold endBinding at hkeeps hgens ⊢
  generalize x.parts.foldl State.advanceGen s = u at hadv hkeeps hgens ⊢
  have hub : u.binding? b = some x := ((EndsOnly.of_onlyFields hadv).binding? b).trans hb
  obtain ⟨hctxs, hbolts⟩ := u.releaseParts_of_idle hub hr
  obtain ⟨use, jobs, copies, recs, heq⟩ := releaseBinding_of_binding hub
  obtain ⟨hbeam, hhbm, hflash⟩ := hkeeps.bytes
  rw [ctxsOn_eq_of_bnd hadv.bnd] at hctxs
  refine ⟨?_, fun c hc hl => ?_, hgens, fun k hk hl => ?_, hbeam, hhbm, hflash⟩
  · rw [heq]
    exact binding?_drop_same ..
  · rw [heq]
    exact hctxs c hc hl
  · have hleased : (u.bolt k).state = .leased := by
      rw [hadv.1]
      exact hl
    rw [heq]
    exact (hbolts k hk).trans (by rw [hleased]; rfl)

end Sys2Proof.Machine

namespace Sys2Proof.Machine
/-! PROOFS. `UNBIND_RELEASE` as a command, and O22. -/

/-! ### Partitions switched off (R46) -/

/-- Registers that a partition's switch-off writes. -/
def offFields : List Fld :=
  [F.PART_STATE_STATE, F.PART_STATE_ARR_ON, F.PART_LEASE_OWNER_OWNER, F.PART_CLUSTERS_OK_VARIANT]

/-- Only the array and the switch-off registers differ. -/
structure Parks (s t : State) : Prop where
  only : t = { s with regs := t.regs, arr := t.arr }
  fields : SameButFields s t offFields

namespace Parks

variable {s t u : State}

theorem refl (s : State) : Parks s s := ⟨rfl, .refl s _⟩

theorem trans (h : Parks s t) (h' : Parks t u) : Parks s u := by
  obtain ⟨ht, hf⟩ := h
  obtain ⟨hu, hf'⟩ := h'
  exact ⟨by rw [ht] at hu; exact hu, hf.trans hf'⟩

theorem keeps (h : Parks s t) : Keeps offFields s t := ⟨by rw [h.only]; rfl, h.fields⟩

end Parks

theorem State.clearArray_parks (s : State) (p : Nat) : Parks s (s.clearArray p) := ⟨rfl, .of_regs rfl _⟩

theorem State.partOff_parks (s : State) (p state : Nat) : Parks s (s.partOff p state) := by
  have h : OnlyFields s ((((s.wr F.PART_STATE_STATE p state).wr F.PART_STATE_ARR_ON p 0).wr
      F.PART_LEASE_OWNER_OWNER p 0).wr F.PART_CLUSTERS_OK_VARIANT p 0) offFields := by
    refine (((onlyFields_wr _ _ _ _ ?_).wr _ _ _ ?_).wr _ _ _ ?_).wr _ _ _ ?_ <;> simp [offFields]
  exact Parks.trans ⟨by rw [h.1], h.2⟩ (clearArray_parks _ p)

theorem State.parkParts_parks (s : State) (ps : List Nat) : Parks s (s.parkParts ps) :=
  foldl_relates Parks.refl (fun _ _ _ => .trans) _ (fun s p _ => by
    split
    · exact .refl s
    · exact s.partOff_parks ..) s

theorem State.partState_partOff (s : State) (p state q : Nat) :
    (s.partOff p state).rd F.PART_STATE_STATE q = (s.wr F.PART_STATE_STATE p state).rd F.PART_STATE_STATE q := by
  show State.rd (((_ : State).wr F.PART_LEASE_OWNER_OWNER p 0).wr F.PART_CLUSTERS_OK_VARIANT p 0) _ _ = _
  simp (disch := decide) only [rd_wr_id]

/-- A partition's switch-off puts none in reset. -/
theorem State.inReset_partOff {s : State} {q : Nat} (h : s.inReset q = false) (p : Nat) (c : Prop) [Decidable c] :
    (s.partOff p (if c then 7 else 0)).inReset q = false := by
  unfold inReset at h ⊢
  rw [partState_partOff]
  by_cases hk : regKey F.PART_STATE_STATE p = regKey F.PART_STATE_STATE q
  · have hwr : (s.wr F.PART_STATE_STATE p (if c then 7 else 0)).rd F.PART_STATE_STATE q = if c then 7 else 0 := by
      rw [show s.wr F.PART_STATE_STATE p _ = s.wr F.PART_STATE_STATE q _ from by unfold wr; rw [hk], rd_wr_same]
      split <;> rfl
    rw [hwr]
    split <;> rfl
  · rwa [s.rd_wr_key _ hk]

/-- A partition of the list, not in reset, has its array cleared. -/
theorem State.scratchZero_parkParts {s : State} {ps : List Nat} (hnd : ps.Nodup) {q : Nat} (hq : q ∈ ps)
    (h : s.inReset q = false) : ScratchZero (s.parkParts ps) q := by
  refine foldl_visits (Before := fun t : State => t.inReset q = false) (After := fun t : State => ScratchZero t q) hnd
    hq (fun t p _ _ ht => ?_) (fun t ht => ?_) (fun t p _ _ ht => ?_) h
  · split
    · exact ht
    · exact inReset_partOff ht p _
  · rw [ht, if_neg Bool.false_ne_true]
    exact fun c o hc ho => scratchZero_clearArray _ q c o hc ho
  · split
    · exact ht
    · exact ScratchZero.clearArray (ht.of_scratch rfl) p

/-! ### What the release leaves is kept -/

/-- The tables, memories and registers in which a release shows. -/
theorem Released.after {s t u : State} {b : Nat} {x : Binding} (h : Released s t b x) {l : List Fld}
    (hf : SameButFields t u l) (hl : ∀ f ∈ l, F.PART_GEN_GEN.id ≠ f.id ∧ F.CTX_STATE_STATE.id ≠ f.id)
    (htab : u.bnd.bindings = t.bnd.bindings ∧ u.bnd.ctxs = t.bnd.ctxs)
    (hmem : u.beam = t.beam ∧ u.hbm = t.hbm ∧ u.stw = t.stw) : Released s u b x := by
  obtain ⟨hb, hc, hg, hbo, hbeam, hhbm, hflash⟩ := h
  obtain ⟨hbindings, hctxs⟩ := htab
  obtain ⟨hbeam', hhbm', hstw'⟩ := hmem
  refine ⟨?_, fun c hm hlt => ?_, fun q hq => ?_, fun k hm hl => ?_, ?_, ?_, ?_⟩
  · unfold State.binding? at hb ⊢
    rwa [hbindings]
  · obtain ⟨hctx, hst⟩ := hc c hm hlt
    refine ⟨?_, (hf.rd _ _ fun f hf => (hl f hf).2).trans hst⟩
    unfold State.ctx? at hctx ⊢
    rwa [hctxs]
  · exact (hf.rd _ _ fun f hf => (hl f hf).1).trans (hg q hq)
  · rw [← hbo k hm hl]
    unfold State.bolt
    rw [hbeam']
  · rw [hbeam', hbeam]
  · rw [hhbm', hhbm]
  · rw [hstw', hflash]

theorem Released.parks {s t u : State} {b : Nat} {x : Binding} (h : Released s t b x) (hp : Parks t u) :
    Released s u b x := by
  refine h.after hp.fields (by decide) ⟨?_, ?_⟩ ⟨?_, ?_, ?_⟩ <;> rw [hp.only]

/-- Registers that the end of a command writes, as fields. -/
def cmdEndFields : List Fld := [F.CMD_STATUS_BUSY, F.CMD_STATUS_DONE, F.CMD_STATUS_REASON, I.msixPending]

theorem State.endCmd_fields {s : State} (hc : s.bnd.toClose = []) (reason : Nat) :
    SameButFields s (s.endCmd reason) cmdEndFields := fun f i hf =>
  State.endCmd_sameBut hc reason f i fun y hy => regKey_inj_id (by
    simp only [cmdEnd, List.mem_cons, List.not_mem_nil, or_false] at hy
    obtain rfl | rfl | rfl | rfl := hy <;> exact hf _ (by simp [cmdEndFields]))

theorem Released.endCmd {s t : State} {b : Nat} {x : Binding} (h : Released s t b x) (hc : t.bnd.toClose = [])
    (reason : Nat) : Released s (t.endCmd reason) b x := by
  have htaken : t.endCmd reason = _ := State.endCmd_taken hc reason
  refine h.after (State.endCmd_fields hc reason) (by decide) ⟨?_, ?_⟩ ⟨?_, ?_, ?_⟩ <;> rw [htaken]

theorem Released.setCmd {s t : State} {b : Nat} {x : Binding} (h : Released s t b x) (c : CmdRun) :
    Released s (t.setCmd c) b x := h.after (.of_regs rfl []) (by decide) ⟨rfl, rfl⟩ ⟨rfl, rfl, rfl⟩

/-- The release in the words of O22. -/
theorem Released.spec {s t : State} {b : Nat} {x : Binding} (h : Released s t b x)
    (hctx : ∀ c ∈ s.ctxsOn b, c < 40960) : t.binding? b = none ∧
      (∀ c ∈ s.ctxsOn b, t.ctx? c = none ∧ t.rd F.CTX_STATE_STATE c = 0) ∧
      (∀ q ∈ x.parts, t.rd F.PART_GEN_GEN q = (s.rd F.PART_GEN_GEN q + 1) % 64) ∧
      (∀ k ∈ x.bolts, (s.bolt k).state = .leased → (t.bolt k).state = .draining) ∧
      t.beam.bytes = s.beam.bytes ∧ t.hbm.bytes = s.hbm.bytes ∧ t.stw.flash = s.stw.flash :=
  ⟨h.binding, fun c hc => h.ctxs c hc (hctx c hc), h.gens, h.bolts, h.beam, h.hbm, h.flash⟩

/-! ### The command -/

theorem exec_unbindRelease {s : State} {b : BindIx} {x : Binding} (hb : s.binding? b.val = some x)
    (hphase : x.phase = .unbinding) (hr : x.running = none) : exec (.unbindRelease b) s =
      match s.bnd.cmd with
      | some (.rebind k desc) =>
        if k = b.val then .next ((x.parts.foldl State.clearArray (s.endBinding b.val x)).setCmd
          (.rebound x.parts x.bolts x.leases desc)).goOn
        else .next ((s.endBinding b.val x).parkParts x.parts)
      | some (.unbind k) => .next (if k = b.val then ((s.endBinding b.val x).parkParts x.parts).endCmd 0
        else (s.endBinding b.val x).parkParts x.parts)
      | _ => .next ((s.endBinding b.val x).parkParts x.parts) := by
  show execUnbindRelease b s = _
  rw [← (s.endBinding_keeps b.val x).cmd]
  unfold execUnbindRelease
  simp only [hb, hphase, hr, Option.isNone_none, and_self, if_true]
  rfl

theorem exec_unbindRelease_not {s : State} {b : BindIx}
    (h : ∀ x, s.binding? b.val = some x → x.phase ≠ .unbinding ∨ x.running ≠ none) :
    exec (.unbindRelease b) s = .next s := by
  show execUnbindRelease b s = _
  unfold execUnbindRelease
  split
  · rfl
  · next x hx =>
    rw [if_neg]
    rintro ⟨hphase, hr⟩
    exact (h x hx).elim (· hphase) (· (Option.isNone_iff_eq_none.1 hr))

/-- The release at the end of an `UNBIND`. -/
theorem unbindRelease_ends {s : State} {b : BindIx} {x : Binding} (hb : s.binding? b.val = some x)
    (hphase : x.phase = .unbinding) (hr : x.running = none) (hnd : x.parts.Nodup) (hlt : ∀ q ∈ x.parts, q < 16)
    (hcmd : s.bnd.cmd = some (.unbind b.val)) (hclose : s.bnd.toClose = []) :
    Completes (.unbindRelease b) s fun t => Released s t b.val x ∧ EndsWith s t 0 ∧
      ∀ (k : CoreId) (o : Nat), k.part.val ∈ x.parts → s.inReset k.part.val = false → o < 24576 →
        t.scratchByte k o = 0 := by
  have hkeeps := s.endBinding_keeps b.val x
  have hparks := (s.endBinding b.val x).parkParts_parks x.parts
  have hrel := (State.endBinding_released hb hr hnd hlt).parks hparks
  have hc : ((s.endBinding b.val x).parkParts x.parts).bnd.toClose = [] :=
    (hparks.keeps.toClose.trans hkeeps.toClose).trans hclose
  refine ⟨_, ?_, hrel.endCmd hc 0, ?_, fun k o hk hreset ho => ?_⟩
  · rw [exec_unbindRelease hb hphase hr, hcmd]
    simp only [if_true]
  · refine EndsWith.of_rd (State.endCmd_endsWith hc (by decide)) ?_ ?_ <;>
      exact (hparks.keeps.rd _ _ (by decide)).trans (hkeeps.rd _ _ (by decide))
  · have hreset' : (s.endBinding b.val x).inReset k.part.val = false := by
      unfold State.inReset at hreset ⊢
      rwa [hkeeps.rd _ _ (by decide)]
    obtain ⟨-, -, -, harr⟩ := (State.endCmd_taken hc 0).keepsBytes
    exact (State.scratchZero_parkParts hnd hk hreset').of_scratch (by rw [harr]) k o rfl ho

/-- A re-bind whose old bolts still drain waits. -/
theorem State.goOn_waits {s : State} {ps bs ls : List Nat} {desc : Unit64}
    (hcmd : s.bnd.cmd = some (.rebound ps bs ls desc)) {k : Nat} (hk : k ∈ bs) (hd : (s.bolt k).state = .draining) :
    s.goOn = s := by
  have hbusy : (bs.any fun b => (s.bolt b).state == .draining || (s.bolt b).state == .zeroing) = true :=
    List.any_eq_true.2 ⟨k, hk, by rw [hd]; rfl⟩
  simp only [goOn, hcmd, hbusy, Bool.true_or, if_true]

/-- The release at the end of a re-bind's first half. -/
theorem unbindRelease_waits {s : State} {b : BindIx} {x : Binding} (hb : s.binding? b.val = some x)
    (hphase : x.phase = .unbinding) (hr : x.running = none) (hnd : x.parts.Nodup) (hlt : ∀ q ∈ x.parts, q < 16)
    {desc : Unit64} (hcmd : s.bnd.cmd = some (.rebind b.val desc)) (hbolt : ∃ k ∈ x.bolts, (s.bolt k).state = .leased) :
    Completes (.unbindRelease b) s fun t => Released s t b.val x ∧
      t.bnd.cmd = some (.rebound x.parts x.bolts x.leases desc) := by
  have hparks : Parks (s.endBinding b.val x) (x.parts.foldl State.clearArray (s.endBinding b.val x)) :=
    foldl_relates Parks.refl (fun _ _ _ => .trans) _ (fun s p _ => s.clearArray_parks p) _
  have hrel := (State.endBinding_released hb hr hnd hlt).parks hparks
  obtain ⟨k, hk, hleased⟩ := hbolt
  have hexec : exec (.unbindRelease b) s = .next ((x.parts.foldl State.clearArray (s.endBinding b.val x)).setCmd
      (.rebound x.parts x.bolts x.leases desc)).goOn := by
    rw [exec_unbindRelease hb hphase hr, hcmd]
    simp only [if_true]
  generalize x.parts.foldl State.clearArray (s.endBinding b.val x) = u at hrel hexec
  have hwait : (u.setCmd (.rebound x.parts x.bolts x.leases desc)).goOn =
      u.setCmd (.rebound x.parts x.bolts x.leases desc) := State.goOn_waits rfl hk (hrel.bolts k hk hleased)
  exact ⟨_, by rw [hexec, hwait], hrel.setCmd _, rfl⟩

/-- Settles O22: a command refused, waiting or begun, and the release at its end. -/
theorem unbindAndRebind : Obligations.UnbindAndRebind := by
  unfold Obligations.UnbindAndRebind
  refine ⟨fun desc s h => ⟨fun hok => ?_, fun hok => ?_⟩, fun b x s hb hphase hr hnd hlt => ⟨?_, ?_⟩,
    fun b s h => exec_unbindRelease_not h⟩
  · refine ⟨fun hb => ?_, fun y hb => ⟨fun ho => ?_, fun ho => ?_, fun ho => ?_⟩⟩
    · exact refused h (by rw [exec_unbind h hok, hb]) (by decide)
    · exact refused h (by rw [exec_unbind h hok, hb]; exact congrArg _ (if_neg ho)) (by decide)
    all_goals
      have hexec : exec (.unbind desc true) s =
          .next ((accepted s desc).unbindCmd false (Desc.of desc).target desc) := by
        rw [exec_unbind h hok, hb]
        exact congrArg _ (if_pos ho)
    · exact (unbindCmd_acts hexec hb).1
    · exact (unbindCmd_acts hexec hb).2
  · refine ⟨fun hb => ?_, fun y hb => ⟨fun ho => ?_, fun ho hm hm' => ?_, fun ho hm => ?_, fun ho hm => ?_⟩⟩
    · exact refused h (by rw [exec_rebind h hok, hb]) (by decide)
    · exact refused h (by rw [exec_rebind h hok, hb]; exact congrArg _ (if_pos ho)) (by decide)
    · refine refused h ?_ (by decide)
      rw [exec_rebind h hok, hb]
      exact congrArg _ ((if_neg (not_not.2 ho)).trans (if_pos ⟨hm, hm'⟩))
    all_goals
      have hexec : exec (.rebind desc true) s =
          .next ((accepted s desc).unbindCmd true (Desc.of desc).target desc) := by
        rw [exec_rebind h hok, hb]
        refine congrArg _ ((if_neg (not_not.2 ho)).trans (if_neg ?_))
        rintro ⟨h0, hp⟩
        exact hm.elim h0 hp
    · exact (unbindCmd_acts hexec hb).1
    · exact (unbindCmd_acts hexec hb).2
  · intro hcmd hclose hctx
    obtain ⟨t, hexec, hrel, hend, hzero⟩ := unbindRelease_ends hb hphase hr hnd hlt hcmd hclose
    exact ⟨t, hexec, hrel.spec hctx, hend, hzero⟩
  · intro desc hcmd hbolt hctx
    obtain ⟨t, hexec, hrel, hrebound⟩ := unbindRelease_waits hb hphase hr hnd hlt hcmd hbolt
    exact ⟨t, hexec, hrel.spec hctx, hrebound⟩

end Sys2Proof.Machine

namespace Sys2Proof.Machine
/-! PROOFS. `BIND` refused, and what its decision tick answers (O20). -/

/-! ### The decision tick (R172, R173) -/

theorem State.bindPlan_parts (s : State) (x : Desc) (h : Bundle) :
    (s.bindPlan x h none).parts = (s.chooseParts x h.hdr.partitions none).1 := rfl

/-- The partitions that a bind chooses stand in the list of all. -/
theorem State.chooseParts_sublist (s : State) (x : Desc) (n : Nat) :
    (s.chooseParts x n none).1.Sublist (List.range 16) := by
  unfold chooseParts
  dsimp only
  split
  · exact (List.take_sublist _ _).trans List.filter_sublist
  · exact List.filter_sublist

theorem State.bindPlan_nodup (s : State) (x : Desc) (h : Bundle) : (s.bindPlan x h none).parts.Nodup :=
  List.nodup_range.sublist (s.chooseParts_sublist x _)

theorem State.bindPlan_lt (s : State) (x : Desc) (h : Bundle) {q : Nat} (hq : q ∈ (s.bindPlan x h none).parts) :
    q < 16 := List.mem_range.1 ((s.chooseParts_sublist x _).subset hq)

theorem State.bindPlan_codes_lt (s : State) (x : Desc) (h : Bundle) (again : Option (List Nat)) :
    ∀ c ∈ (s.bindPlan x h again).codes, c < 256 := by
  have hite {p : Prop} [Decidable p] {k : Nat} (hk : k < 256) : ∀ c ∈ (if p then [] else [k]), c < 256 := by
    split <;> simp [hk]
  have hite' {p : Prop} [Decidable p] {k : Nat} (hk : k < 256) : ∀ c ∈ (if p then [k] else []), c < 256 := by
    split <;> simp [hk]
  unfold bindPlan
  simp only [List.forall_mem_append]
  refine ⟨⟨⟨⟨⟨⟨⟨⟨⟨?_, ?_⟩, ?_⟩, ?_⟩, ?_⟩, ?_⟩, ?_⟩, ?_⟩, ?_⟩, ?_⟩
  case refine_1 | refine_3 | refine_4 | refine_6 | refine_9 | refine_10 => exact hite' (by decide)
  all_goals exact hite (by decide)

/-! ### The command -/

theorem bundle?_accepted (s : State) (desc : Unit64) (k : Nat) : (accepted s desc).bundle? k = s.bundle? k := by
  obtain ⟨o, h⟩ := accepted_eq s desc
  rw [h]
  rfl

theorem exec_bind {s : State} {desc : Unit64} (h : Accepted s desc) (hok : (Desc.of desc).bindOk = true) :
    exec (.bind desc true) s =
      .next ((accepted s desc).tryBind (Desc.of desc) none fun c s => s.endCmd c) := by
  obtain ⟨-, -, -, -, -, hdrbg⟩ := id h
  show execBind desc true s = _
  unfold execBind
  rw [hdrbg, if_neg Bool.false_ne_true, command_of_accepted h hok]

theorem State.tryBind_unknown {s : State} {x : Desc} (h : s.bundle? x.bundle = none) (again : Option (List Nat))
    (refuse : Nat → State → State) : s.tryBind x again refuse = refuse 0x04 s := by
  simp only [tryBind, h]

theorem State.tryBind_notOwner {s : State} {x : Desc} {h : Bundle} (hh : s.bundle? x.bundle = some h)
    (ho : h.owner ≠ x.owner) (again : Option (List Nat)) (refuse : Nat → State → State) :
    s.tryBind x again refuse = refuse 0x03 s := by
  simp only [tryBind, hh]
  exact if_pos ho

theorem State.tryBind_wrongCount {s : State} {x : Desc} {h : Bundle} (hh : s.bundle? x.bundle = some h)
    (ho : h.owner = x.owner) {again : Option (List Nat)} (hc : wrongCount x h.hdr.partitions again = true)
    (refuse : Nat → State → State) : s.tryBind x again refuse = refuse 0x01 s := by
  simp only [tryBind, hh]
  exact (if_neg (not_not.2 ho)).trans (if_pos hc)

/-- The bind's decision is taken. -/
theorem State.tryBind_decides {s : State} {x : Desc} {h : Bundle} (hh : s.bundle? x.bundle = some h)
    (ho : h.owner = x.owner) {again : Option (List Nat)} (hc : wrongCount x h.hdr.partitions again = false)
    (refuse : Nat → State → State) : s.tryBind x again refuse =
      match (s.bindPlan x h again).codes with
      | [] => s.grantBind x h (s.bindPlan x h again)
      | c :: _ => refuse c (s.showMissing (s.bindPlan x h again)) := by
  simp only [tryBind, hh]
  exact (if_neg (not_not.2 ho)).trans (if_neg (by rw [hc]; exact Bool.false_ne_true))

/-! ### The refusal with its shortfalls (R173) -/

/-- Places that a refused bind shows its shortfalls in. -/
def missingPlaces : List (Fld × Nat) :=
  [(F.CMD_MISSING0_BOLTS, 0), (F.CMD_MISSING0_PARTITIONS, 0), (F.CMD_MISSING1_EXTENTS, 0),
    (F.CMD_MISSING1_DECODE_UNITS, 0), (F.CMD_MISSING1_KEY_SLOTS, 0)]

theorem State.showMissing_sameBut (s : State) (p : BindPlan) : SameBut s (s.showMissing p) missingPlaces := by
  unfold showMissing
  refine ((((sameBut_wr s _ _ _ ?_).wr _ _ _ ?_).wr _ _ _ ?_).wr _ _ _ ?_).wr _ _ _ ?_ <;> simp [missingPlaces]

theorem State.nothingGranted_showMissing (s : State) (p : BindPlan) :
    NothingGranted s (s.showMissing p) missingPlaces :=
  ⟨rfl, rfl, rfl, rfl, rfl, rfl, rfl, rfl, s.showMissing_sameBut p⟩

theorem NothingGranted.mono {s t : State} {l l' : List (Fld × Nat)} (h : NothingGranted s t l)
    (hl : ∀ x ∈ l, x ∈ l') : NothingGranted s t l' := by
  obtain ⟨h1, h2, h3, h4, h5, h6, h7, h8, hregs⟩ := h
  exact ⟨h1, h2, h3, h4, h5, h6, h7, h8, hregs.mono hl⟩

/-- The shortfalls of a decision as a refused bind shows them. -/
def ShowsMissing (t : State) (p : BindPlan) : Prop :=
  t.rd F.CMD_MISSING0_BOLTS 0 = min 511 p.noBolts ∧ t.rd F.CMD_MISSING0_PARTITIONS 0 = min 16 p.noParts ∧
  t.rd F.CMD_MISSING1_EXTENTS 0 = min 16383 p.noExts ∧ t.rd F.CMD_MISSING1_DECODE_UNITS 0 = min 255 p.noUnits ∧
  t.rd F.CMD_MISSING1_KEY_SLOTS 0 = min 255 p.noKeys

theorem State.showMissing_shows (s : State) (p : BindPlan) : ShowsMissing (s.showMissing p) p := by
  unfold ShowsMissing showMissing
  simp (disch := decide) only [rd_wr_id, rd_wr_same]
  refine ⟨?_, ?_, ?_, ?_, ?_⟩ <;> refine Nat.mod_eq_of_lt (Nat.lt_of_le_of_lt (Nat.min_le_left ..) ?_) <;> decide

theorem ShowsMissing.endCmd {s : State} {p : BindPlan} (h : ShowsMissing s p) (hc : s.bnd.toClose = []) (reason : Nat) :
    ShowsMissing (s.endCmd reason) p := by
  have hf := State.endCmd_fields hc reason
  unfold ShowsMissing at h ⊢
  rwa [hf.rd _ _ (by decide), hf.rd _ _ (by decide), hf.rd _ _ (by decide), hf.rd _ _ (by decide),
    hf.rd _ _ (by decide)]

/-- A bind that lacks something is refused with the first reason and all shortfalls. -/
theorem bind_missing {s : State} {desc : Unit64} (h : Accepted s desc) {i : Instr} {p : BindPlan} {c : Nat}
    (hexec : exec i s = .next (((accepted s desc).showMissing p).endCmd c)) (hc : c < 256) :
    Completes i s fun t => EndsWith s t c ∧ ShowsMissing t p ∧ NothingGranted s t (cmdEnd ++ missingPlaces) := by
  have hclose : ((accepted s desc).showMissing p).bnd.toClose = [] := accepted_toClose h
  refine ⟨_, hexec, EndsWith.of_rd (State.endCmd_endsWith hclose hc) ?_ ?_,
    ShowsMissing.endCmd (State.showMissing_shows ..) hclose c, ?_⟩
  · obtain ⟨o, ho⟩ := accepted_eq s desc
    rw [ho]
    exact State.showMissing_sameBut _ p _ _ (by decide)
  · obtain ⟨o, ho⟩ := accepted_eq s desc
    rw [ho]
    exact State.showMissing_sameBut _ p _ _ (by decide)
  · exact NothingGranted.trans (nothingGranted_accepted s desc _) (NothingGranted.trans
      (NothingGranted.mono (State.nothingGranted_showMissing _ p) fun _ hx => List.mem_append_right _ hx)
      (State.nothingGranted_endCmd hclose c fun _ hx => List.mem_append_left _ hx))

end Sys2Proof.Machine

namespace Sys2Proof.Machine
/-! PROOFS. A partition of a granted bind begins (O20): its sweep, or its repair decision and schedule. -/

theorem regKey_ne_of_ix {f g : Fld} {i j : Nat} (hi : i < 16) (hj : j < 16) (h : i ≠ j) : regKey f i ≠ regKey g j := by
  unfold regKey
  omega

/-- What the beginning of partition `p` leaves alone: the registers of other partitions, but those of the clusters
that the repair decision writes. -/
def OthersKept (p : Nat) (s t : State) : Prop :=
  ∀ (f : Fld) (q : Nat), (∀ x ∈ decideFields, f.id ≠ x.id) → q < 16 → q ≠ p → t.rd f q = s.rd f q

theorem OthersKept.trans {p : Nat} {s t u : State} (h : OthersKept p s t) (h' : OthersKept p t u) :
    OthersKept p s u := fun f q hf hq hne => (h' f q hf hq hne).trans (h f q hf hq hne)

theorem OthersKept.of_regs {p : Nat} {s t : State} (h : t.regs = s.regs) : OthersKept p s t := fun f q _ _ _ => by
  unfold State.rd
  rw [h]

theorem othersKept_wr (s : State) (f : Fld) {p : Nat} (v : Nat) (hp : p < 16) : OthersKept p s (s.wr f p v) :=
  fun _ _ _ hq hne => s.rd_wr_key v (regKey_ne_of_ix hp hq hne.symm)

theorem OthersKept.wr {p : Nat} {s t : State} (h : OthersKept p s t) (f : Fld) (v : Nat) (hp : p < 16) :
    OthersKept p s (t.wr f p v) := h.trans (othersKept_wr t f v hp)

theorem State.repairDecision_othersKept (s : State) (p : Part) : OthersKept p.val s (s.repairDecision p) := by
  rw [repairDecision_eq]
  exact OthersKept.trans (fun f q hf _ _ => (s.decideClusters_decides p).fields f q hf)
    (othersKept_wr _ _ _ p.isLt)

theorem State.startSweep_othersKept (s : State) {p : Nat} (hp : p < 16) : OthersKept p s (s.startSweep p) := by
  unfold startSweep
  exact (((othersKept_wr s _ _ hp).wr _ _ hp).wr _ _ hp).wr _ _ hp

theorem State.seedLanes_othersKept (s : State) {p : Nat} (hp : p < 16) : OthersKept p s (s.seedLanes p) := by
  unfold seedLanes
  exact ((othersKept_wr s _ _ hp).wr _ _ hp).trans (.of_regs rfl)

theorem State.placeSchedule_othersKept (s : State) {p : Nat} (hp : p < 16) (owner : Nat) :
    OthersKept p s (s.placeSchedule p owner) := by
  unfold placeSchedule
  have hseed : OthersKept p s ((s.clearArray p).seedLanes p) :=
    OthersKept.trans (.of_regs rfl) (seedLanes_othersKept _ hp)
  exact (((((hseed.wr _ _ hp).wr _ _ hp).wr _ _ hp).wr _ _ hp).wr _ _ hp).wr _ _ hp

/-! ### What the beginning of a partition changes -/

/-- Registers that the beginning of a partition writes. -/
def beginFields : List Fld :=
  [F.PART_LEASE_OWNER_OWNER, F.PART_STATE_SWEEP_DUE, F.PART_CTRL_SWEEP_NEXT, F.PART_STATE_STATE, F.PART_STATE_ARR_ON,
    F.PART_CLUSTERS_OK_CLUSTERS_OK, I.srFixed, I.srSeed, F.PART_ARITH_STATUS_SAT_COUNT, F.PART_ARITH_STATUS_NAN_COUNT,
    F.PART_CLUSTERS_OK_VARIANT] ++ decideFields

/-- Beside registers the start of jobs, sweeps and schedules changes the array, the jobs, the free values taken and
the steward's queues. -/
structure Begins (l : List Fld) (s t : State) : Prop where
  only : t = { s with regs := t.regs, free := t.free, arr := t.arr, weft := t.weft,
                      stw := { s.stw with retireQueue := t.stw.retireQueue, flashOps := t.stw.flashOps } }
  fields : SameButFields s t l

namespace Begins

variable {l : List Fld} {s t u : State}

theorem refl (s : State) : Begins l s s := ⟨rfl, .refl s l⟩

theorem trans (h : Begins l s t) (h' : Begins l t u) : Begins l s u := by
  obtain ⟨ht, hf⟩ := h
  obtain ⟨hu, hf'⟩ := h'
  exact ⟨by rw [ht] at hu; exact hu, hf.trans hf'⟩

theorem wr (h : Begins l s t) (f : Fld) (i v : Nat) (hf : f ∈ l) : Begins l s (t.wr f i v) :=
  h.trans ⟨rfl, sameButFields_wr t f i v hf⟩

theorem ite {c : Prop} [Decidable c] (h : Begins l s t) (h' : Begins l s u) : Begins l s (if c then t else u) := by
  split <;> assumption

theorem mono {l' : List Fld} (h : Begins l s t) (hl : ∀ x ∈ l, x ∈ l') : Begins l' s t := ⟨h.only, h.fields.mono hl⟩

end Begins

theorem State.startSweep_begins (s : State) (p : Nat) : Begins beginFields s (s.startSweep p) := by
  unfold startSweep
  refine ((((Begins.refl s).wr _ _ _ ?_).wr _ _ _ ?_).wr _ _ _ ?_).wr _ _ _ ?_ <;> simp [beginFields]

theorem State.seedLanes_begins (s : State) (p : Nat) : Begins beginFields s (s.seedLanes p) := by
  have h : OnlyFields s ((s.wr I.srFixed p (s.rd F.PART_ARITH_CTRL_SR_FIXED p)).wr I.srSeed p s.free) beginFields := by
    refine (onlyFields_wr _ _ _ _ ?_).wr _ _ _ ?_ <;> simp [beginFields]
  exact ⟨rfl, h.2⟩

theorem State.placeSchedule_begins (s : State) (p owner : Nat) : Begins beginFields s (s.placeSchedule p owner) := by
  unfold placeSchedule
  have hseed : Begins beginFields s ((s.clearArray p).seedLanes p) :=
    Begins.trans (t := s.clearArray p) ⟨rfl, .of_regs rfl _⟩ (seedLanes_begins ..)
  refine (((((hseed.wr _ _ _ ?_).wr _ _ _ ?_).wr _ _ _ ?_).wr _ _ _ ?_).wr _ _ _ ?_).wr _ _ _ ?_ <;>
    simp [beginFields]

theorem State.repairDecision_begins (s : State) (p : Part) : Begins beginFields s (s.repairDecision p) := by
  have h : s.repairDecision p = _ := s.repairDecision_only p
  refine ⟨by rw [h], (s.repairDecision_fields p).mono fun x hx => ?_⟩
  obtain rfl | hx := List.mem_cons.1 hx
  · simp [beginFields]
  · exact List.mem_append_right _ hx

/-- The partition without a sweep: its repair decision, then its schedule when enough clusters are good. -/
def State.beginSchedule (s : State) (owner p : Nat) : State :=
  let s := s.repairDecision (Fin.ofNat 16 p)
  if s.rd F.PART_CLUSTERS_OK_CLUSTERS_OK p < 96 then s else s.placeSchedule p owner

theorem State.beginPart_eq (s : State) (sweep : Bool) (owner p : Nat) : s.beginPart sweep owner p =
    let u := s.wr F.PART_LEASE_OWNER_OWNER p owner
    if (sweep || u.sweepDue p) = true then u.startSweep p else u.beginSchedule owner p := rfl

theorem State.beginSchedule_begins (s : State) (owner p : Nat) : Begins beginFields s (s.beginSchedule owner p) :=
  (s.repairDecision_begins _).trans (.ite (.refl _) (placeSchedule_begins ..))

theorem State.beginPart_begins (s : State) (sweep : Bool) (owner p : Nat) :
    Begins beginFields s (s.beginPart sweep owner p) := by
  rw [beginPart_eq]
  exact Begins.trans ((Begins.refl s).wr F.PART_LEASE_OWNER_OWNER p owner (by simp [beginFields]))
    (.ite (startSweep_begins ..) (beginSchedule_begins ..))

theorem State.beginParts_begins (s : State) (sweep : Bool) (owner : Nat) (ps : List Nat) :
    Begins beginFields s (ps.foldl (State.beginPart · sweep owner) s) :=
  foldl_relates Begins.refl (fun _ _ _ => .trans) _ (fun s p _ => s.beginPart_begins sweep owner p) s

theorem OthersKept.ite {p : Nat} {s t u : State} {c : Prop} [Decidable c] (h : OthersKept p s t)
    (h' : OthersKept p s u) : OthersKept p s (if c then t else u) := by
  split <;> assumption

theorem State.beginSchedule_othersKept (s : State) (owner : Nat) {p : Nat} (hp : p < 16) :
    OthersKept p s (s.beginSchedule owner p) := by
  have h := s.repairDecision_othersKept (Fin.ofNat 16 p)
  rw [show (Fin.ofNat 16 p).val = p from Nat.mod_eq_of_lt hp] at h
  exact h.trans (.ite (.of_regs rfl) (placeSchedule_othersKept _ hp owner))

theorem State.beginPart_othersKept (s : State) (sweep : Bool) (owner : Nat) {p : Nat} (hp : p < 16) :
    OthersKept p s (s.beginPart sweep owner p) := by
  rw [beginPart_eq]
  exact (othersKept_wr s _ _ hp).trans (.ite (startSweep_othersKept _ hp) (beginSchedule_othersKept _ owner hp))

/-! ### Where a partition stands after it has begun -/

/-- A partition that sweeps for its new owner. -/
def Sweeping (s : State) (q owner : Nat) : Prop :=
  s.rd F.PART_STATE_STATE q = 1 ∧ s.rd F.PART_STATE_ARR_ON q = 1 ∧ s.rd F.PART_STATE_SWEEP_DUE q = 1 ∧
  s.rd F.PART_LEASE_OWNER_OWNER q = owner

/-- A partition that is decided: too few clusters, or its array on for the bundle. -/
def Scheduled (s : State) (q : Nat) : Prop :=
  s.rd F.PART_CLUSTERS_OK_CLUSTERS_OK q < 96 ∨ s.rd F.PART_STATE_STATE q = 2 ∧ s.rd F.PART_STATE_ARR_ON q = 1

theorem State.sweeping_startSweep (s : State) (q : Nat) {owner : Nat} (h : s.rd F.PART_LEASE_OWNER_OWNER q = owner) :
    Sweeping (s.startSweep q) q owner := by
  unfold Sweeping startSweep
  simp (disch := decide) only [rd_wr_id, rd_wr_same, h]
  exact ⟨rfl, rfl, rfl, trivial⟩

theorem State.scheduled_beginSchedule (s : State) (owner q : Nat) : Scheduled (s.beginSchedule owner q) q := by
  unfold beginSchedule
  dsimp only
  split
  · next h => exact .inl h
  · have h := State.placeSchedule_partBecomes (s.repairDecision (Fin.ofNat 16 q)) q owner
    exact .inr ⟨h.state, h.arrOn⟩

theorem State.sweepDue_wr_owner (s : State) (p owner q : Nat) :
    (s.wr F.PART_LEASE_OWNER_OWNER p owner).sweepDue q = s.sweepDue q := by
  unfold sweepDue on
  rw [rd_wr_id _ _ _ _ (by decide), rd_wr_id _ _ _ _ (by decide)]

theorem State.beginPart_sweeps {s : State} {sweep : Bool} {owner q : Nat} (ho : owner < 4096)
    (h : sweep = true ∨ s.sweepDue q = true) : Sweeping (s.beginPart sweep owner q) q owner := by
  rw [beginPart_eq]
  dsimp only
  rw [sweepDue_wr_owner, if_pos (by simpa using h)]
  refine sweeping_startSweep _ q ((s.rd_wr_same ..).trans (Nat.mod_eq_of_lt ?_))
  exact ho.trans (by decide)

theorem State.beginPart_schedules {s : State} {owner q : Nat} (h : s.sweepDue q = false) :
    Scheduled (s.beginPart false owner q) q := by
  rw [beginPart_eq]
  dsimp only
  rw [sweepDue_wr_owner, h, if_neg (by decide)]
  exact scheduled_beginSchedule ..

/-! ### All partitions of the bind -/

theorem OthersKept.sweepDue {p : Nat} {s t : State} (h : OthersKept p s t) {q : Nat} (hq : q < 16) (hne : q ≠ p) :
    t.sweepDue q = s.sweepDue q := by
  unfold State.sweepDue State.on
  rw [h _ q (by decide) hq hne, h _ q (by decide) hq hne]

theorem Sweeping.other {p : Nat} {s t : State} {q owner : Nat} (hs : Sweeping s q owner) (h : OthersKept p s t)
    (hq : q < 16) (hne : q ≠ p) : Sweeping t q owner := by
  unfold Sweeping at hs ⊢
  rwa [h _ q (by decide) hq hne, h _ q (by decide) hq hne, h _ q (by decide) hq hne, h _ q (by decide) hq hne]

theorem Scheduled.other {p : Nat} {s t : State} {q : Nat} (hs : Scheduled s q) (h : OthersKept p s t)
    (hq : q < 16) (hne : q ≠ p) : Scheduled t q := by
  unfold Scheduled at hs ⊢
  rwa [h _ q (by decide) hq hne, h _ q (by decide) hq hne, h _ q (by decide) hq hne]

section
variable {s : State} {sweep : Bool} {owner : Nat} {ps : List Nat} (hnd : ps.Nodup) (hlt : ∀ p ∈ ps, p < 16)
  {q : Nat} (hq : q ∈ ps)
include hnd hlt hq

theorem State.beginParts_sweeps (ho : owner < 4096) (h : sweep = true ∨ s.sweepDue q = true) :
    Sweeping (ps.foldl (State.beginPart · sweep owner) s) q owner :=
  foldl_visits (Before := fun t : State => sweep = true ∨ t.sweepDue q = true)
    (After := fun t : State => Sweeping t q owner) hnd hq
    (fun t p hp hne ht => by
      rwa [(t.beginPart_othersKept sweep owner (hlt p hp)).sweepDue (hlt q hq) hne.symm])
    (fun t ht => State.beginPart_sweeps ho ht)
    (fun t p hp hne ht => ht.other (t.beginPart_othersKept sweep owner (hlt p hp)) (hlt q hq) hne.symm) h

theorem State.beginParts_schedules (h : s.sweepDue q = false) :
    Scheduled (ps.foldl (State.beginPart · false owner) s) q :=
  foldl_visits (Before := fun t : State => t.sweepDue q = false) (After := fun t : State => Scheduled t q) hnd hq
    (fun t p hp hne ht => by
      rwa [(t.beginPart_othersKept false owner (hlt p hp)).sweepDue (hlt q hq) hne.symm])
    (fun t ht => State.beginPart_schedules ht)
    (fun t p hp hne ht => ht.other (t.beginPart_othersKept false owner (hlt p hp)) (hlt q hq) hne.symm) h

end

end Sys2Proof.Machine

namespace Sys2Proof.Machine
/-! PROOFS. A bind granted before its partitions begin (O20): every lease, the binding, the job. -/

/-! ### The leases (R117, R171, R173) -/

theorem State.displace_keeps (s : State) (b : Nat) (ps : List Nat) : Keeps releaseFields s (s.displace b ps) := by
  unfold displace
  extract_lets keep bnd1 s1 n cs bnd2 s2
  have h1 : Keeps releaseFields s s1 := .of_regs rfl rfl
  split
  · exact h1
  · extract_lets s3 s4 use copies bnd5 weft5 s5
    have h4 : Keeps releaseFields s3 s4 := .foldl (fun s c _ => by
      split
      · exact .of_regs rfl rfl
      · exact .refl s) s3
    have h3 : Keeps releaseFields s1 s3 := .of_regs rfl rfl
    have h5 : Keeps releaseFields s4 s5 := .of_regs rfl rfl
    exact ((h1.trans h3).trans (h4.trans h5)).trans (reapDisplaced_keeps s5)

theorem State.leaseBolts_keeps (s : State) (bs : List Nat) (owner : Nat) (l : List Fld) :
    Keeps l s (s.leaseBolts bs owner) := .foldl (fun s _ _ => s.setBolt_keeps ..) s

/-- The bolt belongs to an owner's lease. -/
def LeasedTo (s : State) (owner k : Nat) : Prop := (s.bolt k).state = .leased ∧ (s.bolt k).owner = owner

theorem State.leaseBolts_leased (s : State) {bs : List Nat} (owner : Nat) {k : Nat} (hk : k ∈ bs) :
    LeasedTo (s.leaseBolts bs owner) owner k := by
  have hself (s : State) : LeasedTo (s.setBolt k { s.bolt k with state := .leased, owner := owner }) owner k := by
    unfold LeasedTo
    rw [bolt_setBolt_same]
    exact ⟨rfl, rfl⟩
  refine foldl_reaches (P := fun t => LeasedTo t owner k) hk hself (fun t j ht => ?_) s
  by_cases hj : j = k
  · subst hj
    exact hself t
  · unfold LeasedTo at ht ⊢
    rwa [bolt_setBolt_other _ _ hj]

theorem LeasedTo.of_beam {s t : State} {owner k : Nat} (h : LeasedTo s owner k) (hb : t.beam = s.beam) :
    LeasedTo t owner k := by
  unfold LeasedTo State.bolt at h ⊢
  rwa [hb]

/-- New leases add to the table of leases; the bytes stay. -/
theorem State.makeLeases_only (s : State) (owner : Nat) (use : LeaseUse) (ps : List (Nat × List Nat)) :
    (s.makeLeases owner use ps).2 = { s with hbm := (s.makeLeases owner use ps).2.hbm } ∧
    (s.makeLeases owner use ps).2.hbm.bytes = s.hbm.bytes :=
  List.foldlRecOn (motive := fun x : List Nat × State => x.2 = { s with hbm := x.2.hbm } ∧ x.2.hbm.bytes = s.hbm.bytes)
    ps _ ⟨rfl, rfl⟩ fun x ⟨hx, hb⟩ p _ => by
      split
      · exact ⟨hx, hb⟩
      · refine ⟨?_, hb⟩
        unfold newLease
        dsimp only
        rw [hx]

theorem State.makeLeases_keeps (s : State) (owner : Nat) (use : LeaseUse) (ps : List (Nat × List Nat))
    (l : List Fld) : Keeps l s (s.makeLeases owner use ps).2 := by
  obtain ⟨h, hb⟩ := s.makeLeases_only owner use ps
  refine .of_regs ?_ (by rw [h])
  unfold held
  rw [hb, h]

/-- The number of a bind's binding: its lowest partition. -/
def BindPlan.number (p : BindPlan) : Nat := p.parts.foldl min 15

/-- The leases of a bind, and the state in which they are made. -/
def State.leaseAll (s : State) (x : Desc) (p : BindPlan) : List Nat × State :=
  ((s.displace p.number p.parts).leaseBolts p.bolts x.owner).makeLeases x.owner (.state p.number) p.places

theorem State.leaseAll_keeps (s : State) (x : Desc) (p : BindPlan) : Keeps releaseFields s (s.leaseAll x p).2 :=
  ((s.displace_keeps ..).trans (leaseBolts_keeps ..)).trans (makeLeases_keeps ..)

theorem State.leaseAll_leased (s : State) (x : Desc) (p : BindPlan) {k : Nat} (hk : k ∈ p.bolts) :
    LeasedTo (s.leaseAll x p).2 x.owner k :=
  (leaseBolts_leased _ x.owner hk).of_beam (by unfold leaseAll; rw [(makeLeases_only ..).1])

/-! ### The binding -/

/-- The partitions of a bind that sweep first (R58). -/
def State.dueParts (s : State) (x : Desc) (p : BindPlan) : List Nat :=
  p.parts.filter fun k => x.flags.testBit 2 || s.sweepDue k

theorem State.dueParts_leaseAll (s : State) (x : Desc) (p : BindPlan) :
    (s.leaseAll x p).2.dueParts x p = s.dueParts x p := by
  have h := s.leaseAll_keeps x p
  unfold dueParts sweepDue on
  simp (disch := decide) only [h.rd]

/-- The binding that a bind makes. -/
def newBinding (x : Desc) (p : BindPlan) (leases due : List Nat) : Binding :=
  { owner := x.owner, handle := x.bundle, parts := p.parts, bolts := p.bolts, leases := leases,
    capacity := x.ctx, decodeUnits := x.decode, grants := p.grants, weftShare := x.weft,
    spill := p.level, slowdown := p.slowdown, quadrant := p.quadrant, phase := .sweep,
    links := p.links, sweeping := due }

/-- The leases made and the binding entered; the command is the bind's. -/
def State.bindAll (s : State) (x : Desc) (p : BindPlan) : State :=
  let r := s.leaseAll x p
  (r.2.setBinding p.number (newBinding x p r.1 (r.2.dueParts x p))).setCmd (.bind p.number)

/-- The job of a bind, where its bundle has one. -/
def State.startBindJob (s : State) (h : Bundle) (p : BindPlan) : State :=
  match h.hdr.job with
  | some m => s.startJob p.number m
  | none => s

/-- A granted bind after its partitions have begun. -/
def State.bindBegun (s : State) (x : Desc) (h : Bundle) (p : BindPlan) : State :=
  p.parts.foldl (State.beginPart · (x.flags.testBit 2) x.owner) ((s.bindAll x p).startBindJob h p)

theorem State.grantBind_eq (s : State) (x : Desc) (h : Bundle) (p : BindPlan) : s.grantBind x h p =
    if (s.dueParts x p).isEmpty then (s.bindBegun x h p).judgeBind p.number else s.bindBegun x h p := by
  rw [← dueParts_leaseAll]
  unfold bindBegun startBindJob
  rfl

/-! ### What a granted bind holds -/

/-- Registers of a job that is started. -/
def jobFields : List Fld :=
  [F.WEFT_JOB_STATE_STATE, F.WEFT_JOB_STATE_EPOCH, F.WEFT_JOB_STATE_HANDLE, F.WEFT_JOB_STATE_LOSSES,
    F.WEFT_JOB_PEERS_EXPECTED, F.WEFT_JOB_PEERS_JOINED, F.WEFT_JOB_STATE_STRETCH_PCT]

theorem State.restretch_begins (s : State) : Begins jobFields s s.restretch :=
  foldl_relates Begins.refl (fun _ _ _ => .trans) _ (fun s _ _ => (Begins.refl s).wr _ _ _ (by simp [jobFields])) s

theorem State.startJob_begins (s : State) (b : Nat) (m : JobMap) : Begins jobFields s (s.startJob b m) := by
  unfold startJob
  refine Begins.trans ?_ (restretch_begins _)
  have hset (j : Job) : Begins jobFields s (s.setJob b j) := ⟨rfl, .of_regs rfl _⟩
  refine ((((((hset _).wr _ _ _ ?_).wr _ _ _ ?_).wr _ _ _ ?_).wr _ _ _ ?_).wr _ _ _ ?_).wr _ _ _ ?_ <;>
    simp [jobFields]

/-- Registers that a granted bind writes before it is judged. -/
def grantFields : List Fld := releaseFields ++ (jobFields ++ beginFields)

theorem State.startBindJob_begins (s : State) (h : Bundle) (p : BindPlan) :
    Begins grantFields s (s.startBindJob h p) := by
  unfold startBindJob
  split
  · exact (s.startJob_begins ..).mono fun _ hx => List.mem_append_right _ (List.mem_append_left _ hx)
  · exact .refl s

/-- A granted bind: its command runs, its binding stands, its bolts are its owner's; the stored bytes and the
bundles are as before. -/
structure Granted (s t : State) (x : Desc) (p : BindPlan) : Prop where
  cmd : t.bnd.cmd = some (.bind p.number)
  binding : ∃ leases, t.binding? p.number = some (newBinding x p leases (s.dueParts x p))
  bolts : ∀ k ∈ p.bolts, LeasedTo t x.owner k
  bytes : t.beam.bytes = s.beam.bytes ∧ t.hbm.bytes = s.hbm.bytes ∧ t.stw.flash = s.stw.flash
  bundle : ∀ k, t.bundle? k = s.bundle? k
  toClose : t.bnd.toClose = s.bnd.toClose
  fields : SameButFields s t grantFields

theorem State.bindAll_granted (s : State) (x : Desc) (p : BindPlan) : Granted s (s.bindAll x p) x p := by
  have h := s.leaseAll_keeps x p
  refine ⟨rfl, ⟨(s.leaseAll x p).1, ?_⟩, fun k hk => s.leaseAll_leased x p hk, h.bytes, h.bundle?, h.toClose,
    h.fields.mono fun _ hx => List.mem_append_left _ hx⟩
  rw [← s.dueParts_leaseAll x p]
  exact binding?_setBinding ..

theorem Granted.begins {s t u : State} {x : Desc} {p : BindPlan} (h : Granted s t x p) (hb : Begins grantFields t u) :
    Granted s u x p := by
  obtain ⟨hcmd, ⟨leases, hbind⟩, hbolts, hbytes, hbundle, hclose, hfields⟩ := h
  obtain ⟨hu, hf⟩ := hb
  refine ⟨?_, ⟨leases, ?_⟩, fun k hk => (hbolts k hk).of_beam ?_, ?_, fun k => ?_, ?_, hfields.trans hf⟩ <;> rw [hu]
  · exact hcmd
  · exact hbind
  · exact hbytes
  · exact hbundle k
  · exact hclose

theorem State.bindBegun_granted (s : State) (x : Desc) (h : Bundle) (p : BindPlan) :
    Granted s (s.bindBegun x h p) x p :=
  ((s.bindAll_granted x p).begins (startBindJob_begins ..)).begins ((beginParts_begins ..).mono fun _ hx =>
    List.mem_append_right _ (List.mem_append_right _ hx))

theorem Begins.sweepDue {s t : State} (h : Begins jobFields s t) (q : Nat) : t.sweepDue q = s.sweepDue q := by
  unfold State.sweepDue State.on
  rw [h.fields.rd _ _ (by decide), h.fields.rd _ _ (by decide)]

/-- Which partitions are due is not changed before they begin. -/
theorem State.sweepDue_startBindJob (s : State) (x : Desc) (h : Bundle) (p : BindPlan) (q : Nat) :
    ((s.bindAll x p).startBindJob h p).sweepDue q = s.sweepDue q := by
  have hall : (s.bindAll x p).sweepDue q = s.sweepDue q := by
    have hk := s.leaseAll_keeps x p
    show (s.leaseAll x p).2.sweepDue q = _
    unfold sweepDue on
    rw [hk.rd _ _ (by decide), hk.rd _ _ (by decide)]
  rw [← hall]
  unfold startBindJob
  split
  · exact (startJob_begins ..).sweepDue q
  · rfl

end Sys2Proof.Machine

namespace Sys2Proof.Machine
/-! PROOFS. How a granted bind is judged (R47, R173), and O20. -/

/-! ### A bind that fails after its leases were granted -/

/-- The partitions of a failed bind switched off. -/
def State.failParts (s : State) (ps : List Nat) : State :=
  ps.foldl (fun s p =>
    let st := s.rd F.PART_STATE_STATE p
    if st = 5 ∨ st = 6 then s
    else s.partOff p (if s.rd F.PART_CLUSTERS_OK_CLUSTERS_OK p < 96 then 7 else 0)) s

theorem State.failParts_parks (s : State) (ps : List Nat) : Parks s (s.failParts ps) :=
  foldl_relates Parks.refl (fun _ _ _ => .trans) _ (fun s p _ => by
    dsimp only
    split
    · exact .refl s
    · exact s.partOff_parks ..) s

theorem State.failBind_of_binding {s : State} {b : Nat} {x : Binding} (hb : s.binding? b = some x) (reason : Nat) :
    s.failBind b reason = ((s.releaseBinding b).failParts x.parts).endCmd reason := by
  unfold failBind
  simp only [hb]
  rfl

/-- The outcome of a failed bind: it ends with its reason; the counts of good clusters and the stored bytes stay. -/
structure BindFails (s t : State) (reason : Nat) : Prop where
  ends : EndsWith s t reason
  clusters : ∀ q, t.rd F.PART_CLUSTERS_OK_CLUSTERS_OK q = s.rd F.PART_CLUSTERS_OK_CLUSTERS_OK q
  bytes : t.beam.bytes = s.beam.bytes ∧ t.hbm.bytes = s.hbm.bytes ∧ t.stw.flash = s.stw.flash

theorem State.failBind_fails {s : State} {b : Nat} {x : Binding} (hb : s.binding? b = some x)
    (hc : s.bnd.toClose = []) {reason : Nat} (hr : reason < 256) : BindFails s (s.failBind b reason) reason := by
  have hrel := s.releaseBinding_keeps b
  have hoff := ((s.releaseBinding b).failParts_parks x.parts).keeps
  rw [failBind_of_binding hb]
  generalize (s.releaseBinding b).failParts x.parts = u at hoff ⊢
  have hrd (f : Fld) (i : Nat) (hf : ∀ x ∈ releaseFields ++ offFields, f.id ≠ x.id) : u.rd f i = s.rd f i :=
    (hoff.rd f i fun x hx => hf x (List.mem_append_right _ hx)).trans
      (hrel.rd f i fun x hx => hf x (List.mem_append_left _ hx))
  have hcu : u.bnd.toClose = [] := (hoff.toClose.trans hrel.toClose).trans hc
  obtain ⟨hbeam, hhbm, hflash⟩ := hoff.bytes
  obtain ⟨hbeam', hhbm', hflash'⟩ := hrel.bytes
  obtain ⟨kbeam, khbm, kstw, -⟩ := (endCmd_taken hcu reason).keepsBytes
  refine ⟨EndsWith.of_rd (endCmd_endsWith hcu hr) (hrd _ _ (by decide)) (hrd _ _ (by decide)), fun q => ?_, ?_, ?_, ?_⟩
  · exact ((endCmd_fields hcu reason).rd _ _ (by decide)).trans (hrd _ _ (by decide))
  · rw [kbeam, hbeam, hbeam']
  · rw [khbm, hhbm, hhbm']
  · rw [kstw, hflash, hflash']

/-! ### The judgement -/

/-- A partition on which a bundle cannot run. -/
def CannotCarry (s : State) (h : Bundle) (q : Nat) : Prop :=
  s.rd F.PART_CLUSTERS_OK_CLUSTERS_OK q < 96 ∨ hasVariant h.hdr (s.rd F.PART_CLUSTERS_OK_CLUSTERS_OK q) = false

/-- What a bind comes to when its partitions have been decided: it loads its bundle, or fails on a partition that
cannot carry it. -/
theorem State.judgeBind_cases {s : State} {b : Nat} {x : Binding} {h : Bundle} (hb : s.binding? b = some x)
    (hh : s.bundle? x.handle = some h) :
    (s.judgeBind b = s.setBinding b { x with phase := .loading } ∧
      ∀ q ∈ x.parts, ¬ s.rd F.PART_CLUSTERS_OK_CLUSTERS_OK q < 96) ∨
    ((∃ q ∈ x.parts, CannotCarry s h q) ∧
      (s.judgeBind b = s.failBind b 0x07 ∨ s.judgeBind b = s.failBind b 0x08)) := by
  unfold judgeBind
  simp only [hb, hh, Option.any_some]
  split
  · next hany =>
    obtain ⟨q, hq, hlt⟩ := List.any_eq_true.1 hany
    exact .inr ⟨⟨q, hq, .inl (of_decide_eq_true hlt)⟩, .inl rfl⟩
  · next hall =>
    split
    · next hany =>
      obtain ⟨q, hq, hv⟩ := List.any_eq_true.1 hany
      exact .inr ⟨⟨q, hq, .inr (by simpa using hv)⟩, .inr rfl⟩
    · exact .inl ⟨rfl, fun q hq hlt => hall (List.any_eq_true.2 ⟨q, hq, decide_eq_true hlt⟩)⟩

/-! ### The granted bind in the words of O20 -/

/-- The registers and tables of an accepted command are those of the state before. -/
theorem Granted.of_accepted {s t : State} {desc : Unit64} {x : Desc} {p : BindPlan}
    (h : Granted (accepted s desc) t x p) : Granted s t x p := by
  obtain ⟨o, ho⟩ := accepted_eq s desc
  rw [ho] at h
  obtain ⟨hcmd, hbind, hbolts, hbytes, hbundle, hclose, hfields⟩ := h
  exact ⟨hcmd, hbind, hbolts, hbytes, hbundle, hclose, hfields⟩

theorem sweepDue_accepted (s : State) (desc : Unit64) : (accepted s desc).sweepDue = s.sweepDue := by
  obtain ⟨o, h⟩ := accepted_eq s desc
  rw [h]
  rfl

theorem owner_lt_of_bindOk {x : Desc} (h : x.bindOk = true) : x.owner < 4096 := by
  simp only [Desc.bindOk, Desc.ownerOk, Bool.and_eq_true, decide_eq_true_eq] at h
  omega

section
variable {s : State} {x : Desc} {p : BindPlan} (hnd : p.parts.Nodup) (hlt : ∀ q ∈ p.parts, q < 16)
include hnd hlt

theorem State.bindBegun_sweeping (h : Bundle) (ho : x.owner < 4096) {q : Nat} (hq : q ∈ p.parts)
    (hdue : x.flags.testBit 2 = true ∨ s.sweepDue q = true) : Sweeping (s.bindBegun x h p) q x.owner :=
  beginParts_sweeps hnd hlt hq ho (by rwa [sweepDue_startBindJob])

theorem State.bindBegun_scheduled (h : Bundle) {q : Nat} (hq : q ∈ p.parts) (hflag : x.flags.testBit 2 = false)
    (hdue : s.sweepDue q = false) : Scheduled (s.bindBegun x h p) q := by
  unfold bindBegun
  rw [hflag]
  exact beginParts_schedules hnd hlt hq (by rwa [sweepDue_startBindJob])

end

/-- A granted bind that sweeps first. -/
theorem State.grantBind_sweeps {s : State} {x : Desc} {h : Bundle} {p : BindPlan}
    (hdue : ∃ q ∈ p.parts, x.flags.testBit 2 = true ∨ s.sweepDue q = true) :
    s.grantBind x h p = s.bindBegun x h p := by
  obtain ⟨q, hq, hdue⟩ := hdue
  rw [grantBind_eq, if_neg]
  rw [List.isEmpty_iff]
  exact List.ne_nil_of_mem (List.mem_filter.2 ⟨hq, by simpa using hdue⟩)

/-- A granted bind without a sweep is judged at once. -/
theorem State.grantBind_judges {s : State} {x : Desc} {h : Bundle} {p : BindPlan}
    (hflag : x.flags.testBit 2 = false) (hdue : ∀ q ∈ p.parts, s.sweepDue q = false) :
    s.grantBind x h p = (s.bindBegun x h p).judgeBind p.number := by
  rw [grantBind_eq, if_pos]
  rw [List.isEmpty_iff]
  exact List.filter_eq_nil_iff.2 fun q hq => by simp [hflag, hdue q hq]

/-- Nothing that a bind writes before its judgement is looked at when it ends. -/
theorem Granted.endsWith {s t u : State} {x : Desc} {p : BindPlan} (h : Granted s t x p) {reason : Nat}
    (he : EndsWith t u reason) : EndsWith s u reason :=
  EndsWith.of_rd he (h.fields.rd _ _ (by decide)) (h.fields.rd _ _ (by decide))

section
variable {s : State} {desc : Unit64} {i : Instr} {h : Bundle} {p : BindPlan} (hacc : Accepted s desc)
  (hh : s.bundle? (Desc.of desc).bundle = some h) (hnd : p.parts.Nodup) (hlt : ∀ q ∈ p.parts, q < 16)
  (hexec : exec i s = .next ((accepted s desc).grantBind (Desc.of desc) h p))
include hnd hlt hexec

theorem bind_sweeps (hok : (Desc.of desc).bindOk = true)
    (hdue : ∃ q ∈ p.parts, (Desc.of desc).flags.testBit 2 = true ∨ s.sweepDue q = true) :
    Completes i s fun t =>
      t.bnd.cmd = some (.bind p.number) ∧
      (∃ y : Binding, t.binding? p.number = some y ∧ y.parts = p.parts ∧ y.bolts = p.bolts ∧
        y.owner = (Desc.of desc).owner ∧ y.handle = (Desc.of desc).bundle ∧ y.phase = .sweep) ∧
      (∀ k ∈ p.bolts, LeasedTo t (Desc.of desc).owner k) ∧
      (∀ q ∈ p.parts, ((Desc.of desc).flags.testBit 2 = true ∨ s.sweepDue q = true) →
        Sweeping t q (Desc.of desc).owner) ∧
      t.beam.bytes = s.beam.bytes ∧ t.hbm.bytes = s.hbm.bytes ∧ t.stw.flash = s.stw.flash := by
  rw [← sweepDue_accepted s desc] at hdue ⊢
  rw [State.grantBind_sweeps hdue] at hexec
  obtain ⟨hcmd, ⟨leases, hbind⟩, hbolts, hbytes, -, -, -⟩ :=
    Granted.of_accepted ((accepted s desc).bindBegun_granted (Desc.of desc) h p)
  exact ⟨_, hexec, hcmd, ⟨_, hbind, rfl, rfl, rfl, rfl, rfl⟩, hbolts,
    fun q hq hd => State.bindBegun_sweeping hnd hlt h (owner_lt_of_bindOk hok) hq hd, hbytes⟩

include hacc hh

theorem bind_judged (hflag : (Desc.of desc).flags.testBit 2 = false) (hdue : ∀ q ∈ p.parts, s.sweepDue q = false) :
    Completes i s fun t =>
      ((t.bnd.cmd = some (.bind p.number) ∧
        (∃ y : Binding, t.binding? p.number = some y ∧ y.parts = p.parts ∧ y.bolts = p.bolts ∧
          y.owner = (Desc.of desc).owner ∧ y.handle = (Desc.of desc).bundle ∧ y.phase = .loading) ∧
        (∀ k ∈ p.bolts, LeasedTo t (Desc.of desc).owner k) ∧
        ∀ q ∈ p.parts, t.rd F.PART_STATE_STATE q = 2 ∧ t.rd F.PART_STATE_ARR_ON q = 1) ∨
       ((∃ q ∈ p.parts, CannotCarry t h q) ∧ (EndsWith s t 0x07 ∨ EndsWith s t 0x08))) ∧
      t.beam.bytes = s.beam.bytes ∧ t.hbm.bytes = s.hbm.bytes ∧ t.stw.flash = s.stw.flash := by
  rw [← sweepDue_accepted s desc] at hdue
  rw [State.grantBind_judges hflag hdue] at hexec
  have hg := Granted.of_accepted ((accepted s desc).bindBegun_granted (Desc.of desc) h p)
  have hsched : ∀ q ∈ p.parts, Scheduled ((accepted s desc).bindBegun (Desc.of desc) h p) q :=
    fun q hq => State.bindBegun_scheduled hnd hlt h hq hflag (hdue q hq)
  generalize (accepted s desc).bindBegun (Desc.of desc) h p = u at hexec hg hsched
  obtain ⟨hcmd, ⟨leases, hbind⟩, hbolts, ⟨hbeam, hhbm, hflash⟩, hbundle, hclose, -⟩ := id hg
  have hclose' : u.bnd.toClose = [] := by
    obtain ⟨-, -, -, -, hc, -⟩ := hacc
    exact hclose.trans hc
  have hfail {reason : Nat} (hr : reason < 256) : BindFails u (u.failBind p.number reason) reason :=
    State.failBind_fails hbind hclose' hr
  refine ⟨_, hexec, ?_⟩
  obtain ⟨hj, hge⟩ | ⟨⟨q, hq, hcannot⟩, hj⟩ := State.judgeBind_cases hbind ((hbundle _).trans hh)
  · rw [hj]
    exact ⟨.inl ⟨hcmd, ⟨_, State.binding?_setBinding .., rfl, rfl, rfl, rfl, rfl⟩, hbolts,
      fun q hq => (hsched q hq).resolve_left (hge q hq)⟩, hbeam, hhbm, hflash⟩
  · have hout {t : State} {reason : Nat} (hf : BindFails u t reason) : (∃ q ∈ p.parts, CannotCarry t h q) ∧
        EndsWith s t reason ∧ t.beam.bytes = s.beam.bytes ∧ t.hbm.bytes = s.hbm.bytes ∧ t.stw.flash = s.stw.flash := by
      obtain ⟨hends, hclusters, hbeam', hhbm', hflash'⟩ := hf
      refine ⟨⟨q, hq, ?_⟩, hg.endsWith hends, hbeam'.trans hbeam, hhbm'.trans hhbm, hflash'.trans hflash⟩
      unfold CannotCarry
      rwa [hclusters]
    obtain hj | hj := hj <;> rw [hj]
    · obtain ⟨hex, hends, hbytes⟩ := hout (hfail (reason := 0x07) (by decide))
      exact ⟨.inr ⟨hex, .inl hends⟩, hbytes⟩
    · obtain ⟨hex, hends, hbytes⟩ := hout (hfail (reason := 0x08) (by decide))
      exact ⟨.inr ⟨hex, .inr hends⟩, hbytes⟩

end

/-- Settles O20: refused, refused with shortfalls, granted with sweeps, or granted and judged. -/
theorem bindGrantsEverythingOrNothing : Obligations.BindGrantsEverythingOrNothing := by
  unfold Obligations.BindGrantsEverythingOrNothing
  refine ⟨fun desc tagOk s hstop => if_pos hstop, fun desc s => ?_⟩
  intro x u hacc hok
  have hexec := exec_bind hacc hok
  have hbundle (k : Nat) : u.bundle? k = s.bundle? k := bundle?_accepted s desc k
  refine ⟨fun hnone => ?_, fun h hsome => ⟨fun ho => ?_, fun ho hw => ?_, fun ho hw => ?_⟩⟩
  · rw [State.tryBind_unknown ((hbundle _).trans hnone)] at hexec
    exact refused hacc hexec (by decide)
  · rw [State.tryBind_notOwner ((hbundle _).trans hsome) ho] at hexec
    exact refused hacc hexec (by decide)
  · rw [State.tryBind_wrongCount ((hbundle _).trans hsome) ho hw] at hexec
    exact refused hacc hexec (by decide)
  · rw [State.tryBind_decides ((hbundle _).trans hsome) ho hw] at hexec
    intro p b
    have hnd : p.parts.Nodup := u.bindPlan_nodup x h
    have hlt : ∀ q ∈ p.parts, q < 16 := fun q hq => u.bindPlan_lt x h hq
    refine ⟨fun c cs hcodes => ?_, fun hcodes hdue => ?_, fun hcodes hflag hdue => ?_⟩
    · have hc : c < 256 := u.bindPlan_codes_lt x h none c (hcodes ▸ List.mem_cons_self)
      rw [show (u.bindPlan x h none).codes = c :: cs from hcodes] at hexec
      obtain ⟨t, ht, hends, ⟨h1, h2, h3, h4, h5⟩, hnothing⟩ := bind_missing hacc hexec hc
      exact ⟨t, ht, hends, h1, h2, h3, h4, h5, hnothing⟩
    · rw [show (u.bindPlan x h none).codes = [] from hcodes] at hexec
      exact bind_sweeps hnd hlt hexec hok hdue
    · rw [show (u.bindPlan x h none).codes = [] from hcodes] at hexec
      exact bind_judged hacc hsome hnd hlt hexec hflag hdue

end Sys2Proof.Machine

namespace Sys2Proof.Machine
/-! PROOFS. `CORES_FAILED` after a sweep (R61), and what it says of O21. -/

/-- `CORES_FAILED` of a sweep counts the cores that it found and those of faults registered while it ran. -/
theorem coresFailed_sweepComplete {s : State} {p : Part} {b : Nat} {x : Binding}
    (hst : s.rd F.PART_STATE_STATE p.val = 1) (hb : s.partBinding? p.val = some (b, x)) (hleft : x.sweeping.filter (· != p.val) ≠ [])
    (failed : List (Cluster × CoreIx)) (dur : Nat) : Completes (.sweepComplete p false failed dur) s fun t =>
      t.rd F.PART_SWEEP_STATUS_CORES_FAILED p.val = min 255 (s.sweepFails p failed).length := by
  have hexec : exec (.sweepComplete p false failed dur) s =
      .next (((s.sweepResult p failed dur).afterSweep p.val x.owner).setBinding b
        { x with sweeping := x.sweeping.filter (· != p.val) }) := by
    show execSweepComplete p false failed dur s = _
    unfold execSweepComplete
    rw [hst, hb, if_neg (by decide)]
    simp only [Bool.false_eq_true, if_false, List.isEmpty_iff, hleft]
  refine ⟨_, hexec, ?_⟩
  have hresult : (s.sweepResult p failed dur).rd F.PART_SWEEP_STATUS_CORES_FAILED p.val =
      min 255 (s.sweepFails p failed).length := by
    unfold State.sweepResult
    simp (disch := decide) only [State.rd_wr_id, State.rd_wr_same]
    exact Nat.mod_eq_of_lt (Nat.lt_of_le_of_lt (Nat.min_le_left ..) (by decide))
  show ((s.sweepResult p failed dur).afterSweep p.val x.owner).rd _ _ = _
  rw [← hresult]
  unfold State.afterSweep
  split
  · exact (State.partOff_parks ..).fields.rd _ _ (by decide)
  · exact (State.placeSchedule_begins ..).fields.rd _ _ (by decide)

/-- A binding that sweeps partition `p` and another one. -/
def sweepingBinding (p : Part) : Binding :=
  { owner := 1, handle := 0, parts := [p.val], bolts := [], leases := [], capacity := 1, decodeUnits := 0, grants := [],
    weftShare := 0, spill := 0, slowdown := 0, quadrant := 0, phase := .sweep, sweeping := [16] }

/-- Partition `p` sweeps for binding 0; during the sweep core `k` of cluster `c` had a fault. -/
def sweepingWithFault (p : Part) (c : Cluster) (k : CoreIx) : State :=
  ((State.reset.setBinding 0 (sweepingBinding p)).wr F.PART_STATE_STATE p.val 1).wr I.sweepFailed
    (clusterIx p.val c.val) (2 ^ k.val)

theorem partBinding?_sweepingWithFault (p : Part) (c : Cluster) (k : CoreIx) :
    (sweepingWithFault p c k).partBinding? p.val = some (0, sweepingBinding p) := by
  have hcontains : (sweepingBinding p).parts.contains p.val = true := by simp [sweepingBinding]
  show List.find? _ [(0, sweepingBinding p)] = _
  rw [List.find?_cons_of_pos (by exact hcontains)]

theorem mem_sweepFails_sweepingWithFault {p : Part} {c : Cluster} {k : CoreIx}
    (h : (Config.factoryRetired p.val c.val).getLsbD k.val = false) :
    (c, k) ∈ (sweepingWithFault p c k).sweepFails p [] := by
  have hlt : 2 ^ k.val < I.sweepFailed.size := Nat.pow_lt_pow_right (by decide) k.isLt
  have hseen : (sweepingWithFault p c k).rd I.sweepFailed (clusterIx p.val c.val) = 2 ^ k.val :=
    (State.rd_wr_same ..).trans (Nat.mod_eq_of_lt hlt)
  have hretired : (sweepingWithFault p c k).retiredCores p.val c.val = (Config.factoryRetired p.val c.val).toNat := rfl
  refine List.mem_flatMap.2 ⟨c, List.mem_finRange c, List.mem_map.2 ⟨k, ?_, rfl⟩⟩
  refine List.mem_filter.2 ⟨List.mem_finRange k, ?_⟩
  rw [hseen, hretired, BitVec.testBit_toNat, h, Nat.testBit_two_pow_self]
  rfl

/-- What stands against O21: it counts the cores that the sweep reports, and R61 also those of faults registered
while it ran. One core that the factory did not retire is enough; `Config.factoryRetired` has no value in the model,
so that there is such a core stays a hypothesis. -/
theorem not_sweepAndFirstInstruction_of_coreInUse {p : Part} {c : Cluster} {k : CoreIx}
    (h : (Config.factoryRetired p.val c.val).getLsbD k.val = false) : ¬ Obligations.SweepAndFirstInstruction := by
  unfold Obligations.SweepAndFirstInstruction
  rintro ⟨hsweep, -⟩
  have hst : (sweepingWithFault p c k).rd F.PART_STATE_STATE p.val = 1 :=
    (State.rd_wr_id _ _ _ _ (by decide)).trans (State.rd_wr_same ..)
  have hb := partBinding?_sweepingWithFault p c k
  have hleft : (sweepingBinding p).sweeping.filter (· != p.val) ≠ [] :=
    List.ne_nil_of_mem (a := 16) (List.mem_filter.2 ⟨List.mem_singleton.2 rfl, by simpa using p.isLt.ne'⟩)
  obtain ⟨t, ht, hcount⟩ := coresFailed_sweepComplete hst hb hleft [] 0
  obtain ⟨-, hof⟩ := hsweep p [] 0 (sweepingWithFault p c k)
  obtain ⟨-, t', ht', -, -, hcount', -⟩ := hof hst _ _ hb rfl
  cases ht.symm.trans ht'
  have hpos := List.length_pos_of_mem (mem_sweepFails_sweepingWithFault h)
  have hnone : t.rd F.PART_SWEEP_STATUS_CORES_FAILED p.val = 0 := hcount'
  omega

end Sys2Proof.Machine

namespace Sys2Proof.Machine

/-! ## Writes to scratch, composed -/

theorem scratchOutside_trans {s t u : State} {c : CoreId} {p q : Nat → Bool} (h : ScratchOutside s t c p)
    (h' : ScratchOutside t u c q) : ScratchOutside s u c fun o => p o || q o := by
  intro d o ho hd
  have hnone : ∀ hdc : d = c, p o = false ∧ q o = false := fun hdc => Bool.or_eq_false_iff.1 (hd hdc)
  rw [h' d o ho fun hdc => (hnone hdc).2, h d o ho fun hdc => (hnone hdc).1]

/-- Bytes that a change does not touch read as before. -/
theorem scratchAt_of_scratchOutside {s t : State} {c : CoreId} {p : Nat → Bool} (h : ScratchOutside s t c p)
    {off n : Nat} (hfits : off + n ≤ 24576) (hp : ∀ k < n, p (off + k) = false) :
    scratchAt t c off n = scratchAt s c off n := by
  refine List.map_congr_left fun k hk => ?_
  have hk := List.mem_range.1 hk
  exact h c (off + k) (by omega) fun _ => hp k hk

theorem onlyVector_countArith {s t : State} {c : CoreId} (h : OnlyVector s t c) (sat nan : Nat) :
    OnlyVector s (t.countArith c sat nan) c := by
  obtain ⟨ht, hst⟩ := h
  obtain ⟨hu, htu⟩ := t.countArith_onlyRegs c sat nan
  refine ⟨?_, hst.trans htu⟩
  rw [hu]
  generalize (t.countArith c sat nan).regs = regs
  rw [ht]

/-! ## Encoded blocks (R74-R80) -/

theorem packNibbles_length (l : List Nat) : (packNibbles l).length = (l.length + 1) / 2 := by
  induction l using packNibbles.induct with
  | case1 => rfl
  | case2 a => simp [packNibbles]
  | case3 a b l ih =>
    rw [packNibbles, List.length_cons, ih, List.length_cons, List.length_cons]
    omega

theorem mxBlock_codes_length (f : MxFmt) (xs : List Nat) : (mxBlock f xs).codes.length = xs.length := by
  unfold mxBlock
  dsimp only
  split
  · exact List.length_replicate
  · split
    · exact List.length_replicate
    · exact (List.length_map _).trans (List.length_map _)
    · exact List.length_replicate

theorem dq4Block_codes_length (xs : List Nat) : (dq4Block xs).codes.length = xs.length := by
  unfold dq4Block
  dsimp only
  split
  · exact List.length_replicate
  · split
    · exact List.length_replicate
    · exact (List.length_map _).trans (List.length_map _)
    · exact List.length_replicate

theorem block32_of_length {x : List Word} (h : x.length = 32) : block32 x = x.map BitVec.toNat :=
  List.take_left' (by rw [List.length_map, h])

/-- What a command completes with that stores the codes of a block at `dst`, its scale at `sdst`, and counts. -/
theorem encode_completes {i : Instr} {s : State} {c : CoreId} {dst sdst n scale sat nan : Nat} {bs : List Byte}
    (hexec : exec i s =
      .next (((s.scratchWrite c dst bs).scratchWrite c sdst (le 1 scale)).countArith c sat nan))
    (hn : bs.length = n) (hcodes : dst + n ≤ 24576) (hscale : sdst + 1 ≤ 24576) (hapart : sdst < dst ∨ dst + n ≤ sdst) :
    Completes i s fun t =>
      scratchAt t c dst n = bs ∧ t.scratchByte c sdst = BitVec.ofNat 8 scale ∧ ArithCounted s t c sat nan ∧
      ScratchOutside s t c (fun o => decide (dst ≤ o ∧ o < dst + n) || decide (o = sdst)) ∧
      t.free = s.free ∧ OnlyVector s t c := by
  subst hn
  have hfirst := scratchOutside_scratchWrite s c hcodes
  have hsecond : ScratchOutside (s.scratchWrite c dst bs) ((s.scratchWrite c dst bs).scratchWrite c sdst (le 1 scale)) c
      fun o => decide (o = sdst) := by
    refine fun d o ho hd => scratchOutside_scratchWrite _ c (bs := le 1 scale) hscale d o ho fun hdc => ?_
    have := of_decide_eq_false (hd hdc)
    refine decide_eq_false ?_
    rw [le_length]
    omega
  have hread := scratchAt_scratchWrite (s.scratchWrite c dst bs) c (bs := le 1 scale) hscale
  have honly : OnlyVector s ((s.scratchWrite c dst bs).scratchWrite c sdst (le 1 scale)) c := ⟨rfl, .refl s _⟩
  refine ⟨_, hexec, ?_, List.singleton_inj.1 hread, arithCounted_countArith _ c sat nan,
    scratchOutside_trans hfirst hsecond, rfl, onlyVector_countArith honly sat nan⟩
  have hkept := scratchAt_of_scratchOutside hsecond hcodes fun k hk => decide_eq_false (by omega)
  exact hkept.trans (scratchAt_scratchWrite s c hcodes)

/-- The bytes of the codes of an MX block. -/
theorem mxBytes_length (fmt : MxFmt) {codes : List Nat} (h : codes.length = 32) :
    (if fmt = .e2m1 then packNibbles codes else codeBytes 1 codes).length = if fmt = .e2m1 then 16 else 32 := by
  split
  · rw [packNibbles_length, h]
  · rw [codeBytes_length, h]

theorem wf_mxEncode (c : CoreId) (fmt : MxFmt) (x : List Word) (dst sdst : Nat) :
    WellFormed.ok (.mxEncode c fmt x dst sdst) = true ↔
      (x.length = 32 ∧ dst + (if fmt = .e2m1 then 16 else 32) ≤ 24576) ∧ sdst + 1 ≤ 24576 := by
  show (_ == _ && decide _ && decide _) = true ↔ _
  rw [Bool.and_eq_true, Bool.and_eq_true, beq_iff_eq, decide_eq_true_eq, decide_eq_true_eq]

theorem wf_dq4Encode (c : CoreId) (x : List Word) (dst sdst : Nat) :
    WellFormed.ok (.dq4Encode c x dst sdst) = true ↔ (x.length = 32 ∧ dst + 16 ≤ 24576) ∧ sdst + 1 ≤ 24576 := by
  show (_ == _ && decide _ && decide _) = true ↔ _
  rw [Bool.and_eq_true, Bool.and_eq_true, beq_iff_eq, decide_eq_true_eq, decide_eq_true_eq]

theorem exec_mxEncode (c : CoreId) (fmt : MxFmt) {x : List Word} (dst sdst : Nat) (s : State) (h : x.length = 32) :
    exec (.mxEncode c fmt x dst sdst) s =
      let b := mxBlock fmt (x.map BitVec.toNat)
      .next (((s.scratchWrite c dst (if fmt = .e2m1 then packNibbles b.codes else codeBytes 1 b.codes)).scratchWrite c
        sdst (le 1 b.scale)).countArith c b.sat b.nan) := by
  show execMxEncode c fmt x dst sdst s = _
  rw [execMxEncode, block32_of_length h]

theorem exec_dq4Encode (c : CoreId) {x : List Word} (dst sdst : Nat) (s : State) (h : x.length = 32) :
    exec (.dq4Encode c x dst sdst) s =
      let b := dq4Block (x.map BitVec.toNat)
      .next (((s.scratchWrite c dst (packNibbles b.codes)).scratchWrite c sdst (le 1 b.scale)).countArith
        c b.sat b.nan) := by
  show execDq4Encode c x dst sdst s = _
  rw [execDq4Encode, block32_of_length h]

/-! ## Conversions (R89) -/

theorem State.toFp32_onlyDraws (s : State) (x : Num) : OnlyDraws s (s.toFp32 x).2 := by
  cases x with
  | nan => exact s.drawNan_onlyDraws
  | inf => exact .refl s
  | fin neg m e =>
    simp only [toFp32]
    split
    · split
      · exact .refl s
      · exact s.drawWord_onlyDraws
    · exact s.drawWord_onlyDraws

theorem State.convert_onlyDraws (s : State) (k : Conv) (sat : Bool) (x : Nat) : OnlyDraws s (s.convert k sat x).2 := by
  cases k with
  | toFp32 => exact s.toFp32_onlyDraws _
  | toBf16 | toE4m3 | toE5m2 | toInt8 | ia32ToFp32 => exact .refl s

/-- One word more: its result after those before, its draws after theirs. -/
def convertStep (k : Conv) (sat : Bool) (a : List Converted × State) (w : Word) : List Converted × State :=
  let y := a.2.convert k sat w.toNat
  (a.1 ++ [y.1], y.2)

/-- The results of a conversion in order, and the state after the draws. -/
def State.converts (s : State) (k : Conv) (sat : Bool) (x : List Word) : List Converted × State :=
  x.foldl (convertStep k sat) ([], s)

theorem exec_vectorConvert (c : CoreId) (k : Conv) (sat : Bool) (x : List Word) (dst : Nat) (s : State) :
    exec (.vectorConvert c k sat x dst) s =
      let r := s.converts k sat x
      .next ((r.2.scratchWrite c dst (codeBytes (convWidth k) (r.1.map Converted.code))).countArith c
        (r.1.map Converted.sat).sum (r.1.map Converted.nan).sum) := rfl

theorem convertStep_foldl (k : Conv) (sat : Bool) (x : List Word) (a : List Converted × State) :
    (x.foldl (convertStep k sat) a).1.length = a.1.length + x.length ∧
    OnlyDraws a.2 (x.foldl (convertStep k sat) a).2 := by
  induction x generalizing a with
  | nil => exact ⟨rfl, .refl _⟩
  | cons w x ih =>
    obtain ⟨hlen, hdraws⟩ := ih (convertStep k sat a w)
    refine ⟨?_, OnlyDraws.trans (a.2.convert_onlyDraws ..) hdraws⟩
    rw [List.foldl_cons, hlen, convertStep, List.length_append, List.length_singleton, List.length_cons]
    omega

theorem State.converts_length (s : State) (k : Conv) (sat : Bool) (x : List Word) :
    (s.converts k sat x).1.length = x.length := by
  rw [converts, (convertStep_foldl ..).1, List.length_nil, Nat.zero_add]

theorem State.converts_onlyDraws (s : State) (k : Conv) (sat : Bool) (x : List Word) :
    OnlyDraws s (s.converts k sat x).2 := (convertStep_foldl ..).2

/-- Where no draw enters, the results are those given and the state stays. -/
theorem convertStep_foldl_fixed {k : Conv} {sat : Bool} {x : List Word} {r : List Converted}
    (hlen : r.length = x.length)
    (h : ∀ (i : Nat) (w : Word), x[i]? = some w → ∀ u : State, u.convert k sat w.toNat = (r.getD i { code := 0 }, u))
    (a : List Converted × State) : x.foldl (convertStep k sat) a = (a.1 ++ r, a.2) := by
  induction x generalizing r a with
  | nil =>
    obtain rfl := List.length_eq_zero_iff.1 hlen
    simp
  | cons w x ih =>
    obtain ⟨v, r, rfl⟩ := List.exists_cons_of_length_eq_add_one hlen
    have hhead : convertStep k sat a w = (a.1 ++ [v], a.2) := by
      rw [convertStep, h 0 w rfl a.2, List.getD_cons_zero]
    rw [List.foldl_cons, hhead, ih (Nat.succ.inj hlen) fun i w hi u => h (i + 1) w hi u, List.append_assoc]
    rfl

theorem State.converts_fixed (s : State) {k : Conv} {sat : Bool} {x : List Word} {r : List Converted}
    (hlen : r.length = x.length)
    (h : ∀ (i : Nat) (w : Word), x[i]? = some w → ∀ u : State, u.convert k sat w.toNat = (r.getD i { code := 0 }, u)) :
    s.converts k sat x = (r, s) := convertStep_foldl_fixed hlen h ([], s)

theorem room_of_wf_vectorConvert {c : CoreId} {k : Conv} {sat : Bool} {x : List Word} {dst : Nat}
    (h : WellFormed.ok (.vectorConvert c k sat x dst) = true) : dst + convWidth k * x.length ≤ 24576 := by
  obtain ⟨-, hroom⟩ := Bool.and_eq_true_iff.1 h
  exact of_decide_eq_true hroom

/-- Settles O7: an encoding writes the codes and the scale of a block and counts (`encode_completes`); a conversion
is `State.converts`, one write to scratch and the count. -/
theorem encodesAndConversionsWriteScratch : Obligations.EncodesAndConversionsWriteScratch := by
  unfold Obligations.EncodesAndConversionsWriteScratch
  refine ⟨fun c fmt x dst sdst s => ⟨fun hwf => ?_, fun hwf => ?_⟩, fun c k sat x dst s hwf => ?_⟩
  · obtain ⟨⟨hx, hcodes⟩, hscale⟩ := (wf_mxEncode c fmt x dst sdst).1 hwf
    refine encode_completes (exec_mxEncode c fmt dst sdst s hx) (mxBytes_length fmt ?_) hcodes hscale
    rw [mxBlock_codes_length, List.length_map, hx]
  · obtain ⟨⟨hx, hcodes⟩, hscale⟩ := (wf_dq4Encode c x dst sdst).1 hwf
    refine encode_completes (exec_dq4Encode c dst sdst s hx) ?_ hcodes hscale
    rw [packNibbles_length, dq4Block_codes_length, List.length_map, hx]
  · have hroom := room_of_wf_vectorConvert hwf
    have hlen : (codeBytes (convWidth k) ((s.converts k sat x).1.map Converted.code)).length =
        convWidth k * x.length := by rw [codeBytes_length, List.length_map, s.converts_length]
    rw [← hlen] at hroom
    refine ⟨fun r hr hfixed => ⟨_, exec_vectorConvert c k sat x dst s, ?_⟩, _, exec_vectorConvert c k sat x dst s, ?_⟩
    · rw [s.converts_fixed hr hfixed] at hlen hroom ⊢
      rw [← hlen]
      exact ⟨scratchAt_scratchWrite s c hroom, arithCounted_countArith _ c _ _, rfl⟩
    · obtain ⟨hdraws, hfree⟩ := s.converts_onlyDraws k sat x
      have houtside := scratchOutside_scratchWrite (s.converts k sat x).2 c hroom
      rw [hlen] at houtside
      generalize (s.converts k sat x).2 = u at *
      rw [hdraws] at houtside ⊢
      have honly (bs : List Byte) : OnlyVector s (({ s with free := u.free } : State).scratchWrite c dst bs) c :=
        ⟨rfl, .refl s _⟩
      exact ⟨houtside, onlyVector_countArith (honly _) _ _, hfree⟩

end Sys2Proof.Machine

namespace Sys2Proof.Machine

/-! ## The order of candidates (R91): `rank` is the order of the FP32 values -/

/-- The value of an FP32 magnitude code in units of 2^(−149). -/
def magUnits (m : Nat) : Nat := if m < 2 ^ 23 then m else (m % 2 ^ 23 + 2 ^ 23) * 2 ^ (m / 2 ^ 23 - 1)

/-- A magnitude code one higher has a larger value: inside an exponent by one unit of its last place, and from the
last fraction of an exponent to the first of the next. -/
theorem magUnits_lt_succ (m : Nat) : magUnits m < magUnits (m + 1) := by
  unfold magUnits
  by_cases hsub : m + 1 < 2 ^ 23
  · rw [if_pos (by omega), if_pos hsub]
    exact Nat.lt_succ_self m
  rw [if_neg hsub]
  by_cases hfirst : m < 2 ^ 23
  · obtain rfl : m = 2 ^ 23 - 1 := by omega
    decide
  rw [if_neg hfirst]
  by_cases hlast : m % 2 ^ 23 = 2 ^ 23 - 1
  · have hfrac : (m + 1) % 2 ^ 23 = 0 := by omega
    have hexp : (m + 1) / 2 ^ 23 - 1 = m / 2 ^ 23 - 1 + 1 := by omega
    rw [hlast, hfrac, hexp, pow_succ 2 (m / 2 ^ 23 - 1)]
    have hpos := Nat.two_pow_pos (m / 2 ^ 23 - 1)
    generalize 2 ^ (m / 2 ^ 23 - 1) = p at hpos
    omega
  · have hfrac : (m + 1) % 2 ^ 23 = m % 2 ^ 23 + 1 := by omega
    have hexp : (m + 1) / 2 ^ 23 = m / 2 ^ 23 := by omega
    rw [hfrac, hexp]
    exact Nat.mul_lt_mul_of_pos_right (by omega) (Nat.two_pow_pos _)

theorem magUnits_strictMono : StrictMono magUnits := strictMono_nat_of_lt_succ magUnits_lt_succ

/-- The FP32 codes by their magnitude: NaN above the infinity, the infinity above the numbers, subnormals below
2^23. -/
theorem fp32_decode (a : Nat) : fp32.decode a =
    if 0x7F800000 < a % 2 ^ 31 then .nan (a.testBit 31)
    else if a % 2 ^ 31 = 0x7F800000 then .inf (a.testBit 31)
    else if a % 2 ^ 31 < 2 ^ 23 then .fin (a.testBit 31) (a % 2 ^ 31) (-149)
    else .fin (a.testBit 31) (a % 2 ^ 31 % 2 ^ 23 + 2 ^ 23) (((a % 2 ^ 31 / 2 ^ 23 : Nat) : Int) - 150) := by
  have hex : a / 2 ^ 23 % 2 ^ 8 = a % 2 ^ 31 / 2 ^ 23 := by omega
  have hfr : a % 2 ^ 23 = a % 2 ^ 31 % 2 ^ 23 := by omega
  have hlt : a % 2 ^ 31 < 2 ^ 31 := Nat.mod_lt _ (by decide)
  simp only [FpFmt.decode, FpFmt.sign, fp32, hex, hfr]
  generalize a % 2 ^ 31 = m at hlt ⊢
  rcases lt_trichotomy m 0x7F800000 with h | rfl | h
  · rw [if_neg (by omega), if_neg (by omega)]
    by_cases hsub : m < 2 ^ 23
    · rw [if_pos (by omega), if_neg (by omega), if_neg h.ne, if_pos hsub, Nat.mod_eq_of_lt hsub]
      rfl
    · rw [if_neg (by omega), if_neg (by omega), if_neg h.ne, if_neg hsub]
      congr 1
      omega
  · rfl
  · rw [if_pos ⟨trivial, by omega⟩, if_neg (by omega), if_pos h]

theorem isNan_fp32_decode (a : Nat) : (fp32.decode a).isNan = decide (0x7F800000 < a % 2 ^ 31) := by
  rw [fp32_decode]
  by_cases hnan : 0x7F800000 < a % 2 ^ 31
  · rw [if_pos hnan, decide_eq_true hnan]
    rfl
  · rw [if_neg hnan, decide_eq_false hnan]
    split_ifs <;> rfl

theorem mag_of_decode_inf {a : Nat} {n : Bool} (h : fp32.decode a = .inf n) :
    a % 2 ^ 31 = 0x7F800000 ∧ a.testBit 31 = n := by
  rw [fp32_decode] at h
  split_ifs at h with h1 h2
  exact ⟨h2, Num.inf.inj h⟩

/-- A finite value in units of 2^(−149) is that of its magnitude code, signed. -/
theorem inUnits_of_decode_fin {a : Nat} {n : Bool} {m : Nat} {e : Int} (h : fp32.decode a = .fin n m e) :
    a % 2 ^ 31 < 0x7F800000 ∧ a.testBit 31 = n ∧
      inUnits n m e (-149) = if n then -(magUnits (a % 2 ^ 31) : Int) else magUnits (a % 2 ^ 31) := by
  rw [fp32_decode] at h
  split_ifs at h with h1 h2 hsub <;> obtain ⟨rfl, rfl, rfl⟩ := Num.fin.inj h
  · refine ⟨by omega, rfl, ?_⟩
    simp only [inUnits, magUnits, if_pos hsub, sub_self, Int.toNat_zero, pow_zero, mul_one]
  · have hexp : (((a % 2 ^ 31 / 2 ^ 23 : Nat) : Int) - 150 - -149).toNat = a % 2 ^ 31 / 2 ^ 23 - 1 := by omega
    refine ⟨by omega, rfl, ?_⟩
    rw [inUnits, hexp, magUnits, if_neg hsub]
    push_cast
    rfl

/-- A strictly increasing function on magnitudes, carried over to signed values. -/
theorem signed_lt_iff {f : Nat → Nat} (hf : StrictMono f) (h0 : f 0 = 0) (n n' : Bool) (x y : Nat) :
    (if n then -(x : Int) else x) < (if n' then -(y : Int) else y) ↔
      (if n then -(f x : Int) else f x) < (if n' then -(f y : Int) else f y) := by
  have hlt : f x < f y ↔ x < y := hf.lt_iff_lt
  have hgt : f y < f x ↔ y < x := hf.lt_iff_lt
  have hx : f x = 0 ↔ x = 0 := by rw [← h0, hf.injective.eq_iff, h0]
  have hy : f y = 0 ↔ y = 0 := by rw [← h0, hf.injective.eq_iff, h0]
  cases n <;> cases n' <;> simp only [if_true, Bool.false_eq_true, if_false] <;> omega

theorem rank_of_number {a : Nat} (h : a % 2 ^ 31 ≤ 0x7F800000) :
    rank a = if a.testBit 31 then -((a % 2 ^ 31 : Nat) : Int) else ((a % 2 ^ 31 : Nat) : Int) :=
  if_neg (by omega)

theorem rank_of_nan {a : Nat} (h : (fp32.decode a).isNan = true) : rank a = -(2 ^ 32) := by
  rw [isNan_fp32_decode, decide_eq_true_eq] at h
  exact if_pos h

/-- The numbers rank between the infinities. -/
theorem rank_bounds_of_number {a : Nat} (h : (fp32.decode a).isNan = false) :
    -0x7F800000 ≤ rank a ∧ rank a ≤ 0x7F800000 := by
  rw [isNan_fp32_decode, decide_eq_false_iff_not, not_lt] at h
  rw [rank_of_number h]
  split <;> omega

theorem rank_of_inf {a : Nat} {n : Bool} (h : fp32.decode a = .inf n) :
    rank a = if n then -0x7F800000 else 0x7F800000 := by
  obtain ⟨hmag, rfl⟩ := mag_of_decode_inf h
  rw [rank_of_number (by omega), hmag]
  rfl

theorem rank_lt_iff_of_fin {a b : Nat} {n n' : Bool} {m m' : Nat} {e e' : Int} (ha : fp32.decode a = .fin n m e)
    (hb : fp32.decode b = .fin n' m' e') :
    rank a < rank b ↔ inUnits n m e (-149) < inUnits n' m' e' (-149) := by
  obtain ⟨hmag, hsign, hval⟩ := inUnits_of_decode_fin ha
  obtain ⟨hmag', hsign', hval'⟩ := inUnits_of_decode_fin hb
  rw [rank_of_number hmag.le, rank_of_number hmag'.le, hsign, hsign', hval, hval']
  exact signed_lt_iff magUnits_strictMono rfl ..

theorem rank_nan_lt_number {a b : Nat} (ha : (fp32.decode a).isNan = true) (hb : (fp32.decode b).isNan = false) :
    rank a < rank b := by
  rw [rank_of_nan ha]
  have := rank_bounds_of_number hb
  omega

/-! ## The sort by insertion -/

theorem sortBy_ins_eq_orderedInsert {α : Type} (le : α → α → Bool) (x : α) (l : List α) :
    sortBy.ins le x l = l.orderedInsert (fun a b => le a b = true) x := by
  induction l with
  | nil => rfl
  | cons y l ih => rw [sortBy.ins, List.orderedInsert_cons, ih]

theorem sortBy_eq_insertionSort {α : Type} (le : α → α → Bool) (l : List α) :
    sortBy le l = l.insertionSort (fun a b => le a b = true) := by
  induction l with
  | nil => rfl
  | cons x l ih => rw [sortBy, sortBy_ins_eq_orderedInsert, ih]; rfl

theorem sortBy_perm {α : Type} (le : α → α → Bool) (l : List α) : (sortBy le l).Perm l := by
  rw [sortBy_eq_insertionSort]
  exact List.perm_insertionSort ..

section
variable {α : Type} {le : α → α → Bool} {R : α → α → Prop}

/-- Insertion keeps a list in the order `R`, where `le` decides `R` between the inserted element and the others. -/
theorem pairwise_sortBy_ins (htrans : ∀ a b c, R a b → R b c → R a c) {x : α} {l : List α}
    (hle : ∀ y ∈ l, le x y = true → R x y) (hgt : ∀ y ∈ l, le x y = false → R y x) (hl : l.Pairwise R) :
    (sortBy.ins le x l).Pairwise R := by
  induction l with
  | nil => exact List.pairwise_singleton R x
  | cons y l ih =>
    obtain ⟨hy, hl'⟩ := List.pairwise_cons.1 hl
    rw [sortBy.ins]
    split
    case isTrue h =>
      have hxy : R x y := hle y (by simp) h
      refine List.pairwise_cons.2 ⟨fun z hz => ?_, hl⟩
      rcases List.mem_cons.1 hz with rfl | hz
      · exact hxy
      · exact htrans _ _ _ hxy (hy z hz)
    case isFalse h =>
      have hyx : R y x := hgt y (by simp) (Bool.eq_false_iff.2 h)
      refine List.pairwise_cons.2 ⟨fun z hz => ?_, ih (fun z hz => hle z (by simp [hz]))
        (fun z hz => hgt z (by simp [hz])) hl'⟩
      rw [sortBy_ins_eq_orderedInsert, List.mem_orderedInsert] at hz
      rcases hz with rfl | hz
      · exact hyx
      · exact hy z hz

/-- The sort is stable: it puts a list in the order `R`, where `le` decides `R` between an element and those that
stand after it. -/
theorem pairwise_sortBy (htrans : ∀ a b c, R a b → R b c → R a c) {l : List α}
    (hl : l.Pairwise fun a b => (le a b = true → R a b) ∧ (le a b = false → R b a)) : (sortBy le l).Pairwise R := by
  induction l with
  | nil => exact List.Pairwise.nil
  | cons x l ih =>
    obtain ⟨hx, hl⟩ := List.pairwise_cons.1 hl
    have hmem : ∀ y ∈ sortBy le l, y ∈ l := fun y => (sortBy_perm le l).mem_iff.1
    exact pairwise_sortBy_ins htrans (fun y hy => (hx y (hmem y hy)).1) (fun y hy => (hx y (hmem y hy)).2) (ih hl)

end

/-! ## The ranking of the candidates -/

/-- Candidate `a` comes before candidate `b`: by value, and on a tie by its index. -/
def Before (a b : Word × Nat) : Prop :=
  rank b.1.toNat < rank a.1.toNat ∨ (rank b.1.toNat = rank a.1.toNat ∧ a.2 < b.2)

theorem Before.trans {a b c : Word × Nat} (h : Before a b) (h' : Before b c) : Before a c := by
  unfold Before at *
  omega

theorem ranked_perm (x : List Word) : (ranked x).Perm x.zipIdx := sortBy_perm ..

theorem mem_ranked {x : List Word} {e : Word × Nat} : e ∈ ranked x ↔ x[e.2]? = some e.1 := by
  rw [(ranked_perm x).mem_iff]
  exact List.mem_zipIdx_iff_getElem?

theorem zipIdx_pairwise_lt (x : List Word) : x.zipIdx.Pairwise fun a b => a.2 < b.2 := by
  rw [← List.pairwise_map (f := Prod.snd) (R := (· < ·)), List.zipIdx_map_snd]
  exact List.pairwise_lt_range'

theorem ranked_pairwise_before (x : List Word) : (ranked x).Pairwise Before := by
  refine pairwise_sortBy (R := Before) (fun _ _ _ => Before.trans)
    ((zipIdx_pairwise_lt x).imp fun {a b} hlt => ⟨fun hle => ?_, fun hgt => ?_⟩)
  · have := of_decide_eq_true hle
    unfold Before
    omega
  · have := of_decide_eq_false hgt
    unfold Before
    omega

theorem countP_ranked (x : List Word) (p : Word → Bool) : (ranked x).countP (fun e => p e.1) = x.countP p := by
  rw [(ranked_perm x).countP_eq]
  calc x.zipIdx.countP (fun e => p e.1) = (x.zipIdx.map Prod.fst).countP p := by rw [List.countP_map]; rfl
    _ = x.countP p := by rw [List.zipIdx_map_fst]

section
variable {x : List Word} {k : Nat}

/-- What is left out comes after everything taken. -/
theorem before_of_mem_take_of_mem_drop {e f : Word × Nat} (he : e ∈ (ranked x).take k) (hf : f ∈ (ranked x).drop k) :
    Before e f := by
  have h := ranked_pairwise_before x
  rw [← List.take_append_drop k (ranked x)] at h
  exact (List.pairwise_append.1 h).2.2 e he f hf

theorem mem_drop_ranked {i : Nat} {w : Word} (hw : x[i]? = some w) (hout : (w, i) ∉ (ranked x).take k) :
    (w, i) ∈ (ranked x).drop k := by
  have hmem : (w, i) ∈ (ranked x).take k ++ (ranked x).drop k := by
    rw [List.take_append_drop]
    exact mem_ranked.2 hw
  exact (List.mem_append.1 hmem).resolve_left hout

/-- When a NaN is taken no number is left out, and the numbers are fewer than the candidates taken. -/
theorem countP_numbers_lt_of_nan_taken {e : Word × Nat} (he : e ∈ (ranked x).take k)
    (hnan : (fp32.decode e.1.toNat).isNan = true) : x.countP (fun w => !(fp32.decode w.toNat).isNan) < k := by
  have hdrop : ((ranked x).drop k).countP (fun f => !(fp32.decode f.1.toNat).isNan) = 0 := by
    refine List.countP_eq_zero.2 fun f hf hnum => ?_
    have hlt := rank_nan_lt_number hnan (by simpa using hnum)
    have hbefore := before_of_mem_take_of_mem_drop he hf
    unfold Before at hbefore
    omega
  have htake : ((ranked x).take k).countP (fun f => !(fp32.decode f.1.toNat).isNan) < ((ranked x).take k).length := by
    refine lt_of_le_of_ne List.countP_le_length fun heq => ?_
    simpa [hnan] using List.countP_eq_length.1 heq e he
  calc x.countP (fun w => !(fp32.decode w.toNat).isNan)
      = (ranked x).countP (fun f => !(fp32.decode f.1.toNat).isNan) := (countP_ranked x _).symm
    _ = ((ranked x).take k).countP (fun f => !(fp32.decode f.1.toNat).isNan) := by
      conv_lhs => rw [← List.take_append_drop k (ranked x), List.countP_append, hdrop, Nat.add_zero]
    _ < ((ranked x).take k).length := htake
    _ ≤ k := List.length_take_le ..

end

/-- Settles O10: `rank` is the order of the values (`rank_lt_iff_of_fin` and the bounds on infinities and NaN), the
sort puts the candidates in the order `Before`, and a NaN is before no number (`rank_nan_lt_number`). -/
theorem topKTakesTheLargest : Obligations.TopKTakesTheLargest := by
  unfold Obligations.TopKTakesTheLargest
  refine ⟨fun a b => ⟨fun n m e n' m' e' => rank_lt_iff_of_fin, fun hb => ⟨fun ha => ?_, fun ha => ?_, fun ha => ?_⟩,
    fun ha hb => ?_⟩, fun x k => ⟨?_, fun e he => ?_, ?_, fun i w hw hout e he => ?_, ?_⟩⟩
  · rw [rank_of_inf ha]
    exact (rank_bounds_of_number hb).1
  · rw [rank_of_inf ha]
    exact (rank_bounds_of_number hb).2
  · exact rank_nan_lt_number ha hb
  · rw [rank_of_nan ha, rank_of_nan hb]
  · rw [List.length_take, ranked_length]
  · exact mem_ranked.1 (List.mem_of_mem_take he)
  · exact (ranked_pairwise_before x).sublist (List.take_sublist ..)
  · exact before_of_mem_take_of_mem_drop he (mem_drop_ranked hw hout)
  · rintro ⟨e, he, hnan⟩
    exact countP_numbers_lt_of_nan_taken he hnan

end Sys2Proof.Machine

namespace Sys2Proof.Machine
/-! PROOFS. What the operations that end frames, contexts, bindings, owners and commands leave alone: the stored
bytes and poison marks of the Beam and HBM, the flash, what has been sent out, and the registers outside a list of
fields. -/

/-! ### Stored data -/

/-- What the Beam, HBM and the flash hold, with the poison marks. -/
def State.stores (s : State) :
    (List Host.Cell × SMap Bool) × (List Host.Cell × SMap Bool) × List Host.Cell :=
  ((s.beam.bytes, s.beam.poison), (s.hbm.bytes, s.hbm.poison), s.stw.flash)

theorem stores_of_memories {s t : State} (h : t.memories = s.memories) : t.stores = s.stores := by
  obtain ⟨hbeam, hbeamP, hhbm, hhbmP, -, -, hflash⟩ := sameMemories_of_memories h
  unfold State.stores
  rw [hbeam, hbeamP, hhbm, hhbmP, hflash]

theorem beam_of_stores {s t : State} (h : t.stores = s.stores) :
    t.beam.bytes = s.beam.bytes ∧ t.beam.poison = s.beam.poison := Prod.mk.inj (congrArg (·.1) h)

theorem hbm_of_stores {s t : State} (h : t.stores = s.stores) :
    t.hbm.bytes = s.hbm.bytes ∧ t.hbm.poison = s.hbm.poison := Prod.mk.inj (congrArg (·.2.1) h)

theorem flash_of_stores {s t : State} (h : t.stores = s.stores) : t.stw.flash = s.stw.flash := congrArg (·.2.2) h

/-! ### What is sent out stays sent -/

theorem State.hostSend_sent (s : State) (o : Out) : s.out ⊆ (s.hostSend o).out := by
  unfold hostSend
  split
  · exact fun _ h => h
  · split
    · exact List.subset_cons_self ..
    · exact fun _ h => h

theorem State.msixSend_sent (s : State) (v : Nat) : s.out ⊆ (s.msixSend v).out := by
  unfold msixSend
  split
  · exact fun _ h => h
  · exact hostSend_sent ..

theorem State.spoolDue_sent (s : State) (k : Nat) : s.out ⊆ (s.spoolDue k).out := by
  unfold spoolDue
  dsimp only
  split
  · exact s.msixSend_sent k
  · exact fun _ h => h

theorem State.spoolMessage_sent (s : State) (k : Nat) : s.out ⊆ (s.spoolMessage k).out :=
  spoolDue_sent (s.setSpool k _) k

theorem State.complete_sent (s : State) (f : Frame) (status : Nat) (counts : Bool) :
    s.out ⊆ (s.complete f status counts).out := by
  obtain ⟨o, age, late, h⟩ := s.complete_eq f status counts
  have hput : s.out ⊆ (s.putEntry f.spool o).out := s.hostSend_sent o
  have hcount : ((s.putEntry f.spool o).countEnd f status age late).out = (s.putEntry f.spool o).out := by
    rw [(countEnd_onlyFields _ f status age late).1]
  rw [h]
  refine List.Subset.trans ?_ (spoolMessage_sent ..)
  split
  · rwa [hcount]
  · exact hput

theorem State.flushFrom_sent (n : Nat) (s : State) (c : Nat) : s.out ⊆ (State.flushFrom n s c).out := by
  induction n generalizing s with
  | zero => exact fun _ h => h
  | succ n ih =>
    unfold flushFrom
    split
    · next f _ =>
      split
      · next st _ =>
        have hend : s.out ⊆ (if f.follower then s else s.complete f st true).out := by
          split
          · exact fun _ h => h
          · exact s.complete_sent f st true
        refine List.Subset.trans hend (List.Subset.trans ?_ (ih _))
        exact fun _ h => h
      · exact fun _ h => h
    · exact fun _ h => h

theorem State.flush_sent (s : State) (c : Nat) : s.out ⊆ (s.flush c).out := by
  unfold flush
  rw [(syncCtx_onlyFields _ c).1]
  exact flushFrom_sent ..

theorem State.endFrames_sent (s : State) (p : Frame → Bool) (status : Nat) : s.out ⊆ (s.endFrames p status).out := by
  unfold endFrames
  extract_lets hit u v
  have hu : OnlyFields s u frameEndFields :=
    .foldl _ (fun t f _ => .ite (t.breakDecode_onlyFields f.ctx) (.refl t _)) s
  have hv : v.out = s.out := by
    show u.out = s.out
    rw [hu.1]
  rw [← hv]
  exact foldl_relates (R := fun s t : State => s.out ⊆ t.out) (fun _ _ h => h)
    (fun _ _ _ => List.Subset.trans) _ (fun t c _ => t.flush_sent c) v

theorem State.stopRunning_sent (s : State) (b status : Nat) : s.out ⊆ (s.stopRunning b status).out := by
  unfold stopRunning
  split
  · exact fun _ h => h
  · split
    · exact fun _ h => h
    · next x _ _ c _ => exact endFrames_sent (s.dropRun b c x) _ _

theorem State.writeEvent_sent (s : State) (e : Event) : s.out ⊆ (s.writeEvent e).out := by
  unfold writeEvent
  dsimp only
  split
  · exact List.Subset.trans (s.hostSend_sent _) (msixSend_sent (State.wr _ _ _ _) _)
  · exact fun _ h => h

theorem State.event_sent (s : State) (type : Nat) (data : List Byte) : s.out ⊆ (s.event type data).out := by
  unfold event
  dsimp only
  split
  · split
    · exact writeEvent_sent (s.wr _ _ _) _
    · split <;> exact fun _ h => h
  · exact fun _ h => h

theorem State.fault_sent (s : State) {src : Nat} (detail : Nat) (h : faultClass src = 2) :
    s.out ⊆ (s.fault src detail).out := by
  obtain ⟨data, ev, ht⟩ := s.fault_classB detail h
  have hout : ((s.noteFault src detail).record 2 src data).out = s.out := by
    rw [record_eq, (s.noteFault_onlyFields src detail).1]
    rfl
  rw [ht, ← hout]
  exact event_sent ..

/-! ### The relation -/

/-- The stores, what has been sent, and the fields but those of a list are as before. -/
structure KeepsStores (l : List Fld) (s t : State) : Prop where
  stores : t.stores = s.stores
  sent : s.out ⊆ t.out
  fields : SameButFields s t l

namespace KeepsStores

variable {l : List Fld} {s t u : State}

theorem refl (s : State) : KeepsStores l s s := ⟨rfl, fun _ h => h, .refl s l⟩

theorem trans (h : KeepsStores l s t) (h' : KeepsStores l t u) : KeepsStores l s u :=
  ⟨h'.stores.trans h.stores, List.Subset.trans h.sent h'.sent, h.fields.trans h'.fields⟩

theorem mono {l' : List Fld} (h : KeepsStores l s t) (hl : ∀ x ∈ l, x ∈ l') : KeepsStores l' s t :=
  ⟨h.stores, h.sent, h.fields.mono hl⟩

/-- Nothing but tables that are no stores changes. -/
theorem of_eq (hst : t.stores = s.stores) (hout : t.out = s.out) (hr : t.regs = s.regs) : KeepsStores l s t :=
  ⟨hst, hout ▸ fun _ h => h, .of_regs hr l⟩

theorem of_onlyFields (h : OnlyFields s t l) : KeepsStores l s t :=
  ⟨stores_of_memories h.memories, by rw [h.1]; exact fun _ h => h, h.2⟩

theorem wr (h : KeepsStores l s t) (f : Fld) (i v : Nat) (hf : f ∈ l) : KeepsStores l s (t.wr f i v) :=
  h.trans (of_onlyFields (onlyFields_wr t f i v hf))

theorem ite {c : Prop} [Decidable c] (h : KeepsStores l s t) (h' : KeepsStores l s u) :
    KeepsStores l s (if c then t else u) := by
  split <;> assumption

theorem foldl {α : Type} {f : State → α → State} {xs : List α} (hf : ∀ s, ∀ x ∈ xs, KeepsStores l s (f s x))
    (s : State) : KeepsStores l s (xs.foldl f s) := foldl_relates refl (fun _ _ _ => trans) f hf s

theorem rd (h : KeepsStores l s t) (f : Fld) (i : Nat) (hf : ∀ x ∈ l, f.id ≠ x.id) : t.rd f i = s.rd f i :=
  h.fields f i hf

theorem rises {n : Nat} {f : Fld} {i : Nat} (h : KeepsStores l t u) (hr : Rises s t f i n)
    (hf : ∀ x ∈ l, f.id ≠ x.id) : Rises s u f i n := (h.rd f i hf).trans hr

end KeepsStores

theorem State.rises_bump (s : State) (f : Fld) (i : Nat) : Rises s (s.bump f i) f i 1 := s.rd_bumpBy f i 1

/-! ### Ends of frames, contexts and bindings -/

/-- Registers that the operations of this part write. -/
def endingFields : List Fld :=
  releaseFields ++ offFields ++ cmdEndFields ++ latchFields ++
    [F.PART_GEN_GEN, F.PART_RECOVERY_ABORTS, F.PART_RECOVERY_DETAIL, F.SPOOL_SIZE_OPEN, F.SPOOL_OWNER_OWNER,
      F.CTX_BUNDLE_BINDING, F.CTX_SPILL_LEVEL, F.CTX_SPILL_SLOWDOWN_PCT, F.CTX_STATE_STATE, F.CTX_STATE_HOLD_CAUSE]

theorem releaseFields_subset : ∀ x ∈ releaseFields, x ∈ endingFields := fun x hx => by simp [endingFields, hx]

theorem frameEndFields_subset : ∀ x ∈ frameEndFields, x ∈ endingFields := fun x hx =>
  releaseFields_subset x (List.mem_append_left _ hx)

theorem State.stopRunning_keepsStores (s : State) (b status : Nat) :
    KeepsStores endingFields s (s.stopRunning b status) :=
  ⟨stores_of_memories (s.memories_stopRunning b status), s.stopRunning_sent b status,
    (s.stopRunning_keeps b status).fields.mono frameEndFields_subset⟩

theorem State.endFrames_keepsStores (s : State) (p : Frame → Bool) (status : Nat) :
    KeepsStores endingFields s (s.endFrames p status) :=
  ⟨stores_of_memories (s.memories_endFrames p status), s.endFrames_sent p status,
    (s.endFrames_fields p status).mono frameEndFields_subset⟩

theorem State.freeCtx_keepsStores (s : State) (c : Nat) : KeepsStores endingFields s (s.freeCtx c) := by
  have hout : (s.freeCtx c).out = s.out := by
    unfold freeCtx
    rw [noteEnded_eq]
  exact ⟨stores_of_memories (s.memories_freeCtx c), hout ▸ fun _ h => h,
    (s.freeCtx_keeps c).fields.mono releaseFields_subset⟩

theorem State.releaseBolts_keepsStores (s : State) (bs : List Nat) (l : List Fld) :
    KeepsStores l s (s.releaseBolts bs) :=
  .foldl (fun s b _ => by
    split
    · exact .of_eq (t := s.setBolt b _) rfl rfl rfl
    · exact .refl s) s

theorem State.drainLease_keepsStores (s : State) (id : Nat) (l : List Fld) : KeepsStores l s (s.drainLease id) := by
  unfold drainLease
  split
  · exact .ite (.of_eq rfl rfl rfl) (.ite (.of_eq rfl rfl rfl) (.refl s))
  · exact .refl s

theorem State.releaseBinding_keepsStores (s : State) (b : Nat) :
    KeepsStores endingFields s (s.releaseBinding b) := by
  cases hb : s.binding? b with
  | none =>
    rw [show s.releaseBinding b = s by simp only [releaseBinding, hb]]
    exact .refl s
  | some x =>
    obtain ⟨use, jobs, copies, recs, h⟩ := releaseBinding_of_binding hb
    rw [h]
    refine KeepsStores.trans (t := s.releaseParts b x) ?_ (.of_eq rfl rfl rfl)
    unfold releaseParts
    extract_lets s1 cs s2
    have h2 : KeepsStores endingFields s s2 := ((s.stopRunning_keepsStores b 5).trans (endFrames_keepsStores ..)).trans
      (.foldl (fun s c _ => s.freeCtx_keepsStores c) _)
    exact (h2.trans (releaseBolts_keepsStores ..)).trans (.foldl (fun s id _ => s.drainLease_keepsStores id _) _)

theorem State.reapDisplaced_keepsStores (s : State) : KeepsStores endingFields s s.reapDisplaced :=
  .foldl (fun s x _ => s.releaseBinding_keepsStores x.1) s

theorem Parks.keepsStores {s t : State} (h : Parks s t) : KeepsStores endingFields s t := by
  obtain ⟨heq, hfields⟩ := h
  refine ⟨by rw [heq]; rfl, by rw [heq]; exact fun _ h => h, hfields.mono fun x hx => ?_⟩
  simp [endingFields, hx]

theorem State.dropBinding_keepsStores (s : State) (b : Nat) : KeepsStores endingFields s (s.dropBinding b) := by
  unfold dropBinding
  split
  · exact .refl s
  · refine (s.releaseBinding_keepsStores b).trans (.foldl (fun s p _ => ?_) _)
    have hgen : KeepsStores endingFields s (s.advanceGen p) := (KeepsStores.refl s).wr _ _ _ (by decide)
    exact .ite hgen (hgen.trans (partOff_parks ..).keepsStores)

/-! ### Ends of owners and commands -/

theorem State.dropBundle_keepsStores (s : State) (k : Nat) (l : List Fld) : KeepsStores l s (s.dropBundle k) := by
  unfold dropBundle
  split
  · exact .refl s
  · exact ((s.drainLease_keepsStores _ l).trans (drainLease_keepsStores ..)).trans (.of_eq rfl rfl rfl)

theorem State.reapOwners_eq (s : State) : s.reapOwners =
    { s with bnd := { s.bnd with owners := s.reapOwners.bnd.owners }, host := s.reapOwners.host } := by
  unfold reapOwners
  dsimp only
  split
  · split <;> rfl
  · rfl

theorem State.reapOwners_keepsStores (s : State) (l : List Fld) : KeepsStores l s s.reapOwners := by
  rw [reapOwners_eq]
  exact .of_eq rfl rfl rfl

theorem State.closeSpool_keepsStores (s : State) (k : Nat) : KeepsStores endingFields s (s.closeSpool k) :=
  KeepsStores.trans (t := (s.wr F.SPOOL_SIZE_OPEN k 0).wr F.SPOOL_OWNER_OWNER k 0)
    (((KeepsStores.refl s).wr _ _ _ (by decide)).wr _ _ _ (by decide)) (.of_eq rfl rfl rfl)

theorem State.closeOwner_keepsStores (s : State) (o : Nat) : KeepsStores endingFields s (s.closeOwner o) := by
  unfold closeOwner
  extract_lets s1 s2 s3 s4
  have h1 : KeepsStores endingFields s s1 := .foldl (fun s x _ => s.dropBinding_keepsStores x.1) _
  have h2 : KeepsStores endingFields s1 s2 := .foldl (fun s x _ => s.freeCtx_keepsStores x.1) _
  have h3 : KeepsStores endingFields s2 s3 := .foldl (fun s k _ => .ite (s.closeSpool_keepsStores k) (.refl s)) _
  have h4 : KeepsStores endingFields s3 s4 := .foldl (fun s x _ => s.dropBundle_keepsStores x.1 _) _
  exact (((h1.trans h2).trans h3).trans h4).trans (reapOwners_keepsStores ..)

theorem State.msixSend_keepsStores (s : State) (v : Nat) : KeepsStores endingFields s (s.msixSend v) :=
  ⟨stores_of_memories (s.memories_msixSend v), s.msixSend_sent v, (s.msixSend_frame v).mono (by decide)⟩

theorem State.finishCmd_keepsStores (s : State) (reason : Nat) : KeepsStores endingFields s (s.finishCmd reason) := by
  unfold finishCmd
  extract_lets s1 waiting _ s2
  have h1 : KeepsStores endingFields s s1 :=
    (((KeepsStores.refl s).wr _ _ _ (by decide)).wr _ _ _ (by decide)).wr _ _ _ (by decide)
  have h2 : KeepsStores endingFields s1 s2 := .of_eq rfl rfl rfl
  exact ((h1.trans h2).trans (s2.msixSend_keepsStores 1024)).trans (.foldl (fun s o _ => s.closeOwner_keepsStores o) _)

theorem State.endCmd_keepsStores (s : State) (reason : Nat) : KeepsStores endingFields s (s.endCmd reason) :=
  .ite (s.finishCmd_keepsStores reason) (.of_eq rfl rfl rfl)

theorem State.syncCtx_keepsStores (s : State) (c : Nat) : KeepsStores endingFields s (s.syncCtx c) :=
  .mono (.of_onlyFields (s.syncCtx_onlyFields c)) frameEndFields_subset

theorem State.moveCtx_keepsStores (s : State) (c target : Nat) : KeepsStores endingFields s (s.moveCtx c target) := by
  unfold moveCtx
  split
  · extract_lets place s1 s2 s3
    have h1 : KeepsStores endingFields s s1 := .of_eq rfl rfl rfl
    have h3 : KeepsStores endingFields s s3 :=
      (((h1.wr _ _ _ (by decide)).wr _ _ _ (by decide)).wr _ _ _ (by decide)).wr _ _ _ (by decide)
    exact .ite ((h3.wr _ _ _ (by decide)).wr _ _ _ (by decide)) (h3.wr _ _ _ (by decide))
  · exact .refl s

/-- A close or a move that ends, with the command and the owners that waited for it. -/
theorem State.settle_keepsStores (s : State) : KeepsStores endingFields s s.settle := by
  unfold settle
  split
  · next c _ =>
    exact .ite (((s.freeCtx_keepsStores c).trans (reapDisplaced_keepsStores _)).trans (endCmd_keepsStores ..))
      (.refl s)
  · next c t _ =>
    exact .ite ((((s.moveCtx_keepsStores c t).trans (syncCtx_keepsStores ..)).trans
      (reapDisplaced_keepsStores _)).trans (endCmd_keepsStores ..)) (.refl s)
  · exact .refl s

/-! ### Aborted frames (R485, R488) -/

theorem State.addCause_keepsStores (s : State) (c cause : Nat) (l : List Fld) :
    KeepsStores l s (s.addCause c cause) := by
  rw [addCause_eq]
  exact .of_eq rfl rfl rfl

theorem State.abortRunning_keepsStores (s : State) (b : Nat) : KeepsStores endingFields s (s.abortRunning b) := by
  unfold abortRunning
  split
  · exact .refl s
  · next x _ =>
    split
    · exact .refl s
    · have hbump := KeepsStores.of_onlyFields (s.bumpAborts_onlyFields x.parts)
      exact ((hbump.mono (by decide)).trans (addCause_keepsStores ..)).trans (stopRunning_keepsStores ..)

theorem State.contextAbort_keepsStores (s : State) (b : BindIx) : KeepsStores endingFields s (s.contextAbort b) := by
  unfold contextAbort
  split
  · exact .refl s
  · exact .ite (.refl s) ((s.abortRunning_keepsStores b.val).trans (.of_eq rfl rfl rfl))

theorem State.abortWith_keepsStores (s : State) (b : BindIx) (p detail : Nat) :
    KeepsStores endingFields s (s.abortWith b p detail) := by
  unfold abortWith
  split
  · exact .refl s
  · next c _ =>
    have hlatch : KeepsStores endingFields s (s.faultCtx p c 1 5 0x7F) :=
      .mono (.of_onlyFields (faultCtx_onlyFields ..)) (by decide)
    exact (hlatch.wr _ _ _ (by decide)).trans (contextAbort_keepsStores ..)

theorem State.abortFor_keepsStores (s : State) (p detail : Nat) : KeepsStores endingFields s (s.abortFor p detail) := by
  unfold abortFor
  split
  · split
    · exact s.abortWith_keepsStores ..
    · exact .refl s
  · exact .refl s

/-- The Beam with its bolts, the rows of HBM queued for repair and the weft's state are as before. -/
structure BesideFrame (s t : State) : Prop where
  beam : t.beam = s.beam
  rows : t.hbm.rows = s.hbm.rows
  weft : t.weft = s.weft

theorem BesideFrame.refl (s : State) : BesideFrame s s := ⟨rfl, rfl, rfl⟩

theorem BesideFrame.trans {s t u : State} (h : BesideFrame s t) (h' : BesideFrame t u) : BesideFrame s u :=
  ⟨h'.beam.trans h.beam, h'.rows.trans h.rows, h'.weft.trans h.weft⟩

theorem BesideFrame.of_onlyFields {s t : State} {l : List Fld} (h : OnlyFields s t l) : BesideFrame s t := by
  rw [h.1]
  exact ⟨rfl, rfl, rfl⟩

theorem State.besideFrame_stopRunning (s : State) (b status : Nat) : BesideFrame s (s.stopRunning b status) := by
  unfold stopRunning
  split
  · exact .refl s
  · split
    · exact .refl s
    · rw [endFrames_endsOnly]
      exact ⟨rfl, rfl, rfl⟩

theorem State.besideFrame_contextAbort (s : State) (b : BindIx) : BesideFrame s (s.contextAbort b) := by
  unfold contextAbort abortRunning
  split
  · exact .refl s
  · next x _ =>
    split
    · exact .refl s
    · dsimp only
      split
      · exact ⟨rfl, rfl, rfl⟩
      · next c _ =>
        have hbump := BesideFrame.of_onlyFields (s.bumpAborts_onlyFields x.parts)
        generalize x.parts.foldl _ s = u at hbump ⊢
        have hcause : BesideFrame u (u.addCause c 2) := by
          rw [addCause_eq]
          exact ⟨rfl, rfl, rfl⟩
        obtain ⟨hbeam, hrows, hweft⟩ := (hbump.trans hcause).trans (besideFrame_stopRunning _ b.val 4)
        exact ⟨hbeam, hrows, hweft⟩

theorem State.besideFrame_abortWith (s : State) (b : BindIx) (p detail : Nat) :
    BesideFrame s (s.abortWith b p detail) := by
  unfold abortWith
  split
  · exact .refl s
  · have hlatch := BesideFrame.of_onlyFields (s.faultCtx_onlyFields p ‹_› 1 5 0x7F)
    exact (hlatch.trans (.of_onlyFields (onlyFields_wr _ F.PART_RECOVERY_DETAIL _ _ (List.mem_singleton.2 rfl)))).trans
      (besideFrame_contextAbort ..)

theorem State.besideFrame_abortFor (s : State) (p detail : Nat) : BesideFrame s (s.abortFor p detail) := by
  unfold abortFor
  split
  · split
    · exact s.besideFrame_abortWith ..
    · exact .refl s
  · exact .refl s

theorem State.failTransfer_keepsStores (s : State) (ctx : Option CtxIx) :
    KeepsStores endingFields s (s.failTransfer ctx) := by
  unfold failTransfer
  split
  · exact .refl s
  · split
    · exact .ite ((s.abortRunning_keepsStores _).trans (settle_keepsStores _)) (.refl s)
    · exact .refl s

end Sys2Proof.Machine

namespace Sys2Proof.Machine
/-! PROOFS. Banks of the Beam: errors, sparing, decay (R95, R102, R103, R106). -/

/-! ### The storage of a bolt (R97) -/

/-- The storage of a bolt is that of its exchange. -/
theorem storage_of_exchanged {s t : State} {b : Nat} (h : (t.bolt b).exchanged = (s.bolt b).exchanged) :
    t.storage b = s.storage b := by
  unfold State.storage
  rw [h]

theorem storage_of_bolts {s t : State} (h : t.beam.bolts = s.beam.bolts) (b : Nat) : t.storage b = s.storage b := by
  unfold State.storage State.bolt
  rw [h]

theorem State.exchanged_setBolt (s : State) (j : Nat) (x : Bolt) (k : Nat) (h : x.exchanged = (s.bolt j).exchanged) :
    ((s.setBolt j x).bolt k).exchanged = (s.bolt k).exchanged := by
  by_cases hk : j = k
  · subst hk
    rw [bolt_setBolt_same, h]
  · rw [s.bolt_setBolt_other x hk]

/-- A bolt marked to retire keeps its storage. -/
theorem State.storage_retireBolt (s : State) (j b : Nat) : (s.retireBolt j).storage b = s.storage b := by
  refine storage_of_exchanged ?_
  unfold retireBolt
  dsimp only
  split
  · exact s.exchanged_setBolt j _ b rfl
  · rfl
  · rfl
  · exact s.exchanged_setBolt j _ b rfl

/-! ### A bank that fails (R103, R105) -/

/-- Registers that a failing bank writes: its mark, the copy to the spare, or the fault of a fixed region. -/
def bankFields : List Fld := I.bankFailing :: I.copyBank :: faultBFields 83

/-- What a failing bank leaves alone. -/
structure BankKept (s t : State) : Prop where
  memories : t.memories = s.memories
  storage : ∀ b, t.storage b = s.storage b
  sent : s.out ⊆ t.out
  fields : SameButFields s t bankFields

namespace BankKept

variable {s t u : State}

theorem refl (s : State) : BankKept s s := ⟨rfl, fun _ => rfl, fun _ h => h, .refl s _⟩

theorem trans (h : BankKept s t) (h' : BankKept t u) : BankKept s u :=
  ⟨h'.memories.trans h.memories, fun b => (h'.storage b).trans (h.storage b), List.Subset.trans h.sent h'.sent,
    h.fields.trans h'.fields⟩

theorem wr (h : BankKept s t) (f : Fld) (i v : Nat) (hf : f ∈ bankFields) : BankKept s (t.wr f i v) :=
  h.trans ⟨rfl, fun _ => rfl, fun _ h => h, sameButFields_wr t f i v hf⟩

theorem rises {n : Nat} {f : Fld} {i : Nat} (h : BankKept t u) (hr : Rises s t f i n)
    (hf : ∀ x ∈ bankFields, f.id ≠ x.id) : Rises s u f i n := (h.fields.rd f i hf).trans hr

theorem beamLine (h : BankKept s t) (b l : Nat) : t.beamLine b l = s.beamLine b l := by
  unfold State.beamLine State.beamByte
  rw [h.storage b, (beam_of_stores (stores_of_memories h.memories)).1]

theorem poisoned (h : BankKept s t) (b l : Nat) : t.poisoned b l = s.poisoned b l := by
  unfold State.poisoned
  rw [h.storage b, (beam_of_stores (stores_of_memories h.memories)).2]

end BankKept

theorem State.fault83_bankKept (s : State) (detail : Nat) : BankKept s (s.fault 83 detail) := by
  have hclass : faultClass 83 = 2 := rfl
  refine ⟨s.memories_fault detail hclass, fun b => storage_of_bolts ?_ b, s.fault_sent detail hclass,
    (fault_frame detail s hclass).mono fun x hx => List.mem_cons_of_mem _ (List.mem_cons_of_mem _ hx)⟩
  rw [s.fault_eq detail hclass]

theorem State.retireBolt_bankKept (s : State) (b : Nat) : BankKept s (s.retireBolt b) :=
  ⟨s.memories_retireBolt b, s.storage_retireBolt b, by rw [retireBolt_eq]; exact fun _ h => h,
    .of_regs (by rw [retireBolt_eq]) _⟩

theorem State.retire_bankKept (s : State) (r : Retirement) : BankKept s (s.retire r) := by
  rw [retire_eq]
  exact ⟨rfl, fun _ => rfl, fun _ h => h, .of_regs rfl _⟩

theorem State.bankFails_bankKept (s : State) (g : BankGroup) (bank : Fin 33) : BankKept s (s.bankFails g bank) := by
  unfold bankFails
  extract_lets i u
  have hu : BankKept s u := (BankKept.refl s).wr _ _ _ (by decide)
  split
  · exact .refl s
  · split
    · refine hu.trans (foldl_relates BankKept.refl (fun _ _ _ => .trans) _ (fun t b _ => ?_) u)
      split
      · split
        · exact t.fault83_bankKept b.val
        · exact (t.retireBolt_bankKept b.val).trans (retire_bankKept ..)
      · exact .refl t
    · exact hu.wr _ _ _ (by decide)

/-! ### Errors of a bank (R102, R103) -/

/-- A correctable error: the counter and the level rise, and the bank fails at level 8. -/
theorem State.bankCe_bankKept (s : State) (g : BankGroup) (bank : Fin 33) :
    ∃ level, BankKept ((s.bump F.BEAM_ECC_CE 0).wr I.beamLevel (bankIx g.val bank.val) level) (s.bankCe g bank) := by
  unfold bankCe
  extract_lets i u
  refine ⟨_, show BankKept u _ from ?_⟩
  split
  · exact u.bankFails_bankKept g bank
  · exact .refl u

theorem State.memories_bankCe (s : State) (g : BankGroup) (bank : Fin 33) :
    (s.bankCe g bank).memories = s.memories := by
  obtain ⟨level, h⟩ := s.bankCe_bankKept g bank
  exact h.memories

theorem State.rises_bankCe (s : State) (g : BankGroup) (bank : Fin 33) :
    Rises s (s.bankCe g bank) F.BEAM_ECC_CE 0 1 := by
  obtain ⟨level, h⟩ := s.bankCe_bankKept g bank
  exact h.rises ((State.rd_wr_id _ _ _ _ (by decide)).trans (s.rises_bump F.BEAM_ECC_CE 0)) (by decide)

theorem State.memories_bankUe (s : State) (g : BankGroup) (bank : Fin 33) : (s.bankUe g bank).memories = s.memories :=
  (bankFails_bankKept (s.bump F.BEAM_ECC_UE 0) g bank).memories

theorem State.rises_bankUe (s : State) (g : BankGroup) (bank : Fin 33) : Rises s (s.bankUe g bank) F.BEAM_ECC_UE 0 1 :=
  (bankFails_bankKept (s.bump F.BEAM_ECC_UE 0) g bank).rises (s.rises_bump F.BEAM_ECC_UE 0) (by decide)

/-! ### `BEAM_SCRUB` (R106) -/

/-- The place of a bank's lines among the 32 of its group (R95). -/
def State.bankPlace (s : State) (g : BankGroup) (bank : Fin 33) : Nat :=
  if bank.val = 32 then s.rd I.sparedBank g.val else bank.val

/-- The scrubber passes over a bank out of service. -/
def State.scrubIdle (s : State) (g : BankGroup) (bank : Fin 33) : Prop :=
  s.bankPlace g bank = 33 ∨
    (bank.val ≠ 32 ∧ s.on I.spareUsed g.val ∧ s.rd I.sparedBank g.val = bank.val)

theorem bankServes_iff (s : State) (g : BankGroup) (bank : Fin 33) : BankServes s g bank ↔ ¬ s.scrubIdle g bank := by
  have hlt := bank.isLt
  unfold BankServes State.scrubIdle State.bankPlace
  by_cases h : bank.val = 32
  · simp [h]
  · have h33 : bank.val ≠ 33 := by omega
    simp [h, h33]

theorem exec_beamScrub_idle {s : State} {g : BankGroup} {bank : Fin 33} (h : s.scrubIdle g bank) (line : Fin 1024)
    (e : Ecc) (iv : Bool) : exec (.beamScrub g bank line e iv) s = .next s := by
  show execBeamScrub g bank line e iv s = _
  exact if_pos h

theorem exec_beamScrub_clean (s : State) (g : BankGroup) (bank : Fin 33) (line : Fin 1024) (iv : Bool) :
    exec (.beamScrub g bank line .clean iv) s = .next s := by
  show execBeamScrub g bank line .clean iv s = _
  exact ite_self _

theorem exec_beamScrub_corrected {s : State} {g : BankGroup} {bank : Fin 33} (h : ¬ s.scrubIdle g bank)
    (line : Fin 1024) (iv : Bool) :
    exec (.beamScrub g bank line .corrected iv) s = .next (s.bankCe g bank) := by
  show execBeamScrub g bank line .corrected iv s = _
  exact if_neg h

/-- The state with the mark of a scrubbed line that could not be corrected. -/
def State.scrubMark (s : State) (key : Nat) (intervened : Bool) : State :=
  { s with beam := { s.beam with
    poison := if intervened then s.beam.poison else Tab.put s.beam.poison key true false } }

theorem exec_beamScrub_uncorrectable {s : State} {g : BankGroup} {bank : Fin 33} (h : ¬ s.scrubIdle g bank)
    (line : Fin 1024) (iv : Bool) :
    exec (.beamScrub g bank line .uncorrectable iv) s = .next ((s.scrubMark
      ((2 * g.val + line.val / 512) * 16384 + line.val % 512 * 32 + s.bankPlace g bank) iv).bankUe g bank) := by
  show execBeamScrub g bank line .uncorrectable iv s = _
  exact if_neg h

/-- A mark set unless a write intervened. -/
theorem Tab.get_mark (m : SMap Bool) (key k : Nat) (iv : Bool) :
    get (if iv then m else put m key true false) k false = ((decide (k = key) && !iv) || get m k false) := by
  cases iv with
  | true => simp
  | false =>
    by_cases hk : k = key
    · subst hk
      simp
    · simp [hk, get_put_other m (Ne.symm hk)]

theorem beamScrub_counts {s : State} {g : BankGroup} {bank : Fin 33} (h : BankServes s g bank) (line : Fin 1024)
    (iv : Bool) :
    (Completes (.beamScrub g bank line .corrected iv) s fun t =>
      Rises s t F.BEAM_ECC_CE 0 1 ∧ SameBytes s t ∧ t.beam.poison = s.beam.poison) ∧
    (Completes (.beamScrub g bank line .uncorrectable iv) s fun t =>
      let key := (2 * g.val + line.val / 512) * 16384 + line.val % 512 * 32 + s.bankPlace g bank
      Rises s t F.BEAM_ECC_UE 0 1 ∧ SameBytes s t ∧
      (∀ k, Tab.get t.beam.poison k false = ((decide (k = key) && !iv) || Tab.get s.beam.poison k false))) := by
  rw [bankServes_iff] at h
  constructor
  · have hmem := sameMemories_of_memories (s.memories_bankCe g bank)
    exact ⟨_, exec_beamScrub_corrected h line iv, s.rises_bankCe g bank, hmem.sameBytes, hmem.2.1⟩
  · refine ⟨_, exec_beamScrub_uncorrectable h line iv, ?_⟩
    have hmem := sameMemories_of_memories ((s.scrubMark ((2 * g.val + line.val / 512) * 16384 +
      line.val % 512 * 32 + s.bankPlace g bank) iv).memories_bankUe g bank)
    refine ⟨State.rises_bankUe (s.scrubMark _ iv) g bank, hmem.sameBytes, fun k => ?_⟩
    rw [hmem.2.1]
    exact Tab.get_mark ..

/-! ### `BANK_SPARE_SWITCH` (R103 step 3) -/

theorem exec_bankSpareSwitch {s : State} {g : BankGroup} (h : s.rd I.copyBank g.val < 33) :
    exec (.bankSpareSwitch g) s = .next (((((s.wr I.spareUsed g.val 1).wr I.sparedBank g.val
      (s.rd I.copyBank g.val)).wr I.copyBank g.val 33).bump F.BEAM_ECC_SPARINGS 0).retire
        (.bank (Fin.ofNat 4 (g.val / 32)) (Fin.ofNat 32 g.val) ⟨s.rd I.copyBank g.val, h⟩)) := by
  show execBankSpareSwitch g s = _
  exact dif_pos h

theorem exec_bankSpareSwitch_none {s : State} {g : BankGroup} (h : 33 ≤ s.rd I.copyBank g.val) :
    exec (.bankSpareSwitch g) s = .next s := by
  show execBankSpareSwitch g s = _
  exact dif_neg (Nat.not_lt.2 h)

/-- A retirement made is in force (R54). -/
theorem State.mem_retirements_retire (s : State) (r : Retirement) : r ∈ (s.retire r).retirements := by
  unfold retire retirements
  split
  · next h => exact List.mem_append.2 h
  · exact List.mem_append_right _ (List.mem_append_right _ (List.mem_singleton.2 rfl))

theorem State.rd_retire (s : State) (r : Retirement) (f : Fld) (i : Nat) : (s.retire r).rd f i = s.rd f i := by
  rw [retire_eq]
  rfl

theorem bankSpareSwitch_serves {s : State} {g : BankGroup} (h : s.rd I.copyBank g.val < 33) :
    Completes (.bankSpareSwitch g) s fun t =>
      t.rd I.spareUsed g.val = 1 ∧ t.rd I.sparedBank g.val = s.rd I.copyBank g.val ∧ t.rd I.copyBank g.val = 33 ∧
      Rises s t F.BEAM_ECC_SPARINGS 0 1 ∧
      .bank (Fin.ofNat 4 (g.val / 32)) (Fin.ofNat 32 g.val) ⟨s.rd I.copyBank g.val, h⟩ ∈ t.retirements ∧
      SameMemories s t ∧
      SameBut s t [(I.spareUsed, g.val), (I.sparedBank, g.val), (I.copyBank, g.val), (F.BEAM_ECC_SPARINGS, 0)] := by
  refine ⟨_, exec_bankSpareSwitch h, ?_, ?_, ?_, ?_, State.mem_retirements_retire _ _,
    sameMemories_of_memories (State.memories_retire _ _), ?_⟩
  · simp (disch := decide) only [State.rd_retire, State.bump, State.bumpBy, State.rd_wr_id, State.rd_wr_same]
    rfl
  · simp (disch := decide) only [State.rd_retire, State.bump, State.bumpBy, State.rd_wr_id, State.rd_wr_same]
    exact Nat.mod_eq_of_lt (h.trans (by decide))
  · simp (disch := decide) only [State.rd_retire, State.bump, State.bumpBy, State.rd_wr_id, State.rd_wr_same]
    rfl
  · refine (State.rd_retire ..).trans ((State.rises_bump ..).trans ?_)
    simp (disch := decide) only [State.rd_wr_id]
  · refine SameBut.trans ?_ fun f i _ => State.rd_retire ..
    exact (((sameBut_wr s _ _ _ (by simp)).wr _ _ _ (by simp)).wr _ _ _ (by simp)).wr _ _ _ (by simp)

/-- Settles O13: a scrub counts like a read (`bankCe`, `bankUe`) and marks its line, the switch writes the group's
three places and one retirement, the decay one level. -/
theorem bankErrorsAndSparing : Obligations.BankErrorsAndSparing := by
  unfold Obligations.BankErrorsAndSparing
  refine ⟨fun g bank line iv s => ⟨exec_beamScrub_clean .., fun h => beamScrub_counts h line iv, fun h e => ?_⟩,
    fun g s => ⟨bankSpareSwitch_serves, exec_bankSpareSwitch_none⟩, fun b s => ?_⟩
  · exact exec_beamScrub_idle (not_not.1 (mt (bankServes_iff s g bank).2 h)) line e iv
  · cases b with
    | beam g k => exact ⟨_, rfl, s.rd_wr_same .., onlyRegs_wr ..⟩
    | hbm g c k => exact ⟨_, rfl, s.rd_wr_same .., onlyRegs_wr ..⟩

end Sys2Proof.Machine

namespace Sys2Proof.Machine
/-! PROOFS. HBM: errors of a row, scrubbing, bursts of the DMA queues (R110-R113). -/

/-! ### A row queued for repair (R113) -/

theorem State.queueRow_eq (s : State) (g : HomeGroup) (chan : Fin 16) (bank row : Nat) :
    let t := s.queueRow g chan bank row
    t = { s with
      regs := t.regs
      arr := { s.arr with made := t.arr.made }
      hbm := { s.hbm with rows := t.hbm.rows }
      stw := { s.stw with retireQueue := t.stw.retireQueue, flashOps := t.stw.flashOps } } := by
  unfold queueRow
  dsimp only
  split
  · rfl
  · rw [retire_eq]
    rfl

theorem State.queueRow_fields (s : State) (g : HomeGroup) (chan : Fin 16) (bank row : Nat) :
    SameButFields s (s.queueRow g chan bank row) [F.HBM_GRP_REPAIR_PENDING] := by
  unfold queueRow
  split
  · exact .refl s _
  · intro f i hf
    rw [rd_retire]
    exact State.rd_wr_id _ _ _ _ (Ne.symm (hf _ (List.mem_singleton.2 rfl)))

theorem State.mem_rows_queueRow (s : State) (g : HomeGroup) (chan : Fin 16) (bank row : Nat) :
    (g.val, chan.val, bank, row) ∈ (s.queueRow g chan bank row).hbm.rows := by
  unfold queueRow
  split
  · assumption
  · rw [retire_eq]
    exact List.mem_append_right _ (List.mem_singleton.2 rfl)

/-! ### Errors of a row (R111) -/

/-- What an error of a row changes: registers, the rows queued, and their retirements. -/
def RowNoted (s t : State) : Prop :=
  t = { s with
    regs := t.regs
    arr := { s.arr with made := t.arr.made }
    hbm := { s.hbm with rows := t.hbm.rows }
    stw := { s.stw with retireQueue := t.stw.retireQueue, flashOps := t.stw.flashOps } }

theorem RowNoted.xfers {s t : State} (h : RowNoted s t) : t.hbm.xfers = s.hbm.xfers := by
  unfold RowNoted at h
  rw [h]

theorem RowNoted.out {s t : State} (h : RowNoted s t) : t.out = s.out := by
  unfold RowNoted at h
  rw [h]

theorem RowNoted.host {s t : State} (h : RowNoted s t) : t.host = s.host := by
  unfold RowNoted at h
  rw [h]

theorem State.hbmCe_rowNoted (s : State) (g : HomeGroup) (x : HbmRow) : RowNoted s (s.hbmCe g x) := by
  unfold hbmCe RowNoted
  dsimp only
  split
  · rw [queueRow_eq]
    rfl
  · rfl

theorem State.hbmUe_rowNoted (s : State) (g : HomeGroup) (x : HbmRow) : RowNoted s (s.hbmUe g x) := by
  unfold hbmUe RowNoted
  dsimp only
  rw [queueRow_eq]
  rfl

/-- A correctable error counts, raises the bank's level, and queues the row at level 8. -/
theorem State.hbmCe_fields (s : State) (g : HomeGroup) (x : HbmRow) :
    SameButFields ((s.bump F.HBM_GRP_ECC_CE g.val)) (s.hbmCe g x) [I.hbmLevel, F.HBM_GRP_REPAIR_PENDING] := by
  unfold hbmCe
  extract_lets i u
  have hu : SameButFields (s.bump F.HBM_GRP_ECC_CE g.val) u [I.hbmLevel, F.HBM_GRP_REPAIR_PENDING] :=
    sameButFields_wr _ _ _ _ (by decide)
  split
  · exact hu.trans ((u.queueRow_fields g x.chan x.bank.val x.row).mono (by decide))
  · exact hu

theorem State.rises_hbmCe (s : State) (g : HomeGroup) (x : HbmRow) :
    Rises s (s.hbmCe g x) F.HBM_GRP_ECC_CE g.val 1 :=
  ((s.hbmCe_fields g x).rd _ _ (by decide)).trans (s.rises_bump F.HBM_GRP_ECC_CE g.val)

theorem State.hbmCe_sameButFields (s : State) (g : HomeGroup) (x : HbmRow) :
    SameButFields s (s.hbmCe g x) [F.HBM_GRP_ECC_CE, I.hbmLevel, F.HBM_GRP_REPAIR_PENDING] :=
  (sameButFields_wr s _ _ _ (by decide)).trans ((s.hbmCe_fields g x).mono (by decide))

theorem State.hbmUe_fields (s : State) (g : HomeGroup) (x : HbmRow) :
    SameButFields (s.bump F.HBM_GRP_ECC_UE g.val) (s.hbmUe g x) [F.HBM_GRP_REPAIR_PENDING] :=
  queueRow_fields (s.bump F.HBM_GRP_ECC_UE g.val) g x.chan x.bank.val x.row

theorem State.rises_hbmUe (s : State) (g : HomeGroup) (x : HbmRow) :
    Rises s (s.hbmUe g x) F.HBM_GRP_ECC_UE g.val 1 :=
  ((s.hbmUe_fields g x).rd _ _ (by decide)).trans (s.rises_bump F.HBM_GRP_ECC_UE g.val)

theorem State.hbmUe_sameButFields (s : State) (g : HomeGroup) (x : HbmRow) :
    SameButFields s (s.hbmUe g x) [F.HBM_GRP_ECC_UE, F.HBM_GRP_REPAIR_PENDING] :=
  (sameButFields_wr s _ _ _ (by decide)).trans ((s.hbmUe_fields g x).mono (by decide))

theorem State.mem_rows_hbmUe (s : State) (g : HomeGroup) (x : HbmRow) :
    (g.val, x.chan.val, x.bank.val, x.row) ∈ (s.hbmUe g x).hbm.rows := mem_rows_queueRow ..

/-! ### `HBM_SCRUB` (R112) -/

/-- The state with the mark of a scrubbed line of HBM that could not be corrected. -/
def State.hbmScrubMark (s : State) (key : Nat) (intervened : Bool) : State :=
  { s with hbm := { s.hbm with
    poison := if intervened then s.hbm.poison else Tab.put s.hbm.poison key true false } }

theorem exec_hbmScrub_inReset {s : State} {g : HomeGroup} (h : s.inReset g.val = true) (line : Nat) (loc : HbmRow)
    (e : Ecc) (iv : Bool) : exec (.hbmScrub g line loc e iv) s = .next s := by
  show execHbmScrub g line loc e iv s = _
  exact if_pos h

theorem exec_hbmScrub {s : State} {g : HomeGroup} (h : s.inReset g.val = false) (line : Nat) (loc : HbmRow)
    (e : Ecc) (iv : Bool) : exec (.hbmScrub g line loc e iv) s = .next (match e with
      | .clean => s
      | .corrected => s.hbmCe g loc
      | .uncorrectable => (s.hbmScrubMark (g.val * 2 ^ 30 + line % 2 ^ 30) iv).hbmUe g loc) := by
  show execHbmScrub g line loc e iv s = _
  unfold execHbmScrub
  rw [h, if_neg Bool.false_ne_true]
  cases e <;> rfl

theorem hbmScrub_counts {s : State} {g : HomeGroup} (h : s.inReset g.val = false) (line : Nat) (loc : HbmRow)
    (iv : Bool) :
    (Completes (.hbmScrub g line loc .corrected iv) s fun t =>
      Rises s t F.HBM_GRP_ECC_CE g.val 1 ∧ SameMemories s t ∧
      SameButFields s t [F.HBM_GRP_ECC_CE, I.hbmLevel, F.HBM_GRP_REPAIR_PENDING]) ∧
    (Completes (.hbmScrub g line loc .uncorrectable iv) s fun t =>
      Rises s t F.HBM_GRP_ECC_UE g.val 1 ∧ (g.val, loc.chan.val, loc.bank.val, loc.row) ∈ t.hbm.rows ∧
      (∀ k, Tab.get t.hbm.poison k false =
        ((decide (k = g.val * 2 ^ 30 + line % 2 ^ 30) && !iv) || Tab.get s.hbm.poison k false)) ∧
      SameBytes s t ∧ SameButFields s t [F.HBM_GRP_ECC_UE, F.HBM_GRP_REPAIR_PENDING]) := by
  constructor
  · exact ⟨_, exec_hbmScrub h .., s.rises_hbmCe g loc, sameMemories_of_memories (s.memories_hbmCe g loc),
      s.hbmCe_sameButFields g loc⟩
  · generalize hu : s.hbmScrubMark (g.val * 2 ^ 30 + line % 2 ^ 30) iv = u
    have hregs : u.regs = s.regs := hu ▸ rfl
    have hbytes : SameBytes s u := hu ▸ ⟨rfl, rfl, rfl, rfl⟩
    have hmem := sameMemories_of_memories (u.memories_hbmUe g loc)
    refine ⟨u.hbmUe g loc, by rw [exec_hbmScrub h, hu], ?_, u.mem_rows_hbmUe g loc, fun k => ?_, ?_, ?_⟩
    · have hrise := u.rises_hbmUe g loc
      rwa [Rises, State.rd_congr hregs] at hrise
    · rw [hmem.2.2.2.1, ← hu]
      exact Tab.get_mark ..
    · obtain ⟨h1, h2, h3, h4⟩ := hmem.sameBytes
      obtain ⟨k1, k2, k3, k4⟩ := hbytes
      exact ⟨h1.trans k1, h2.trans k2, h3.trans k3, h4.trans k4⟩
    · exact SameButFields.trans (.of_regs hregs _) (u.hbmUe_sameButFields g loc)

/-! ### The next queue (R110) -/

theorem nextQueue?_some {s : State} {g q : Nat} (h : s.nextQueue? g = some q) :
    (∃ t ∈ s.hbm.xfers, t.group = g ∧ t.queue = q) ∧ ∃ k < 19, q = (s.rd I.dmaNext g + k) % 19 ∧
      ∀ j < k, ¬ ∃ t ∈ s.hbm.xfers, t.group = g ∧ t.queue = (s.rd I.dmaNext g + j) % 19 := by
  have hwaits (r : Nat) : (s.hbm.xfers.any fun t => t.group == g && t.queue == r) = true ↔
      ∃ t ∈ s.hbm.xfers, t.group = g ∧ t.queue = r := by simp
  unfold State.nextQueue? at h
  obtain ⟨hq, k, hk, hkq, hbefore⟩ := List.find?_eq_some_iff_getElem.1 h
  simp only [List.length_map, List.length_range] at hk
  simp only [List.getElem_map, List.getElem_range] at hkq hbefore
  refine ⟨(hwaits q).1 hq, k, hk, hkq.symm, fun j hj hwait => ?_⟩
  have hno := hbefore j hj
  rw [(hwaits _).2 hwait] at hno
  exact Bool.false_ne_true hno

/-- Of the 19 queues each is reached from the engine's pointer. -/
theorem nextQueue?_isSome {s : State} {g q : Nat} (hq : q < 19) (h : ∃ t ∈ s.hbm.xfers, t.group = g ∧ t.queue = q) :
    (s.nextQueue? g).isSome = true := by
  obtain ⟨t, ht, hg, hqueue⟩ := h
  refine List.find?_isSome.2 ⟨q, List.mem_map.2 ⟨(q + 19 - s.rd I.dmaNext g % 19) % 19, ?_, ?_⟩, ?_⟩
  · exact List.mem_range.2 (Nat.mod_lt _ (by decide))
  · omega
  · exact List.any_eq_true.2 ⟨t, ht, by simp [hg, hqueue]⟩

/-! ### `HBM_DMA_BURST` (R110, R111) -/

/-- A burst of a queue: its oldest transfer advances and the engine looks next at the queue after it. -/
def State.burstMoved (s : State) (g q : Nat) : State :=
  { s with hbm := { s.hbm with xfers := burst g q s.hbm.xfers } }.wr I.dmaNext g ((q + 1) % 19)

theorem State.dmaNext_burstMoved (s : State) (g q : Nat) :
    (s.burstMoved g q).rd I.dmaNext g = (q + 1) % 19 :=
  (rd_wr_same ..).trans (Nat.mod_eq_of_lt ((Nat.mod_lt _ (by decide)).trans (by decide)))

theorem State.burstMoved_sameBut (s : State) (g q : Nat) : SameBut s (s.burstMoved g q) [(I.dmaNext, g)] :=
  SameBut.trans (t := { s with hbm := { s.hbm with xfers := burst g q s.hbm.xfers } }) (fun _ _ _ => rfl)
    (sameBut_wr _ _ _ _ (by simp))

theorem State.burstMoved_fields (s : State) (g q : Nat) : SameButFields s (s.burstMoved g q) [I.dmaNext] :=
  SameButFields.trans (t := { s with hbm := { s.hbm with xfers := burst g q s.hbm.xfers } }) (.of_regs rfl _)
    (sameButFields_wr _ _ _ _ (by simp))

theorem State.memories_burstMoved (s : State) (g q : Nat) : (s.burstMoved g q).memories = s.memories := rfl

theorem exec_hbmDmaBurst_inReset {s : State} {g : HomeGroup} (h : s.inReset g.val = true) (loc : HbmRow) (e : Ecc) :
    exec (.hbmDmaBurst g loc e) s = .next s := by
  show execHbmDmaBurst g loc e s = _
  exact if_pos h

theorem exec_hbmDmaBurst_none {s : State} {g : HomeGroup} (h : s.nextQueue? g.val = none) (loc : HbmRow) (e : Ecc) :
    exec (.hbmDmaBurst g loc e) s = .next s := by
  show execHbmDmaBurst g loc e s = _
  unfold execHbmDmaBurst
  rw [h]
  exact ite_self _

section

variable {s : State} {g : HomeGroup} {q : Nat} (h : s.inReset g.val = false) (hq : s.nextQueue? g.val = some q)
include h hq

theorem exec_hbmDmaBurst_clean (loc : HbmRow) :
    exec (.hbmDmaBurst g loc .clean) s = .next (s.burstMoved g.val q) := by
  show execHbmDmaBurst g loc .clean s = _
  unfold execHbmDmaBurst
  rw [h, if_neg Bool.false_ne_true, hq]
  rfl

theorem exec_hbmDmaBurst_corrected (loc : HbmRow) :
    exec (.hbmDmaBurst g loc .corrected) s = .next ((s.burstMoved g.val q).hbmCe g loc) := by
  show execHbmDmaBurst g loc .corrected s = _
  unfold execHbmDmaBurst
  rw [h, if_neg Bool.false_ne_true, hq]
  rfl

/-- Poisoned data is counted, and may abort a frame of the partition whose queue it is. -/
theorem exec_hbmDmaBurst_uncorrectable (loc : HbmRow) :
    let u := (s.burstMoved g.val q).hbmUe g loc
    exec (.hbmDmaBurst g loc .uncorrectable) s = .next u ∨
      exec (.hbmDmaBurst g loc .uncorrectable) s = .next (u.abortFor q 3) := by
  intro u
  have hexec : exec (.hbmDmaBurst g loc .uncorrectable) s = execHbmDmaBurst g loc .uncorrectable s := rfl
  unfold execHbmDmaBurst at hexec
  rw [h, if_neg Bool.false_ne_true, hq] at hexec
  rw [hexec]
  dsimp only
  split
  · split
    · exact .inr rfl
    · exact .inl rfl
  · exact .inl rfl

end

theorem hbmDmaBurst_moves {s : State} {g : HomeGroup} {q : Nat} (h : s.inReset g.val = false)
    (hq : s.nextQueue? g.val = some q) (loc : HbmRow) :
    (Completes (.hbmDmaBurst g loc .clean) s fun t =>
      t.hbm.xfers = burst g.val q s.hbm.xfers ∧ t.rd I.dmaNext g.val = (q + 1) % 19 ∧
      t = { s with regs := t.regs, hbm := { s.hbm with xfers := t.hbm.xfers } } ∧
      SameBut s t [(I.dmaNext, g.val)]) ∧
    (Completes (.hbmDmaBurst g loc .corrected) s fun t =>
      t.hbm.xfers = burst g.val q s.hbm.xfers ∧ t.rd I.dmaNext g.val = (q + 1) % 19 ∧
      Rises s t F.HBM_GRP_ECC_CE g.val 1 ∧ SameMemories s t ∧
      SameButFields s t [I.dmaNext, F.HBM_GRP_ECC_CE, I.hbmLevel, F.HBM_GRP_REPAIR_PENDING]) ∧
    (Completes (.hbmDmaBurst g loc .uncorrectable) s fun t =>
      t.rd I.dmaNext g.val = (q + 1) % 19 ∧ Rises s t F.HBM_GRP_ECC_UE g.val 1 ∧
      (g.val, loc.chan.val, loc.bank.val, loc.row) ∈ t.hbm.rows ∧ SameMemories s t) := by
  have hmoved (f : Fld) (i : Nat) (hf : f.id ≠ I.dmaNext.id) : (s.burstMoved g.val q).rd f i = s.rd f i :=
    (s.burstMoved_fields g.val q).rd f i (by simpa using hf)
  refine ⟨⟨_, exec_hbmDmaBurst_clean h hq loc, rfl, s.dmaNext_burstMoved .., rfl, s.burstMoved_sameBut _ _⟩,
    ⟨_, exec_hbmDmaBurst_corrected h hq loc, (State.hbmCe_rowNoted ..).xfers, ?_, ?_, ?_, ?_⟩, ?_⟩
  · exact ((State.hbmCe_sameButFields _ _ _).rd _ _ (by decide)).trans (s.dmaNext_burstMoved ..)
  · have hrise := (s.burstMoved g.val q).rises_hbmCe g loc
    rwa [Rises, hmoved _ _ (by decide)] at hrise
  · exact sameMemories_of_memories (State.memories_hbmCe ..)
  · exact ((s.burstMoved_fields g.val q).mono (by decide)).trans ((State.hbmCe_sameButFields _ _ _).mono (by decide))
  · generalize hu : (s.burstMoved g.val q).hbmUe g loc = u
    have hnext : u.rd I.dmaNext g.val = (q + 1) % 19 := by
      rw [← hu, (State.hbmUe_sameButFields _ _ _).rd _ _ (by decide)]
      exact s.dmaNext_burstMoved ..
    have hrise : Rises s u F.HBM_GRP_ECC_UE g.val 1 := by
      have hrise := (s.burstMoved g.val q).rises_hbmUe g loc
      rwa [Rises, hmoved _ _ (by decide), hu] at hrise
    have hrow : (g.val, loc.chan.val, loc.bank.val, loc.row) ∈ u.hbm.rows := hu ▸ State.mem_rows_hbmUe ..
    have hmem : u.memories = s.memories := hu ▸ State.memories_hbmUe ..
    have hcases := exec_hbmDmaBurst_uncorrectable h hq loc
    rw [hu] at hcases
    rcases hcases with hexec | hexec
    · exact ⟨u, hexec, hnext, hrise, hrow, sameMemories_of_memories hmem⟩
    · have hkeeps := u.abortFor_keepsStores q 3
      exact ⟨_, hexec, (hkeeps.rd _ _ (by decide)).trans hnext, hkeeps.rises hrise (by decide),
        by rwa [(u.besideFrame_abortFor q 3).rows], sameMemories_of_memories ((u.memories_abortFor q 3).trans hmem)⟩

/-- Settles O14: the next queue is what `find?` finds from the pointer on; errors are `hbmCe` and `hbmUe`, and what
follows an uncorrectable one in a burst is an abort, which keeps counters, rows and memories. -/
theorem hbmScrubAndBurst : Obligations.HbmScrubAndBurst := by
  unfold Obligations.HbmScrubAndBurst
  refine ⟨fun g s => ⟨fun q hq => nextQueue?_some hq, fun q hq hw => nextQueue?_isSome hq hw⟩,
    fun g line loc iv s => ⟨fun h e => ⟨exec_hbmScrub_inReset h .., exec_hbmDmaBurst_inReset h ..⟩, fun h => ?_⟩⟩
  obtain ⟨hce, hue⟩ := hbmScrub_counts h line loc iv
  exact ⟨exec_hbmScrub h .., hce, hue, fun hq e => exec_hbmDmaBurst_none hq loc e,
    fun q hq => hbmDmaBurst_moves h hq loc⟩

end Sys2Proof.Machine

namespace Sys2Proof.Machine
/-! PROOFS. Accesses to the Beam (R101, R102, R119, R491). -/

/-! ### Lines written -/

theorem State.storage_beamWrite (s : State) (b o : Nat) (bs : List Byte) (k : Nat) :
    (s.beamWrite b o bs).storage k = s.storage k := rfl

theorem State.beamByte_beamWrite_same (s : State) (b o : Nat) (bs : List Byte) {k : Nat} (h : k < bs.length) :
    (s.beamWrite b o bs).beamByte b (o + k) = bs[k] := by
  unfold beamByte
  rw [storage_beamWrite, get_beamWrite, if_pos (by omega), show s.storage b * 2 ^ 20 + (o + k) -
    (s.storage b * 2 ^ 20 + o) = k by omega, List.getD_eq_getElem _ _ h]

theorem State.bytesOutside_beamWrite (s : State) (b o : Nat) (bs : List Byte) :
    BytesOutside s.beam.bytes (s.beamWrite b o bs).beam.bytes (s.storage b * 2 ^ 20 + o) bs.length 0 := fun k hk => by
  rw [get_beamWrite, if_neg (by omega)]

theorem State.poisoned_setPoison_same (s : State) (b l : Nat) (v : Bool) : (s.setPoison b l v).poisoned b l = v :=
  Tab.get_put_same ..

theorem State.get_poison_setPoison (s : State) (b l : Nat) (v : Bool) {k : Nat} (h : k ≠ s.storage b * 16384 + l) :
    Tab.get (s.setPoison b l v).beam.poison k false = Tab.get s.beam.poison k false := Tab.get_put_other _ h.symm ..

/-- The mark of a line that is written: a whole line's write clears it (R102). -/
def State.unmark (s : State) (b l : Nat) (whole : Prop) [Decidable whole] : State :=
  if whole then s.setPoison b l false else s

theorem State.unmark_eq (s : State) (b l : Nat) (whole : Prop) [Decidable whole] :
    s.unmark b l whole = { s with beam := { s.beam with poison := (s.unmark b l whole).beam.poison } } := by
  unfold unmark
  split <;> rfl

theorem State.poisoned_unmark (s : State) (b l : Nat) (whole : Prop) [Decidable whole] :
    (s.unmark b l whole).poisoned b l = (s.poisoned b l && !decide whole) := by
  unfold unmark
  split
  · next h => simp [h, poisoned_setPoison_same]
  · next h => simp [h]

theorem State.get_poison_unmark (s : State) (b l : Nat) (whole : Prop) [Decidable whole] {k : Nat}
    (h : k ≠ s.storage b * 16384 + l) :
    Tab.get (s.unmark b l whole).beam.poison k false = Tab.get s.beam.poison k false := by
  unfold unmark
  split
  · exact s.get_poison_setPoison b l false h
  · rfl

/-! ### The branches of `BEAM_ACCESS` -/

section

variable {r : BeamReq} {s : State}

theorem exec_beamAccess_fenced (h : s.portFenced r = true) :
    exec (.beamAccess r) s = .next (s.beamAnswer r (List.replicate 64 0)) := by
  show execBeamAccess r s = _
  exact if_pos h

theorem exec_beamAccess_refused (hf : s.portFenced r = false) (h : s.beamAllowed r = false) :
    exec (.beamAccess r) s = .next (s.beamRefuse r) := by
  show execBeamAccess r s = _
  unfold execBeamAccess
  simp only [hf, h, Bool.false_eq_true, if_false, Bool.not_false, if_true]

section

variable (hf : s.portFenced r = false) (h : s.beamAllowed r = true)
include hf h

theorem exec_beamAccess_write {bs : List Byte} (hw : r.write = some bs) (hlen : bs.length ≤ 64) :
    exec (.beamAccess r) s = .next ((s.unmark r.bolt.val r.line.val (bs.length = 64)).beamWrite r.bolt.val
      (r.line.val * 64) bs) := by
  show execBeamAccess r s = _
  unfold execBeamAccess State.unmark
  simp only [hf, h, hw, Bool.false_eq_true, if_false, Bool.not_true, List.take_of_length_le hlen]

/-- A granted read: the line's ECC outcome and the answer; a frame that consumes poisoned data is aborted. -/
theorem exec_beamAccess_read (hw : r.write = none) :
    let u := (s.beamEcc r).send (.line r.bolt.val r.line.val ((s.beamEcc r).beamLine r.bolt.val r.line.val))
    exec (.beamAccess r) s = .next u ∨
      u.poisoned r.bolt.val r.line.val = true ∧ ∃ p, exec (.beamAccess r) s = .next (u.abortFor p 3) := by
  intro u
  have hexec : exec (.beamAccess r) s = execBeamAccess r s := rfl
  unfold execBeamAccess State.beamAnswer at hexec
  simp only [hf, h, hw, Bool.false_eq_true, if_false, Bool.not_true] at hexec
  rw [hexec]
  split
  · next hp =>
    split
    · exact .inr ⟨hp, _, rfl⟩
    · exact .inl rfl
  · exact .inl rfl

end

/-! ### A write -/

theorem beamAccess_stores (hf : s.portFenced r = false) (h : s.beamAllowed r = true) {bs : List Byte}
    (hw : r.write = some bs) (hlen : bs.length ≤ 64) : Completes (.beamAccess r) s fun t =>
      (∀ k (hk : k < bs.length), t.beamByte r.bolt.val (r.line.val * 64 + k) = bs[k]) ∧
      BytesOutside s.beam.bytes t.beam.bytes (s.storage r.bolt.val * 2 ^ 20 + r.line.val * 64) bs.length 0 ∧
      t.poisoned r.bolt.val r.line.val = (s.poisoned r.bolt.val r.line.val && decide (bs.length < 64)) ∧
      (∀ k, k ≠ s.storage r.bolt.val * 16384 + r.line.val →
        Tab.get t.beam.poison k false = Tab.get s.beam.poison k false) ∧
      t = { s with beam := { s.beam with bytes := t.beam.bytes, poison := t.beam.poison } } := by
  have heq := s.unmark_eq r.bolt.val r.line.val (bs.length = 64)
  have hbytes : (s.unmark r.bolt.val r.line.val (bs.length = 64)).beam.bytes = s.beam.bytes := by rw [heq]
  have hstorage : (s.unmark r.bolt.val r.line.val (bs.length = 64)).storage r.bolt.val = s.storage r.bolt.val := by
    rw [heq]
    rfl
  refine ⟨_, exec_beamAccess_write hf h hw hlen, fun k hk => State.beamByte_beamWrite_same _ _ _ _ hk, ?_, ?_,
    fun k hk => s.get_poison_unmark _ _ _ hk, ?_⟩
  · rw [← hbytes, ← hstorage]
    exact State.bytesOutside_beamWrite _ _ _ _
  · have hwhole : (!decide (bs.length = 64)) = decide (bs.length < 64) := by
      by_cases h64 : bs.length = 64
      · simp [h64]
      · simp [h64, Nat.lt_of_le_of_ne hlen h64]
    exact hwhole ▸ s.poisoned_unmark r.bolt.val r.line.val (bs.length = 64)
  · unfold State.beamWrite
    rw [heq]

/-! ### A read -/

/-- The bank that holds the accessed line, with its group (R95). -/
theorem State.beamEcc_corrected (h : r.ecc = .corrected) :
    s.beamEcc r = s.bankCe (Fin.ofNat 128 (s.groupOf r.bolt.val)) (s.bankOf r.bolt.val r.line.val) := by
  unfold beamEcc
  rw [h]

theorem State.beamEcc_uncorrectable (h : r.ecc = .uncorrectable) :
    s.beamEcc r = (s.setPoison r.bolt.val r.line.val true).bankUe (Fin.ofNat 128 (s.groupOf r.bolt.val))
      (s.bankOf r.bolt.val r.line.val) := by
  unfold beamEcc
  rw [h]

/-- After its answer a read changes nothing of the Beam, and takes no answer back. -/
theorem beamAccess_answers (hf : s.portFenced r = false) (h : s.beamAllowed r = true) (hw : r.write = none) :
    Completes (.beamAccess r) s fun t =>
      .line r.bolt.val r.line.val ((s.beamEcc r).beamLine r.bolt.val r.line.val) ∈ t.out ∧
      t.beam = (s.beamEcc r).beam ∧ SameButFields (s.beamEcc r) t endingFields := by
  have hcases := exec_beamAccess_read hf h hw
  dsimp only at hcases
  generalize hu : (s.beamEcc r).send _ = u at hcases
  have hsent : .line r.bolt.val r.line.val ((s.beamEcc r).beamLine r.bolt.val r.line.val) ∈ u.out :=
    hu ▸ List.mem_cons_self
  have hbeam : u.beam = (s.beamEcc r).beam := hu ▸ rfl
  have hfields : SameButFields (s.beamEcc r) u endingFields := hu ▸ .of_regs rfl _
  rcases hcases with hexec | ⟨-, p, hexec⟩
  · exact ⟨u, hexec, hsent, hbeam, hfields⟩
  · have hkeeps := u.abortFor_keepsStores p 3
    exact ⟨_, hexec, hkeeps.sent hsent, (u.besideFrame_abortFor p 3).beam.trans hbeam, hfields.trans hkeeps.fields⟩

theorem beamAccess_reads (hf : s.portFenced r = false) (h : s.beamAllowed r = true) (hw : r.write = none) :
    (r.ecc = .clean → s.poisoned r.bolt.val r.line.val = false → Completes (.beamAccess r) s fun t =>
      t.out = .line r.bolt.val r.line.val (s.beamLine r.bolt.val r.line.val) :: s.out ∧ t = { s with out := t.out }) ∧
    (r.ecc = .corrected → Completes (.beamAccess r) s fun t =>
      .line r.bolt.val r.line.val (s.beamLine r.bolt.val r.line.val) ∈ t.out ∧ Rises s t F.BEAM_ECC_CE 0 1 ∧
      t.beam.bytes = s.beam.bytes ∧ t.beam.poison = s.beam.poison) ∧
    (r.ecc = .uncorrectable → Completes (.beamAccess r) s fun t =>
      .line r.bolt.val r.line.val (s.beamLine r.bolt.val r.line.val) ∈ t.out ∧ Rises s t F.BEAM_ECC_UE 0 1 ∧
      t.beam.bytes = s.beam.bytes ∧ t.poisoned r.bolt.val r.line.val = true) := by
  refine ⟨fun he hp => ?_, fun he => ?_, fun he => ?_⟩
  · have hecc : s.beamEcc r = s := by
      unfold State.beamEcc
      rw [he]
    have hcases := exec_beamAccess_read hf h hw
    rw [hecc] at hcases
    rcases hcases with hexec | ⟨hmarked, -⟩
    · exact ⟨_, hexec, rfl, rfl⟩
    · exact absurd (hp.symm.trans hmarked) Bool.false_ne_true
  · obtain ⟨t, hexec, hline, hbeam, hfields⟩ := beamAccess_answers hf h hw
    rw [State.beamEcc_corrected he] at hline hbeam hfields
    obtain ⟨level, hkept⟩ := s.bankCe_bankKept (Fin.ofNat 128 (s.groupOf r.bolt.val)) (s.bankOf r.bolt.val r.line.val)
    have hrise := s.rises_bankCe (Fin.ofNat 128 (s.groupOf r.bolt.val)) (s.bankOf r.bolt.val r.line.val)
    generalize s.bankCe _ _ = u at hline hbeam hfields hkept hrise
    rw [hkept.beamLine] at hline
    have hstores := beam_of_stores (stores_of_memories hkept.memories)
    exact ⟨t, hexec, hline, (hfields.rd _ _ (by decide)).trans hrise, hbeam ▸ hstores.1, hbeam ▸ hstores.2⟩
  · obtain ⟨t, hexec, hline, hbeam, hfields⟩ := beamAccess_answers hf h hw
    rw [State.beamEcc_uncorrectable he] at hline hbeam hfields
    have hkept := ((s.setPoison r.bolt.val r.line.val true).bump F.BEAM_ECC_UE 0).bankFails_bankKept
      (Fin.ofNat 128 (s.groupOf r.bolt.val)) (s.bankOf r.bolt.val r.line.val)
    have hrise := (s.setPoison r.bolt.val r.line.val true).rises_bankUe (Fin.ofNat 128 (s.groupOf r.bolt.val))
      (s.bankOf r.bolt.val r.line.val)
    unfold State.bankUe at hline hbeam hfields hrise
    generalize State.bankFails _ _ _ = u at hline hbeam hfields hkept hrise
    rw [hkept.beamLine] at hline
    refine ⟨t, hexec, hline, (hfields.rd _ _ (by decide)).trans hrise,
      hbeam ▸ (beam_of_stores (stores_of_memories hkept.memories)).1, ?_⟩
    have hmark : u.poisoned r.bolt.val r.line.val = true :=
      (hkept.poisoned _ _).trans (s.poisoned_setPoison_same ..)
    unfold State.poisoned State.storage State.bolt at hmark ⊢
    rwa [hbeam]

/-! ### A refusal (R101, R119) -/

theorem beamAccess_refuses (hf : s.portFenced r = false) (h : s.beamAllowed r = false) :
    Completes (.beamAccess r) s fun t =>
      Rises s t F.BEAM_LEASE_VIOL_COUNT 0 1 ∧ t.beam.bytes = s.beam.bytes ∧ t.beam.poison = s.beam.poison ∧
      (r.write = none → .line r.bolt.val r.line.val (List.replicate 64 0) ∈ t.out) := by
  refine ⟨_, exec_beamAccess_refused hf h, ?_⟩
  unfold State.beamRefuse
  extract_lets u
  have hrise : Rises s u F.BEAM_LEASE_VIOL_COUNT 0 1 := by
    refine Eq.trans (State.rd_congr ?_ _ _) (s.rises_bump F.BEAM_LEASE_VIOL_COUNT 0)
    show (State.beamAnswer _ r _).regs = _
    unfold State.beamAnswer
    split <;> rfl
  have hmem : u.memories = s.memories := State.memories_beamAnswer ..
  have hsent : r.write = none → .line r.bolt.val r.line.val (List.replicate 64 0) ∈ u.out := fun hw => by
    show _ ∈ (State.beamAnswer _ r _).out
    unfold State.beamAnswer
    rw [hw]
    exact List.mem_cons_self
  have hafter {t : State} (hkeeps : KeepsStores endingFields u t) : Rises s t F.BEAM_LEASE_VIOL_COUNT 0 1 ∧
      t.beam.bytes = s.beam.bytes ∧ t.beam.poison = s.beam.poison ∧
      (r.write = none → .line r.bolt.val r.line.val (List.replicate 64 0) ∈ t.out) :=
    have hbeam := beam_of_stores (hkeeps.stores.trans (stores_of_memories hmem))
    ⟨hkeeps.rises hrise (by decide), hbeam.1, hbeam.2, fun hw => hkeeps.sent (hsent hw)⟩
  split
  · exact hafter (u.abortFor_keepsStores ..)
  · exact hafter (u.failTransfer_keepsStores r.ctx)
  · exact hafter (.refl u)

theorem beamAccess_fenced (hf : s.portFenced r = true) : Completes (.beamAccess r) s fun t =>
    (r.write = none → t.out = .line r.bolt.val r.line.val (List.replicate 64 0) :: s.out) ∧
    (r.write ≠ none → t.out = s.out) ∧ t = { s with out := t.out } := by
  refine ⟨_, exec_beamAccess_fenced hf, ?_⟩
  unfold State.beamAnswer
  split
  · next hw => exact ⟨fun h => absurd (hw.symm.trans h) (by simp), fun _ => rfl, rfl⟩
  · next hw => exact ⟨fun _ => rfl, fun h => absurd hw h, rfl⟩

end

/-- Settles O12: a granted write is one run of bytes and the line's mark, a granted read the bank's error and the
answer, a refusal the counter and zeros; what an abort does after an answer keeps the stores and what was sent. -/
theorem beamAccessIsGrantedOrRefused : Obligations.BeamAccessIsGrantedOrRefused := by
  unfold Obligations.BeamAccessIsGrantedOrRefused
  intro r s b l base
  exact ⟨fun hf h => ⟨fun bs hw hlen => beamAccess_stores hf h hw hlen, fun hw => beamAccess_reads hf h hw⟩,
    beamAccess_refuses, beamAccess_fenced⟩

end Sys2Proof.Machine

namespace Sys2Proof.Machine
/-! PROOFS. Leases that drain, bolts that are erased, copies that are rebuilt (R118, R119, R121, R125). -/

/-! ### Entries of a table by key -/

theorem Tab.find?_insert_other {α : Type} (m : SMap α) {k j : Nat} (v : α) (h : j ≠ k) :
    (insert m k v).find? (·.1 == j) = m.find? (·.1 == j) := by
  induction m with
  | nil => simp [insert, h.symm]
  | cons e m ih =>
    obtain ⟨k', w⟩ := e
    rw [insert]
    split
    · simp only [List.find?_cons, ih]
    · split
      · next h' => subst h'; simp [h.symm]
      · simp [h.symm]

theorem Tab.find?_drop_same {α : Type} (m : SMap α) (k : Nat) : (drop m k).find? (·.1 == k) = none := by
  simp [mem_drop]

theorem Tab.find?_drop_other {α : Type} (m : SMap α) {k j : Nat} (h : j ≠ k) :
    (drop m k).find? (·.1 == j) = m.find? (·.1 == j) := by
  induction m with
  | nil => rfl
  | cons e m ih =>
    obtain ⟨k', w⟩ := e
    rw [drop]
    split
    · next h' => subst h'; simp [h.symm, ih]
    · simp only [List.find?_cons, ih]

theorem State.lease?_dropLease_same (s : State) (id : Nat) : (s.dropLease id).lease? id = none := by
  unfold lease? dropLease
  rw [Tab.find?_drop_same]
  rfl

theorem State.lease?_dropLease_other (s : State) {id k : Nat} (h : k ≠ id) :
    (s.dropLease id).lease? k = s.lease? k := by
  unfold lease? dropLease
  rw [Tab.find?_drop_other _ h]

theorem State.bundle?_setBundle_same (s : State) (h : Nat) (x : Bundle) : (s.setBundle h x).bundle? h = some x := by
  unfold bundle? setBundle
  rw [Tab.find?_insert_same]
  rfl

theorem State.bundle?_setBundle_other (s : State) {h k : Nat} (x : Bundle) (hk : k ≠ h) :
    (s.setBundle h x).bundle? k = s.bundle? k := by
  unfold bundle? setBundle
  rw [Tab.find?_insert_other _ _ hk]

/-! ### A waiting re-bind goes on (R179 step 4) -/

theorem State.goOn_of_noRebind {s : State} (h : NoRebindWaits s) : s.goOn = s := by
  unfold goOn
  split
  · next hcmd => exact absurd hcmd (h _ _ _ _)
  · rfl

theorem Begins.stores {l : List Fld} {s t : State} (h : Begins l s t) : t.stores = s.stores := by
  rw [h.only]
  rfl

theorem State.stores_failBind (s : State) (b reason : Nat) : (s.failBind b reason).stores = s.stores := by
  cases hb : s.binding? b with
  | none =>
    rw [show s.failBind b reason = s.endCmd reason by simp only [failBind, hb]]
    exact (s.endCmd_keepsStores reason).stores
  | some x =>
    rw [failBind_of_binding hb]
    exact (((s.releaseBinding_keepsStores b).trans (failParts_parks ..).keepsStores).trans
      (endCmd_keepsStores ..)).stores

theorem State.stores_judgeBind (s : State) (b : Nat) : (s.judgeBind b).stores = s.stores := by
  unfold judgeBind
  split
  · rfl
  · dsimp only
    split
    · exact s.stores_failBind ..
    · split
      · exact s.stores_failBind ..
      · rfl

theorem State.stores_bindAll (s : State) (x : Desc) (p : BindPlan) : (s.bindAll x p).stores = s.stores := by
  have hleases : (s.leaseAll x p).2.memories = s.memories := by
    unfold leaseAll
    rw [memories_makeLeases, memories_leaseBolts, memories_displace]
  exact stores_of_memories hleases

theorem State.stores_grantBind (s : State) (x : Desc) (h : Bundle) (p : BindPlan) :
    (s.grantBind x h p).stores = s.stores := by
  have hbegun : (s.bindBegun x h p).stores = s.stores :=
    ((beginParts_begins ..).stores.trans (startBindJob_begins ..).stores).trans (s.stores_bindAll x p)
  rw [grantBind_eq]
  split
  · exact (stores_judgeBind ..).trans hbegun
  · exact hbegun

theorem State.stores_tryBind (s : State) (x : Desc) (again : Option (List Nat)) {refuse : Nat → State → State}
    (hrefuse : ∀ c u, (refuse c u).stores = u.stores) : (s.tryBind x again refuse).stores = s.stores := by
  unfold tryBind
  split
  · exact hrefuse ..
  · split
    · exact hrefuse ..
    · split
      · exact hrefuse ..
      · dsimp only
        split
        · exact s.stores_grantBind ..
        · exact (hrefuse ..).trans (stores_of_memories (s.memories_showMissing _))

/-- Whatever a re-bind that has waited comes to, no stored byte changes. -/
theorem State.stores_goOn (s : State) : s.goOn.stores = s.stores := by
  have hrefuse (ps : List Nat) (c : Nat) (u : State) : ((u.parkParts ps).endCmd c).stores = u.stores :=
    ((u.parkParts_parks ps).keepsStores.trans (endCmd_keepsStores ..)).stores
  unfold goOn
  split
  · dsimp only
    split
    · rfl
    · split
      · exact hrefuse ..
      · exact s.stores_tryBind _ _ (hrefuse _)
  · rfl

/-! ### Bolts (R118, R119) -/

theorem exec_boltDrainDone {s : State} {bolt : BoltIx} (h : (s.bolt bolt.val).state = .draining) :
    exec (.boltDrainDone bolt) s = .next (s.setBolt bolt.val { s.bolt bolt.val with state := .zeroing }) := by
  show execBoltDrainDone bolt s = _
  exact if_pos h

theorem exec_boltDrainDone_not {s : State} {bolt : BoltIx} (h : (s.bolt bolt.val).state ≠ .draining) :
    exec (.boltDrainDone bolt) s = .next s := by
  show execBoltDrainDone bolt s = _
  exact if_neg h

theorem boltDrainDone_zeroes {s : State} {bolt : BoltIx} (h : (s.bolt bolt.val).state = .draining) :
    Completes (.boltDrainDone bolt) s fun t =>
      (t.bolt bolt.val).state = .zeroing ∧ (t.bolt bolt.val).owner = (s.bolt bolt.val).owner ∧
      (∀ k ≠ bolt.val, t.bolt k = s.bolt k) ∧ t = { s with beam := { s.beam with bolts := t.beam.bolts } } := by
  refine ⟨_, exec_boltDrainDone h, ?_, ?_, fun k hk => s.bolt_setBolt_other _ hk.symm, rfl⟩ <;>
    rw [State.bolt_setBolt_same]

/-- The bytes and marks of a storage erased. -/
def State.eraseStorage (s : State) (k : Nat) : State :=
  { s with beam := { s.beam with
    bytes := Tab.clear (fun a => a / 2 ^ 20 == k) s.beam.bytes
    poison := Tab.clear (fun a => a / 16384 == k) s.beam.poison } }

/-- The bolt as it leaves its lease: it belongs to nobody. -/
def Bolt.freed (x : Bolt) : Bolt :=
  { x with state := if x.retireOnRelease then .retired else .free, owner := 0 }

/-- A bolt erased and freed. -/
def State.freeBolt (s : State) (b : Nat) : State :=
  (s.eraseStorage (s.storage b)).setBolt b (s.bolt b).freed

theorem exec_boltZeroDone {s : State} {bolt : BoltIx} (h : (s.bolt bolt.val).state = .zeroing) :
    exec (.boltZeroDone bolt) s = .next (s.freeBolt bolt.val).reapOwners.goOn := by
  show execBoltZeroDone bolt s = _
  exact if_pos h

theorem exec_boltZeroDone_not {s : State} {bolt : BoltIx} (h : (s.bolt bolt.val).state ≠ .zeroing) :
    exec (.boltZeroDone bolt) s = .next s := by
  show execBoltZeroDone bolt s = _
  exact if_neg h

theorem State.byte_freeBolt_erased (s : State) (b : Nat) {o : Nat} (h : o < 2 ^ 20) :
    Tab.get (s.freeBolt b).beam.bytes (s.storage b * 2 ^ 20 + o) 0 = 0 := by
  refine Tab.get_clear_of_true (fun a => a / 2 ^ 20 == s.storage b) s.beam.bytes ?_ 0
  rw [beq_iff_eq]
  omega

theorem State.byte_freeBolt_other (s : State) (b : Nat) {k : Nat} (h : k / 2 ^ 20 ≠ s.storage b) :
    Tab.get (s.freeBolt b).beam.bytes k 0 = Tab.get s.beam.bytes k 0 :=
  Tab.get_clear_of_false (fun a => a / 2 ^ 20 == s.storage b) s.beam.bytes (beq_eq_false_iff_ne.2 h) 0

theorem State.poison_freeBolt (s : State) (b : Nat) {l : Nat} (h : l < 16384) :
    Tab.get (s.freeBolt b).beam.poison (s.storage b * 16384 + l) false = false := by
  refine Tab.get_clear_of_true (fun a => a / 16384 == s.storage b) s.beam.poison ?_ false
  rw [beq_iff_eq]
  omega

theorem State.bolt_freeBolt_same (s : State) (b : Nat) : (s.freeBolt b).bolt b = (s.bolt b).freed :=
  bolt_setBolt_same ..

theorem State.bolt_freeBolt_other (s : State) {b k : Nat} (h : k ≠ b) : (s.freeBolt b).bolt k = s.bolt k :=
  bolt_setBolt_other (s.eraseStorage (s.storage b)) _ h.symm

theorem noRebindWaits_of_cmd {s t : State} (h : NoRebindWaits s) (hcmd : t.bnd.cmd = s.bnd.cmd) : NoRebindWaits t :=
  fun p b l d => hcmd ▸ h p b l d

theorem State.goOn_reapOwners {s u : State} (h : NoRebindWaits s) (hcmd : u.bnd.cmd = s.bnd.cmd) :
    u.reapOwners.goOn = u.reapOwners :=
  goOn_of_noRebind (noRebindWaits_of_cmd h (by rw [reapOwners_eq]; exact hcmd))

theorem boltZeroDone_erases {s : State} {bolt : BoltIx} (h : (s.bolt bolt.val).state = .zeroing) :
    Completes (.boltZeroDone bolt) s fun t =>
      (∀ o < 2 ^ 20, Tab.get t.beam.bytes (s.storage bolt.val * 2 ^ 20 + o) 0 = 0) ∧
      (∀ l < 16384, Tab.get t.beam.poison (s.storage bolt.val * 16384 + l) false = false) ∧
      (∀ k, k / 2 ^ 20 ≠ s.storage bolt.val → Tab.get t.beam.bytes k 0 = Tab.get s.beam.bytes k 0) ∧
      t.hbm.bytes = s.hbm.bytes ∧ t.stw.flash = s.stw.flash ∧
      (NoRebindWaits s → t.bolt bolt.val = (s.bolt bolt.val).freed ∧
        (∀ k ≠ bolt.val, t.bolt k = s.bolt k) ∧ t.arr = s.arr ∧ SameBut s t []) := by
  have hstores := ((s.freeBolt bolt.val).reapOwners.stores_goOn).trans
    ((s.freeBolt bolt.val).reapOwners_keepsStores []).stores
  obtain ⟨hbytes, hpoison⟩ := beam_of_stores hstores
  refine ⟨_, exec_boltZeroDone h, fun o ho => ?_, fun l hl => ?_, fun k hk => ?_, (hbm_of_stores hstores).1.trans rfl,
    (flash_of_stores hstores).trans rfl, fun hno => ?_⟩
  · rw [hbytes]
    exact s.byte_freeBolt_erased _ ho
  · rw [hpoison]
    exact s.poison_freeBolt _ hl
  · rw [hbytes]
    exact s.byte_freeBolt_other _ hk
  · rw [State.goOn_reapOwners hno (u := s.freeBolt bolt.val) rfl, State.reapOwners_eq]
    exact ⟨s.bolt_freeBolt_same _, fun k hk => s.bolt_freeBolt_other hk, rfl, fun _ _ _ => rfl⟩

/-! ### HBM leases (R121) -/

theorem exec_hbmLeaseDrainEnd {s : State} {id : Nat} {l : Lease} (hl : s.lease? id = some l)
    (h : l.state = .draining) : exec (.hbmLeaseDrainEnd id) s = .next (s.dropLease id).reapOwners.goOn := by
  show execHbmLeaseDrainEnd id s = _
  unfold execHbmLeaseDrainEnd
  rw [hl]
  exact if_pos (.inl h)

theorem exec_hbmLeaseDrainEnd_held {s : State} {id : Nat} {l : Lease} (hl : s.lease? id = some l)
    (h : l.state ≠ .draining) (hheld : s.leaseHeld id = true) : exec (.hbmLeaseDrainEnd id) s = .next s := by
  show execHbmLeaseDrainEnd id s = _
  unfold execHbmLeaseDrainEnd
  rw [hl]
  exact if_neg (by simp [h, hheld])

theorem hbmLeaseDrainEnd_ends {s : State} {id : Nat} {l : Lease} (hl : s.lease? id = some l)
    (h : l.state = .draining) (hno : NoRebindWaits s) : Completes (.hbmLeaseDrainEnd id) s fun t =>
      t.lease? id = none ∧ (∀ k ≠ id, t.lease? k = s.lease? k) ∧ SameMemories s t ∧ SameBut s t [] := by
  refine ⟨_, exec_hbmLeaseDrainEnd hl h, ?_⟩
  rw [State.goOn_reapOwners hno (u := s.dropLease id) rfl, State.reapOwners_eq]
  exact ⟨s.lease?_dropLease_same id, fun k hk => s.lease?_dropLease_other hk, ⟨rfl, rfl, rfl, rfl, rfl, rfl, rfl⟩,
    fun _ _ _ => rfl⟩

/-! ### A copy rebuilt (R125) -/

/-- The transfers of a bundle's rebuilding dropped. -/
def State.dropCopies (s : State) (h : Nat) : State :=
  { s with hbm := { s.hbm with xfers := s.hbm.xfers.filter fun t => t.copyOf != some h } }

theorem exec_bundleCopyRebuilt {s : State} {h : Nat} {x : Bundle} (hx : s.bundle? h = some x) (hl : x.lost1 ≠ x.lost2) :
    exec (.bundleCopyRebuilt h) s = .next ((s.dropCopies h).setBundle h { x with lost1 := false, lost2 := false }) := by
  show execBundleCopyRebuilt h s = _
  unfold execBundleCopyRebuilt
  rw [hx]
  exact if_pos hl

theorem exec_bundleCopyRebuilt_not {s : State} {h : Nat} {x : Bundle} (hx : s.bundle? h = some x)
    (hl : x.lost1 = x.lost2) : exec (.bundleCopyRebuilt h) s = .next s := by
  show execBundleCopyRebuilt h s = _
  unfold execBundleCopyRebuilt
  rw [hx]
  exact if_neg (not_not.2 hl)

/-- Settles O15: a bolt or lease that ends is erased or dropped, and what may follow, the end of a waiting re-bind,
keeps every stored byte (`State.stores_goOn`). -/
theorem leasesDrainAndAreErased : Obligations.LeasesDrainAndAreErased := by
  unfold Obligations.LeasesDrainAndAreErased
  refine ⟨fun bolt s => ⟨boltDrainDone_zeroes, exec_boltDrainDone_not, boltZeroDone_erases, exec_boltZeroDone_not⟩,
    fun id l s hl => ⟨hbmLeaseDrainEnd_ends hl, exec_hbmLeaseDrainEnd_held hl⟩,
    fun h x s hx => ⟨fun hl => ?_, exec_bundleCopyRebuilt_not hx⟩⟩
  exact ⟨_, exec_bundleCopyRebuilt hx hl, State.bundle?_setBundle_same .., fun k hk =>
    State.bundle?_setBundle_other _ _ hk, ⟨rfl, rfl, rfl, rfl, rfl, rfl, rfl⟩, fun _ _ _ => rfl⟩

end Sys2Proof.Machine

namespace Sys2Proof.Machine
/-! PROOFS. HBM leases made, and the HDM window resized (R115, R127, R128, R132). -/

/-! ### A lease made (R115) -/

/-- A table after an entry is put in holds the entry and otherwise what it held. -/
theorem Tab.mem_of_mem_insert {α : Type} {m : SMap α} {k : Nat} {v : α} {e : Nat × α} (h : e ∈ insert m k v) :
    e = (k, v) ∨ e ∈ m := by
  induction m with
  | nil => exact .inl (List.mem_singleton.1 h)
  | cons x m ih =>
    rw [insert] at h
    split at h
    · rcases List.mem_cons.1 h with rfl | h
      · exact .inr List.mem_cons_self
      · exact (ih h).imp id (List.mem_cons_of_mem _)
    · split at h
      · exact (List.mem_cons.1 h).imp id (List.mem_cons_of_mem _)
      · exact List.mem_cons.1 h

/-- The lease that `newLease` enters. -/
def State.leaseNow (s : State) (g owner : Nat) (exts : List Nat) (slot : Nat) (use : LeaseUse) : Lease :=
  ⟨g, owner, exts, slot, s.hbm.nextKey, .active, use⟩

theorem State.mem_leases_newLease {s : State} {g owner slot : Nat} {exts : List Nat} {use : LeaseUse}
    {e : Nat × Lease} (h : e ∈ (s.newLease g owner exts slot use).2.hbm.leases) :
    e = (s.hbm.nextLease, s.leaseNow g owner exts slot use) ∨ e ∈ s.hbm.leases := Tab.mem_of_mem_insert h

/-- A lease made in a group takes no extent of another. -/
theorem State.mem_freeExts_newLease {s : State} {g k owner slot : Nat} {exts : List Nat} {use : LeaseUse}
    (h : g ≠ k) {i : Nat} (hi : i ∈ s.freeExts k) : i ∈ (s.newLease g owner exts slot use).2.freeExts k := by
  unfold freeExts at hi ⊢
  simp only [List.mem_filter, decide_eq_true_eq] at hi ⊢
  obtain ⟨hrange, hleased, hretired⟩ := hi
  refine ⟨hrange, fun hmem => hleased ?_, hretired⟩
  unfold leasedExts at hmem ⊢
  obtain ⟨e, he, hie⟩ := List.mem_flatMap.1 hmem
  rcases mem_leases_newLease he with rfl | he
  · rw [if_neg (show (s.leaseNow g owner exts slot use).group ≠ k from h)] at hie
    cases hie
  · exact List.mem_flatMap.2 ⟨e, he, hie⟩

theorem State.nodup_freeExts (s : State) (k : Nat) : (s.freeExts k).Nodup := List.nodup_range.filter _

theorem State.length_freeExts_newLease (s : State) {g k : Nat} (owner slot : Nat) (exts : List Nat) (use : LeaseUse)
    (h : g ≠ k) : (s.freeExts k).length ≤ ((s.newLease g owner exts slot use).2.freeExts k).length :=
  ((s.nodup_freeExts k).subperm fun _ hi => mem_freeExts_newLease h hi).length_le

/-! ### The leases of the window (R127) -/

/-- A lease of the window in a group, of a number of extents. -/
def WindowLease (n g : Nat) (l : Lease) : Prop := l.use = .hdm ∧ l.group = g ∧ l.exts.length = n

/-- The window's lease made in one group. -/
def State.makeWindowLease (n : Nat) (s : State) (g : Nat) : State :=
  (s.newLease g 0xFFFF ((s.freeExts g).take n) 1 .hdm).2

/-- A group holds the window's lease, under a number that is no longer given out. -/
def HoldsWindow (n g : Nat) (s : State) : Prop :=
  ∃ l ∈ s.hbm.leases, l.1 < s.hbm.nextLease ∧ WindowLease n g l.2

theorem holdsWindow_makeWindowLease {n g : Nat} {s : State} (h : n ≤ (s.freeExts g).length) :
    HoldsWindow n g (s.makeWindowLease n g) :=
  ⟨(s.hbm.nextLease, s.leaseNow g 0xFFFF ((s.freeExts g).take n) 1 .hdm), Tab.mem_insert_same _ _ _,
    Nat.lt_succ_self _, rfl, rfl, by rw [State.leaseNow, List.length_take, Nat.min_eq_left h]⟩

theorem HoldsWindow.makeWindowLease {n g : Nat} {s : State} (h : HoldsWindow n g s) (k : Nat) :
    HoldsWindow n g (s.makeWindowLease n k) := by
  obtain ⟨l, hl, hlt, hw⟩ := h
  exact ⟨l, (Tab.mem_insert_other _ _ _ (Nat.ne_of_lt hlt)).2 hl, hlt.trans (Nat.lt_succ_self _), hw⟩

/-- With room in every group the window gets its lease in each: a lease made elsewhere leaves a group's room. -/
theorem State.makeHdm_holdsWindow {s : State} {n : Nat} (hn : 0 < n)
    (hroom : ∀ g < 16, n ≤ (s.freeExts g).length) {g : Nat} (hg : g < 16) : HoldsWindow n g (s.makeHdm n) := by
  unfold makeHdm
  rw [if_neg (by omega)]
  refine foldl_visits (f := makeWindowLease n) (Before := fun t => n ≤ (t.freeExts g).length)
    (After := HoldsWindow n g) List.nodup_range (List.mem_range.2 hg) (fun t k _ hk ht => ?_)
    (fun t ht => holdsWindow_makeWindowLease ht) (fun t k _ _ ht => ht.makeWindowLease k) (hroom g hg)
  exact ht.trans (t.length_freeExts_newLease _ _ _ _ hk)

theorem State.makeHdm_eq (s : State) (n : Nat) : s.makeHdm n = { s with hbm := (s.makeHdm n).hbm } := by
  unfold makeHdm
  split
  · rfl
  · exact List.foldlRecOn (motive := fun t : State => t = { s with hbm := t.hbm }) _ _ rfl fun t ht g _ => by
      unfold newLease
      dsimp only
      rw [ht]

/-! ### `HDM_APPLY` (R128, R132) -/

/-- The state with the size written, and the error cleared where the write says so. -/
def State.sizeWritten (s : State) (v : Word) : State :=
  let s := s.wr F.HDM_CFG_SIZE_GIB 0 (min 512 (field v.toNat 9 0))
  if v.getLsbD 18 then s.wr F.HDM_CFG_ERR 0 0 else s

theorem State.size_sizeWritten (s : State) (v : Word) :
    (s.sizeWritten v).rd F.HDM_CFG_SIZE_GIB 0 = min 512 (field v.toNat 9 0) := by
  have hsize : min 512 (field v.toNat 9 0) < F.HDM_CFG_SIZE_GIB.size :=
    lt_of_le_of_lt (Nat.min_le_left ..) (by decide)
  unfold sizeWritten
  dsimp only
  split
  · rw [rd_wr_id _ _ _ _ (by decide), rd_wr_same, Nat.mod_eq_of_lt hsize]
  · rw [rd_wr_same, Nat.mod_eq_of_lt hsize]

theorem State.err_sizeWritten (s : State) {v : Word} (h : v.getLsbD 18 = true) :
    (s.sizeWritten v).rd F.HDM_CFG_ERR 0 = 0 := by
  unfold sizeWritten
  rw [h]
  exact rd_wr_same ..

theorem State.sizeWritten_onlyRegs (s : State) (v : Word) : OnlyRegs s (s.sizeWritten v)
    ((F.HDM_CFG_SIZE_GIB, 0) :: if v.getLsbD 18 then [(F.HDM_CFG_ERR, 0)] else []) := by
  unfold sizeWritten
  dsimp only
  split
  · exact ((onlyRegs_wr ..).mono (by simp)).wr _ _ _ (by simp)
  · exact onlyRegs_wr ..

theorem exec_hdmApply (v : Word) (s : State) : exec (.hdmApply v) s =
    .next (if v.getLsbD 16 then (s.sizeWritten v).resizeHdm else s.sizeWritten v) := rfl

/-- What stands against a resize to `n` GiB (R127, R128, R275). -/
def State.resizeBlocked (s : State) (n : Nat) : Bool :=
  (List.range 16).any s.inReset || s.on I.hdmCommitted 0 ||
    !(List.range 16).all fun g => decide (n ≤ (s.dropHdm.freeExts g).length)

/-- The write of the size changes nothing that stands against the resize. -/
theorem State.resizeBlocked_sizeWritten (s : State) (v : Word) (n : Nat) :
    (s.sizeWritten v).resizeBlocked n = s.resizeBlocked n := by
  obtain ⟨heq, hregs⟩ := s.sizeWritten_onlyRegs v
  have hrd (f : Fld) (i : Nat) (hid : f.id ≠ F.HDM_CFG_SIZE_GIB.id ∧ f.id ≠ F.HDM_CFG_ERR.id) :
      (s.sizeWritten v).rd f i = s.rd f i := hregs f i fun x hx => by
    split at hx
    · simp only [List.mem_cons, List.not_mem_nil, or_false] at hx
      rcases hx with rfl | rfl
      · exact regKey_inj_id hid.1
      · exact regKey_inj_id hid.2
    · exact List.mem_singleton.1 hx ▸ regKey_inj_id hid.1
  have hreset : (s.sizeWritten v).inReset = s.inReset := by
    funext p
    unfold inReset
    rw [hrd _ _ (by decide)]
  have hfree : (s.sizeWritten v).dropHdm.freeExts = s.dropHdm.freeExts := by
    rw [heq]
    rfl
  unfold resizeBlocked on
  rw [hreset, hfree, hrd _ _ (by decide)]

theorem State.resizeHdm_of_blocked {s : State} (h : s.resizeBlocked (s.rd F.HDM_CFG_SIZE_GIB 0) = true) :
    s.resizeHdm = s.wr F.HDM_CFG_ERR 0 1 := if_pos h

theorem State.resizeHdm_of_not_blocked {s : State} {n : Nat} (hn : s.rd F.HDM_CFG_SIZE_GIB 0 = n)
    (h : s.resizeBlocked n = false) : s.resizeHdm =
      ((s.dropHdm.makeHdm n).wr F.HDM_CFG_CUR_GIB 0 n).wr F.HDM_CFG_ACTIVE 0 (bit (n != 0)) := by
  subst hn
  exact if_neg (Bool.eq_false_iff.1 h)

theorem State.dropHdm_makeHdm_regs (s : State) (n : Nat) : (s.dropHdm.makeHdm n).regs = s.regs := by
  rw [makeHdm_eq]
  rfl

theorem hdmApply_refused {v : Word} {s : State} (ha : v.getLsbD 16 = true)
    (h : s.resizeBlocked (min 512 (field v.toNat 9 0)) = true) : Completes (.hdmApply v) s fun t =>
      t.rd F.HDM_CFG_SIZE_GIB 0 = min 512 (field v.toNat 9 0) ∧ t.rd F.HDM_CFG_ERR 0 = 1 ∧
      OnlyRegs s t [(F.HDM_CFG_SIZE_GIB, 0), (F.HDM_CFG_ERR, 0)] := by
  have hblocked : (s.sizeWritten v).resizeBlocked ((s.sizeWritten v).rd F.HDM_CFG_SIZE_GIB 0) = true := by
    rw [s.size_sizeWritten, s.resizeBlocked_sizeWritten, h]
  refine ⟨(s.sizeWritten v).wr F.HDM_CFG_ERR 0 1, ?_, ?_, State.rd_wr_same .., ?_⟩
  · rw [exec_hdmApply, ha, if_pos rfl, State.resizeHdm_of_blocked hblocked]
  · rw [State.rd_wr_id _ _ _ _ (by decide), s.size_sizeWritten]
  · refine ((s.sizeWritten_onlyRegs v).mono fun x hx => ?_).wr _ _ _ (by simp)
    split at hx
    · exact hx
    · exact List.mem_cons.2 (.inl (List.mem_singleton.1 hx))

theorem hdmApply_resizes {v : Word} {s : State} (ha : v.getLsbD 16 = true)
    (h : s.resizeBlocked (min 512 (field v.toNat 9 0)) = false) : Completes (.hdmApply v) s fun t =>
      let n := min 512 (field v.toNat 9 0)
      t.rd F.HDM_CFG_SIZE_GIB 0 = n ∧ t.rd F.HDM_CFG_CUR_GIB 0 = n ∧
      t.rd F.HDM_CFG_ACTIVE 0 = (if n = 0 then 0 else 1) ∧
      (0 < n → ∀ g < 16, ∃ l ∈ t.hbm.leases, l.2.use = .hdm ∧ l.2.group = g ∧ l.2.exts.length = n) ∧
      SameMemories s t ∧
      SameBut s t [(F.HDM_CFG_SIZE_GIB, 0), (F.HDM_CFG_ERR, 0), (F.HDM_CFG_CUR_GIB, 0), (F.HDM_CFG_ACTIVE, 0)] := by
  have hexec : exec (.hdmApply v) s = .next (s.sizeWritten v).resizeHdm := by
    rw [exec_hdmApply, ha, if_pos rfl]
  have hmem := memories_execHdmApply v s
  rw [show execHdmApply v s = _ from hexec, resultMemories_next] at hmem
  have hle : min 512 (field v.toNat 9 0) ≤ 512 := Nat.min_le_left ..
  have hsize := s.size_sizeWritten v
  rw [← s.resizeBlocked_sizeWritten v] at h
  have hwritten := (s.sizeWritten_onlyRegs v).2
  refine ⟨_, hexec, ?_⟩
  generalize min 512 (field v.toNat 9 0) = n at hle hsize h ⊢
  generalize s.sizeWritten v = u at hsize h hwritten hmem ⊢
  have hregs := u.dropHdm_makeHdm_regs n
  rw [State.resizeHdm_of_not_blocked hsize h] at hmem ⊢
  refine ⟨?_, ?_, ?_, fun hn g hg => ?_, sameMemories_of_memories hmem, ?_⟩
  · rw [State.rd_wr_id _ _ _ _ (by decide), State.rd_wr_id _ _ _ _ (by decide), State.rd_congr hregs, hsize]
  · rw [State.rd_wr_id _ _ _ _ (by decide), State.rd_wr_same, Nat.mod_eq_of_lt (lt_of_le_of_lt hle (by decide))]
  · rw [State.rd_wr_same]
    by_cases hn : n = 0
    · simp [hn, bit]
    · simp [hn, bit]
      rfl
  · have hroom : ∀ g < 16, n ≤ (u.dropHdm.freeExts g).length := by
      simp only [State.resizeBlocked, Bool.or_eq_false_iff, Bool.not_eq_false', List.all_eq_true, List.mem_range,
        decide_eq_true_eq] at h
      exact h.2
    obtain ⟨l, hl, -, hw⟩ := State.makeHdm_holdsWindow hn hroom hg
    exact ⟨l, hl, hw⟩
  · refine SameBut.wr (SameBut.wr (SameBut.trans (hwritten.mono fun x hx => ?_) fun f i _ =>
      State.rd_congr hregs f i) _ _ _ (by simp)) _ _ _ (by simp)
    split at hx
    · simp only [List.mem_cons, List.not_mem_nil, or_false] at hx ⊢
      rcases hx with rfl | rfl <;> simp
    · simp [List.mem_singleton.1 hx]

/-- Settles O16: what stands against the resize is not changed by the write of the size; with nothing against it
every group keeps its room until its own lease is made (`State.makeHdm_holdsWindow`). -/
theorem hdmApplyResizesOrReportsError : Obligations.HdmApplyResizesOrReportsError := by
  unfold Obligations.HdmApplyResizesOrReportsError
  intro v s n blocked
  refine ⟨fun ha => ⟨s.sizeWritten v, ?_, s.size_sizeWritten v, fun h => s.err_sizeWritten h,
    s.sizeWritten_onlyRegs v⟩, hdmApply_refused, hdmApply_resizes⟩
  rw [exec_hdmApply, ha]
  rfl

end Sys2Proof.Machine

namespace Sys2Proof.Machine
/-! PROOFS. Bundles loaded and dropped (R115, R125, R169, R170, R341). -/

/-! ### Leases made and ended -/

theorem State.lease?_newLease_same (s : State) (g owner slot : Nat) (exts : List Nat) (use : LeaseUse) :
    (s.newLease g owner exts slot use).2.lease? s.hbm.nextLease = some (s.leaseNow g owner exts slot use) := by
  unfold lease? newLease
  rw [Tab.find?_insert_same]
  rfl

theorem State.lease?_newLease_other (s : State) (g owner slot : Nat) (exts : List Nat) (use : LeaseUse) {id : Nat}
    (h : id ≠ s.hbm.nextLease) : (s.newLease g owner exts slot use).2.lease? id = s.lease? id := by
  unfold lease? newLease
  rw [Tab.find?_insert_other _ _ h]

theorem State.makeLeases_one {s : State} {g slot : Nat} (h : s.freeSlot? g = some slot) (owner : Nat) (use : LeaseUse)
    (exts : List Nat) : s.makeLeases owner use [(g, exts)] =
      ([s.hbm.nextLease], (s.newLease g owner exts slot use).2) := by
  simp only [makeLeases, List.foldl_cons, List.foldl_nil, h]
  rfl

/-- A lease made in a group takes no key slot of another. -/
theorem State.mem_usedSlots_newLease {s : State} {g k owner slot : Nat} {exts : List Nat} {use : LeaseUse}
    (h : g ≠ k) {i : Nat} (hi : i ∈ (s.newLease g owner exts slot use).2.usedSlots k) : i ∈ s.usedSlots k := by
  unfold usedSlots at hi ⊢
  obtain ⟨e, he, hie⟩ := List.mem_filterMap.1 hi
  rcases mem_leases_newLease he with rfl | he
  · rw [if_neg (show (s.leaseNow g owner exts slot use).group ≠ k from h)] at hie
    cases hie
  · exact List.mem_filterMap.2 ⟨e, he, hie⟩

theorem State.freeSlot?_newLease {s : State} {g k : Nat} (owner slot : Nat) (exts : List Nat) (use : LeaseUse)
    (h : g ≠ k) (hk : (s.freeSlot? k).isSome) : ((s.newLease g owner exts slot use).2.freeSlot? k).isSome := by
  unfold freeSlot? at hk ⊢
  rw [List.find?_isSome] at hk ⊢
  obtain ⟨i, hi, hfree⟩ := hk
  exact ⟨i, hi, decide_eq_true fun hmem => of_decide_eq_true hfree (mem_usedSlots_newLease h hmem)⟩

theorem State.roomIn_spec {s : State} {gs : List Nat} {n g : Nat} (h : s.roomIn gs n = some g) :
    g ∈ gs ∧ n ≤ (s.freeExts g).length ∧ ∃ slot, s.freeSlot? g = some slot := by
  unfold roomIn at h
  have hroom := List.find?_some h
  simp only [Bool.and_eq_true, decide_eq_true_eq] at hroom
  exact ⟨List.mem_of_find?_eq_some h, hroom.1, Option.isSome_iff_exists.1 hroom.2⟩

/-! ### The end of a command that acted -/

/-- A command whose action left the outcome's registers alone ends with its reason; the registers are then as
before but for those of the action and of the end. -/
theorem endCmd_after {s u : State} {l : List (Fld × Nat)} {reason : Nat} (hc : u.bnd.toClose = [])
    (hr : reason < 256) (hsame : SameBut s u l)
    (hl : ∀ y ∈ l, y.1.id ≠ F.HOST_STATUS_FW_UP.id ∧ y.1.id ≠ F.CMD_STATUS_BUSY.id) :
    EndsWith s (u.endCmd reason) reason ∧ SameBut s (u.endCmd reason) (l ++ cmdEnd) :=
  ⟨EndsWith.of_rd (State.endCmd_endsWith hc hr) (hsame _ _ fun y hy => regKey_inj_id (hl y hy).1.symm)
      (hsame _ _ fun y hy => regKey_inj_id (hl y hy).2.symm),
    SameBut.trans (hsame.mono fun _ hy => List.mem_append_left _ hy)
      ((State.endCmd_sameBut hc reason).mono fun _ hy => List.mem_append_right _ hy)⟩

theorem State.endCmd_bundles {s : State} (hc : s.bnd.toClose = []) (reason : Nat) :
    (s.endCmd reason).bnd.bundles = s.bnd.bundles := by
  have h : s.endCmd reason = _ := endCmd_taken hc reason
  rw [h]

theorem State.endCmd_bundle? {s : State} (hc : s.bnd.toClose = []) (reason k : Nat) :
    (s.endCmd reason).bundle? k = s.bundle? k := by
  unfold bundle?
  rw [endCmd_bundles hc]

theorem State.endCmd_lease? {s : State} (hc : s.bnd.toClose = []) (reason id : Nat) :
    (s.endCmd reason).lease? id = s.lease? id := by
  unfold lease?
  rw [(endCmd_taken hc reason).keepsBytes.2.1]

theorem State.endCmd_sameMemories {s u : State} (hc : u.bnd.toClose = []) (h : u.memories = s.memories)
    (reason : Nat) : SameMemories s (u.endCmd reason) := by
  refine sameMemories_of_memories (Eq.trans ?_ h)
  have ht : u.endCmd reason = _ := endCmd_taken hc reason
  rw [ht]
  rfl

/-- A refused command of the bundles. -/
theorem bundleRefused {s : State} {desc : Unit64} (h : Accepted s desc) {i : Instr} {reason : Nat}
    (hexec : exec i s = .next ((accepted s desc).endCmd reason)) (hr : reason < 256) :
    Completes i s fun t => EndsWith s t reason ∧ t.hbm = s.hbm ∧ t.bnd.bundles = s.bnd.bundles ∧
      SameBut s t cmdEnd := by
  obtain ⟨t, ht, hends, hbm, -, -, -, -, -, -, -, hregs⟩ := refused h hexec hr
  obtain rfl : (accepted s desc).endCmd reason = t := by
    injection hexec.symm.trans ht
  refine ⟨_, hexec, hends, hbm, ?_, hregs⟩
  rw [State.endCmd_bundles (accepted_toClose h)]
  obtain ⟨o, ho⟩ := accepted_eq s desc
  rw [ho]

/-! ### `BUNDLE_LOAD` (R169) -/

theorem exec_bundleLoad {s : State} {desc : Unit64} (h : Accepted s desc) (ho : (Desc.of desc).ownerOk = true)
    (hg : (Desc.of desc).groupOk = true) (b : SealedBundle) : exec (.bundleLoad desc true b) s =
      .next (if b.tagOk && decide (24 ≤ unitField desc 32 4) then (accepted s desc).loadBundle (Desc.of desc) b.hdr
        else (accepted s desc).endCmd 0x02) := by
  obtain ⟨-, -, -, -, -, hdrbg⟩ := id h
  show execBundleLoad desc true b s = _
  unfold execBundleLoad
  rw [hdrbg, if_neg Bool.false_ne_true, command_of_accepted h (by rw [ho, hg]; rfl)]

theorem exec_bundleLoad_verified {s : State} {desc : Unit64} (h : Accepted s desc)
    (ho : (Desc.of desc).ownerOk = true) (hg : (Desc.of desc).groupOk = true) {b : SealedBundle}
    (ht : b.tagOk = true) (hlen : 24 ≤ unitField desc 32 4) : exec (.bundleLoad desc true b) s =
      .next ((accepted s desc).loadBundle (Desc.of desc) b.hdr) := by
  rw [exec_bundleLoad h ho hg, ht, decide_eq_true hlen]
  rfl

theorem freeHandle?_accepted (s : State) (desc : Unit64) : (accepted s desc).freeHandle? = s.freeHandle? := by
  obtain ⟨o, h⟩ := accepted_eq s desc
  rw [h]
  rfl

/-- A free handle fits `CMD_RESULT.HANDLE`. -/
theorem State.freeHandle?_lt {s : State} {h : Nat} (hh : s.freeHandle? = some h) : h < 1024 := by
  unfold freeHandle? at hh
  exact List.mem_range.1 (List.mem_of_find?_eq_some hh)

theorem State.loadBundle_badPlan {s : State} {x : Desc} {b : BundleHdr} (h : b.plan.any planBad = true) :
    s.loadBundle x b = s.endCmd 0x19 := if_pos h

theorem State.loadBundle_noHandle {s : State} {x : Desc} {b : BundleHdr} (hp : b.plan.any planBad = false)
    (h : s.freeHandle? = none) : s.loadBundle x b = s.endCmd 0x17 := by
  simp only [loadBundle, hp, h, Bool.false_eq_true, if_false]

/-- A bundle placed in two groups. -/
def State.placeBundle (s : State) (owner h : Nat) (b : BundleHdr) (g g2 : Nat) : State :=
  let n := storeExtents b.storeBytes
  let r1 := s.makeLeases owner (.store h) [(g, (s.freeExts g).take n)]
  let r2 := r1.2.makeLeases owner (.store h) [(g2, (r1.2.freeExts g2).take n)]
  r2.2.setBundle h { owner := owner, hdr := b, copy1 := r1.1.headD 0, copy2 := r2.1.headD 0 }

theorem State.loadBundle_places {s : State} {x : Desc} {b : BundleHdr} {h g g2 : Nat}
    (hp : b.plan.any planBad = false) (hh : s.freeHandle? = some h)
    (hg : s.roomIn (groupsFrom (if x.group < 16 then x.group else s.emptiestGroup)) (storeExtents b.storeBytes) =
      some g)
    (hg2 : s.roomIn ((groupsFrom (g + 2)).filter fun k => k / 2 != g / 2) (storeExtents b.storeBytes) = some g2) :
    s.loadBundle x b = ((s.placeBundle x.owner h b g g2).wr F.CMD_RESULT_HANDLE 0 h).endCmd 0 := by
  unfold loadBundle
  rw [if_neg (Bool.eq_false_iff.1 hp)]
  -- The searches stand for themselves from here on: the kernel must not run them.
  obtain ⟨handle, hhandle⟩ : ∃ f, f = freeHandle? := ⟨_, rfl⟩
  obtain ⟨room, hroom⟩ : ∃ f, f = roomIn := ⟨_, rfl⟩
  rw [← hhandle] at hh ⊢
  rw [← hroom] at hg hg2 ⊢
  simp only [hh, hg, hg2]
  rfl

/-- What a bundle placed is: an entry of the owner with two copies, each in an active lease of its group. -/
def BundlePlaced (t : State) (owner h n : Nat) (b : BundleHdr) (g g2 : Nat) : Prop :=
  ∃ y : Bundle, t.bundle? h = some y ∧ y.owner = owner ∧ y.hdr = b ∧
    ∃ l1 l2 : Lease, t.lease? y.copy1 = some l1 ∧ t.lease? y.copy2 = some l2 ∧
      l1.group = g ∧ l2.group = g2 ∧ l1.owner = owner ∧ l2.owner = owner ∧
      l1.exts.length = n ∧ l2.exts.length = n ∧ l1.state = .active ∧ l2.state = .active

theorem BundlePlaced.of_tables {t u : State} {owner h n g g2 : Nat} {b : BundleHdr}
    (hp : BundlePlaced u owner h n b g g2) (hb : ∀ k, t.bundle? k = u.bundle? k) (hl : ∀ id, t.lease? id = u.lease? id) :
    BundlePlaced t owner h n b g g2 := by
  obtain ⟨y, hy, hyo, hyh, l1, l2, h1, h2, h3⟩ := hp
  exact ⟨y, (hb h).trans hy, hyo, hyh, l1, l2, (hl _).trans h1, (hl _).trans h2, h3⟩

/-- The two copies are leases made one after the other: the second finds the room and the key slot that its group had
before the first was made. -/
theorem State.placeBundle_placed (s : State) (owner h : Nat) {g slot g2 slot2 : Nat} {b : BundleHdr} (hne : g ≠ g2)
    (hn : storeExtents b.storeBytes ≤ (s.freeExts g).length) (hslot : s.freeSlot? g = some slot)
    (hn2 : storeExtents b.storeBytes ≤ (s.freeExts g2).length) (hslot2 : s.freeSlot? g2 = some slot2) :
    BundlePlaced (s.placeBundle owner h b g g2) owner h (storeExtents b.storeBytes) b g g2 := by
  unfold placeBundle
  generalize storeExtents b.storeBytes = n at hn hn2 ⊢
  dsimp only
  rw [makeLeases_one hslot]
  dsimp only [List.headD_cons]
  have hroom2 := hn2.trans (s.length_freeExts_newLease owner slot ((s.freeExts g).take n) (.store h) hne)
  obtain ⟨slot3, hslot3⟩ := Option.isSome_iff_exists.1 (freeSlot?_newLease owner slot ((s.freeExts g).take n)
    (.store h) hne (Option.isSome_iff_exists.2 ⟨slot2, hslot2⟩))
  have hnext : (s.newLease g owner ((s.freeExts g).take n) slot (.store h)).2.hbm.nextLease = s.hbm.nextLease + 1 := rfl
  have hfirst := s.lease?_newLease_same g owner slot ((s.freeExts g).take n) (.store h)
  generalize (s.newLease g owner ((s.freeExts g).take n) slot (.store h)).2 = s1 at hroom2 hslot3 hnext hfirst ⊢
  rw [makeLeases_one hslot3]
  dsimp only [List.headD_cons]
  have hother := s1.lease?_newLease_other g2 owner slot3 ((s1.freeExts g2).take n) (.store h)
    (show s.hbm.nextLease ≠ s1.hbm.nextLease by omega)
  exact ⟨_, bundle?_setBundle_same .., rfl, rfl, _, _, hother.trans hfirst, s1.lease?_newLease_same .., rfl, rfl, rfl,
    rfl, List.length_take_of_le hn, List.length_take_of_le hroom2, rfl, rfl⟩

theorem State.placeBundle_eq (s : State) (owner h : Nat) (b : BundleHdr) (g g2 : Nat) :
    s.placeBundle owner h b g g2 = { s with
      hbm := (s.placeBundle owner h b g g2).hbm
      bnd := { s.bnd with bundles := (s.placeBundle owner h b g g2).bnd.bundles } } := by
  unfold placeBundle
  extract_lets n r1 r2
  have h2 : r2.2 = _ := (r1.2.makeLeases_only owner (.store h) _).1
  have h1 : r1.2 = _ := (s.makeLeases_only owner (.store h) _).1
  rw [h2, h1]
  rfl

theorem State.memories_placeBundle (s : State) (owner h : Nat) (b : BundleHdr) (g g2 : Nat) :
    (s.placeBundle owner h b g g2).memories = s.memories := by
  unfold placeBundle
  rw [memories_setBundle, memories_makeLeases, memories_makeLeases]

theorem State.placeBundle_sameBut (s : State) (owner h : Nat) (b : BundleHdr) (g g2 : Nat) :
    SameBut s (s.placeBundle owner h b g g2) [] := fun f i _ => by
  rw [placeBundle_eq]
  rfl

theorem accepted_sameBut (s : State) (desc : Unit64) : SameBut s (accepted s desc) [] :=
  (nothingGranted_accepted s desc []).2.2.2.2.2.2.2.2

theorem memories_accepted (s : State) (desc : Unit64) : (accepted s desc).memories = s.memories := by
  obtain ⟨o, h⟩ := accepted_eq s desc
  rw [h]
  rfl

theorem bundleLoad_places {s : State} {desc : Unit64} {b : SealedBundle} {h g g2 : Nat} (ha : Accepted s desc)
    (hexec : exec (.bundleLoad desc true b) s = .next ((accepted s desc).loadBundle (Desc.of desc) b.hdr))
    (hp : b.hdr.plan.any planBad = false) (hh : s.freeHandle? = some h)
    (hg : (accepted s desc).roomIn (groupsFrom (if (Desc.of desc).group < 16 then (Desc.of desc).group
      else (accepted s desc).emptiestGroup)) (storeExtents b.hdr.storeBytes) = some g)
    (hg2 : (accepted s desc).roomIn ((groupsFrom (g + 2)).filter fun k => k / 2 != g / 2)
      (storeExtents b.hdr.storeBytes) = some g2) :
    Completes (.bundleLoad desc true b) s fun t =>
      EndsWith s t 0 ∧ t.rd F.CMD_RESULT_HANDLE 0 = h ∧ g / 2 ≠ g2 / 2 ∧
      BundlePlaced t (Desc.of desc).owner h (storeExtents b.hdr.storeBytes) b.hdr g g2 ∧
      SameMemories s t ∧ SameBut s t ((F.CMD_RESULT_HANDLE, 0) :: cmdEnd) := by
  obtain ⟨-, hn, slot, hslot⟩ := State.roomIn_spec hg
  obtain ⟨hmem2, hn2, slot2, hslot2⟩ := State.roomIn_spec hg2
  have hstacks : g / 2 ≠ g2 / 2 := fun heq => by
    have := (List.mem_filter.1 hmem2).2
    simp [heq] at this
  have hne : g ≠ g2 := fun heq => hstacks (by rw [heq])
  have hload := State.loadBundle_places hp ((freeHandle?_accepted s desc).trans hh) hg hg2
  have hc : (((accepted s desc).placeBundle (Desc.of desc).owner h b.hdr g g2).wr
      F.CMD_RESULT_HANDLE 0 h).bnd.toClose = [] := by
    rw [State.placeBundle_eq]
    exact accepted_toClose ha
  obtain ⟨hends, hregs⟩ := endCmd_after (reason := 0) hc (by decide)
    (SameBut.wr (SameBut.mono (SameBut.trans (accepted_sameBut s desc)
      (State.placeBundle_sameBut _ _ _ _ _ _)) (by simp))
      F.CMD_RESULT_HANDLE 0 h (List.mem_singleton.2 rfl)) (fun y hy => by
        obtain rfl := List.mem_singleton.1 hy
        decide)
  refine ⟨_, hexec.trans (congrArg _ hload), hends, ?_, hstacks, ?_, ?_, hregs⟩
  · rw [State.endCmd_sameBut hc 0 _ _ (by decide), State.rd_wr_same]
    exact Nat.mod_eq_of_lt (State.freeHandle?_lt hh)
  · exact (State.placeBundle_placed _ _ _ hne hn hslot hn2 hslot2).of_tables (State.endCmd_bundle? hc 0)
      (State.endCmd_lease? hc 0)
  · refine State.endCmd_sameMemories hc ?_ 0
    rw [State.memories_wr, State.memories_placeBundle, memories_accepted]

/-! ### `BUNDLE_DROP` (R170) -/

theorem exec_bundleDrop {s : State} {desc : Unit64} (h : Accepted s desc) (ho : (Desc.of desc).ownerOk = true)
    (hb : (Desc.of desc).bundleOk = true) : exec (.bundleDrop desc true) s =
      .next (match s.bundle? (Desc.of desc).bundle with
        | none => (accepted s desc).endCmd 0x04
        | some y =>
          if y.owner ≠ (Desc.of desc).owner then (accepted s desc).endCmd 0x03
          else if s.bnd.bindings.any fun z => z.2.handle == (Desc.of desc).bundle then (accepted s desc).endCmd 0x05
          else ((accepted s desc).dropBundle (Desc.of desc).bundle).endCmd 0) := by
  have hbindings : (accepted s desc).bnd.bindings = s.bnd.bindings := (nothingGranted_accepted s desc []).2.2.1
  rw [← bundle?_accepted s desc, ← hbindings]
  exact congrArg Host.Outcome.next (command_of_accepted h (by rw [ho, hb]; rfl) ..)

theorem State.dropBundle_eq (s : State) (h : Nat) : s.dropBundle h =
    { s with hbm := (s.dropBundle h).hbm, bnd := { s.bnd with bundles := (s.dropBundle h).bnd.bundles } } := by
  unfold dropBundle
  split
  · rfl
  · next x _ =>
    rw [State.drainLease_eq (s.drainLease x.copy1), State.drainLease_eq s]

theorem State.dropBundle_bundles {s : State} {h : Nat} {y : Bundle} (hy : s.bundle? h = some y) :
    (s.dropBundle h).bnd.bundles = Tab.drop s.bnd.bundles h := by
  simp only [dropBundle, hy]
  rw [State.drainLease_eq (s.drainLease y.copy1), State.drainLease_eq s]

theorem bundleDrop_drops {s : State} {desc : Unit64} {h : Nat} {y : Bundle} (ha : Accepted s desc)
    (hexec : exec (.bundleDrop desc true) s = .next (((accepted s desc).dropBundle h).endCmd 0))
    (hy : s.bundle? h = some y) : Completes (.bundleDrop desc true) s fun t =>
      EndsWith s t 0 ∧ t.bundle? h = none ∧ (∀ k ≠ h, t.bundle? k = s.bundle? k) ∧ SameMemories s t ∧
      SameBut s t cmdEnd := by
  have heq := (accepted s desc).dropBundle_eq h
  have hc : ((accepted s desc).dropBundle h).bnd.toClose = [] := by
    rw [heq]
    exact accepted_toClose ha
  have hregs : SameBut (accepted s desc) ((accepted s desc).dropBundle h) [] := fun f i _ => by
    rw [heq]
    rfl
  obtain ⟨hends, hsame⟩ := endCmd_after (reason := 0) hc (by decide) (SameBut.trans (accepted_sameBut s desc) hregs)
    (fun y hy => nomatch hy)
  have hbundles : ((accepted s desc).dropBundle h).bnd.bundles = Tab.drop (accepted s desc).bnd.bundles h :=
    State.dropBundle_bundles ((bundle?_accepted s desc h).trans hy)
  refine ⟨_, hexec, hends, ?_, fun k hk => ?_, State.endCmd_sameMemories hc ?_ 0, hsame⟩
  · rw [State.endCmd_bundle? hc]
    unfold State.bundle?
    rw [hbundles, Tab.find?_drop_same]
    rfl
  · rw [State.endCmd_bundle? hc, ← bundle?_accepted s desc]
    unfold State.bundle?
    rw [hbundles, Tab.find?_drop_other _ hk]
  · rw [State.memories_dropBundle, memories_accepted]

/-- Settles O19: each outcome of the two commands is one end of the same command window (`endCmd_after`); the second
copy finds the room that was seen before the first was made, since its group is another. -/
theorem bundlesAreLoadedAndDropped : Obligations.BundlesAreLoadedAndDropped := by
  unfold Obligations.BundlesAreLoadedAndDropped
  intro desc b s x u
  refine ⟨fun hdrbg tagOk => if_pos hdrbg, fun ha ho hg => ⟨fun hbad => ?_, fun ht hlen hp => ?_,
    fun ht hlen hp hh => ?_, fun h g g2 ht hlen hp hh => ?_⟩, fun ha ho hb => ⟨fun hy => ?_,
    fun y hy => ⟨fun hne => ?_, fun heq hused => ?_, fun heq hused => ?_⟩⟩⟩
  · refine bundleRefused ha ((exec_bundleLoad ha ho hg b).trans (congrArg _ (if_neg ?_))) (by decide)
    rcases hbad with h | h
    · simp [h]
    · simp [Nat.not_le.2 h]
  · exact bundleRefused ha ((exec_bundleLoad_verified ha ho hg ht hlen).trans
      (congrArg _ (State.loadBundle_badPlan hp))) (by decide)
  · exact bundleRefused ha ((exec_bundleLoad_verified ha ho hg ht hlen).trans
      (congrArg _ (State.loadBundle_noHandle hp ((freeHandle?_accepted s desc).trans hh)))) (by decide)
  · intro n hroom hroom2
    exact bundleLoad_places ha (exec_bundleLoad_verified ha ho hg ht hlen) hp hh hroom hroom2
  all_goals
    have hexec := exec_bundleDrop ha ho hb
    rw [hy] at hexec
  · obtain ⟨t, ht, hends, -, hrest⟩ := bundleRefused ha hexec (by decide)
    exact ⟨t, ht, hends, hrest⟩
  · obtain ⟨t, ht, hends, -, hrest⟩ := bundleRefused ha (hexec.trans (congrArg _ (if_pos hne))) (by decide)
    exact ⟨t, ht, hends, hrest⟩
  · obtain ⟨t, ht, hends, -, hrest⟩ := bundleRefused ha
      (hexec.trans (congrArg _ ((if_neg (not_not.2 heq)).trans (if_pos hused)))) (by decide)
    exact ⟨t, ht, hends, hrest⟩
  · exact bundleDrop_drops ha
      (hexec.trans (congrArg _ ((if_neg (not_not.2 heq)).trans (if_neg (Bool.eq_false_iff.1 hused))))) hy

end Sys2Proof.Machine

namespace Sys2Proof.Machine
/-! PROOFS. The HDM window as the host reads and writes it (R275, R276, R278, R282, R491). -/

/-! ### Device bias ends on access (R276) -/

/-- What a host access to a unit does to the biases. -/
def HostBiased (u : Nat) (s t : State) : Prop :=
  u ∉ t.host.deviceBias ∧ (∀ k, k ≠ u → (k ∈ t.host.deviceBias ↔ k ∈ s.host.deviceBias)) ∧
  (u ∈ s.host.deviceBias → Rises s t F.HOST_BIAS_DATA_FLIPS 0 1)

theorem HostBiased.after {u : Nat} {s t t' : State} (h : HostBiased u s t)
    (hb : t'.host.deviceBias = t.host.deviceBias)
    (hrd : t'.rd F.HOST_BIAS_DATA_FLIPS 0 = t.rd F.HOST_BIAS_DATA_FLIPS 0) : HostBiased u s t' := by
  obtain ⟨hu, hk, hrise⟩ := h
  unfold HostBiased Rises
  rw [hb, hrd]
  exact ⟨hu, hk, hrise⟩

/-- Beside the host's tables only the counter of bias flips changes. -/
def BiasOnly (s u : State) : Prop :=
  u = { s with regs := u.regs, host := u.host } ∧ SameButFields s u [F.HOST_BIAS_DATA_FLIPS]

theorem BiasOnly.refl (s : State) : BiasOnly s s := ⟨rfl, .refl s _⟩

theorem State.biasOnly_flipBias (s : State) (offset : Nat) : BiasOnly s (s.flipBias offset) := by
  unfold flipBias
  dsimp only
  split
  · exact ⟨rfl, SameButFields.trans (.of_regs rfl _) (sameButFields_wr { s with host := _ } _ _ _ (by simp))⟩
  · exact .refl s

theorem State.hostBiased_flipBias (s : State) (offset : Nat) :
    HostBiased (offset / 2 ^ 26) s (s.flipBias offset) := by
  unfold flipBias
  dsimp only
  split
  · refine ⟨?_, fun k hk => ?_, fun _ => State.rises_bump { s with host := _ } F.HOST_BIAS_DATA_FLIPS 0⟩
    · show _ ∉ s.host.deviceBias.filter _
      simp
    · exact List.mem_filter.trans (and_iff_left (bne_iff_ne.2 hk))
  · next h => exact ⟨h, fun _ _ => .rfl, fun hu => absurd hu h⟩

theorem BiasOnly.rd {s u : State} (h : BiasOnly s u) (f : Fld) (i : Nat) (hf : f.id ≠ F.HOST_BIAS_DATA_FLIPS.id) :
    u.rd f i = s.rd f i := h.2 f i fun _ hx => List.mem_singleton.1 hx ▸ hf

theorem BiasOnly.hbm {s u : State} (h : BiasOnly s u) : u.hbm = s.hbm := by
  obtain ⟨h, -⟩ := h
  rw [h]

theorem BiasOnly.out {s u : State} (h : BiasOnly s u) : u.out = s.out := by
  obtain ⟨h, -⟩ := h
  rw [h]

theorem BiasOnly.memories {s u : State} (h : BiasOnly s u) : u.memories = s.memories := by
  obtain ⟨h, -⟩ := h
  rw [h]
  rfl

theorem BiasOnly.inReset {s u : State} (h : BiasOnly s u) (g : Nat) : u.inReset g = s.inReset g := by
  unfold State.inReset
  rw [h.rd _ _ (by decide)]

theorem BiasOnly.hdmLine {s u : State} (h : BiasOnly s u) (offset : Nat) : u.hdmLine offset = s.hdmLine offset := by
  unfold State.hdmLine State.hdmLeases
  rw [h.hbm]

/-! ### A poisoned answer, and a write that is dropped (R275, R278, R491) -/

theorem BiasOnly.classC_spec {s u : State} (h : BiasOnly s u) (rule arg : Nat) :
    (u.classC rule arg).out = s.out ∧ Rises s (u.classC rule arg) F.FAULT_CLASSC_COUNT 0 1 ∧
      SameMemories s (u.classC rule arg) := by
  refine ⟨?_, (u.classC_count rule arg).trans (by rw [h.rd _ _ (by decide)]),
    sameMemories_of_memories ((u.memories_classC rule arg).trans h.memories)⟩
  rw [u.classC_eq rule arg]
  exact h.out

theorem BiasOnly.memPoison_spec {s u : State} (h : BiasOnly s u) (rule : Nat) :
    (u.memPoison rule).out = .noData .host "poison" :: s.out ∧
      Rises s (u.memPoison rule) F.FAULT_CLASSC_COUNT 0 1 ∧ SameMemories s (u.memPoison rule) := by
  obtain ⟨hout, hrise, hmem⟩ := h.classC_spec rule 0
  exact ⟨congrArg _ hout, hrise, hmem⟩

/-! ### `CXL_MEM_READ` -/

/-- CXL.mem reaches the window. -/
abbrev CxlUp (s : State) : Prop := s.on I.dieUp 0 = true ∧ s.rd F.HOST_LINK_MODE 0 = 0

theorem exec_cxlMem_down {s : State} (h : ¬ CxlUp s) (offset : Nat) (loc : HbmRow) (x : MemReq) :
    (∀ ecc, exec (.cxlMemRead offset loc ecc) s = .next s) ∧ exec (.cxlMemWrite x) s = .next s := by
  have hc : (!s.on I.dieUp 0) = true ∨ s.rd F.HOST_LINK_MODE 0 ≠ 0 := by
    rcases not_and_or.1 h with h | h
    · exact .inl (by simp [h])
    · exact .inr h
  exact ⟨fun _ => if_pos hc, if_pos hc⟩

theorem CxlUp.not_down {s : State} (h : CxlUp s) :
    ¬ ((!s.on I.dieUp 0) = true ∨ s.rd F.HOST_LINK_MODE 0 ≠ 0) := by
  obtain ⟨hup, hmode⟩ := h
  simp [hup, hmode]

/-- The read of a line of the window, answered with its bytes or as poison. -/
def State.readHdm (s : State) (g a key : Nat) (loc : HbmRow) (ecc : Ecc) : State :=
  let s := s.hbmEcc (Fin.ofNat 16 g) a loc ecc
  if Tab.get s.hbm.poison (g * 2 ^ 30 + a / 64) false then s.send (.noData .host "poison")
  else s.send (.block .host ((List.range 64).map fun k => s.hbmByte (hbmPlace key g a + k)))

theorem exec_cxlMemRead_beyond {s : State} (hup : CxlUp s) {offset : Nat} (h : s.hdmBytes ≤ offset) (loc : HbmRow)
    (ecc : Ecc) : exec (.cxlMemRead offset loc ecc) s = .next (s.memPoison 275) :=
  (if_neg hup.not_down).trans (if_pos h)

theorem exec_cxlMemRead_inside {s : State} (hup : CxlUp s) {offset : Nat} (h : offset < s.hdmBytes) (loc : HbmRow)
    (ecc : Ecc) : exec (.cxlMemRead offset loc ecc) s = .next (match s.hdmLine offset with
      | none => (s.flipBias offset).memPoison 275
      | some (g, a, key) =>
        if s.inReset g then (s.flipBias offset).memPoison 491
        else (s.flipBias offset).readHdm g a key loc ecc) := by
  have hb := s.biasOnly_flipBias offset
  refine (if_neg hup.not_down).trans ((if_neg (Nat.not_le.2 h)).trans ?_)
  simp only [hb.hdmLine, hb.inReset]
  cases s.hdmLine offset with
  | none => rfl
  | some x =>
    obtain ⟨g, a, key⟩ := x
    unfold State.readHdm
    dsimp only
    split
    · rfl
    · split <;> rfl

/-- The home group of a line of the window is one of the 16. -/
theorem State.hdmLine_group_lt {s : State} {offset g a key : Nat} (h : s.hdmLine offset = some (g, a, key)) :
    g < 16 := by
  unfold hdmLine at h
  obtain ⟨l, -, hl⟩ := Option.map_eq_some_iff.1 h
  obtain rfl : _ = g := congrArg Prod.fst hl
  exact Nat.mod_lt _ (by decide)

theorem RowNoted.hbmStores {s t : State} (h : RowNoted s t) :
    t.hbm.poison = s.hbm.poison ∧ ∀ p, t.hbmByte p = s.hbmByte p := by
  unfold RowNoted at h
  rw [h]
  exact ⟨rfl, fun _ => rfl⟩

/-- The line's bytes as the host reads them. -/
def State.hdmBlock (s : State) (g a key : Nat) : Out :=
  .block .host ((List.range 64).map fun k => s.hbmByte (hbmPlace key g a + k))

/-- A line with the poison mark is answered as poison. -/
theorem readHdm_marked {s : State} {g a key : Nat} {loc : HbmRow} {ecc : Ecc}
    (h : Tab.get (s.hbmEcc (Fin.ofNat 16 g) a loc ecc).hbm.poison (g * 2 ^ 30 + a / 64) false = true) :
    s.readHdm g a key loc ecc = (s.hbmEcc (Fin.ofNat 16 g) a loc ecc).send (.noData .host "poison") := if_pos h

theorem readHdm_unmarked {s : State} {g a key : Nat} {loc : HbmRow} {ecc : Ecc}
    (h : Tab.get (s.hbmEcc (Fin.ofNat 16 g) a loc ecc).hbm.poison (g * 2 ^ 30 + a / 64) false = false) :
    s.readHdm g a key loc ecc = (s.hbmEcc (Fin.ofNat 16 g) a loc ecc).send
      ((s.hbmEcc (Fin.ofNat 16 g) a loc ecc).hdmBlock g a key) := if_neg (Bool.eq_false_iff.1 h)

section Read
variable {s : State} {offset g a key : Nat} {loc : HbmRow}

theorem cxlMemRead_poisoned (hup : CxlUp s) (ecc : Ecc) (h : s.hdmBytes ≤ offset ∨ s.hdmLine offset = none ∨
      s.hdmLine offset = some (g, a, key) ∧ s.inReset g = true) :
    Completes (.cxlMemRead offset loc ecc) s fun t =>
      t.out = .noData .host "poison" :: s.out ∧ Rises s t F.FAULT_CLASSC_COUNT 0 1 ∧ SameMemories s t := by
  by_cases hin : s.hdmBytes ≤ offset
  · exact ⟨_, exec_cxlMemRead_beyond hup hin loc ecc, (BiasOnly.refl s).memPoison_spec 275⟩
  have hexec := exec_cxlMemRead_inside hup (Nat.lt_of_not_le hin) loc ecc
  have hb := s.biasOnly_flipBias offset
  rcases h with h | hline | ⟨hline, hreset⟩
  · exact absurd h hin
  · rw [hline] at hexec
    exact ⟨_, hexec, hb.memPoison_spec 275⟩
  · rw [hline] at hexec
    exact ⟨_, hexec.trans (congrArg _ (if_pos hreset)), hb.memPoison_spec 491⟩

theorem exec_cxlMemRead_leased (hup : CxlUp s) (hin : offset < s.hdmBytes) (hline : s.hdmLine offset = some (g, a, key))
    (hreset : s.inReset g = false) (ecc : Ecc) :
    exec (.cxlMemRead offset loc ecc) s = .next ((s.flipBias offset).readHdm g a key loc ecc) := by
  have hexec := exec_cxlMemRead_inside hup hin loc ecc
  rw [hline] at hexec
  exact hexec.trans (congrArg _ (if_neg (Bool.eq_false_iff.1 hreset)))

/-- The mark of the line in the state that the access leaves the biases in. -/
theorem BiasOnly.marked {s u : State} (h : BiasOnly s u) (k : Nat) :
    Tab.get u.hbm.poison k false = Tab.get s.hbm.poison k false := by
  rw [h.hbm]

theorem BiasOnly.hdmBlock {s u : State} (h : BiasOnly s u) (g a key : Nat) :
    u.hdmBlock g a key = s.hdmBlock g a key := by
  unfold State.hdmBlock State.hbmByte
  rw [h.hbm]

theorem cxlMemRead_clean_unmarked (hup : CxlUp s) (hin : offset < s.hdmBytes)
    (hline : s.hdmLine offset = some (g, a, key)) (hreset : s.inReset g = false)
    (hm : Tab.get s.hbm.poison (g * 2 ^ 30 + a / 64) false = false) :
    Completes (.cxlMemRead offset loc .clean) s fun t =>
      t.out = s.hdmBlock g a key :: s.out ∧ HostBiased (offset / 2 ^ 26) s t ∧ SameMemories s t := by
  have hb := s.biasOnly_flipBias offset
  refine ⟨_, (exec_cxlMemRead_leased hup hin hline hreset .clean).trans
    (congrArg _ (readHdm_unmarked ((hb.marked _).trans hm))), ?_,
    (s.hostBiased_flipBias offset).after rfl rfl, sameMemories_of_memories hb.memories⟩
  show (s.flipBias offset).hdmBlock g a key :: (s.flipBias offset).out = _
  rw [hb.hdmBlock, hb.out]

theorem cxlMemRead_clean_marked (hup : CxlUp s) (hin : offset < s.hdmBytes)
    (hline : s.hdmLine offset = some (g, a, key)) (hreset : s.inReset g = false)
    (hm : Tab.get s.hbm.poison (g * 2 ^ 30 + a / 64) false = true) :
    Completes (.cxlMemRead offset loc .clean) s fun t =>
      t.out = .noData .host "poison" :: s.out ∧ HostBiased (offset / 2 ^ 26) s t ∧ SameMemories s t := by
  have hb := s.biasOnly_flipBias offset
  exact ⟨_, (exec_cxlMemRead_leased hup hin hline hreset .clean).trans
    (congrArg _ (readHdm_marked ((hb.marked _).trans hm))), congrArg _ hb.out,
    (s.hostBiased_flipBias offset).after rfl rfl, sameMemories_of_memories hb.memories⟩

theorem cxlMemRead_corrected_unmarked (hup : CxlUp s) (hin : offset < s.hdmBytes)
    (hline : s.hdmLine offset = some (g, a, key)) (hreset : s.inReset g = false)
    (hm : Tab.get s.hbm.poison (g * 2 ^ 30 + a / 64) false = false) :
    Completes (.cxlMemRead offset loc .corrected) s fun t =>
      t.out = s.hdmBlock g a key :: s.out ∧ Rises s t F.HBM_GRP_ECC_CE g 1 ∧
      HostBiased (offset / 2 ^ 26) s t ∧ SameMemories s t := by
  have hb := s.biasOnly_flipBias offset
  have hbias := s.hostBiased_flipBias offset
  have hexec := exec_cxlMemRead_leased (loc := loc) hup hin hline hreset .corrected
  generalize s.flipBias offset = u at hb hbias hexec
  have hg : (Fin.ofNat 16 g).val = g := Nat.mod_eq_of_lt (State.hdmLine_group_lt hline)
  have hnoted := u.hbmCe_rowNoted (Fin.ofNat 16 g) loc
  obtain ⟨hpoison, hbytes⟩ := hnoted.hbmStores
  have hrise := u.rises_hbmCe (Fin.ofNat 16 g) loc
  rw [hg, Rises, hb.rd _ _ (by decide)] at hrise
  refine ⟨_, hexec.trans (congrArg _ (readHdm_unmarked ?_)), ?_, hrise, hbias.after (congrArg _ hnoted.host) ?_,
    sameMemories_of_memories ((u.memories_hbmCe ..).trans hb.memories)⟩
  · show Tab.get (u.hbmCe (Fin.ofNat 16 g) loc).hbm.poison _ _ = _
    rw [hpoison, hb.marked, hm]
  · show (u.hbmCe (Fin.ofNat 16 g) loc).hdmBlock g a key :: (u.hbmCe (Fin.ofNat 16 g) loc).out = _
    rw [hnoted.out, hb.out, ← hb.hdmBlock]
    unfold State.hdmBlock
    simp only [hbytes]
  · exact u.hbmCe_sameButFields (Fin.ofNat 16 g) loc _ _ (by decide)

theorem cxlMemRead_uncorrectable (hup : CxlUp s) (hin : offset < s.hdmBytes)
    (hline : s.hdmLine offset = some (g, a, key)) (hreset : s.inReset g = false) :
    Completes (.cxlMemRead offset loc .uncorrectable) s fun t =>
      t.out = .noData .host "poison" :: s.out ∧ Rises s t F.HBM_GRP_ECC_UE g 1 ∧
      HostBiased (offset / 2 ^ 26) s t ∧ Tab.get t.hbm.poison (g * 2 ^ 30 + a / 64) false = true ∧
      SameBytes s t := by
  have hb := s.biasOnly_flipBias offset
  have hbias := s.hostBiased_flipBias offset
  have hexec := exec_cxlMemRead_leased (loc := loc) hup hin hline hreset .uncorrectable
  generalize s.flipBias offset = u at hb hbias hexec
  have hg : (Fin.ofNat 16 g).val = g := Nat.mod_eq_of_lt (State.hdmLine_group_lt hline)
  let v := u.setHbmPoison (Fin.ofNat 16 g).val a true
  have hnoted := v.hbmUe_rowNoted (Fin.ofNat 16 g) loc
  obtain ⟨hpoison, -⟩ := hnoted.hbmStores
  have hmark : Tab.get (v.hbmUe (Fin.ofNat 16 g) loc).hbm.poison (g * 2 ^ 30 + a / 64) false = true := by
    rw [hpoison, ← hg]
    exact Tab.get_put_same u.hbm.poison _ true false
  have hrise : Rises v _ _ _ _ := v.rises_hbmUe (Fin.ofNat 16 g) loc
  rw [hg, Rises, show v.rd F.HBM_GRP_ECC_UE g = s.rd F.HBM_GRP_ECC_UE g from hb.rd _ _ (by decide)] at hrise
  refine ⟨_, hexec.trans (congrArg _ (readHdm_marked hmark)), congrArg _ (hnoted.out.trans hb.out), hrise,
    hbias.after (congrArg _ hnoted.host) ?_, hmark, ?_⟩
  · exact v.hbmUe_sameButFields (Fin.ofNat 16 g) loc _ _ (by decide)
  · obtain ⟨h1, h2, h3, h4⟩ := (sameMemories_of_memories (v.memories_hbmUe (Fin.ofNat 16 g) loc)).sameBytes
    obtain ⟨k1, k2, k3, k4⟩ := (sameMemories_of_memories hb.memories).sameBytes
    exact ⟨h1.trans k1, h2.trans k2, h3.trans k3, h4.trans k4⟩

end Read

/-! ### `CXL_MEM_WRITE` -/

/-- A poisoned write is counted. -/
def State.notePoisonIn (s : State) (poison : Bool) : State :=
  if poison then (s.bump F.HOST_ERR_POISON_IN 0).classC 282 1 else s

/-- A write of the window stored. -/
def State.storeHdm (s : State) (g a key : Nat) (x : MemReq) : State :=
  ((s.notePoisonIn x.poison).hbmWrite (hbmPlace key g a) (padTo 64 x.data)).setHbmPoison g a x.poison

theorem exec_cxlMemWrite_beyond {s : State} (hup : CxlUp s) {x : MemReq} (h : s.hdmBytes ≤ x.offset) :
    exec (.cxlMemWrite x) s = .next (s.classC 275 1) := (if_neg hup.not_down).trans (if_pos h)

theorem exec_cxlMemWrite_inside {s : State} (hup : CxlUp s) {x : MemReq} (h : x.offset < s.hdmBytes) :
    exec (.cxlMemWrite x) s = .next (match s.hdmLine x.offset with
      | none => (s.flipBias x.offset).classC 275 1
      | some (g, a, key) =>
        if s.inReset g then (s.flipBias x.offset).classC 491 1
        else (s.flipBias x.offset).storeHdm g a key x) := by
  have hb := s.biasOnly_flipBias x.offset
  refine (if_neg hup.not_down).trans ((if_neg (Nat.not_le.2 h)).trans ?_)
  simp only [hb.hdmLine, hb.inReset]
  cases s.hdmLine x.offset with
  | none => rfl
  | some y =>
    obtain ⟨g, a, key⟩ := y
    dsimp only
    split <;> rfl

section Write
variable {s : State} {x : MemReq} {g a key : Nat}

theorem cxlMemWrite_dropped (hup : CxlUp s) (h : s.hdmBytes ≤ x.offset ∨ s.hdmLine x.offset = none ∨
      s.hdmLine x.offset = some (g, a, key) ∧ s.inReset g = true) :
    Completes (.cxlMemWrite x) s fun t =>
      t.out = s.out ∧ Rises s t F.FAULT_CLASSC_COUNT 0 1 ∧ SameMemories s t := by
  by_cases hin : s.hdmBytes ≤ x.offset
  · exact ⟨_, exec_cxlMemWrite_beyond hup hin, (BiasOnly.refl s).classC_spec 275 1⟩
  have hexec := exec_cxlMemWrite_inside hup (Nat.lt_of_not_le hin)
  have hb := s.biasOnly_flipBias x.offset
  rcases h with h | hline | ⟨hline, hreset⟩
  · exact absurd h hin
  · rw [hline] at hexec
    exact ⟨_, hexec, hb.classC_spec 275 1⟩
  · rw [hline] at hexec
    exact ⟨_, hexec.trans (congrArg _ (if_pos hreset)), hb.classC_spec 491 1⟩

theorem State.notePoisonIn_eq (s : State) (p : Bool) : s.notePoisonIn p = { s with
    regs := (s.notePoisonIn p).regs
    stw := { s.stw with classC := (s.notePoisonIn p).stw.classC, records := (s.notePoisonIn p).stw.records,
                        flashOps := (s.notePoisonIn p).stw.flashOps } } := by
  unfold notePoisonIn
  split
  · exact classC_eq ..
  · rfl

theorem State.notePoisonIn_fields (s : State) (p : Bool) :
    SameButFields s (s.notePoisonIn p) (F.HOST_ERR_POISON_IN :: classCRegs) := by
  unfold notePoisonIn
  split
  · exact (sameButFields_wr s _ _ _ (by simp)).trans
      ((State.classC_frame _ 282 1).mono fun x hx => List.mem_cons_of_mem _ hx)
  · exact .refl s _

/-- A poisoned write is counted, another leaves the counter. -/
theorem State.notePoisonIn_count (s : State) (p : Bool) :
    if p then Rises s (s.notePoisonIn p) F.HOST_ERR_POISON_IN 0 1
    else (s.notePoisonIn p).rd F.HOST_ERR_POISON_IN 0 = s.rd F.HOST_ERR_POISON_IN 0 := by
  cases p with
  | true => exact ((State.classC_frame _ 282 1).rd _ _ (by decide)).trans (s.rises_bump F.HOST_ERR_POISON_IN 0)
  | false => rfl

theorem length_padTo (n : Nat) (bs : List Byte) : (padTo n bs).length = n := by
  simp [padTo]

theorem cxlMemWrite_stores (hup : CxlUp s) (hin : x.offset < s.hdmBytes)
    (hline : s.hdmLine x.offset = some (g, a, key)) (hreset : s.inReset g = false) :
    Completes (.cxlMemWrite x) s fun t =>
      (∀ k (h : k < (padTo 64 x.data).length), t.hbmByte (hbmPlace key g a + k) = (padTo 64 x.data)[k]) ∧
      (∀ p, (p < hbmPlace key g a ∨ hbmPlace key g a + 64 ≤ p) → t.hbmByte p = s.hbmByte p) ∧
      Tab.get t.hbm.poison (g * 2 ^ 30 + a / 64) false = x.poison ∧
      (∀ l, l ≠ g * 2 ^ 30 + a / 64 → Tab.get t.hbm.poison l false = Tab.get s.hbm.poison l false) ∧
      (if x.poison then Rises s t F.HOST_ERR_POISON_IN 0 1
       else t.rd F.HOST_ERR_POISON_IN 0 = s.rd F.HOST_ERR_POISON_IN 0) ∧
      HostBiased (x.offset / 2 ^ 26) s t ∧ t.beam = s.beam ∧ t.arr = s.arr ∧ t.stw.flash = s.stw.flash ∧
      t.out = s.out := by
  have hexec := exec_cxlMemWrite_inside hup hin
  rw [hline] at hexec
  have hb := s.biasOnly_flipBias x.offset
  have hbias := s.hostBiased_flipBias x.offset
  generalize s.flipBias x.offset = u at hb hbias hexec
  have hnote := u.notePoisonIn_eq x.poison
  have hcount := u.notePoisonIn_count x.poison
  have hflips := u.notePoisonIn_fields x.poison F.HOST_BIAS_DATA_FLIPS 0 (by decide)
  refine ⟨_, hexec.trans (congrArg _ (if_neg (Bool.eq_false_iff.1 hreset))), ?_⟩
  unfold State.storeHdm
  generalize u.notePoisonIn x.poison = v at hnote hcount hflips
  have hbyte (p : Nat) : ((v.hbmWrite (hbmPlace key g a) (padTo 64 x.data)).setHbmPoison g a x.poison).hbmByte p =
      if hbmPlace key g a ≤ p ∧ p < hbmPlace key g a + 64 then (padTo 64 x.data).getD (p - hbmPlace key g a) 0
      else s.hbmByte p := by
    have h := v.hbmByte_hbmWrite (hbmPlace key g a) p (padTo 64 x.data)
    rw [length_padTo] at h
    refine h.trans (congrArg _ ?_)
    unfold State.hbmByte
    rw [hnote, hb.hbm]
  refine ⟨fun k hk => ?_, fun p hp => ?_, Tab.get_put_same .., fun l hl => ?_, ?_,
    hbias.after ?_ hflips, ?_, ?_, ?_, ?_⟩
  · have hk64 : k < 64 := length_padTo 64 x.data ▸ hk
    rw [hbyte, if_pos (by omega), Nat.add_sub_cancel_left]
    simp [hk]
  · rw [hbyte, if_neg (by omega)]
  · refine (Tab.get_put_other _ (Ne.symm hl) ..).trans ?_
    show Tab.get v.hbm.poison l false = _
    rw [hnote]
    exact hb.marked l
  · rwa [Rises, hb.rd _ _ (by decide)] at hcount
  · show v.host.deviceBias = _
    rw [hnote]
  · show v.beam = _
    rw [hnote, hb.1]
  · show v.arr = _
    rw [hnote, hb.1]
  · show v.stw.flash = _
    rw [hnote, hb.1]
  · show v.out = _
    rw [hnote]
    exact hb.out

end Write

end Sys2Proof.Machine

namespace Sys2Proof.Machine
/-! PROOFS. The HDM decoder, bias control, and DOE (R275, R277, R279-R281). -/

/-! ### The CDAT's checksum (R280) -/

/-- The byte sum of a table. -/
def byteSum (bs : List Byte) : Nat := (bs.map BitVec.toNat).sum

theorem byteSum_append (bs cs : List Byte) : byteSum (bs ++ cs) = byteSum bs + byteSum cs := by
  simp [byteSum]

theorem byteSum_le_one (v : Nat) : byteSum (le 1 v) = v % 256 := by
  simp [byteSum, le]

/-- The checksum byte completes the sum of all other bytes to a multiple of 256. -/
theorem byteSum_cdatTable (n seq : Nat) : byteSum (cdatTable n seq) % 256 = 0 := by
  unfold cdatTable
  dsimp only
  rw [← byteSum]
  simp only [byteSum_append, byteSum_le_one]
  omega

/-! ### `HDM_DECODER_COMMIT` (R275) -/

theorem exec_hdmDecoderCommit {s : State} (h : s.on I.dieUp 0 = true) (n : Nat) :
    exec (.hdmDecoderCommit n) s = .next
      ((s.wr I.hdmCommitted 0 (bit (n == s.rd F.HDM_CFG_CUR_GIB 0 * 2 ^ 30 && n != 0))).wr I.hdmError 0
        (bit !(n == s.rd F.HDM_CFG_CUR_GIB 0 * 2 ^ 30 && n != 0))) := by
  refine if_neg ?_
  simp [h]

theorem hdmDecoderCommit_spec {s : State} (h : s.on I.dieUp 0 = true) (n : Nat) :
    Completes (.hdmDecoderCommit n) s fun t =>
      (n = s.rd F.HDM_CFG_CUR_GIB 0 * 2 ^ 30 ∧ n ≠ 0 → t.rd I.hdmCommitted 0 = 1 ∧ t.rd I.hdmError 0 = 0) ∧
      (¬ (n = s.rd F.HDM_CFG_CUR_GIB 0 * 2 ^ 30 ∧ n ≠ 0) →
        t.rd I.hdmCommitted 0 = 0 ∧ t.rd I.hdmError 0 = 1) ∧
      OnlyRegs s t [(I.hdmCommitted, 0), (I.hdmError, 0)] := by
  refine ⟨_, exec_hdmDecoderCommit h n, ?_⟩
  have hok : (n == s.rd F.HDM_CFG_CUR_GIB 0 * 2 ^ 30 && n != 0) = true ↔
      n = s.rd F.HDM_CFG_CUR_GIB 0 * 2 ^ 30 ∧ n ≠ 0 := by
    rw [Bool.and_eq_true, beq_iff_eq, bne_iff_ne]
  generalize (n == s.rd F.HDM_CFG_CUR_GIB 0 * 2 ^ 30 && n != 0) = ok at hok ⊢
  have hread : ((s.wr I.hdmCommitted 0 (bit ok)).wr I.hdmError 0 (bit !ok)).rd I.hdmCommitted 0 = bit ok ∧
      ((s.wr I.hdmCommitted 0 (bit ok)).wr I.hdmError 0 (bit !ok)).rd I.hdmError 0 = bit !ok := by
    rw [State.rd_wr_id _ _ _ _ (by decide), State.rd_wr_same, State.rd_wr_same]
    cases ok <;> exact ⟨rfl, rfl⟩
  refine ⟨fun h => ?_, fun h => ?_, (onlyRegs_wr ..).mono (by simp) |>.wr _ _ _ (by simp)⟩
  · rw [hok.2 h] at hread ⊢
    exact hread
  · rw [Bool.eq_false_iff.2 fun ht => h (hok.1 ht)] at hread ⊢
    exact hread

/-! ### `BIAS_SET` (R277) -/

theorem State.setBias_spec (s : State) (u : Nat) (device : Bool) :
    (u ∈ (s.setBias u device).host.deviceBias ↔ device = true) ∧
    (∀ k ≠ u, (k ∈ (s.setBias u device).host.deviceBias ↔ k ∈ s.host.deviceBias)) ∧
    s.setBias u device =
      { s with host := { s.host with deviceBias := (s.setBias u device).host.deviceBias } } := by
  refine ⟨?_, fun k hk => ?_, rfl⟩ <;> cases device <;> simp [setBias, *]

/-! ### DOE responses (R279) -/

theorem State.doeReady_ready (s : State) (inst : Nat) (bs : List Byte) :
    DoeReady s (s.doeReady inst bs) inst bs :=
  ⟨Tab.get_insert_same .., fun _ hk => Tab.get_insert_other _ hk.symm .., rfl⟩

theorem exec_doe_unreached {s : State} (h : s.hostReach = false) (inst : Fin 2) (index : Fin 256) :
    exec (.doeDiscovery inst index) s = .next s ∧ exec .cdatRead s = .next s := by
  have hc : (!s.hostReach) = true := by rw [h]; rfl
  exact ⟨if_pos hc, if_pos hc⟩

theorem exec_doeDiscovery {s : State} (h : s.hostReach = true) (inst : Fin 2) (index : Fin 256) :
    exec (.doeDiscovery inst index) s = .next (s.doeReady inst.val (doeObject 0x0001 0
      (le 2 ((doeProtocols inst.val).getD index.val (0xFFFF, 0)).1 ++
        le 1 ((doeProtocols inst.val).getD index.val (0xFFFF, 0)).2 ++ le 1 (if index.val = 0 then 1 else 0)))) := by
  refine if_neg ?_
  simp [h]

theorem exec_cdatRead {s : State} (h : s.hostReach = true) : exec .cdatRead s =
    .next (s.draw.2.doeReady 0 (doeObject 0x1E98 2
      ([0, 0] ++ le 2 0xFFFF ++ cdatTable (s.rd F.HDM_CFG_CUR_GIB 0) (Config.free s.free)))) := by
  refine if_neg ?_
  simp [h]

/-- Discovery answers the protocol at the index: the data object protocol first, then the mailbox's own. -/
theorem doeDiscovery_spec {s : State} (h : s.hostReach = true) (inst : Fin 2) (index : Fin 256) :
    Completes (.doeDiscovery inst index) s fun t => ∃ vendor type next : Nat,
      DoeReady s t inst.val (doeObject 0x0001 0 (le 2 vendor ++ le 1 type ++ le 1 next)) ∧ t.free = s.free ∧
      (index.val = 0 → vendor = 0x0001 ∧ type = 0 ∧ next = 1) ∧
      (index.val = 1 → inst.val = 0 → vendor = 0x1E98 ∧ type = 2 ∧ next = 0) ∧
      (index.val = 1 → inst.val = 1 → vendor = 0x1F2A ∧ type = 1 ∧ next = 0) := by
  refine ⟨_, exec_doeDiscovery h inst index, _, _, _, s.doeReady_ready .., rfl, fun hi => ?_, fun hi h0 => ?_,
    fun hi h1 => ?_⟩
  · simp [hi, doeProtocols]
  · simp [hi, h0, doeProtocols]
  · simp [hi, h1, doeProtocols]

theorem cdatRead_spec {s : State} (h : s.hostReach = true) : Completes .cdatRead s fun t => t.free = s.free + 1 ∧
    DoeReady s t 0 (doeObject 0x1E98 2
      ([0, 0] ++ le 2 0xFFFF ++ cdatTable (s.rd F.HDM_CFG_CUR_GIB 0) (Config.free s.free))) :=
  ⟨_, exec_cdatRead h, rfl, Tab.get_insert_same .., fun _ hk => Tab.get_insert_other _ hk.symm .., rfl⟩

/-! ### `DOE_ABORT` (R279, R281) -/

theorem doeAbort_zero (s : State) : Completes (.doeAbort 0) s fun t =>
    DoeReady (s.wr I.doeError 0 0) t 0 [] ∧ t.free = s.free :=
  ⟨_, rfl, ⟨Tab.get_drop_same .., fun _ hk => Tab.get_drop_other _ hk.symm _, rfl⟩, rfl⟩

/-- The change of the tick is undone: the owner's entry is what it was before the request. -/
theorem State.undoDoe_owner {s : State} {o : Nat} {before : Option Owner}
    (h : s.host.doeUndo = some (s.us, o, before)) : s.undoDoe.owner? o = before := by
  unfold undoDoe
  rw [h]
  dsimp only
  rw [if_pos rfl]
  unfold owner?
  cases before with
  | none => exact congrArg _ (Tab.find?_drop_same ..)
  | some x => exact congrArg _ (Tab.find?_insert_same ..)

theorem State.undoDoe_nothing {s : State} (h : ∀ o before, s.host.doeUndo ≠ some (s.us, o, before)) :
    s.undoDoe = s := by
  unfold undoDoe
  split
  · next t o before hu => exact if_neg fun ht : t = s.us => h o before (by rw [hu, ht])
  · rfl

theorem State.undoDoe_eq (s : State) : s.undoDoe = { s with bnd := { s.bnd with owners := s.undoDoe.bnd.owners } } := by
  unfold undoDoe
  split
  · split <;> rfl
  · rfl

/-- What an abort of the second mailbox discards. -/
def State.discardDoe (s : State) : State :=
  { s with host := { s.host with doe := Tab.drop s.host.doe 1, doeHeld := none, doeClose := none, doeUndo := none } }

theorem exec_doeAbort_one (s : State) :
    exec (.doeAbort 1) s = .next ((s.wr I.doeError 1 0).undoDoe.discardDoe) := rfl

theorem doeAbort_one (s : State) : Completes (.doeAbort 1) s fun t =>
    Tab.get t.host.doe 1 [] = [] ∧ t.host.doeHeld = none ∧ t.host.doeClose = none ∧
    (∀ o before, s.host.doeUndo = some (s.us, o, before) → t.owner? o = before) ∧
    ((∀ o before, s.host.doeUndo ≠ some (s.us, o, before)) → t.bnd = s.bnd) ∧
    t.rd I.doeError 1 = 0 ∧ t.host.writeQueue = s.host.writeQueue ∧ SameMemories s t ∧
    SameBut s t [(I.doeError, 1)] := by
  have hundo := (s.wr I.doeError 1 0).undoDoe_eq
  refine ⟨_, exec_doeAbort_one s, Tab.get_drop_same .., rfl, rfl, fun o before h => ?_, fun h => ?_, ?_, ?_, ?_,
    fun f i hf => ?_⟩
  · exact State.undoDoe_owner (s := s.wr I.doeError 1 0) h
  · show ((s.wr I.doeError 1 0).undoDoe).bnd = _
    rw [State.undoDoe_nothing (s := s.wr I.doeError 1 0) h]
    rfl
  · show ((s.wr I.doeError 1 0).undoDoe).rd I.doeError 1 = 0
    rw [hundo]
    exact State.rd_wr_same s I.doeError 1 0
  · show ((s.wr I.doeError 1 0).undoDoe).host.writeQueue = _
    rw [hundo]
    rfl
  · refine sameMemories_of_memories ?_
    show ((s.wr I.doeError 1 0).undoDoe).memories = _
    rw [hundo]
    rfl
  · show ((s.wr I.doeError 1 0).undoDoe).rd f i = _
    rw [hundo]
    exact sameBut_wr s I.doeError 1 0 (List.mem_singleton.2 rfl) f i hf

/-! ### The obligation -/

/-- Settles O39: an access inside the window ends the unit's device bias first (`State.hostBiased_flipBias`), which
leaves the window's lines and the resets as they were; every answer is then one of the cases of one line. -/
theorem hostReachesTheHdmWindow : Obligations.HostReachesTheHdmWindow := by
  unfold Obligations.HostReachesTheHdmWindow
  refine ⟨byteSum_cdatTable, fun n s => ⟨fun h => ?_, fun h => hdmDecoderCommit_spec h n⟩, fun offset loc x s => ?_,
    fun path v s => ⟨fun h => ⟨_, if_pos h, s.setBias_spec _ _⟩, fun h => if_neg (Nat.not_lt.2 h)⟩,
    fun inst index s => ⟨fun h => exec_doe_unreached h inst index,
      fun h => ⟨doeDiscovery_spec h inst index, cdatRead_spec h⟩, doeAbort_zero s, doeAbort_one s⟩⟩
  · refine if_pos ?_
    rw [h]
    rfl
  intro up poisoned dropped hostBias
  refine ⟨fun h => exec_cxlMem_down h offset loc x, fun hup h ecc => ?_, fun hup h => ?_, fun hup _ h ecc => ?_,
    fun hup _ h => ?_, fun g a key hup hin hline => ⟨fun hreset ecc => ?_, fun hreset hm => ⟨?_, ?_⟩,
    fun hreset hm => ?_, fun hreset => ?_⟩, fun g a key hup hin hline => ⟨fun hreset => ?_, fun hreset => ?_⟩⟩
  · exact cxlMemRead_poisoned (g := 0) (a := 0) (key := 0) hup ecc (.inl h)
  · exact cxlMemWrite_dropped (g := 0) (a := 0) (key := 0) hup (.inl h)
  · exact cxlMemRead_poisoned (g := 0) (a := 0) (key := 0) hup ecc (.inr (.inl h))
  · exact cxlMemWrite_dropped (g := 0) (a := 0) (key := 0) hup (.inr (.inl h))
  · exact cxlMemRead_poisoned hup ecc (.inr (.inr ⟨hline, hreset⟩))
  · exact cxlMemRead_clean_unmarked hup hin hline hreset hm
  · exact cxlMemRead_corrected_unmarked hup hin hline hreset hm
  · exact cxlMemRead_clean_marked hup hin hline hreset hm
  · exact cxlMemRead_uncorrectable hup hin hline hreset
  · exact cxlMemWrite_dropped hup (.inr (.inr ⟨hline, hreset⟩))
  · exact cxlMemWrite_stores hup hin hline hreset

end Sys2Proof.Machine

namespace Sys2Proof.Machine
/-! PROOFS. Jobs of several packages form: `JOIN_FLIT`, `JOIN_SEND_TICK`, `JOIN_WINDOW_EXPIRE` (R236, R241). -/

/-! ### The jobs' table -/

theorem State.job?_setJob_same (s : State) (b : Nat) (j : Job) : (s.setJob b j).job? b = some j := by
  unfold job? setJob
  rw [Tab.find?_insert_same]
  rfl

theorem State.job?_setJob_other (s : State) {b k : Nat} (j : Job) (h : k ≠ b) : (s.setJob b j).job? k = s.job? k := by
  unfold job? setJob
  rw [Tab.find?_insert_other _ _ h]

/-- The jobs' table says which job a binding is part of. -/
theorem State.job?_congr {s t : State} (h : t.weft.jobs = s.weft.jobs) (k : Nat) : t.job? k = s.job? k := by
  unfold job?
  rw [h]

/-! ### A bind that fails (R174, R236) -/

theorem State.endCmd_binding? {s : State} (hc : s.bnd.toClose = []) (reason b : Nat) :
    (s.endCmd reason).binding? b = s.binding? b := by
  have h : s.endCmd reason = _ := endCmd_taken hc reason
  rw [h]
  rfl

/-- A bind that fails ends with its reason, and its binding is gone. -/
theorem State.failBind_ends {s : State} (b : Nat) (hc : s.bnd.toClose = []) {reason : Nat} (hr : reason < 256) :
    EndsWith s (s.failBind b reason) reason ∧ (s.failBind b reason).binding? b = none := by
  cases hb : s.binding? b with
  | none =>
    rw [show s.failBind b reason = s.endCmd reason by simp only [failBind, hb]]
    exact ⟨endCmd_endsWith hc hr, (endCmd_binding? hc reason b).trans hb⟩
  | some x =>
    refine ⟨(failBind_fails hb hc hr).ends, ?_⟩
    have hparks := (s.releaseBinding b).failParts_parks x.parts
    have hclose : ((s.releaseBinding b).failParts x.parts).bnd.toClose = [] :=
      (hparks.keeps.toClose.trans (s.releaseBinding_keeps b).toClose).trans hc
    obtain ⟨use, jobs, copies, recs, hrel⟩ := releaseBinding_of_binding hb
    rw [failBind_of_binding hb, endCmd_binding? hclose, hparks.only, hrel]
    exact binding?_drop_same ..

/-! ### `JOIN_FLIT` -/

/-- A later epoch of a `JOIN` is taken unless the job is FORMED. -/
def State.takeEpoch (s : State) (b e : Nat) : State :=
  if s.rd F.WEFT_JOB_STATE_STATE b ≠ 2 ∧ laterEpoch e (s.rd F.WEFT_JOB_STATE_EPOCH b) then
    s.wr F.WEFT_JOB_STATE_EPOCH b e else s

/-- The job with a `JOIN` of a participant registered in place of its last. -/
def Job.joinedBy (j : Job) (f : Join) : Job :=
  { j with joins := j.joins.filter (fun x => x.1 != f.participant) ++
      [(f.participant, f.hdr.epoch.toNat, f.tags)] }

theorem exec_joinFlit_unknown {f : Join} {s : State} (h : s.jobBinding? f.hdr.job.toNat = none) :
    exec (.joinFlit f) s = .next s := by
  show execJoinFlit f s = _
  unfold execJoinFlit
  rw [h]

theorem exec_joinFlit {f : Join} {s : State} {b : Nat} {j : Job} (hb : s.jobBinding? f.hdr.job.toNat = some b)
    (hj : s.job? b = some j) : exec (.joinFlit f) s =
      if f.ident ≠ j.ident then
        if s.rd F.WEFT_JOB_STATE_STATE b = 1 ∧ s.bnd.cmd = some (.bind b) then .next (s.failBind b 0x0D) else .next s
      else if f.count ≠ j.nodes.length ∨ ¬ j.others.contains f.participant then .next s
      else .next ((s.takeEpoch b f.hdr.epoch.toNat).tryForm b (j.joinedBy f)) := by
  show execJoinFlit f s = _
  unfold execJoinFlit
  rw [hb]
  dsimp only
  rw [hj]
  rfl

theorem State.takeEpoch_onlyRegs (s : State) (b e : Nat) :
    OnlyRegs s (s.takeEpoch b e) [(F.WEFT_JOB_STATE_EPOCH, b)] := by
  unfold takeEpoch
  split
  · exact onlyRegs_wr ..
  · exact ⟨rfl, .refl s _⟩

theorem State.epoch_takeEpoch (s : State) (b : Nat) (e : BitVec 4) :
    (s.takeEpoch b e.toNat).rd F.WEFT_JOB_STATE_EPOCH b =
      if s.rd F.WEFT_JOB_STATE_STATE b ≠ 2 ∧ laterEpoch e.toNat (s.rd F.WEFT_JOB_STATE_EPOCH b) = true then e.toNat
      else s.rd F.WEFT_JOB_STATE_EPOCH b := by
  unfold takeEpoch
  split
  · rw [rd_wr_same]
    exact Nat.mod_eq_of_lt e.isLt
  · rfl

/-- Every other participant has joined in an epoch. -/
def Job.complete (j : Job) (e : Nat) : Prop := ∀ p ∈ j.others, ∃ x ∈ j.joins, x.1 = p ∧ x.2.1 = e

/-- The participants that have joined in an epoch. -/
def Job.joined (j : Job) (e : Nat) : List Nat := j.others.filter fun p => j.joins.any fun x => x.1 == p && x.2.1 == e

theorem Job.length_joined_iff (j : Job) (e : Nat) : (j.joined e).length = j.others.length ↔ j.complete e := by
  unfold joined complete
  rw [List.length_filter_eq_length_iff]
  simp only [List.any_eq_true, Bool.and_eq_true, beq_iff_eq]

theorem State.tryForm_eq (s : State) (b : Nat) (j : Job) : s.tryForm b j =
    (let t := (s.setJob b j).wr F.WEFT_JOB_PEERS_JOINED b (j.mask (j.joined (s.rd F.WEFT_JOB_STATE_EPOCH b)))
     if (j.joined (s.rd F.WEFT_JOB_STATE_EPOCH b)).length = j.others.length ∧ t.rd F.WEFT_JOB_STATE_STATE b ≠ 0 then
       t.wr F.WEFT_JOB_STATE_STATE b 2 else t) := rfl

theorem State.tryForm_sameBut (s : State) (b : Nat) (j : Job) :
    SameBut s (s.tryForm b j) [(F.WEFT_JOB_STATE_STATE, b), (F.WEFT_JOB_PEERS_JOINED, b)] := by
  rw [tryForm_eq]
  have hjoined : SameBut s ((s.setJob b j).wr F.WEFT_JOB_PEERS_JOINED b
      (j.mask (j.joined (s.rd F.WEFT_JOB_STATE_EPOCH b))))
      [(F.WEFT_JOB_STATE_STATE, b), (F.WEFT_JOB_PEERS_JOINED, b)] :=
    SameBut.wr (t := s.setJob b j) (fun _ _ _ => rfl) _ _ _ (by simp)
  dsimp only
  split
  · exact hjoined.wr _ _ _ (by simp)
  · exact hjoined

theorem State.tryForm_only (s : State) (b : Nat) (j : Job) : s.tryForm b j =
    { s with regs := (s.tryForm b j).regs, weft := { s.weft with jobs := Tab.insert s.weft.jobs b j } } := by
  rw [tryForm_eq]
  dsimp only
  split <;> rfl

theorem State.jobState_tryForm {s : State} {b st e : Nat} (hst : s.rd F.WEFT_JOB_STATE_STATE b = st)
    (he : s.rd F.WEFT_JOB_STATE_EPOCH b = e) (j : Job) {_ : Decidable (st ≠ 0 ∧ j.complete e)} :
    (s.tryForm b j).rd F.WEFT_JOB_STATE_STATE b = if st ≠ 0 ∧ j.complete e then 2 else st := by
  rw [tryForm_eq, he]
  dsimp only
  have hstate : ((s.setJob b j).wr F.WEFT_JOB_PEERS_JOINED b (j.mask (j.joined e))).rd F.WEFT_JOB_STATE_STATE b = st :=
    (rd_wr_id (s.setJob b j) _ _ _ (by decide)).trans hst
  by_cases h : st ≠ 0 ∧ j.complete e
  · rw [if_pos h, if_pos ⟨(j.length_joined_iff _).2 h.2, hstate.symm ▸ h.1⟩, rd_wr_same]
    rfl
  · rw [if_neg h, if_neg fun h' => h ⟨hstate ▸ h'.2, (j.length_joined_iff _).1 h'.1⟩, hstate]

/-- The registration of a `JOIN` of the job's own identity. -/
theorem joinFlit_registers {f : Join} {s : State} {b : Nat} {j : Job} (hb : s.jobBinding? f.hdr.job.toNat = some b)
    (hj : s.job? b = some j) (hid : f.ident = j.ident) (hcount : f.count = j.nodes.length)
    (hp : f.participant ∈ j.others) : Completes (.joinFlit f) s fun t =>
      t = (s.takeEpoch b f.hdr.epoch.toNat).tryForm b (j.joinedBy f) := by
  refine ⟨_, ?_, rfl⟩
  rw [exec_joinFlit hb hj, if_neg (not_not.2 hid), if_neg]
  rw [not_or, not_not, not_not]
  exact ⟨hcount, List.contains_iff_mem.2 hp⟩

/-! ### Flits to other nodes (R230, R232) -/

/-- Flits are sent, or wait, and nothing else changes. -/
structure FlitsOnly (s t : State) : Prop where
  only : t = { s with regs := t.regs, out := t.out,
                      weft := { s.weft with replay := t.weft.replay, waiting := t.weft.waiting } }
  fields : SameButFields s t [I.lseq]
  sent : s.out ⊆ t.out
  waits : s.weft.waiting ⊆ t.weft.waiting

/-- A flit has been sent on a link, or waits for it. -/
def FlitOut (t : State) (k : Nat) (o : Out) : Prop := o ∈ t.out ∨ (k, o) ∈ t.weft.waiting

namespace FlitsOnly

theorem refl (s : State) : FlitsOnly s s := ⟨rfl, .refl s _, List.Subset.refl _, List.Subset.refl _⟩

theorem trans {s t u : State} (h : FlitsOnly s t) (h' : FlitsOnly t u) : FlitsOnly s u := by
  refine ⟨?_, h.fields.trans h'.fields, List.Subset.trans h.sent h'.sent, List.Subset.trans h.waits h'.waits⟩
  have h1 := h.only
  have h2 := h'.only
  rw [h1] at h2
  exact h2

theorem rd {s t : State} (h : FlitsOnly s t) (f : Fld) (i : Nat) (hf : f.id ≠ I.lseq.id) : t.rd f i = s.rd f i :=
  h.fields.rd f i fun _ hx => List.mem_singleton.1 hx ▸ hf

/-- Routes and links' states stay. -/
theorem hopTo {s t : State} (h : FlitsOnly s t) (d : Nat) : t.hopTo d = s.hopTo d := by
  unfold State.hopTo State.linkUp State.on
  rw [h.rd _ _ (by decide), h.rd _ _ (by decide), h.rd _ _ (by decide)]

theorem flitOut {s t : State} (h : FlitsOnly s t) {k : Nat} {o : Out} (ho : FlitOut s k o) : FlitOut t k o :=
  ho.imp (fun h' => h.sent h') fun h' => h.waits h'

end FlitsOnly

theorem State.flitsOnly_sendFlit (s : State) (k : Nat) (kind : String) (args : List Nat) :
    FlitsOnly s (s.sendFlit k kind args) ∧ FlitOut (s.sendFlit k kind args) k (.flit k kind args) := by
  have hput := s.sendFlit_put k kind args
  have hfields : SameButFields s (s.sendFlit k kind args) [I.lseq] := fun f i hf =>
    s.sendFlit_sameBut k kind args f i fun x hx =>
      List.mem_singleton.1 hx ▸ regKey_inj_id (hf _ (List.mem_singleton.2 rfl))
  unfold FlitPut at hput
  split at hput
  · obtain ⟨hout, -, hwaiting⟩ := hput
    refine ⟨⟨s.sendFlit_eq k kind args, hfields, hout ▸ List.Subset.refl _, ?_⟩, .inr ?_⟩
    · rw [hwaiting]
      exact List.subset_append_left _ _
    · rw [hwaiting]
      exact List.mem_append_right _ (List.mem_singleton.2 rfl)
  · next hroom =>
    obtain ⟨hout, -, -⟩ := hput
    have hwaiting : (s.sendFlit k kind args).weft.waiting = s.weft.waiting := by
      unfold sendFlit
      dsimp only
      rw [if_neg hroom]
      rfl
    refine ⟨⟨s.sendFlit_eq k kind args, hfields, ?_, hwaiting ▸ List.Subset.refl _⟩, .inl ?_⟩
    · rw [hout]
      exact List.subset_cons_self _ _
    · rw [hout]
      exact List.mem_cons_self

theorem State.flitTo_flitsOnly (s : State) (d : Nat) (kind : String) (args : List Nat) :
    FlitsOnly s (s.flitTo d kind args) := by
  unfold flitTo
  split
  · exact (s.flitsOnly_sendFlit ..).1
  · exact .refl s

theorem State.flitTo_out {s : State} {d k : Nat} (h : s.hopTo d = some k) (kind : String) (args : List Nat) :
    FlitOut (s.flitTo d kind args) k (.flit k kind (d :: args)) := by
  unfold flitTo
  rw [h]
  exact (s.flitsOnly_sendFlit ..).2

/-! ### `JOIN_SEND_TICK` -/

/-- The `JOIN` of a job's part: its identity, its place in the job, the epoch and the tags of its partitions. -/
def State.joinArgs (s : State) (b : Nat) (j : Job) (tags : List Nat) : List Nat :=
  [j.ident.toNat, j.self, j.nodes.length, s.rd F.WEFT_JOB_STATE_EPOCH b] ++ tags

/-- The `JOIN` of a part sent to every other participant. -/
def State.sendJoins (s : State) (b : Nat) (j : Job) (tags : List Nat) : State :=
  j.others.foldl (fun s q => s.flitTo (j.nodes.getD q 0) "JOIN" (s.joinArgs b j tags)) s

theorem State.sendJoins_flitsOnly (s : State) (b : Nat) (j : Job) (tags : List Nat) :
    FlitsOnly s (s.sendJoins b j tags) :=
  foldl_relates FlitsOnly.refl (fun _ _ _ => .trans) _ (fun t _ _ => t.flitTo_flitsOnly ..) s

theorem FlitsOnly.joinArgs {s t : State} (h : FlitsOnly s t) (b : Nat) (j : Job) (tags : List Nat) :
    t.joinArgs b j tags = s.joinArgs b j tags := by
  unfold State.joinArgs
  rw [h.rd _ _ (by decide)]

/-- Each participant's flit is sent on the route, and with the epoch, that stood at the start. -/
theorem State.sendJoins_out {s : State} {j : Job} {q k : Nat} (hq : q ∈ j.others)
    (hk : s.hopTo (j.nodes.getD q 0) = some k) (b : Nat) (tags : List Nat) :
    FlitOut (s.sendJoins b j tags) k (.flit k "JOIN" (j.nodes.getD q 0 :: s.joinArgs b j tags)) := by
  refine foldl_visits (f := fun t q => t.flitTo (j.nodes.getD q 0) "JOIN" (t.joinArgs b j tags))
    (Before := FlitsOnly s)
    (After := fun t => FlitOut t k (.flit k "JOIN" (j.nodes.getD q 0 :: s.joinArgs b j tags)))
    (List.nodup_range.filter _) hq (fun t _ _ _ ht => ht.trans (t.flitTo_flitsOnly ..)) (fun t ht => ?_)
    (fun t _ _ _ ht => (t.flitTo_flitsOnly ..).flitOut ht) (.refl s)
  rw [← ht.joinArgs]
  exact flitTo_out ((ht.hopTo _).trans hk) ..

theorem exec_joinSendTick {b : BindIx} {s : State} {j : Job} {x : Binding} (hj : s.job? b.val = some j)
    (hb : s.binding? b.val = some x) : exec (.joinSendTick b) s =
      if s.rd F.WEFT_JOB_STATE_STATE b.val = 1 ∨ s.rd F.WEFT_JOB_STATE_STATE b.val = 3 then
        .next (s.sendJoins b.val j (x.parts.map fun p => s.rd F.PART_GEN_GEN p))
      else .next s := by
  show execJoinSendTick b s = _
  unfold execJoinSendTick
  rw [hj, hb]
  rfl

/-! ### `JOIN_WINDOW_EXPIRE` -/

theorem exec_joinWindowExpire (b : BindIx) (s : State) : exec (.joinWindowExpire b) s =
    if s.rd F.WEFT_JOB_STATE_STATE b.val = 1 ∧ s.bnd.cmd = some (.bind b.val) then .next (s.failBind b.val 0x0D)
    else .next s := rfl

end Sys2Proof.Machine

namespace Sys2Proof.Machine
/-! PROOFS. The traffic of a job: barrier tokens, frame starts and data (R101, R229, R237-R239). -/

/-! ### Stale traffic (R239) -/

theorem stale_of {i : Instr} {s : State} (h : exec i s = .next (s.bump F.WEFT_VIOL_STALE 0)) : Completes i s fun t =>
    Rises s t F.WEFT_VIOL_STALE 0 1 ∧ OnlyRegs s t [(F.WEFT_VIOL_STALE, 0)] :=
  ⟨_, h, s.rises_bump F.WEFT_VIOL_STALE 0, onlyRegs_wr ..⟩

theorem exec_job_unknown {h : JobHdr} {s : State} (hb : s.jobBinding? h.job.toNat = none) (step who : Nat) (c : CtxIx)
    (age frame : Nat) : exec (.barrierFlit h step who) s = .next (s.bump F.WEFT_VIOL_STALE 0) ∧
      exec (.frameStartFlit h c age frame) s = .next (s.bump F.WEFT_VIOL_STALE 0) := by
  constructor
  · show execBarrierFlit h step who s = _
    unfold execBarrierFlit
    rw [hb]
  · show execFrameStartFlit h c age frame s = _
    unfold execFrameStartFlit
    rw [hb]

section Traffic
variable {h : JobHdr} {s : State} {b : Nat} {j : Job}

theorem exec_barrierFlit (hb : s.jobBinding? h.job.toNat = some b) (hj : s.job? b = some j) (step who : Nat) :
    exec (.barrierFlit h step who) s =
      if s.current b j h then
        if j.others.contains who then .next (s.passBarrier b { j with tokens := j.tokens ++ [(step, who)] })
        else .next (s.weftViolation 229 who)
      else .next (s.bump F.WEFT_VIOL_STALE 0) := by
  show execBarrierFlit h step who s = _
  unfold execBarrierFlit
  rw [hb]
  dsimp only
  rw [hj]

theorem exec_frameStartFlit (hb : s.jobBinding? h.job.toNat = some b) (hj : s.job? b = some j) (c : CtxIx)
    (age frame : Nat) : exec (.frameStartFlit h c age frame) s =
      if s.current b j h then .next (s.setJob b { j with start := some (c.val, age) })
      else .next (s.bump F.WEFT_VIOL_STALE 0) := by
  show execFrameStartFlit h c age frame s = _
  unfold execFrameStartFlit
  rw [hb]
  dsimp only
  rw [hj]

/-! ### `BARRIER_FLIT` (R238) -/

/-- The job that a registered token leaves: past the barrier when it was the last one, else with the token. -/
def Job.passed (j : Job) : Job :=
  match j.arrived with
  | some step =>
    if j.others.all fun p => j.tokens.contains (step, p) then
      { j with arrived := none, tokens := j.tokens.filter fun t => t.1 != step }
    else j
  | none => j

theorem State.passBarrier_eq (s : State) (b : Nat) (j : Job) : s.passBarrier b j = s.setJob b j.passed := by
  unfold passBarrier Job.passed
  cases j.arrived with
  | none => rfl
  | some step =>
    dsimp only
    split <;> rfl

theorem Job.all_tokens_iff (j : Job) (step : Nat) :
    (j.others.all fun p => j.tokens.contains (step, p)) = true ↔ ∀ p ∈ j.others, (step, p) ∈ j.tokens := by
  simp only [List.all_eq_true, List.contains_iff_mem]

theorem Job.passed_of_last {j : Job} {step : Nat} (ha : j.arrived = some step)
    (h : ∀ p ∈ j.others, (step, p) ∈ j.tokens) : j.passed.arrived = none := by
  unfold passed
  rw [ha]
  dsimp only
  rw [if_pos ((j.all_tokens_iff step).2 h)]

theorem Job.passed_of_missing {j : Job}
    (h : ∀ step, j.arrived = some step → ∃ p ∈ j.others, (step, p) ∉ j.tokens) : j.passed = j := by
  unfold passed
  split
  · next step ha =>
    obtain ⟨p, hp, hmissing⟩ := h step ha
    exact if_neg fun hall => hmissing ((j.all_tokens_iff step).1 hall p hp)
  · rfl

theorem barrierFlit_registers (hb : s.jobBinding? h.job.toNat = some b) (hj : s.job? b = some j)
    (hcur : s.current b j h = true) {step who : Nat} (hwho : who ∈ j.others) :
    Completes (.barrierFlit h step who) s fun t =>
      let tokens := j.tokens ++ [(step, who)]
      (∀ y, j.arrived = some y → (∀ p ∈ j.others, (y, p) ∈ tokens) → (t.job? b).map Job.arrived = some none) ∧
      ((∀ y, j.arrived = some y → ∃ p ∈ j.others, (y, p) ∉ tokens) → t.job? b = some { j with tokens := tokens }) ∧
      (∀ k ≠ b, t.job? k = s.job? k) ∧ t = { s with weft := { s.weft with jobs := t.weft.jobs } } := by
  refine ⟨_, (exec_barrierFlit hb hj step who).trans ((if_pos hcur).trans (if_pos (List.contains_iff_mem.2 hwho))), ?_⟩
  rw [State.passBarrier_eq]
  refine ⟨fun y hy hall => ?_, fun hmissing => ?_, fun k hk => s.job?_setJob_other _ hk, rfl⟩
  · rw [State.job?_setJob_same]
    exact congrArg some (Job.passed_of_last (j := { j with tokens := j.tokens ++ [(step, who)] }) hy hall)
  · rw [State.job?_setJob_same]
    exact congrArg some (Job.passed_of_missing (j := { j with tokens := j.tokens ++ [(step, who)] }) hmissing)

theorem barrierFlit_stranger (hb : s.jobBinding? h.job.toNat = some b) (hj : s.job? b = some j)
    (hcur : s.current b j h = true) {step who : Nat} (hwho : who ∉ j.others) :
    Completes (.barrierFlit h step who) s fun t => WeftViolation s t ∧ t.weft = s.weft ∧ SameMemories s t := by
  obtain ⟨hviol, hweft, hmem, -⟩ := s.weftViolation_spec 229 who
  exact ⟨_, (exec_barrierFlit hb hj step who).trans ((if_pos hcur).trans
    (if_neg fun hc => hwho (List.contains_iff_mem.1 hc))), hviol, hweft, hmem⟩

/-! ### `FRAME_START_FLIT` (R237) -/

theorem frameStartFlit_registers (hb : s.jobBinding? h.job.toNat = some b) (hj : s.job? b = some j)
    (hcur : s.current b j h = true) (c : CtxIx) (age frame : Nat) : Completes (.frameStartFlit h c age frame) s fun t =>
      t.job? b = some { j with start := some (c.val, age) } ∧ (∀ k ≠ b, t.job? k = s.job? k) ∧
      t = { s with weft := { s.weft with jobs := t.weft.jobs } } :=
  ⟨_, (exec_frameStartFlit hb hj c age frame).trans (if_pos hcur), s.job?_setJob_same .., fun _ hk =>
    s.job?_setJob_other _ hk, rfl⟩

theorem stale_flits (hb : s.jobBinding? h.job.toNat = some b) (hj : s.job? b = some j) (hcur : s.current b j h = false)
    (step who : Nat) (c : CtxIx) (age frame : Nat) :
    exec (.barrierFlit h step who) s = .next (s.bump F.WEFT_VIOL_STALE 0) ∧
      exec (.frameStartFlit h c age frame) s = .next (s.bump F.WEFT_VIOL_STALE 0) :=
  ⟨(exec_barrierFlit hb hj step who).trans (if_neg (Bool.eq_false_iff.1 hcur)),
    (exec_frameStartFlit hb hj c age frame).trans (if_neg (Bool.eq_false_iff.1 hcur))⟩

end Traffic

/-! ### `JOB_DATA_MSG` (R101, R231, R239) -/

section Data
variable {m : JobMsg} {s : State}

theorem exec_jobDataMsg_badTag (h : m.tagOk = false) :
    exec (.jobDataMsg m) s = .next (s.weftViolation 231 m.hdr.src.val) := by
  refine if_pos ?_
  rw [h]
  exact Bool.false_ne_true

theorem exec_jobDataMsg_unknown (h : m.tagOk = true)
    (hb : s.job? m.binding.val = none ∨ s.binding? m.binding.val = none) :
    exec (.jobDataMsg m) s = .next (s.bump F.WEFT_VIOL_STALE 0) := by
  refine (if_neg (not_not.2 h)).trans ?_
  split
  · next j x hj hx =>
    rcases hb with hb | hb
    · cases hb.symm.trans hj
    · cases hb.symm.trans hx
  · rfl

theorem exec_jobDataMsg {j : Job} {x : Binding} (h : m.tagOk = true) (hj : s.job? m.binding.val = some j)
    (hx : s.binding? m.binding.val = some x) : exec (.jobDataMsg m) s =
      if ¬ s.current m.binding.val j m.hdr then .next (s.bump F.WEFT_VIOL_STALE 0)
      else if x.bolts.contains m.bolt.val ∧ (s.bolt m.bolt.val).state = .leased then
        .next (s.beamWrite m.bolt.val (m.line.val * 64) (m.data.take (2 ^ 20 - m.line.val * 64)))
      else .next (s.bump F.BEAM_LEASE_VIOL_COUNT 0) := by
  refine (if_neg (not_not.2 h)).trans ?_
  rw [hj, hx]

/-- Data of a job: stored in a leased bolt of the binding, else counted. -/
theorem jobDataMsg_current {j : Job} {x : Binding} (h : m.tagOk = true) (hj : s.job? m.binding.val = some j)
    (hx : s.binding? m.binding.val = some x) :
    (s.current m.binding.val j m.hdr = false → Completes (.jobDataMsg m) s fun t =>
      Rises s t F.WEFT_VIOL_STALE 0 1 ∧ OnlyRegs s t [(F.WEFT_VIOL_STALE, 0)]) ∧
    (s.current m.binding.val j m.hdr = true → ¬ (m.bolt.val ∈ x.bolts ∧ (s.bolt m.bolt.val).state = .leased) →
      Completes (.jobDataMsg m) s fun t =>
        Rises s t F.BEAM_LEASE_VIOL_COUNT 0 1 ∧ OnlyRegs s t [(F.BEAM_LEASE_VIOL_COUNT, 0)]) ∧
    (s.current m.binding.val j m.hdr = true → m.bolt.val ∈ x.bolts → (s.bolt m.bolt.val).state = .leased →
      Completes (.jobDataMsg m) s fun t =>
        let data := m.data.take (2 ^ 20 - m.line.val * 64)
        (∀ k (h : k < data.length), t.beamByte m.bolt.val (m.line.val * 64 + k) = data[k]) ∧
        BytesOutside s.beam.bytes t.beam.bytes (s.storage m.bolt.val * 2 ^ 20 + m.line.val * 64) data.length 0 ∧
        t = { s with beam := { s.beam with bytes := t.beam.bytes } }) := by
  have hexec := exec_jobDataMsg h hj hx
  refine ⟨fun hcur => stale_of (hexec.trans (if_pos (Bool.eq_false_iff.1 hcur))), fun hcur hno => ?_,
    fun hcur hbolt hleased => ?_⟩
  · refine ⟨_, hexec.trans ((if_neg (not_not.2 hcur)).trans (if_neg fun hc =>
      hno ⟨List.contains_iff_mem.1 hc.1, hc.2⟩)), s.rises_bump F.BEAM_LEASE_VIOL_COUNT 0, onlyRegs_wr ..⟩
  · exact ⟨_, hexec.trans ((if_neg (not_not.2 hcur)).trans (if_pos ⟨List.contains_iff_mem.2 hbolt, hleased⟩)),
      fun k hk => State.beamByte_beamWrite_same _ _ _ _ hk, State.bytesOutside_beamWrite _ _ _ _, rfl⟩

end Data

end Sys2Proof.Machine

namespace Sys2Proof.Machine
/-! PROOFS. A peer lost: `STEP_TIMEOUT` breaks the job and holds its contexts (R240). -/

/-! ### Contexts that run go on running through the end of a frame (R182) -/

/-- The context takes or runs frames: it is neither free, held nor closing. -/
def CtxRuns (s : State) (c : Nat) : Prop :=
  s.rd F.CTX_STATE_STATE c = 1 ∨ s.rd F.CTX_STATE_STATE c = 2 ∨ s.rd F.CTX_STATE_STATE c = 3

/-- Instances that a register file does not tell apart read the same. -/
theorem State.rd_mod {i j : Nat} (h : i % 2 ^ 20 = j % 2 ^ 20) (s : State) (f : Fld) : s.rd f i = s.rd f j := by
  unfold rd regKey
  rw [h]

theorem regKey_ne_of_mod {i j : Nat} (h : i % 2 ^ 20 ≠ j % 2 ^ 20) (f : Fld) : regKey f i ≠ regKey f j := by
  unfold regKey
  omega

theorem State.ctxRuns_syncCtx {s : State} {c : Nat} (h : CtxRuns s c) (k : Nat) : CtxRuns (s.syncCtx k) c := by
  unfold syncCtx
  extract_lets fs u st
  have hu : CtxRuns u c := by
    unfold CtxRuns
    rwa [s.rd_wr_id _ _ _ (by decide)]
  split
  · by_cases hk : k % 2 ^ 20 = c % 2 ^ 20
    · unfold CtxRuns
      rw [← State.rd_mod hk, State.rd_wr_same]
      split
      · exact .inr (.inr rfl)
      · split
        · exact .inl rfl
        · exact .inr (.inl rfl)
    · unfold CtxRuns
      rwa [u.rd_wr_key _ (regKey_ne_of_mod hk _)]
  · exact hu

/-- Completions leave the states of contexts. -/
theorem State.ctxState_flushFrom (n : Nat) (s : State) (k c : Nat) :
    (State.flushFrom n s k).rd F.CTX_STATE_STATE c = s.rd F.CTX_STATE_STATE c := by
  induction n generalizing s with
  | zero => rfl
  | succ n ih =>
    unfold flushFrom
    split
    · next f _ =>
      split
      · refine (ih _).trans ?_
        show State.rd (if f.follower then s else s.complete f _ true) _ _ = _
        split
        · rfl
        · exact ctxState_complete ..
      · rfl
    · rfl

theorem State.ctxRuns_endFrames {s : State} {c : Nat} (h : CtxRuns s c) (p : Frame → Bool) (status : Nat) :
    CtxRuns (s.endFrames p status) c := by
  unfold endFrames
  extract_lets hit u v
  have hu : CtxRuns u c :=
    List.foldlRecOn (motive := fun t : State => CtxRuns t c) hit _ h fun t ht f _ => by
      unfold breakDecode
      split
      · split
        · unfold CtxRuns
          rwa [t.rd_wr_id _ _ _ (by decide)]
        · exact ht
      · exact ht
  refine List.foldlRecOn (motive := fun t : State => CtxRuns t c) _ _ hu fun t ht k _ => ctxRuns_syncCtx ?_ k
  unfold CtxRuns
  rwa [ctxState_flushFrom]

/-! ### Contexts through an abort (R488) -/

/-- Contexts that run run on, and none leaves its binding. -/
structure CtxsStay (s t : State) : Prop where
  runs : ∀ c, CtxRuns s c → CtxRuns t c
  on : ∀ b, s.ctxsOn b ⊆ t.ctxsOn b

namespace CtxsStay

theorem refl (s : State) : CtxsStay s s := ⟨fun _ h => h, fun _ => List.Subset.refl _⟩

theorem trans {s t u : State} (h : CtxsStay s t) (h' : CtxsStay t u) : CtxsStay s u :=
  ⟨fun c hc => h'.runs c (h.runs c hc), fun b => List.Subset.trans (h.on b) (h'.on b)⟩

theorem of_rd {s t : State} (hrd : ∀ c, t.rd F.CTX_STATE_STATE c = s.rd F.CTX_STATE_STATE c)
    (hctxs : t.bnd.ctxs = s.bnd.ctxs) : CtxsStay s t := by
  refine ⟨fun c hc => ?_, fun b => ?_⟩
  · unfold CtxRuns
    rwa [hrd]
  · unfold State.ctxsOn
    rw [hctxs]
    exact List.Subset.refl _

theorem of_onlyFields {s t : State} {l : List Fld} (h : OnlyFields s t l)
    (hl : ∀ x ∈ l, F.CTX_STATE_STATE.id ≠ x.id) : CtxsStay s t :=
  of_rd (fun c => h.2 _ c hl) (congrArg (·.ctxs) h.bnd)

end CtxsStay

/-- Of a table's entries the write of a key replaces at most the first of that key. -/
theorem Tab.mem_insert_or_replaced {α : Type} {m : SMap α} {e : Nat × α} (h : e ∈ m) (k : Nat) (v : α) :
    e ∈ insert m k v ∨ m.find? (·.1 == k) = some e := by
  induction m with
  | nil => cases h
  | cons x m ih =>
    obtain ⟨j, w⟩ := x
    unfold insert
    split
    · next hlt =>
      rcases List.mem_cons.1 h with rfl | h
      · exact .inl List.mem_cons_self
      · refine (ih h).imp (List.mem_cons_of_mem _) fun hfound => ?_
        rw [List.find?_cons, beq_false_of_ne (Nat.ne_of_lt hlt)]
        exact hfound
    · split
      · next hj =>
        rcases List.mem_cons.1 h with rfl | h
        · exact .inr (by simp [hj])
        · exact .inl (List.mem_cons_of_mem _ h)
      · exact .inl (List.mem_cons_of_mem _ h)

theorem State.mem_ctxsOn {s : State} {b c : Nat} : c ∈ s.ctxsOn b ↔ ∃ x, (c, x) ∈ s.bnd.ctxs ∧ x.binding = b := by
  unfold ctxsOn
  simp only [List.mem_filterMap, Option.ite_none_right_eq_some, Option.some.injEq]
  constructor
  · rintro ⟨⟨c', x⟩, hmem, hb, rfl⟩
    exact ⟨x, hmem, hb⟩
  · rintro ⟨x, hmem, hb⟩
    exact ⟨(c, x), hmem, hb, rfl⟩

/-- A refresh cause noted leaves every context on its binding. -/
theorem State.ctxsStay_addCause (s : State) (c cause : Nat) : CtxsStay s (s.addCause c cause) := by
  unfold addCause
  split
  · next x hx =>
    split
    · exact .refl s
    · refine ⟨fun _ h => h, fun b k hk => ?_⟩
      obtain ⟨y, hy, hyb⟩ := mem_ctxsOn.1 hk
      refine mem_ctxsOn.2 ?_
      rcases Tab.mem_insert_or_replaced hy c { x with causes := x.causes ++ [cause] } with hin | hfound
      · exact ⟨y, hin, hyb⟩
      · unfold ctx? at hx
        rw [hfound] at hx
        obtain rfl : y = x := Option.some.inj hx
        obtain rfl : k = c := by simpa using List.find?_some hfound
        exact ⟨_, Tab.mem_insert_same .., hyb⟩
  · exact .refl s

theorem State.ctxsStay_stopRunning (s : State) (b status : Nat) : CtxsStay s (s.stopRunning b status) := by
  cases hb : s.binding? b with
  | none =>
    rw [show s.stopRunning b status = s by simp only [stopRunning, hb]]
    exact .refl s
  | some x =>
    cases hr : x.running with
    | none =>
      rw [stopRunning_of_idle hb hr]
      exact .refl s
    | some c =>
      rw [stopRunning_of_running hb hr]
      have hends := (s.dropRun b c x).endFrames_endsOnly (fun f => f.ctx == c && f.stage == .running) status
      refine CtxsStay.trans (t := s.dropRun b c x) (.of_rd (fun _ => rfl) rfl)
        ⟨fun k hk => ctxRuns_endFrames hk _ _, fun k => ?_⟩
      unfold EndsOnly at hends
      rw [hends]
      exact List.Subset.refl _

theorem State.ctxsStay_contextAbort (s : State) (b : BindIx) : CtxsStay s (s.contextAbort b) := by
  unfold contextAbort abortRunning
  split
  · exact .refl s
  · next x _ =>
    split
    · exact .refl s
    · dsimp only
      split
      · exact .of_rd (fun _ => rfl) rfl
      · have hbump := CtxsStay.of_onlyFields (s.bumpAborts_onlyFields x.parts) (by decide)
        exact ((hbump.trans (ctxsStay_addCause ..)).trans (ctxsStay_stopRunning ..)).trans (.of_rd (fun _ => rfl) rfl)

/-- The latch of an abort: the fault and its detail. -/
def State.latchAbort (s : State) (p c detail : Nat) : State :=
  (s.faultCtx p c 1 5 0x7F).wr F.PART_RECOVERY_DETAIL p detail

theorem State.latchAbort_onlyFields (s : State) (p c detail : Nat) :
    OnlyFields s (s.latchAbort p c detail) (F.PART_RECOVERY_DETAIL :: latchFields) :=
  ((s.faultCtx_onlyFields p c 1 5 0x7F).mono fun _ hx => List.mem_cons_of_mem _ hx).wr _ _ _ List.mem_cons_self

theorem State.ctxsStay_abortWith (s : State) (b : BindIx) (p detail : Nat) : CtxsStay s (s.abortWith b p detail) := by
  unfold abortWith
  split
  · exact .refl s
  · next c _ =>
    exact (CtxsStay.of_onlyFields (s.latchAbort_onlyFields p c detail) (by decide)).trans
      (ctxsStay_contextAbort (s.latchAbort p c detail) b)

/-- After an abort the binding runs no frame. -/
theorem State.abortWith_idle (s : State) (b : BindIx) (p detail : Nat) :
    ((s.abortWith b p detail).binding? b.val).bind Binding.running = none := by
  unfold abortWith
  split
  · assumption
  · next c hc =>
    obtain ⟨x, hb, hr⟩ := Option.bind_eq_some_iff.1 hc
    have hb' : (s.latchAbort p c detail).binding? b.val = some x :=
      ((EndsOnly.of_onlyFields (s.latchAbort_onlyFields p c detail)).binding? b.val).trans hb
    exact (contextAbort_abortBegun hb' hr).idle

/-! ### Contexts held (R186, R240) -/

/-- A context that runs is held with a cause of 2. -/
def State.holdIfRuns (s : State) (c : Nat) : State :=
  let st := s.rd F.CTX_STATE_STATE c
  if st = 1 ∨ st = 2 ∨ st = 3 then s.holdCtx c 2 else s

/-- The context is held for a peer that was lost. -/
def CtxHeld (s : State) (c : Nat) : Prop :=
  s.rd F.CTX_STATE_STATE c = 4 ∧ s.rd F.CTX_STATE_HOLD_CAUSE c = 2

theorem State.holdIfRuns_onlyFields (s : State) (c : Nat) : OnlyFields s (s.holdIfRuns c) holdFields :=
  .ite ((onlyFields_wr _ _ _ _ (by decide)).wr _ _ _ (by decide)) (.refl _ _)

theorem State.holdIfRuns_mod {i j : Nat} (h : i % 2 ^ 20 = j % 2 ^ 20) (s : State) :
    s.holdIfRuns i = s.holdIfRuns j := by
  unfold holdIfRuns holdCtx wr rd regKey
  rw [h]

theorem State.holdIfRuns_of_runs {s : State} {c : Nat} (h : CtxRuns s c) : s.holdIfRuns c = s.holdCtx c 2 := if_pos h

theorem State.holdIfRuns_of_not {s : State} {c : Nat} (h : ¬ CtxRuns s c) : s.holdIfRuns c = s := if_neg h

theorem State.ctxHeld_holdIfRuns_same {s : State} {c : Nat} (h : CtxRuns s c ∨ CtxHeld s c) :
    CtxHeld (s.holdIfRuns c) c := by
  rcases h with h | h
  · rw [holdIfRuns_of_runs h]
    exact ⟨(rd_wr_id _ _ _ _ (by decide)).trans (rd_wr_same ..), rd_wr_same ..⟩
  · have hnot : ¬ CtxRuns s c := by
      unfold CtxRuns
      rw [h.1]
      decide
    rwa [holdIfRuns_of_not hnot]

/-- Another context held leaves the registers of this one. -/
theorem State.rd_holdIfRuns_other {i c : Nat} (h : i % 2 ^ 20 ≠ c % 2 ^ 20) (s : State) {f : Fld}
    (hf : f ∈ holdFields) :
    (s.holdIfRuns i).rd f c = s.rd f c := by
  have hids : ∀ f ∈ holdFields, ∀ g ∈ holdFields, g = f ∨ g.id ≠ f.id := by decide
  have hkey (g : Fld) (hg : g ∈ holdFields) : regKey g i ≠ regKey f c := by
    rcases hids f hf g hg with rfl | hid
    · exact regKey_ne_of_mod h g
    · exact regKey_inj_id hid
  unfold holdIfRuns
  dsimp only
  split
  · exact (rd_wr_key _ _ (hkey _ (by simp [holdFields]))).trans (rd_wr_key _ _ (hkey _ (by simp [holdFields])))
  · rfl

theorem State.ctxHeld_holdIfRuns {s : State} {c : Nat} (h : CtxHeld s c) (i : Nat) : CtxHeld (s.holdIfRuns i) c := by
  by_cases hi : i % 2 ^ 20 = c % 2 ^ 20
  · rw [State.holdIfRuns_mod hi]
    exact ctxHeld_holdIfRuns_same (.inr h)
  · unfold CtxHeld
    rwa [rd_holdIfRuns_other hi _ (by simp [holdFields]), rd_holdIfRuns_other hi _ (by simp [holdFields])]

theorem State.holdIfRuns_keeps {s : State} {c : Nat} (h : CtxRuns s c ∨ CtxHeld s c) (i : Nat) :
    CtxRuns (s.holdIfRuns i) c ∨ CtxHeld (s.holdIfRuns i) c := by
  by_cases hi : i % 2 ^ 20 = c % 2 ^ 20
  · rw [State.holdIfRuns_mod hi]
    exact .inr (ctxHeld_holdIfRuns_same h)
  · refine h.imp (fun hr => ?_) fun hh => ctxHeld_holdIfRuns hh i
    unfold CtxRuns
    rwa [rd_holdIfRuns_other hi _ (by simp [holdFields])]

/-- The contexts of a list that run are held. -/
def State.holdAll (s : State) (cs : List Nat) : State := cs.foldl State.holdIfRuns s

theorem State.holdAll_onlyFields (s : State) (cs : List Nat) : OnlyFields s (s.holdAll cs) holdFields :=
  .foldl _ (fun s c _ => s.holdIfRuns_onlyFields c) s

theorem State.ctxHeld_holdAll {s : State} {c : Nat} {cs : List Nat} (hc : c ∈ cs) (h : CtxRuns s c ∨ CtxHeld s c) :
    CtxHeld (s.holdAll cs) c := by
  obtain ⟨pre, post, rfl⟩ := List.append_of_mem hc
  unfold holdAll
  rw [List.foldl_append, List.foldl_cons]
  have hpre : CtxRuns (pre.foldl holdIfRuns s) c ∨ CtxHeld (pre.foldl holdIfRuns s) c :=
    List.foldlRecOn (motive := fun t => CtxRuns t c ∨ CtxHeld t c) pre _ h fun t ht i _ => holdIfRuns_keeps ht i
  exact List.foldlRecOn (motive := fun t => CtxHeld t c) post _ (ctxHeld_holdIfRuns_same hpre)
    fun t ht i _ => ctxHeld_holdIfRuns ht i

/-! ### `STEP_TIMEOUT` (R240) -/

/-- The job as it is after a loss: no `JOIN`, no token, no barrier, no frame to start. -/
def Job.lost (j : Job) : Job := { j with joins := [], tokens := [], arrived := none, start := none }

/-- The job of a binding marked BROKEN: its loss counted, its epoch advanced, its table emptied. -/
def State.breakJob (s : State) (b : Nat) (j : Job) : State :=
  let s := (s.wr F.WEFT_JOB_STATE_STATE b 3).bump F.WEFT_JOB_STATE_LOSSES b
  let s := s.wr F.WEFT_JOB_STATE_EPOCH b (s.rd F.WEFT_JOB_STATE_EPOCH b + 1)
  (s.wr F.WEFT_JOB_PEERS_JOINED b 0).setJob b j.lost

/-- The broken job's frame aborted and its contexts held. -/
def State.stopJob (s : State) (b : BindIx) : State :=
  (s.abortWith b b.val 4).holdAll ((s.abortWith b b.val 4).ctxsOn b.val)

/-- A lost peer registered: the class C fault and the event. -/
def State.noteLoss (s : State) (b : Nat) (missing : Nat) : State :=
  let handle := s.rd F.WEFT_JOB_STATE_HANDLE b
  (s.classC 240 (handle + 2 ^ 16 * missing)).event 3 (le 1 b ++ [0] ++ le 2 handle ++ le 2 missing)

theorem State.peerLost_eq (s : State) (b : BindIx) (j : Job) (step : Nat) : s.peerLost b j step =
    ((s.breakJob b.val j).stopJob b).noteLoss b.val (j.mask (j.others.filter fun p => !j.tokens.contains (step, p))) :=
  rfl

/-- Registers that the marking of a broken job writes. -/
def breakFields : List Fld :=
  [F.WEFT_JOB_STATE_STATE, F.WEFT_JOB_STATE_LOSSES, F.WEFT_JOB_STATE_EPOCH, F.WEFT_JOB_PEERS_JOINED]

/-- The registers of a broken job, from the state before. -/
structure JobBroken (s t : State) (b : Nat) : Prop where
  state : t.rd F.WEFT_JOB_STATE_STATE b = 3
  losses : Rises s t F.WEFT_JOB_STATE_LOSSES b 1
  epoch : t.rd F.WEFT_JOB_STATE_EPOCH b = (s.rd F.WEFT_JOB_STATE_EPOCH b + 1) % 16
  joined : t.rd F.WEFT_JOB_PEERS_JOINED b = 0

theorem JobBroken.after {s t u : State} {b : Nat} {l : List Fld} (h : JobBroken s t b) (hu : SameButFields t u l)
    (hl : ∀ f ∈ breakFields, ∀ x ∈ l, f.id ≠ x.id) : JobBroken s u b := by
  have hrd (f : Fld) (hf : f ∈ breakFields) : u.rd f b = t.rd f b := hu.rd f b (hl f hf)
  refine ⟨?_, ?_, ?_, ?_⟩
  · rw [hrd _ (by simp [breakFields]), h.state]
  · unfold Rises
    rw [hrd _ (by simp [breakFields])]
    exact h.losses
  · rw [hrd _ (by simp [breakFields]), h.epoch]
  · rw [hrd _ (by simp [breakFields]), h.joined]

theorem State.breakJob_broken (s : State) (b : Nat) (j : Job) : JobBroken s (s.breakJob b j) b := by
  have hset (t : State) (f : Fld) : (t.setJob b j.lost).rd f b = t.rd f b := rfl
  unfold breakJob
  dsimp only
  refine ⟨?_, ?_, ?_, ?_⟩
  · rw [hset, rd_wr_id _ _ _ _ (by decide), rd_wr_id _ _ _ _ (by decide), bump, bumpBy,
      rd_wr_id _ _ _ _ (by decide), rd_wr_same]
    rfl
  · unfold Rises
    rw [hset, rd_wr_id _ _ _ _ (by decide), rd_wr_id _ _ _ _ (by decide)]
    exact (rises_bump ..).trans (by rw [rd_wr_id _ _ _ _ (by decide)])
  · rw [hset, rd_wr_id _ _ _ _ (by decide), rd_wr_same, bump, bumpBy, rd_wr_id _ _ _ _ (by decide),
      rd_wr_id _ _ _ _ (by decide)]
    rfl
  · rw [hset, rd_wr_same]
    rfl

theorem State.breakJob_fields (s : State) (b : Nat) (j : Job) : SameButFields s (s.breakJob b j) breakFields := by
  have hregs : SameButFields s ((((s.wr F.WEFT_JOB_STATE_STATE b 3).bump F.WEFT_JOB_STATE_LOSSES b).wr
      F.WEFT_JOB_STATE_EPOCH b (((s.wr F.WEFT_JOB_STATE_STATE b 3).bump F.WEFT_JOB_STATE_LOSSES b).rd
      F.WEFT_JOB_STATE_EPOCH b + 1)).wr F.WEFT_JOB_PEERS_JOINED b 0) breakFields :=
    (((sameButFields_wr s _ _ _ (by decide)).wr _ _ _ (by decide)).wr _ _ _ (by decide)).wr _ _ _ (by decide)
  exact hregs.trans (.of_regs rfl _)

/-- What the end of a job's frame and the holding of its contexts leave. -/
theorem State.stopJob_keepsStores (s : State) (b : BindIx) : KeepsStores endingFields s (s.stopJob b) :=
  (s.abortWith_keepsStores b b.val 4).trans
    (.mono (.of_onlyFields (holdAll_onlyFields ..)) (by simp [holdFields, endingFields]))

theorem State.stopJob_weft (s : State) (b : BindIx) : (s.stopJob b).weft = s.weft := by
  unfold stopJob
  rw [(holdAll_onlyFields ..).1]
  exact (s.besideFrame_abortWith b b.val 4).weft

theorem State.stopJob_idle (s : State) (b : BindIx) :
    ((s.stopJob b).binding? b.val).bind Binding.running = none := by
  unfold stopJob
  rw [(EndsOnly.of_onlyFields (holdAll_onlyFields ..)).binding?]
  exact s.abortWith_idle b b.val 4

theorem State.stopJob_held {s : State} {b : BindIx} {c : Nat} (hc : c ∈ s.ctxsOn b.val) (h : CtxRuns s c) :
    CtxHeld (s.stopJob b) c := by
  have hstay := s.ctxsStay_abortWith b b.val 4
  exact ctxHeld_holdAll (hstay.on b.val hc) (.inl (hstay.runs c h))

theorem State.noteLoss_fields (s : State) (b missing : Nat) :
    SameButFields s (s.noteLoss b missing) (classCRegs ++ eventFields) :=
  SameButFields.trans ((s.classC_frame _ _).mono fun _ hx => List.mem_append_left _ hx)
    ((State.event_frame _ _ _).mono fun _ hx => List.mem_append_right _ hx)

theorem State.noteLoss_tables (s : State) (b missing : Nat) :
    (s.noteLoss b missing).bnd = s.bnd ∧ (s.noteLoss b missing).weft = s.weft := by
  unfold noteLoss
  dsimp only
  rw [event_eq, classC_eq]
  exact ⟨rfl, rfl⟩

theorem State.noteLoss_count (s : State) (b missing : Nat) :
    Rises s (s.noteLoss b missing) F.FAULT_CLASSC_COUNT 0 1 :=
  ((State.event_frame _ _ _).rd _ _ (by decide)).trans (s.classC_count ..)

theorem exec_stepTimeout_idle {b : BindIx} {s : State} {j : Job} (hj : s.job? b.val = some j) (ha : j.arrived = none) :
    exec (.stepTimeout b) s = .next s := by
  show execStepTimeout b s = _
  unfold execStepTimeout
  rw [hj]
  dsimp only
  rw [ha]

theorem exec_stepTimeout {b : BindIx} {s : State} {j : Job} {step : Nat} (hj : s.job? b.val = some j)
    (ha : j.arrived = some step) : exec (.stepTimeout b) s = .next (s.peerLost b j step) := by
  show execStepTimeout b s = _
  unfold execStepTimeout
  rw [hj]
  dsimp only
  rw [ha]

theorem stepTimeout_breaks {b : BindIx} {s : State} {j : Job} (hj : s.job? b.val = some j) (ha : j.arrived ≠ none) :
    Completes (.stepTimeout b) s fun t =>
      t.rd F.WEFT_JOB_STATE_STATE b.val = 3 ∧ Rises s t F.WEFT_JOB_STATE_LOSSES b.val 1 ∧
      t.rd F.WEFT_JOB_STATE_EPOCH b.val = (s.rd F.WEFT_JOB_STATE_EPOCH b.val + 1) % 16 ∧
      t.rd F.WEFT_JOB_PEERS_JOINED b.val = 0 ∧ t.job? b.val = some j.lost ∧
      (t.binding? b.val).bind Binding.running = none ∧
      (∀ c ∈ s.ctxsOn b.val, CtxRuns s c → CtxHeld t c) ∧
      Rises s t F.FAULT_CLASSC_COUNT 0 1 ∧ SameMemories s t := by
  obtain ⟨step, hstep⟩ := Option.ne_none_iff_exists'.1 ha
  refine ⟨_, exec_stepTimeout hj hstep, ?_⟩
  have hmem := sameMemories_of_memories (s.memories_peerLost b j step)
  have hbroken := s.breakJob_broken b.val j
  have hbreak := s.breakJob_fields b.val j
  have hjob : (s.breakJob b.val j).job? b.val = some j.lost := State.job?_setJob_same ..
  have hctxs : (s.breakJob b.val j).ctxsOn b.val = s.ctxsOn b.val := rfl
  rw [State.peerLost_eq] at hmem ⊢
  generalize s.breakJob b.val j = u at hbroken hbreak hjob hctxs hmem ⊢
  have hstop := u.stopJob_keepsStores b
  have hweft := u.stopJob_weft b
  have hidle := u.stopJob_idle b
  have hheld (c : Nat) (hc : c ∈ s.ctxsOn b.val) (hr : CtxRuns s c) : CtxHeld (u.stopJob b) c := by
    refine State.stopJob_held (hctxs ▸ hc) ?_
    unfold CtxRuns
    rwa [hbreak.rd _ _ (by decide)]
  generalize u.stopJob b = v at hstop hweft hidle hheld hmem ⊢
  generalize j.mask _ = missing at hmem ⊢
  have hnote := v.noteLoss_fields b.val missing
  obtain ⟨hbnd, hweft'⟩ := v.noteLoss_tables b.val missing
  obtain ⟨hstate, hlosses, hepoch, hjoined⟩ :=
    (hbroken.after hstop.fields (by decide)).after hnote (by decide)
  refine ⟨hstate, hlosses, hepoch, hjoined, ?_, ?_, fun c hc hr => ?_, ?_, hmem⟩
  · rw [State.job?_congr (congrArg (·.jobs) (hweft'.trans hweft)), hjob]
  · unfold State.binding?
    rw [hbnd]
    exact hidle
  · unfold CtxHeld
    rw [hnote.rd _ _ (by decide), hnote.rd _ _ (by decide)]
    exact hheld c hc hr
  · have hcount := v.noteLoss_count b.val missing
    rwa [Rises, hstop.rd _ _ (by decide), hbreak.rd _ _ (by decide)] at hcount

end Sys2Proof.Machine

namespace Sys2Proof.Machine
/-! PROOFS. Jobs form, run and break (R174, R236-R241). -/

/-- A `JOIN` of the job's own identity, in the words of O34. -/
theorem joinFlit_spec {f : Join} {s : State} {b : Nat} {j : Job} (hb : s.jobBinding? f.hdr.job.toNat = some b)
    (hj : s.job? b = some j) (hid : f.ident = j.ident) (hcount : f.count = j.nodes.length)
    (hp : f.participant ∈ j.others) {e : Nat} (he : (s.takeEpoch b f.hdr.epoch.toNat).rd F.WEFT_JOB_STATE_EPOCH b = e)
    {inst : Decidable (s.rd F.WEFT_JOB_STATE_STATE b ≠ 0 ∧ (j.joinedBy f).complete e)} :
    Completes (.joinFlit f) s fun t =>
      t.rd F.WEFT_JOB_STATE_EPOCH b = e ∧ t.job? b = some (j.joinedBy f) ∧
      t.rd F.WEFT_JOB_STATE_STATE b = (if s.rd F.WEFT_JOB_STATE_STATE b ≠ 0 ∧ (j.joinedBy f).complete e then 2
        else s.rd F.WEFT_JOB_STATE_STATE b) ∧
      (∀ k ≠ b, t.job? k = s.job? k) ∧
      t = { s with regs := t.regs, weft := { s.weft with jobs := t.weft.jobs } } ∧
      SameBut s t [(F.WEFT_JOB_STATE_STATE, b), (F.WEFT_JOB_STATE_EPOCH, b), (F.WEFT_JOB_PEERS_JOINED, b)] := by
  obtain ⟨t, hexec, rfl⟩ := joinFlit_registers hb hj hid hcount hp
  refine ⟨_, hexec, ?_⟩
  obtain ⟨honly, htake⟩ := s.takeEpoch_onlyRegs b f.hdr.epoch.toNat
  generalize s.takeEpoch b f.hdr.epoch.toNat = u at he honly htake ⊢
  have hform := u.tryForm_sameBut b (j.joinedBy f)
  have heq := u.tryForm_only b (j.joinedBy f)
  have hstate : u.rd F.WEFT_JOB_STATE_STATE b = s.rd F.WEFT_JOB_STATE_STATE b :=
    htake _ _ fun x hx => regKey_inj_id (by
      obtain rfl := List.mem_singleton.1 hx
      exact show F.WEFT_JOB_STATE_STATE.id ≠ F.WEFT_JOB_STATE_EPOCH.id by decide)
  have hjobs : (u.tryForm b (j.joinedBy f)).weft.jobs = (s.setJob b (j.joinedBy f)).weft.jobs := by
    rw [heq, honly]
    rfl
  refine ⟨?_, ?_, ?_, fun k hk => ?_, ?_, ?_⟩
  · refine (hform _ _ fun x hx => regKey_inj_id ?_).trans he
    simp only [List.mem_cons, List.not_mem_nil, or_false] at hx
    rcases hx with rfl | rfl
    · exact show F.WEFT_JOB_STATE_EPOCH.id ≠ F.WEFT_JOB_STATE_STATE.id by decide
    · exact show F.WEFT_JOB_STATE_EPOCH.id ≠ F.WEFT_JOB_PEERS_JOINED.id by decide
  · rw [State.job?_congr hjobs, State.job?_setJob_same]
  · exact State.jobState_tryForm hstate he _
  · rw [State.job?_congr hjobs, State.job?_setJob_other _ _ hk]
  · rw [heq, honly]
  · exact SameBut.trans (htake.mono fun x hx => by simp [List.mem_singleton.1 hx])
      (hform.mono fun x hx => by
        simp only [List.mem_cons, List.not_mem_nil, or_false] at hx ⊢
        exact hx.imp_right .inr)

/-- A `JOIN` that is not registered. -/
theorem joinFlit_other {f : Join} {s : State} {b : Nat} {j : Job} (hb : s.jobBinding? f.hdr.job.toNat = some b)
    (hj : s.job? b = some j) :
    (f.ident ≠ j.ident → (s.rd F.WEFT_JOB_STATE_STATE b = 1 ∧ s.bnd.cmd = some (.bind b)) → s.bnd.toClose = [] →
      Completes (.joinFlit f) s fun t => EndsWith s t 0x0D ∧ t.binding? b = none) ∧
    (f.ident ≠ j.ident → ¬ (s.rd F.WEFT_JOB_STATE_STATE b = 1 ∧ s.bnd.cmd = some (.bind b)) →
      exec (.joinFlit f) s = .next s) ∧
    (f.ident = j.ident → ¬ (f.count = j.nodes.length ∧ f.participant ∈ j.others) →
      exec (.joinFlit f) s = .next s) := by
  have hexec := exec_joinFlit hb hj
  refine ⟨fun hid hforming hc => ⟨_, hexec.trans ((if_pos hid).trans (if_pos hforming)),
    State.failBind_ends b hc (by decide)⟩, fun hid hnot => hexec.trans ((if_pos hid).trans (if_neg hnot)),
    fun hid hnot => hexec.trans ((if_neg (not_not.2 hid)).trans (if_pos ?_))⟩
  rw [List.contains_iff_mem]
  exact not_and_or.1 hnot

/-- The tick of a part that is forming or broken, in the words of O34. -/
theorem joinSendTick_spec {b : BindIx} {s : State} {j : Job} {x : Binding} (hj : s.job? b.val = some j)
    (hb : s.binding? b.val = some x)
    (hst : s.rd F.WEFT_JOB_STATE_STATE b.val = 1 ∨ s.rd F.WEFT_JOB_STATE_STATE b.val = 3) :
    Completes (.joinSendTick b) s fun t =>
      (∀ q ∈ j.others, ∀ k, s.hopTo (j.nodes.getD q 0) = some k →
        FlitOut t k (.flit k "JOIN" (j.nodes.getD q 0 :: s.joinArgs b.val j
          (x.parts.map fun p => s.rd F.PART_GEN_GEN p)))) ∧
      t = { s with regs := t.regs, out := t.out,
                   weft := { s.weft with replay := t.weft.replay, waiting := t.weft.waiting } } ∧
      SameButFields s t [I.lseq] := by
  have hflits := s.sendJoins_flitsOnly b.val j (x.parts.map fun p => s.rd F.PART_GEN_GEN p)
  exact ⟨_, (exec_joinSendTick hj hb).trans (if_pos hst), fun q hq k hk => State.sendJoins_out hq hk .., hflits.only,
    hflits.fields⟩

theorem joinWindowExpire_spec (b : BindIx) (s : State) :
    (s.rd F.WEFT_JOB_STATE_STATE b.val = 1 → s.bnd.cmd = some (.bind b.val) → s.bnd.toClose = [] →
      Completes (.joinWindowExpire b) s fun t => EndsWith s t 0x0D ∧ t.binding? b.val = none) ∧
    ((s.rd F.WEFT_JOB_STATE_STATE b.val ≠ 1 ∨ s.bnd.cmd ≠ some (.bind b.val)) →
      exec (.joinWindowExpire b) s = .next s) :=
  ⟨fun hst hcmd hc => ⟨_, (exec_joinWindowExpire b s).trans (if_pos ⟨hst, hcmd⟩),
      State.failBind_ends b.val hc (by decide)⟩,
    fun h => (exec_joinWindowExpire b s).trans (if_neg fun hand => h.elim (· hand.1) (· hand.2))⟩

/-- Settles O34: a `JOIN` registers in two steps, the epoch (`State.takeEpoch`) and the table with the state
(`State.tryForm`); a lost peer stops the job's frame, which leaves its contexts running on their binding
(`State.ctxsStay_abortWith`) until each is held. -/
theorem jobsFormRunAndBreak : Obligations.JobsFormRunAndBreak := by
  unfold Obligations.JobsFormRunAndBreak
  refine ⟨fun f s => ⟨exec_joinFlit_unknown, fun b j hb hj => ?_⟩, fun b s => ⟨fun j x hj hx => ⟨fun hst => ?_,
    fun h1 h3 => ?_⟩, (joinWindowExpire_spec b s).1, (joinWindowExpire_spec b s).2, fun j hj =>
    ⟨exec_stepTimeout_idle hj, fun ha => ?_⟩⟩, fun h step who c age frame s => ⟨fun hb => ?_, fun b j hb hj =>
    ⟨fun hcur => ?_, fun hcur => ⟨frameStartFlit_registers hb hj hcur c age frame, barrierFlit_stranger hb hj hcur,
    barrierFlit_registers hb hj hcur⟩⟩⟩, fun m s => ⟨fun htag => ?_, fun htag hb => stale_of
    (exec_jobDataMsg_unknown htag hb), fun j x htag hj hx => jobDataMsg_current htag hj hx⟩⟩
  · obtain ⟨hfails, hforeign, hunknown⟩ := joinFlit_other hb hj
    exact ⟨hfails, hforeign, hunknown, fun hid hknown => joinFlit_spec hb hj hid hknown.1 hknown.2
      (s.epoch_takeEpoch b f.hdr.epoch)⟩
  · exact joinSendTick_spec hj hx hst
  · exact (exec_joinSendTick hj hx).trans (if_neg (not_or.2 ⟨h1, h3⟩))
  · obtain ⟨t, hexec, hstate, hlosses, hepoch, hjoined, hjob, hidle, hheld, hrest⟩ := stepTimeout_breaks hj ha
    exact ⟨t, hexec, hstate, hlosses, hepoch, hjoined, hjob, hidle, fun c hc h1 h3 => hheld c hc (by
      unfold CtxRuns
      omega), hrest⟩
  · obtain ⟨hbarrier, hstart⟩ := exec_job_unknown hb step who c age frame
    exact ⟨stale_of hbarrier, stale_of hstart⟩
  · obtain ⟨hbarrier, hstart⟩ := stale_flits hb hj hcur step who c age frame
    exact ⟨stale_of hbarrier, stale_of hstart⟩
  · obtain ⟨hviol, -, hmem, -⟩ := s.weftViolation_spec 231 m.hdr.src.val
    exact ⟨_, exec_jobDataMsg_badTag htag, hviol, hmem⟩

end Sys2Proof.Machine

namespace Sys2Proof.Machine
/-! PROOFS. The contexts' table, refresh requests and the twin's answers (O26). -/

/-! ### The contexts' table -/

theorem State.ctx?_setCtx_other (s : State) {c k : Nat} (x : Ctx) (h : k ≠ c) : (s.setCtx c x).ctx? k = s.ctx? k := by
  unfold ctx? setCtx
  rw [Tab.find?_insert_other _ _ h]

/-- The contexts' table says which context a slot holds. -/
theorem State.ctx?_congr {s t : State} (h : t.bnd.ctxs = s.bnd.ctxs) (c : Nat) : t.ctx? c = s.ctx? c := by
  unfold ctx?
  rw [h]

/-- The context with a refresh cause among those pending. -/
def Ctx.addCause (x : Ctx) (k : Nat) : Ctx := if x.causes.contains k then x else { x with causes := x.causes ++ [k] }

theorem Ctx.causes_addCause (x : Ctx) (k j : Nat) : j ∈ (x.addCause k).causes ↔ j ∈ x.causes ∨ j = k := by
  unfold addCause
  split
  · next h =>
    have hk : k ∈ x.causes := List.contains_iff_mem.1 h
    exact ⟨.inl, fun hj => hj.elim id fun hj => hj ▸ hk⟩
  · simp

theorem Ctx.addCause_eq (x : Ctx) (k : Nat) : x.addCause k = { x with causes := (x.addCause k).causes } := by
  unfold addCause
  split <;> rfl

theorem State.ctx?_addCause (s : State) (c k : Nat) : (s.addCause c k).ctx? c = (s.ctx? c).map (·.addCause k) := by
  unfold addCause
  cases hx : s.ctx? c with
  | none => exact hx
  | some x =>
    dsimp only [Option.map_some]
    unfold Ctx.addCause
    split
    · exact hx
    · exact ctx?_setCtx ..

theorem State.ctx?_addCause_other (s : State) {c j : Nat} (k : Nat) (h : j ≠ c) :
    (s.addCause c k).ctx? j = s.ctx? j := by
  unfold addCause
  split
  · split
    · rfl
    · exact ctx?_setCtx_other _ _ h
  · rfl

/-! ### `CTX_FORCE_REFRESH` (R148) -/

theorem exec_ctxForceRefresh (path : Path) (s : State) :
    let c := s.rd F.CTX_SEL_SEL (pathIx path)
    exec (.ctxForceRefresh path) s = .next (if (s.planOf c).isSome then s.addCause c 8 else s) := by
  show execCtxForceRefresh path s = _
  unfold execCtxForceRefresh
  dsimp only
  split <;> rfl

/-! ### The twin's answers (R158, R217, R218) -/

theorem DeltaSt.carriedInit_setCarried (d : DeltaSt) (bs : List Byte) (init : Bool) :
    (d.setCarried bs init).carriedInit = init := by
  unfold setCarried
  split <;> rfl

/-- The tensors given are those that the header selects. -/
theorem DeltaSt.selected_setCarried (d : DeltaSt) (bs : List Byte) (init : Bool) :
    (if (d.setCarried bs init).sel then (d.setCarried bs init).carried1 else (d.setCarried bs init).carried0) = bs := by
  unfold setCarried
  split <;> rfl

/-- A context whose fetch is over, with the carried tensors that it gave. -/
def Ctx.fetched (x : Ctx) (bs : List Byte) (init : Bool) : Ctx :=
  { x with fetching := false, delta := x.delta.setCarried bs init }

theorem State.breakDecode_onlyRegs (s : State) (c : Nat) : OnlyRegs s (s.breakDecode c) [(F.CTX_DECODE_BROKEN, c)] := by
  unfold breakDecode
  split
  · exact onlyRegs_wr ..
  · exact .refl s _

/-- The codec is that of the bundle unless the context's register names one. -/
theorem State.codec_setCtx {s : State} {c : Nat} {x y : Ctx} (hx : s.ctx? c = some x) (hy : y.handle = x.handle) :
    (s.setCtx c y).codec c = s.codec c := by
  have hhdr : (s.setCtx c y).hdrOf c = s.hdrOf c := by
    unfold hdrOf
    rw [ctx?_setCtx, hx, Option.bind_some, Option.bind_some, hy]
    rfl
  unfold codec
  rw [hhdr]
  rfl

section

variable {c : CtxIx} {z : Ctx} {s : State}

theorem exec_twinFetchReply (hz : s.ctx? c.val = some z) (st : ShadowState) : exec (.twinFetchReply c st) s =
    .next (if z.fetching then
      (s.setCtx c.val (z.fetched st.carried false)).wr F.CTX_DECODE_BROKEN c.val (bit st.decodeBroken) else s) := by
  show execTwinFetchReply c st s = _
  rw [execTwinFetchReply, hz]
  dsimp only
  split <;> rfl

theorem exec_twinFetchTimeout (hz : s.ctx? c.val = some z) : exec (.twinFetchTimeout c) s =
    .next (if z.fetching then
      ((s.setCtx c.val (z.fetched [] true)).wr F.CTX_DELTA_STATUS_CARRIED_INIT c.val 1).breakDecode c.val else s) := by
  show execTwinFetchTimeout c s = _
  rw [execTwinFetchTimeout, hz]
  dsimp only
  split <;> rfl

/-- Tensors received: a context that fetches has them, and its decode region is the twin's. -/
theorem twinFetchReply_spec (hz : s.ctx? c.val = some z) (hf : z.fetching = true) (st : ShadowState) :
    Completes (.twinFetchReply c st) s fun t =>
      (∃ z' : Ctx, t.ctx? c.val = some z' ∧ z'.fetching = false ∧ z'.delta.carriedInit = false ∧
        (if z'.delta.sel then z'.delta.carried1 else z'.delta.carried0) = st.carried) ∧
      t.rd F.CTX_DECODE_BROKEN c.val = bit st.decodeBroken ∧ (∀ k ≠ c.val, t.ctx? k = s.ctx? k) ∧
      t = { s with regs := t.regs, bnd := { s.bnd with ctxs := t.bnd.ctxs } } ∧
      SameBut s t [(F.CTX_DECODE_BROKEN, c.val)] := by
  refine ⟨_, (exec_twinFetchReply hz st).trans (congrArg _ (if_pos hf)), ⟨z.fetched st.carried false, s.ctx?_setCtx ..,
    rfl, DeltaSt.carriedInit_setCarried .., DeltaSt.selected_setCarried ..⟩, ?_, fun k hk => s.ctx?_setCtx_other _ hk,
    rfl, sameBut_wr (s.setCtx _ _) _ _ _ (List.mem_singleton.2 rfl)⟩
  rw [State.rd_wr_same]
  cases st.decodeBroken <;> rfl

/-- No answer: the carried tensors take their initial values, and a video context's decode state is broken. -/
theorem twinFetchTimeout_spec (hz : s.ctx? c.val = some z) (hf : z.fetching = true) :
    Completes (.twinFetchTimeout c) s fun t =>
      (∃ z' : Ctx, t.ctx? c.val = some z' ∧ z'.fetching = false ∧ z'.delta.carriedInit = true) ∧
      t.rd F.CTX_DELTA_STATUS_CARRIED_INIT c.val = 1 ∧
      (isVideo (s.codec c.val) = true → t.rd F.CTX_DECODE_BROKEN c.val = 1) ∧
      (∀ k ≠ c.val, t.ctx? k = s.ctx? k) ∧
      t = { s with regs := t.regs, bnd := { s.bnd with ctxs := t.bnd.ctxs } } ∧
      SameBut s t [(F.CTX_DECODE_BROKEN, c.val), (F.CTX_DELTA_STATUS_CARRIED_INIT, c.val)] := by
  set u := (s.setCtx c.val (z.fetched [] true)).wr F.CTX_DELTA_STATUS_CARRIED_INIT c.val 1 with hu
  obtain ⟨honly, hsame⟩ := u.breakDecode_onlyRegs c.val
  have hctx (k : Nat) : (u.breakDecode c.val).ctx? k = (s.setCtx c.val (z.fetched [] true)).ctx? k := by
    rw [honly]
    rfl
  refine ⟨_, (exec_twinFetchTimeout hz).trans (congrArg _ (if_pos hf)), ⟨z.fetched [] true, ?_, rfl,
    DeltaSt.carriedInit_setCarried ..⟩, ?_, fun hvideo => ?_, fun k hk => ?_, ?_, ?_⟩
  · rw [hctx, State.ctx?_setCtx]
  · rw [(u.breakDecode_onlyFields c.val).rd _ _ (by decide), hu, State.rd_wr_same]
    rfl
  · have hcodec : u.codec c.val = s.codec c.val :=
      (State.codec_wr _ _ _ _ (by decide)).trans (State.codec_setCtx hz rfl)
    rw [State.breakDecode, hcodec, if_pos hvideo, State.rd_wr_same]
    rfl
  · rw [hctx, s.ctx?_setCtx_other _ hk]
  · rw [honly]
    rfl
  · exact SameBut.trans (t := u) (sameBut_wr (s.setCtx _ _) _ _ _ (by simp)) (hsame.mono (by simp))

end

/-- Settles O26: a cause joins those pending (`Ctx.addCause`); either answer of a fetch ends it with the carried
tensors given (`Ctx.fetched`). -/
theorem refreshCausesAndTwinAnswers : Obligations.RefreshCausesAndTwinAnswers := by
  unfold Obligations.RefreshCausesAndTwinAnswers
  refine ⟨fun path s => ⟨fun z hz hplan => ?_, fun hplan => ?_⟩, fun c st z s hz => ⟨fun hf =>
    ⟨twinFetchReply_spec hz hf st, twinFetchTimeout_spec hz hf⟩, fun hf => ⟨?_, ?_⟩⟩⟩
  · refine ⟨_, (exec_ctxForceRefresh path s).trans (congrArg _ (if_pos hplan)), ⟨z.addCause 8, ?_, ?_, fun k hk => ?_,
      z.addCause_eq 8⟩, fun k hk => s.ctx?_addCause_other 8 hk, s.addCause_eq _ 8⟩
    · rw [State.ctx?_addCause, hz, Option.map_some]
    · exact (z.causes_addCause 8 8).2 (.inr rfl)
    · exact (z.causes_addCause 8 k).2 (.inl hk)
  · rw [exec_ctxForceRefresh, hplan]
    rfl
  · rw [exec_twinFetchReply hz, hf]
    rfl
  · rw [exec_twinFetchTimeout hz, hf]
    rfl

end Sys2Proof.Machine

namespace Sys2Proof.Machine
/-! PROOFS. Contexts opened and resumed (O24). -/

/-! ### The state of a context that runs (R182) -/

/-- The state that a context takes from its frames: RUNNING, READY or QUEUED. -/
def State.frameState (s : State) (c : Nat) : Nat :=
  if (s.framesOf c).any (fun f => f.stage == .running) then 3 else if (s.framesOf c).isEmpty then 1 else 2

theorem State.frameState_lt (s : State) (c : Nat) : s.frameState c < 8 := by
  unfold frameState
  split
  · decide
  · split <;> decide

/-- A context that is neither free, held nor closing takes its state from its frames. -/
theorem State.ctxState_syncCtx {s : State} {c : Nat} (h : CtxRuns s c) :
    (s.syncCtx c).rd F.CTX_STATE_STATE c = s.frameState c := by
  have hu : (s.wr F.CTX_STATE_QUEUED c (min 255 (s.framesOf c).length)).rd F.CTX_STATE_STATE c =
      s.rd F.CTX_STATE_STATE c := s.rd_wr_id _ _ _ (by decide)
  unfold syncCtx
  dsimp only
  rw [hu, if_pos (show _ ∨ _ from h), rd_wr_same]
  exact Nat.mod_eq_of_lt (s.frameState_lt c)

theorem State.syncCtx_onlyRegs (s : State) (c : Nat) :
    OnlyRegs s (s.syncCtx c) [(F.CTX_STATE_STATE, c), (F.CTX_STATE_QUEUED, c)] := by
  unfold syncCtx
  extract_lets fs u st
  have hu : OnlyRegs s u [(F.CTX_STATE_STATE, c), (F.CTX_STATE_QUEUED, c)] :=
    (onlyRegs_wr ..).mono (by simp)
  split
  · exact hu.wr _ _ _ (by simp)
  · exact hu

/-! ### Commands that act on registers and contexts -/

/-- Registers alone change: nothing is granted. -/
theorem OnlyRegs.nothingGranted {s t : State} {l : List (Fld × Nat)} (h : OnlyRegs s t l) : NothingGranted s t l := by
  obtain ⟨honly, hsame⟩ := h
  refine ⟨?_, ?_, ?_, ?_, ?_, ?_, ?_, ?_, hsame⟩ <;> rw [honly]

/-- What `CTX_OPEN` looks at is as it was when the command was accepted. -/
theorem openCodes_accepted (s : State) (desc : Unit64) (x : Desc) : (accepted s desc).openCodes x = s.openCodes x := by
  obtain ⟨o, h⟩ := accepted_eq s desc
  rw [h]
  rfl

theorem freePlace?_accepted (s : State) (desc : Unit64) (b n : Nat) :
    (accepted s desc).freePlace? b n = s.freePlace? b n := by
  obtain ⟨o, h⟩ := accepted_eq s desc
  rw [h]
  rfl

theorem ctx?_accepted (s : State) (desc : Unit64) (c : Nat) : (accepted s desc).ctx? c = s.ctx? c := by
  obtain ⟨o, h⟩ := accepted_eq s desc
  rw [h]
  rfl

theorem rd_accepted (s : State) (desc : Unit64) (f : Fld) (i : Nat) : (accepted s desc).rd f i = s.rd f i := by
  obtain ⟨o, h⟩ := accepted_eq s desc
  rw [h]
  rfl

/-- The end of a command leaves every register but those of its outcome. -/
theorem State.rd_endCmd {s : State} (hc : s.bnd.toClose = []) (reason : Nat) (f : Fld) (i : Nat)
    (hf : ∀ z ∈ cmdEnd, f.id ≠ z.1.id) : (s.endCmd reason).rd f i = s.rd f i :=
  endCmd_sameBut hc reason f i fun z hz => regKey_inj_id (hf z hz)

/-! ### Reasons to refuse (R174, R183) -/

theorem State.openCodes_lt (s : State) (x : Desc) : ∀ r ∈ s.openCodes x, r < 256 := by
  unfold openCodes
  dsimp only
  split
  · decide
  · intro r hr
    simp only [List.mem_append, List.mem_ite_nil_left, List.mem_ite_nil_right, List.mem_singleton] at hr
    omega

/-- Without a reason to refuse the binding has a free place. -/
theorem State.freePlace?_of_openCodes {s : State} {x : Desc} (h : s.openCodes x = []) :
    ∃ k, s.freePlace? x.target 1 = some k := by
  unfold openCodes at h
  dsimp only at h
  split at h
  · cases h
  · obtain ⟨⟨⟨-, hplace⟩, -⟩, -⟩ : ((_ ∧ _) ∧ _) ∧ _ := by simpa only [List.append_eq_nil_iff] using h
    exact Option.ne_none_iff_exists'.1 fun hnone => by simp [hnone] at hplace

theorem exec_ctxOpen_refused {s : State} {desc : Unit64} (h : Accepted s desc) {x : Desc} (hx : Desc.of desc = x)
    (hok : (x.ownerOk && x.ctxOk && x.targetOk && x.spoolOk && decide (x.deadline < 2 ^ 20)) = true)
    {r : Nat} {rs : List Nat} (hcodes : s.openCodes x = r :: rs) :
    exec (.ctxOpen desc true) s = .next ((accepted s desc).endCmd r) := by
  subst hx
  refine congrArg Host.Outcome.next ((command_of_accepted h hok true _).trans ?_)
  rw [openCodes_accepted, hcodes]

theorem exec_ctxOpen_opens {s : State} {desc : Unit64} (h : Accepted s desc) {x : Desc} (hx : Desc.of desc = x)
    (hok : (x.ownerOk && x.ctxOk && x.targetOk && x.spoolOk && decide (x.deadline < 2 ^ 20)) = true)
    (hcodes : s.openCodes x = []) {y : Binding} (hy : s.binding? x.target = some y) {k : Nat}
    (hk : s.freePlace? x.target 1 = some k) :
    exec (.ctxOpen desc true) s = .next (((accepted s desc).openCtx x.ctx x y k).endCmd 0) := by
  subst hx
  refine congrArg Host.Outcome.next ((command_of_accepted h hok true _).trans ?_)
  rw [openCodes_accepted, hcodes, binding?_accepted, hy, freePlace?_accepted, hk]

/-! ### A context opened (R183) -/

/-- The registers that a context takes from its descriptor and its binding. -/
def State.openBase (s : State) (c : Nat) (x : Desc) (y : Binding) : State :=
  let s := (s.wr F.CTX_BUNDLE_BUNDLE c y.handle).wr F.CTX_BUNDLE_BINDING c x.target
  let s := (s.wr F.CTX_BUNDLE_OWNER c x.owner).wr F.CTX_SPOOL_SPOOL c x.spool
  let s := (s.wr F.CTX_DEADLINE_US_DEADLINE c x.deadline).wr F.CTX_SPILL_LEVEL c y.spill
  s.wr F.CTX_SPILL_SLOWDOWN_PCT c y.slowdown

/-- The registers that a context takes from its delta plan. -/
def planFields : List Fld :=
  [F.CTX_DELTA_STATUS_PLAN, F.CTX_DELTA_POLICY_ENABLE, F.CTX_DELTA_POLICY_STAGGER,
    F.CTX_DELTA_POLICY_REFRESH_ON_TAKEOVER, F.CTX_DELTA_POLICY_THRESH_SCALE, F.CTX_DELTA_POLICY_PEAK_FACTOR,
    F.CTX_DELTA_POLICY_SCENE_CUT, F.CTX_REFRESH_EVERY_N]

def baseFields : List Fld :=
  [F.CTX_BUNDLE_BUNDLE, F.CTX_BUNDLE_BINDING, F.CTX_BUNDLE_OWNER, F.CTX_SPOOL_SPOOL, F.CTX_DEADLINE_US_DEADLINE,
    F.CTX_SPILL_LEVEL, F.CTX_SPILL_SLOWDOWN_PCT]

def openFields : List Fld :=
  baseFields ++ planFields ++ [F.CTX_STATE_STATE, F.CTX_DECODE_BROKEN, F.CTX_STATE_HOLD_CAUSE]

theorem State.openBase_onlyFields (s : State) (c : Nat) (x : Desc) (y : Binding) :
    OnlyFields s (s.openBase c x y) baseFields :=
  ((((((onlyFields_wr s _ _ _ (by decide)).wr _ _ _ (by decide)).wr _ _ _ (by decide)).wr _ _ _ (by decide)).wr
    _ _ _ (by decide)).wr _ _ _ (by decide)).wr _ _ _ (by decide)

theorem State.openRegs_onlyFields (s : State) (c : Nat) (x : Desc) (y : Binding) (plan : Option DeltaPlan) :
    OnlyFields (s.openBase c x y) (s.openRegs c x y plan) planFields := by
  cases plan with
  | none => exact .refl _ _
  | some p =>
    exact (((((((onlyFields_wr _ _ _ _ (by decide)).wr _ _ _ (by decide)).wr _ _ _ (by decide)).wr
      _ _ _ (by decide)).wr _ _ _ (by decide)).wr _ _ _ (by decide)).wr _ _ _ (by decide)).wr _ _ _ (by decide)

/-- The context as it is entered in its slot. -/
def Desc.newCtx (x : Desc) (y : Binding) (place : Nat) : Ctx :=
  { owner := x.owner, handle := y.handle, binding := x.target, spool := x.spool, place := place, causes := [6] }

/-- The registers of a context entered in its slot, READY unless its binding is stopped. -/
def State.openState (s : State) (c : Nat) (y : Binding) : State :=
  let s := (s.wr F.CTX_STATE_STATE c 1).breakDecode c
  if y.phase = .stopped then s.holdCtx c 1 else s

theorem State.openCtx_eq (s : State) (c : Nat) (x : Desc) (y : Binding) (place : Nat) :
    ∃ plan, s.openCtx c x y place = ((s.setCtx c (x.newCtx y place)).openRegs c x y plan).openState c y :=
  ⟨_, rfl⟩

theorem State.openState_onlyFields (s : State) (c : Nat) (y : Binding) :
    OnlyFields s (s.openState c y) [F.CTX_STATE_STATE, F.CTX_DECODE_BROKEN, F.CTX_STATE_HOLD_CAUSE] := by
  have hu : OnlyFields s ((s.wr F.CTX_STATE_STATE c 1).breakDecode c)
      [F.CTX_STATE_STATE, F.CTX_DECODE_BROKEN, F.CTX_STATE_HOLD_CAUSE] := by
    have hready := onlyFields_wr s F.CTX_STATE_STATE c 1
      (l := [F.CTX_STATE_STATE, F.CTX_DECODE_BROKEN, F.CTX_STATE_HOLD_CAUSE]) (by decide)
    exact .ite (hready.wr _ _ _ (by decide)) hready
  exact .ite ((hu.wr _ _ _ (by decide)).wr _ _ _ (by decide)) hu

theorem State.rd_openState (s : State) (c : Nat) (y : Binding) :
    (s.openState c y).rd F.CTX_STATE_STATE c = (if y.phase = .stopped then 4 else 1) ∧
      (y.phase = .stopped → (s.openState c y).rd F.CTX_STATE_HOLD_CAUSE c = 1) := by
  unfold openState
  dsimp only
  split
  · refine ⟨?_, fun _ => rd_wr_same ..⟩
    rw [holdCtx, rd_wr_id _ _ _ _ (by decide), rd_wr_same]
    rfl
  · next hrun =>
    refine ⟨?_, fun h => absurd h hrun⟩
    rw [((s.wr F.CTX_STATE_STATE c 1).breakDecode_onlyRegs c).2 _ _ (by
      simpa using regKey_inj_id (show F.CTX_STATE_STATE.id ≠ F.CTX_DECODE_BROKEN.id by decide)), rd_wr_same]
    rfl

section

variable (s : State) (c : Nat) (x : Desc) (y : Binding) (place : Nat)

/-- Beside registers an opened context changes the contexts' table. -/
theorem State.openCtx_frame :
    s.openCtx c x y place =
      { s with regs := (s.openCtx c x y place).regs,
               bnd := { s.bnd with ctxs := Tab.insert s.bnd.ctxs c (x.newCtx y place) } } ∧
    SameButFields s (s.openCtx c x y place) openFields := by
  obtain ⟨plan, h⟩ := s.openCtx_eq c x y place
  set v := s.setCtx c (x.newCtx y place) with hv
  have hbase := v.openBase_onlyFields c x y
  have hplan := v.openRegs_onlyFields c x y plan
  have hstate := (v.openRegs c x y plan).openState_onlyFields c y
  have hall : OnlyFields v (s.openCtx c x y place) openFields := by
    rw [h]
    exact ((hbase.mono (by decide)).trans (hplan.mono (by decide))).trans (hstate.mono (by decide))
  exact ⟨hall.1, hall.2⟩

/-- A register of the descriptor's is as it was before the plan's and the state's were set. -/
theorem State.rd_openCtx (f : Fld) (hp : ∀ z ∈ planFields, f.id ≠ z.id)
    (hs : ∀ z ∈ [F.CTX_STATE_STATE, F.CTX_DECODE_BROKEN, F.CTX_STATE_HOLD_CAUSE], f.id ≠ z.id) :
    (s.openCtx c x y place).rd f c = (s.openBase c x y).rd f c := by
  obtain ⟨plan, h⟩ := s.openCtx_eq c x y place
  rw [h, (State.openState_onlyFields ..).rd f c hs, (State.openRegs_onlyFields ..).rd f c hp]
  rfl

theorem State.rd_openCtx_desc :
    (s.openCtx c x y place).rd F.CTX_BUNDLE_OWNER c = x.owner % 2 ^ 12 ∧
    (s.openCtx c x y place).rd F.CTX_BUNDLE_BINDING c = x.target % 2 ^ 4 ∧
    (s.openCtx c x y place).rd F.CTX_SPOOL_SPOOL c = x.spool % 2 ^ 10 ∧
    (s.openCtx c x y place).rd F.CTX_DEADLINE_US_DEADLINE c = x.deadline % 2 ^ 20 := by
  refine ⟨?_, ?_, ?_, ?_⟩ <;> rw [s.rd_openCtx c x y place _ (by decide) (by decide)] <;>
    simp (disch := decide) only [openBase, rd_wr_id, rd_wr_same] <;> rfl

theorem State.rd_openCtx_state :
    (s.openCtx c x y place).rd F.CTX_STATE_STATE c = (if y.phase = .stopped then 4 else 1) ∧
      (y.phase = .stopped → (s.openCtx c x y place).rd F.CTX_STATE_HOLD_CAUSE c = 1) := by
  obtain ⟨plan, h⟩ := s.openCtx_eq c x y place
  rw [h]
  exact State.rd_openState ..

end

/-- A context opened, in the words of O24. -/
theorem ctxOpen_opens {s : State} {desc : Unit64} (h : Accepted s desc) {x : Desc} (hx : Desc.of desc = x)
    (hok : (x.ownerOk && x.ctxOk && x.targetOk && x.spoolOk && decide (x.deadline < 2 ^ 20)) = true)
    (hcodes : s.openCodes x = []) {y : Binding} (hy : s.binding? x.target = some y) :
    Completes (.ctxOpen desc true) s fun t =>
      EndsWith s t 0 ∧
      (∃ z : Ctx, t.ctx? x.ctx = some z ∧ z.owner = x.owner ∧ z.handle = y.handle ∧ z.binding = x.target ∧
        z.spool = x.spool ∧ z.causes = [6] ∧ z.lastSeal = 0) ∧
      t.rd F.CTX_BUNDLE_OWNER x.ctx = x.owner ∧ t.rd F.CTX_BUNDLE_BINDING x.ctx = x.target ∧
      t.rd F.CTX_SPOOL_SPOOL x.ctx = x.spool ∧ t.rd F.CTX_DEADLINE_US_DEADLINE x.ctx = x.deadline ∧
      t.rd F.CTX_STATE_STATE x.ctx = (if y.phase = .stopped then 4 else 1) ∧
      (y.phase = .stopped → t.rd F.CTX_STATE_HOLD_CAUSE x.ctx = 1) ∧
      (∀ k ≠ x.ctx, t.ctx? k = s.ctx? k) ∧ t.bnd.bindings = s.bnd.bindings ∧ t.hbm = s.hbm ∧ t.beam = s.beam ∧
      t.arr = s.arr ∧ t.stw = s.stw := by
  obtain ⟨k, hk⟩ := State.freePlace?_of_openCodes hcodes
  refine ⟨_, exec_ctxOpen_opens h hx hok hcodes hy hk, ?_⟩
  obtain ⟨o, ho⟩ := accepted_eq s desc
  have hclose := accepted_toClose h
  have hrd := rd_accepted s desc
  generalize accepted s desc = v at ho hclose hrd ⊢
  obtain ⟨honly, hsame⟩ := v.openCtx_frame x.ctx x y k
  obtain ⟨howner, hbinding, hspool, hdeadline⟩ := v.rd_openCtx_desc x.ctx x y k
  obtain ⟨hstate, hhold⟩ := v.rd_openCtx_state x.ctx x y k
  generalize v.openCtx x.ctx x y k = u at honly hsame howner hbinding hspool hdeadline hstate hhold ⊢
  have huclose : u.bnd.toClose = [] := by rw [honly]; exact hclose
  have hend := State.rd_endCmd huclose 0
  have htaken : u.endCmd 0 = _ := State.endCmd_taken huclose 0
  have hctxs : (u.endCmd 0).bnd.ctxs = (s.setCtx x.ctx (x.newCtx y k)).bnd.ctxs := by
    rw [htaken, honly, ho]
    rfl
  simp only [Desc.ownerOk, Desc.targetOk, Desc.spoolOk, Bool.and_eq_true, decide_eq_true_eq] at hok
  refine ⟨?_, ⟨x.newCtx y k, ?_, rfl, rfl, rfl, rfl, rfl, rfl⟩, ?_, ?_, ?_, ?_, ?_, ?_, fun j hj => ?_, ?_⟩
  · exact EndsWith.of_rd (State.endCmd_endsWith huclose (by decide)) ((hsame.rd _ _ (by decide)).trans (hrd ..))
      ((hsame.rd _ _ (by decide)).trans (hrd ..))
  · exact (State.ctx?_congr hctxs _).trans (s.ctx?_setCtx ..)
  · rw [hend _ _ (by decide), howner]
    omega
  · rw [hend _ _ (by decide), hbinding]
    omega
  · rw [hend _ _ (by decide), hspool]
    omega
  · rw [hend _ _ (by decide), hdeadline]
    omega
  · rw [hend _ _ (by decide), hstate]
  · rw [hend _ _ (by decide)]
    exact hhold
  · exact (State.ctx?_congr hctxs _).trans (s.ctx?_setCtx_other _ hj)
  · refine ⟨?_, ?_, ?_, ?_, ?_⟩ <;> rw [htaken, honly, ho]

/-! ### `CTX_RESUME` (R186) -/

/-- A context that a lost peer held takes its state from its frames again. -/
def State.resumeCtx (s : State) (c : Nat) : State :=
  ((s.wr F.CTX_STATE_HOLD_CAUSE c 0).wr F.CTX_STATE_STATE c 1).syncCtx c

theorem State.resumeCtx_spec (s : State) (c : Nat) :
    (s.resumeCtx c).rd F.CTX_STATE_HOLD_CAUSE c = 0 ∧ (s.resumeCtx c).rd F.CTX_STATE_STATE c = s.frameState c ∧
      OnlyRegs s (s.resumeCtx c)
        [(F.CTX_STATE_STATE, c), (F.CTX_STATE_HOLD_CAUSE, c), (F.CTX_STATE_QUEUED, c)] := by
  set u := (s.wr F.CTX_STATE_HOLD_CAUSE c 0).wr F.CTX_STATE_STATE c 1 with hu
  have hruns : CtxRuns u c := .inl (State.rd_wr_same ..)
  refine ⟨?_, State.ctxState_syncCtx hruns, ?_⟩
  · rw [resumeCtx, (u.syncCtx_onlyFields c).rd _ _ (by decide), hu, State.rd_wr_id _ _ _ _ (by decide),
      State.rd_wr_same]
    rfl
  · exact (((onlyRegs_wr s _ _ _).mono (by simp)).wr _ _ _ (by simp)).trans ((u.syncCtx_onlyRegs c).mono (by simp))

theorem exec_ctxResume {s : State} {desc : Unit64} (h : Accepted s desc) {x : Desc} (hx : Desc.of desc = x)
    (hok : (x.ownerOk && x.ctxOk) = true) :
    (s.ctx? x.ctx = none → exec (.ctxResume desc true) s = .next ((accepted s desc).endCmd 0x01)) ∧
    (∀ z, s.ctx? x.ctx = some z → exec (.ctxResume desc true) s = .next (
      if z.owner ≠ x.owner then (accepted s desc).endCmd 0x03
      else if s.rd F.CTX_STATE_STATE x.ctx = 4 ∧ s.rd F.CTX_STATE_HOLD_CAUSE x.ctx = 2 then
        ((accepted s desc).resumeCtx x.ctx).endCmd 0
      else (accepted s desc).endCmd 0x16)) := by
  subst hx
  refine ⟨fun hnone => ?_, fun z hz => ?_⟩
  · refine congrArg Host.Outcome.next ((command_of_accepted h hok false _).trans ?_)
    rw [ctx?_accepted, hnone]
  · refine congrArg Host.Outcome.next ((command_of_accepted h hok false _).trans ?_)
    rw [ctx?_accepted, hz, rd_accepted, rd_accepted]
    rfl

/-- A context resumed, in the words of O24. -/
theorem ctxResume_resumes {s : State} {desc : Unit64} {c : Nat} (h : Accepted s desc)
    (hexec : exec (.ctxResume desc true) s = .next (((accepted s desc).resumeCtx c).endCmd 0)) :
    Completes (.ctxResume desc true) s fun t =>
      EndsWith s t 0 ∧ t.rd F.CTX_STATE_HOLD_CAUSE c = 0 ∧ t.rd F.CTX_STATE_STATE c = s.frameState c ∧
      NothingGranted s t (cmdEnd ++
        [(F.CTX_STATE_STATE, c), (F.CTX_STATE_HOLD_CAUSE, c), (F.CTX_STATE_QUEUED, c)]) := by
  set v := accepted s desc with hv
  obtain ⟨hhold, hstate, honly⟩ := v.resumeCtx_spec c
  have hclose : (v.resumeCtx c).bnd.toClose = [] := by
    rw [honly.1]
    exact accepted_toClose h
  have hframes : v.frameState c = s.frameState c := by
    obtain ⟨o, ho⟩ := accepted_eq s desc
    rw [hv, ho]
    rfl
  have hsame := SameBut.trans ((nothingGranted_accepted s desc _).2.2.2.2.2.2.2.2) honly.2
  refine ⟨_, hexec, (endCmd_after hclose (by decide) hsame ?_).1, ?_, ?_, ?_⟩
  · simp only [List.mem_cons, List.not_mem_nil, or_false, forall_eq_or_imp, forall_eq]
    decide
  · rw [State.rd_endCmd hclose _ _ _ (by decide), hhold]
  · rw [State.rd_endCmd hclose _ _ _ (by decide), hstate, hframes]
  · exact NothingGranted.trans (NothingGranted.trans (nothingGranted_accepted s desc _)
      (honly.mono fun z hz => List.mem_append_right _ hz).nothingGranted)
      (State.nothingGranted_endCmd hclose 0 fun z hz => List.mem_append_left _ hz)

/-- Settles O24: an opened context is entered and its registers set in two groups, the descriptor's
(`State.openBase`) and the plan's; a resumed one takes its state from its frames (`State.frameState`). -/
theorem contextsOpenAndResume : Obligations.ContextsOpenAndResume := by
  unfold Obligations.ContextsOpenAndResume
  intro desc s h
  generalize hx : Desc.of desc = x
  refine ⟨fun hok => ⟨fun r rs hcodes => ?_, fun hcodes y hy => ctxOpen_opens h hx hok hcodes hy⟩, fun hok => ?_⟩
  · exact refused h (exec_ctxOpen_refused h hx hok hcodes) (s.openCodes_lt x r (hcodes ▸ List.mem_cons_self))
  obtain ⟨hnone, hsome⟩ := exec_ctxResume h hx hok
  refine ⟨fun hc => refused h (hnone hc) (by decide), fun z hz => ⟨fun howner => ?_, fun howner hst hcause => ?_,
    fun howner hnot => ?_⟩⟩
  · exact refused h ((hsome z hz).trans (congrArg _ (if_pos howner))) (by decide)
  · refine ctxResume_resumes h ((hsome z hz).trans (congrArg _ ?_))
    rw [if_neg (not_not.2 howner), if_pos ⟨hst, hcause⟩]
  · refine refused h ((hsome z hz).trans (congrArg _ ?_)) (by decide)
    rw [if_neg (not_not.2 howner), if_neg (by tauto)]

end Sys2Proof.Machine

namespace Sys2Proof.Machine
/-! PROOFS. The twin's copies: taken in, updated, fetched from (R158, R246-R248). -/

/-! ### Messages and routes -/

/-- The route to a node is read from three fields. -/
theorem State.hopTo_of_fields {s t : State} {l : List Fld} (h : SameButFields s t l)
    (hl : ∀ x ∈ l, F.WEFT_ROUTE_DATA_VALID.id ≠ x.id ∧ F.WEFT_ROUTE_DATA_LINK.id ≠ x.id ∧
      F.WEFT_LINK_STATE_STATE.id ≠ x.id) (d : Nat) : t.hopTo d = s.hopTo d := by
  unfold hopTo linkUp on
  rw [h.rd _ _ fun x hx => (hl x hx).1, h.rd _ _ fun x hx => (hl x hx).2.1, h.rd _ _ fun x hx => (hl x hx).2.2]

/-- A message changes nothing but what is sent out. -/
theorem State.messageTo_eq (s : State) (d : Nat) (kind : String) (args : List Nat) :
    s.messageTo d kind args = { s with out := (s.messageTo d kind args).out } := by
  unfold messageTo
  split <;> rfl

theorem State.messages_messageTo (s : State) (d : Nat) (kind : String) (args : List Nat) :
    Messages s (s.messageTo d kind args) d kind args := by
  unfold Messages messageTo
  cases s.hopTo d <;> rfl

/-- A message of a state that has the same routes and has sent the same. -/
theorem Messages.of_same {s u t : State} {d : Nat} {kind : String} {args : List Nat} (h : Messages u t d kind args)
    (hhop : u.hopTo d = s.hopTo d) (hout : u.out = s.out) : Messages s t d kind args := by
  unfold Messages at h ⊢
  rwa [hhop, hout] at h

/-! ### The copies' table -/

theorem State.copy?_congr {s t : State} (h : t.weft.copies = s.weft.copies) (k : Nat) : t.copy? k = s.copy? k := by
  unfold copy?
  rw [h]

theorem State.copy?_setCopy_same (s : State) (k : Nat) (x : Copy) : (s.setCopy k x).copy? k = some x := by
  unfold copy? setCopy
  rw [Tab.find?_insert_same]
  rfl

theorem State.copy?_setCopy_other (s : State) {k j : Nat} (x : Copy) (h : j ≠ k) :
    (s.setCopy k x).copy? j = s.copy? j := by
  unfold copy? setCopy
  rw [Tab.find?_insert_other _ _ h]

/-! ### `SHADOW_REQUEST` (R246) -/

/-- The registers of a slot that takes a copy. -/
def State.copyRegs (s : State) (slot b primary : Nat) (x : Binding) : State :=
  let s := (s.wr F.CTX_STATE_STATE slot 6).wr F.CTX_SHADOW_ROLE slot 2
  let s := (s.wr F.CTX_BUNDLE_BUNDLE slot x.handle).wr F.CTX_BUNDLE_BINDING slot b
  let s := (s.wr F.CTX_BUNDLE_OWNER slot x.owner).wr F.CTX_SHADOW_STATUS_STATE slot 4
  s.wr F.CTX_SHADOW_STATUS_PRIMARY_CTX slot primary

def copyFields : List Fld :=
  [F.CTX_STATE_STATE, F.CTX_SHADOW_ROLE, F.CTX_BUNDLE_BUNDLE, F.CTX_BUNDLE_BINDING, F.CTX_BUNDLE_OWNER,
    F.CTX_SHADOW_STATUS_STATE, F.CTX_SHADOW_STATUS_PRIMARY_CTX]

theorem State.copyRegs_onlyFields (s : State) (slot b primary : Nat) (x : Binding) :
    OnlyFields s (s.copyRegs slot b primary x) copyFields :=
  ((((((onlyFields_wr s _ _ _ (by decide)).wr _ _ _ (by decide)).wr _ _ _ (by decide)).wr _ _ _ (by decide)).wr
    _ _ _ (by decide)).wr _ _ _ (by decide)).wr _ _ _ (by decide)

theorem State.rd_copyRegs (s : State) (slot b primary : Nat) (x : Binding) :
    (s.copyRegs slot b primary x).rd F.CTX_STATE_STATE slot = 6 ∧
    (s.copyRegs slot b primary x).rd F.CTX_SHADOW_ROLE slot = 2 ∧
    (s.copyRegs slot b primary x).rd F.CTX_SHADOW_STATUS_STATE slot = 4 ∧
    (s.copyRegs slot b primary x).rd F.CTX_SHADOW_STATUS_PRIMARY_CTX slot = primary % 2 ^ 16 := by
  refine ⟨?_, ?_, ?_, ?_⟩ <;> simp (disch := decide) only [copyRegs, rd_wr_id, rd_wr_same] <;> rfl

/-- The context of a copy on its accepting binding. -/
def Binding.copyCtx (x : Binding) (b place : Nat) : Ctx :=
  { owner := x.owner, handle := x.handle, binding := b, spool := 0, place := place }

/-- A copy taken into a slot, nothing of it committed. -/
def State.takeCopy (s : State) (slot b place node primary : Nat) (x : Binding) : State :=
  ((s.setCtx slot (x.copyCtx b place)).copyRegs slot b primary x).setCopy slot
    { node := node, primary := primary, binding := b }

section

variable (node : Node) (c : CtxIx) (m : BitVec 512) (fp : BitVec 256) (s : State)

theorem exec_shadowRequestMsg_config (h : s.rd F.WEFT_CFG_CONFIG 0 ≠ 3) :
    exec (.shadowRequestMsg node c m fp) s = .next (s.messageTo node.val "shadow reply" [c.val, 1, 0]) :=
  if_pos h

variable {node c m fp s}

theorem exec_shadowRequestMsg_unknown (h : s.rd F.WEFT_CFG_CONFIG 0 = 3) (hbs : s.accepting m fp = []) :
    exec (.shadowRequestMsg node c m fp) s = .next (s.messageTo node.val "shadow reply" [c.val, 3, 0]) := by
  show execShadowRequestMsg node c m fp s = _
  unfold execShadowRequestMsg
  dsimp only
  rw [if_neg (not_not.2 h), hbs]
  rfl

theorem exec_shadowRequestMsg_full (h : s.rd F.WEFT_CFG_CONFIG 0 = 3) (hbs : s.accepting m fp ≠ [])
    (hfull : ∀ b ∈ s.accepting m fp, s.freePlace? b 2 = none) :
    exec (.shadowRequestMsg node c m fp) s = .next (s.messageTo node.val "shadow reply" [c.val, 4, 0]) := by
  have hfind : (s.accepting m fp).find? (fun b => (s.freePlace? b 2).isSome) = none :=
    List.find?_eq_none.2 fun b hb => by simp [hfull b hb]
  show execShadowRequestMsg node c m fp s = _
  unfold execShadowRequestMsg
  dsimp only
  rw [if_neg (not_not.2 h), if_neg (by simpa using hbs), hfind]

theorem exec_shadowRequestMsg_taken {b k slot : Nat} {x : Binding} (h : s.rd F.WEFT_CFG_CONFIG 0 = 3)
    (hfind : (s.accepting m fp).find? (fun i => (s.freePlace? i 2).isSome) = some b)
    (hk : s.freePlace? b 2 = some k) (hslot : s.freeCtxSlot? = some slot) (hx : s.binding? b = some x) :
    exec (.shadowRequestMsg node c m fp) s =
      .next ((s.takeCopy slot b k node.val c.val x).messageTo node.val "shadow reply" [c.val, 0, slot]) := by
  have hbs : s.accepting m fp ≠ [] := List.ne_nil_of_mem (List.mem_of_find?_eq_some hfind)
  show execShadowRequestMsg node c m fp s = _
  unfold execShadowRequestMsg
  dsimp only
  rw [if_neg (not_not.2 h), if_neg (by simpa using hbs), hfind, hslot]
  dsimp only
  rw [hx, hk]
  rfl

end

/-- An answer that changes nothing on this node. -/
theorem messages_only {i : Instr} {s : State} {d : Nat} {kind : String} {args : List Nat}
    (h : exec i s = .next (s.messageTo d kind args)) :
    Completes i s fun t => Messages s t d kind args ∧ t = { s with out := t.out } :=
  ⟨_, h, s.messages_messageTo .., s.messageTo_eq ..⟩

/-- A copy taken in, in the words of O36. -/
theorem shadowRequest_taken {node : Node} {c : CtxIx} {i : Instr} {s : State} {slot b k : Nat} {x : Binding}
    (h : exec i s =
      .next ((s.takeCopy slot b k node.val c.val x).messageTo node.val "shadow reply" [c.val, 0, slot])) :
    Completes i s fun t =>
      Messages s t node.val "shadow reply" [c.val, 0, slot] ∧ t.rd F.CTX_STATE_STATE slot = 6 ∧
      t.rd F.CTX_SHADOW_ROLE slot = 2 ∧ t.rd F.CTX_SHADOW_STATUS_STATE slot = 4 ∧
      t.rd F.CTX_SHADOW_STATUS_PRIMARY_CTX slot = c.val ∧
      (∃ y : Ctx, t.ctx? slot = some y ∧ y.binding = b ∧ y.owner = x.owner ∧ y.handle = x.handle ∧ y.place = k) ∧
      (∃ y : Copy, t.copy? slot = some y ∧ y.node = node.val ∧ y.primary = c.val ∧ y.binding = b ∧
        y.committed = none) ∧
      (∀ j ≠ slot, t.ctx? j = s.ctx? j ∧ t.copy? j = s.copy? j) ∧ SameMemories s t := by
  set v := s.setCtx slot (x.copyCtx b k) with hv
  obtain ⟨honly, hfields⟩ := v.copyRegs_onlyFields slot b c.val x
  obtain ⟨hstate, hrole, hstatus, hprimary⟩ := v.rd_copyRegs slot b c.val x
  set w := v.copyRegs slot b c.val x with hw
  set y : Copy := { node := node.val, primary := c.val, binding := b } with hy
  set t := (w.setCopy slot y).messageTo node.val "shadow reply" [c.val, 0, slot] with ht
  have hmsg : t = { w.setCopy slot y with out := t.out } := (w.setCopy slot y).messageTo_eq ..
  have hrd (f : Fld) (i : Nat) : t.rd f i = w.rd f i := by
    rw [hmsg]
    rfl
  have hctxs : t.bnd.ctxs = v.bnd.ctxs := by rw [hmsg, State.setCopy, honly]
  have hcopies : t.weft.copies = (s.setCopy slot y).weft.copies := by
    rw [hmsg, State.setCopy, honly]
    rfl
  have hout : (w.setCopy slot y).out = s.out := by
    rw [State.setCopy, honly]
    rfl
  have hhop : (w.setCopy slot y).hopTo node.val = s.hopTo node.val :=
    State.hopTo_of_fields (s := s) (l := copyFields) hfields (by decide) _
  have hlt := c.isLt
  refine ⟨t, h, Messages.of_same ((w.setCopy slot y).messages_messageTo ..) hhop hout, (hrd ..).trans hstate,
    (hrd ..).trans hrole, (hrd ..).trans hstatus, ?_, ⟨x.copyCtx b k, ?_, rfl, rfl, rfl, rfl⟩,
    ⟨y, ?_, rfl, rfl, rfl, rfl⟩, fun j hj => ⟨?_, ?_⟩, sameMemories_of_memories ?_⟩
  · rw [hrd, hprimary]
    exact Nat.mod_eq_of_lt (by omega)
  · exact (State.ctx?_congr hctxs slot).trans (s.ctx?_setCtx ..)
  · exact (State.copy?_congr hcopies slot).trans (s.copy?_setCopy_same ..)
  · exact (State.ctx?_congr hctxs j).trans (s.ctx?_setCtx_other _ hj)
  · exact (State.copy?_congr hcopies j).trans (s.copy?_setCopy_other _ hj)
  · rw [hmsg, State.setCopy, honly]
    rfl

/-! ### `SHADOW_UPDATE` (R247, R491) -/

section

variable {slot : CtxIx} {s : State} {x : Copy}

theorem exec_shadowUpdateMsg (hx : s.copy? slot.val = some x) (ok : Bool) (st : ShadowState) :
    exec (.shadowUpdateMsg slot ok st) s = .next (
      if (s.ctxGroups slot.val).any s.inReset then s
      else if ok then
        ((s.setCopy slot.val { x with committed := some st, journal := none }).wr
          F.CTX_SHADOW_STATUS_STATE slot.val 4).flitTo x.node "SHADOW_ACK" [x.primary, st.seq.toNat]
      else (s.setCopy slot.val { x with journal := none }).weftViolation 231 slot.val) := by
  show execShadowUpdateMsg slot ok st s = _
  rw [execShadowUpdateMsg, hx]
  dsimp only
  split
  · rfl
  · split <;> rfl

/-- An update whose tag verifies is committed and acknowledged. -/
theorem shadowUpdate_committed (hx : s.copy? slot.val = some x) (hg : (s.ctxGroups slot.val).any s.inReset = false)
    (st : ShadowState) :
    Completes (.shadowUpdateMsg slot true st) s fun t =>
      t.copy? slot.val = some { x with committed := some st, journal := none } ∧
      t.rd F.CTX_SHADOW_STATUS_STATE slot.val = 4 ∧ (∀ j ≠ slot.val, t.copy? j = s.copy? j) ∧
      (∀ k, s.hopTo x.node = some k →
        FlitPut s t k (.flit k "SHADOW_ACK" [x.node, x.primary, st.seq.toNat])) ∧ SameMemories s t := by
  have hexec := exec_shadowUpdateMsg hx true st
  simp only [hg, Bool.false_eq_true, if_false, if_true] at hexec
  set v := s.setCopy slot.val { x with committed := some st, journal := none } with hv
  set u := v.wr F.CTX_SHADOW_STATUS_STATE slot.val 4 with hu
  have hfields : SameButFields s u [F.CTX_SHADOW_STATUS_STATE] := sameButFields_wr v _ _ _ (List.mem_singleton.2 rfl)
  have hflits := u.flitTo_flitsOnly x.node "SHADOW_ACK" [x.primary, st.seq.toNat]
  have hcopies : (u.flitTo x.node "SHADOW_ACK" [x.primary, st.seq.toNat]).weft.copies = v.weft.copies :=
    congrArg (·.weft.copies) hflits.only
  refine ⟨_, hexec, ?_, ?_, fun j hj => ?_, fun k hk => ?_, ?_⟩
  · exact (State.copy?_congr hcopies _).trans (s.copy?_setCopy_same ..)
  · rw [hflits.rd _ _ (by decide), hu, State.rd_wr_same]
    rfl
  · exact (State.copy?_congr hcopies _).trans (s.copy?_setCopy_other _ hj)
  · have hhop : u.hopTo x.node = some k := (State.hopTo_of_fields hfields (by decide) _).trans hk
    have hput := u.sendFlit_put k "SHADOW_ACK" [x.node, x.primary, st.seq.toNat]
    have hseq : u.rd I.lseq k = s.rd I.lseq k := hfields.rd _ _ (by decide)
    unfold State.flitTo
    rw [hhop]
    unfold FlitPut at hput ⊢
    rw [hseq] at hput
    exact hput
  · refine sameMemories_of_memories ?_
    rw [hflits.only]
    rfl

/-- An update whose tag does not verify is dropped and counted; what is committed stays. -/
theorem shadowUpdate_dropped (hx : s.copy? slot.val = some x) (hg : (s.ctxGroups slot.val).any s.inReset = false)
    (st : ShadowState) :
    Completes (.shadowUpdateMsg slot false st) s fun t =>
      t.copy? slot.val = some { x with journal := none } ∧ (∀ j ≠ slot.val, t.copy? j = s.copy? j) ∧
      WeftViolation s t ∧ t.out = s.out ∧ SameMemories s t := by
  have hexec := exec_shadowUpdateMsg hx false st
  simp only [hg, Bool.false_eq_true, if_false] at hexec
  set v := s.setCopy slot.val { x with journal := none } with hv
  obtain ⟨hviol, hweft, hmem, -⟩ := v.weftViolation_spec 231 slot.val
  have hcopies : (v.weftViolation 231 slot.val).weft.copies = v.weft.copies := congrArg WeftSt.copies hweft
  refine ⟨_, hexec, ?_, fun j hj => ?_, hviol, ?_, hmem⟩
  · exact (State.copy?_congr hcopies _).trans (s.copy?_setCopy_same ..)
  · exact (State.copy?_congr hcopies _).trans (s.copy?_setCopy_other _ hj)
  · show (v.weftViolation 231 slot.val).out = s.out
    unfold State.weftViolation
    rw [State.classC_eq]
    rfl

/-! ### `FETCH_REQUEST` (R158) -/

theorem exec_fetchRequestMsg (hx : s.copy? slot.val = some x) :
    (∀ y, x.committed = some y → exec (.fetchRequestMsg slot) s = .next (s.messageTo x.node "fetch reply"
      (x.primary :: y.seq.toNat :: y.carried.map BitVec.toNat))) ∧
    (x.committed = none → exec (.fetchRequestMsg slot) s = .next s) := by
  show (∀ y, _ → execFetchRequestMsg slot s = _) ∧ (_ → execFetchRequestMsg slot s = _)
  unfold execFetchRequestMsg
  rw [hx]
  dsimp only
  refine ⟨fun y hy => ?_, fun hnone => ?_⟩
  · rw [hy]
  · rw [hnone]

/-- A slot without a copy answers no fetch and no notice, and an update for it is a violation. -/
theorem exec_noCopy (h : s.copy? slot.val = none) (reason : Fin 3) (ok : Bool) (st : ShadowState) :
    exec (.fetchRequestMsg slot) s = .next s ∧ exec (.lapseNoticeMsg reason slot) s = .next s ∧
      exec (.shadowUpdateMsg slot ok st) s = .next (s.weftViolation 229 slot.val) := by
  refine ⟨?_, ?_, ?_⟩
  · show execFetchRequestMsg slot s = _
    rw [execFetchRequestMsg, h]
  · show execLapseNoticeMsg reason slot s = _
    rw [execLapseNoticeMsg, h]
  · show execShadowUpdateMsg slot ok st s = _
    rw [execShadowUpdateMsg, h]

end

/-! ### `SHADOW_ROUTE_LOST` (R248) -/

/-- One copy marked stale when its primary is the node. -/
def State.staleIfOf (node : Nat) (s : State) (e : Nat × Copy) : State :=
  if e.2.node = node then s.wr F.CTX_SHADOW_STATUS_STATE e.1 5 else s

theorem exec_shadowRouteLost (node : Node) (s : State) :
    exec (.shadowRouteLost node) s = .next (s.weft.copies.foldl (State.staleIfOf node.val) s) := rfl

theorem shadowRouteLost_spec (node : Node) (s : State) :
    Completes (.shadowRouteLost node) s fun t =>
      (∀ e ∈ s.weft.copies, e.2.node = node.val → t.rd F.CTX_SHADOW_STATUS_STATE e.1 = 5) ∧
      OnlyRegs s t ((s.weft.copies.filter fun e => e.2.node == node.val).map fun e =>
        (F.CTX_SHADOW_STATUS_STATE, e.1)) := by
  refine ⟨_, exec_shadowRouteLost node s, fun e he hnode => ?_, OnlyRegs.foldl _ (fun u e he => ?_) s⟩
  · refine foldl_reaches (P := fun t : State => t.rd F.CTX_SHADOW_STATUS_STATE e.1 = 5) he (fun u => ?_)
      (fun u y hu => ?_) s
    · rw [State.staleIfOf, if_pos hnode, State.rd_wr_same]
      rfl
    · unfold State.staleIfOf
      split
      · exact State.rd_wr_again (v := 5) _ hu
      · exact hu
  · unfold State.staleIfOf
    split
    · next hnode =>
      refine (onlyRegs_wr ..).mono fun z hz => ?_
      obtain rfl := List.mem_singleton.1 hz
      exact List.mem_map.2 ⟨e, List.mem_filter.2 ⟨he, beq_iff_eq.2 hnode⟩, rfl⟩
    · exact .refl u _

end Sys2Proof.Machine

namespace Sys2Proof.Machine
/-! PROOFS. Copies taken over (R249), and O36. -/

/-! ### What a takeover restores of the context -/

/-- Registers that a takeover sets from what is committed, and from the accepting binding. -/
def restoreFields : List Fld :=
  [F.CTX_DEADLINE_US_DEADLINE, F.CTX_REFRESH_EVERY_N, F.CTX_DELTA_POLICY_ENABLE, F.CTX_DELTA_POLICY_STAGGER,
    F.CTX_DELTA_POLICY_REFRESH_ON_TAKEOVER, F.CTX_DELTA_POLICY_THRESH_SCALE, F.CTX_DELTA_POLICY_PEAK_FACTOR,
    F.CTX_DELTA_POLICY_SCENE_CUT, F.CTX_DELTA_SEQ_SEQ, F.CTX_REFRESH_EVERY_COUNTDOWN, F.CTX_DELTA_STATUS_STATE_VALID,
    F.CTX_DECODE_BROKEN, F.CTX_DELTA_STATUS_PLAN, F.CTX_SPOOL_SPOOL]

/-- A context is on a spool, its registers set; no other context changes. -/
structure Restored (s t : State) (slot sp : Nat) : Prop where
  only : t = { s with regs := t.regs, bnd := { s.bnd with ctxs := t.bnd.ctxs } }
  fields : SameButFields s t restoreFields
  spool : (t.ctx? slot).map Ctx.spool = some sp
  others : ∀ j ≠ slot, t.ctx? j = s.ctx? j

namespace Restored

variable {s t u : State} {slot sp : Nat}

theorem setCtx (s : State) (slot : Nat) (x : Ctx) : Restored s (s.setCtx slot x) slot x.spool :=
  ⟨rfl, .of_regs rfl _, by rw [s.ctx?_setCtx]; rfl, fun _ hj => s.ctx?_setCtx_other x hj⟩

theorem wr (h : Restored s t slot sp) (f : Fld) (v : Nat) (hf : f ∈ restoreFields) :
    Restored s (t.wr f slot v) slot sp := by
  refine ⟨?_, h.fields.wr f slot v hf, h.spool, h.others⟩
  rw [h.only]
  rfl

theorem addCause (h : Restored s t slot sp) (k : Nat) : Restored s (t.addCause slot k) slot sp := by
  have hspool (y : Ctx) : (y.addCause k).spool = y.spool := by rw [y.addCause_eq]
  refine ⟨?_, ?_, ?_, fun j hj => (t.ctx?_addCause_other k hj).trans (h.others j hj)⟩
  · rw [t.addCause_eq, h.only]
  · rw [t.addCause_eq]
    exact h.fields.trans (.of_regs rfl _)
  · rw [t.ctx?_addCause, Option.map_map, ← h.spool]
    exact congrArg (Option.map · _) (funext hspool)

theorem ite {c : Prop} [Decidable c] (h : Restored s t slot sp) (h' : Restored s u slot sp) :
    Restored s (if c then t else u) slot sp := by
  split <;> assumption

end Restored

/-- A context taken over is the twin's own: READY, not a copy, not shadowed. -/
def State.unshadow (s : State) (slot status : Nat) : State :=
  let s := (s.wr F.CTX_STATE_STATE slot 1).wr F.CTX_SHADOW_EN slot 0
  let s := (s.wr F.CTX_SHADOW_ROLE slot 0).wr F.CTX_SHADOW_STATUS_STATE slot status
  { s with weft := { s.weft with copies := Tab.drop s.weft.copies slot } }

/-- A takeover restores the context, makes it the twin's own, and reports it. -/
theorem State.takeOver_of_copy {s : State} {slot : Nat} {x : Copy} {c : Ctx} (hx : s.copy? slot = some x)
    (hc : s.ctx? slot = some c) : ∃ u status data, Restored s u slot (s.rd F.WEFT_ACCEPT_SPOOL x.binding) ∧
      s.takeOver slot = ((u.unshadow slot status).classC 249 slot).event 1 data := by
  unfold takeOver
  rw [hx, hc]
  dsimp only
  refine ⟨_, _, _, ?_, rfl⟩
  refine .ite (.addCause ?_ 5) ?_
  all_goals
    refine .wr (.wr ?_ _ _ (by decide)) _ _ (by decide)
    cases x.committed with
    | none => exact .setCtx ..
    | some st =>
      have h0 := Restored.setCtx s slot { c with spool := s.rd F.WEFT_ACCEPT_SPOOL x.binding, delta := deltaOf st }
      exact (((((((((((h0.wr _ _ (by decide)).wr _ _ (by decide)).wr _ _ (by decide)).wr _ _ (by decide)).wr
        _ _ (by decide)).wr _ _ (by decide)).wr _ _ (by decide)).wr _ _ (by decide)).wr _ _ (by decide)).wr
        _ _ (by decide)).wr _ _ (by decide)).wr _ _ (by decide)

/-! ### The report of a takeover -/

/-- Registers that a class C fault and a host event write. -/
def reportFields : List Fld := classCRegs ++ eventFields

theorem State.report_frame (s : State) (rule arg type : Nat) (data : List Byte) :
    let t := (s.classC rule arg).event type data
    t.bnd = s.bnd ∧ t.weft = s.weft ∧ t.memories = s.memories ∧ SameButFields s t reportFields ∧
      Rises s t F.FAULT_CLASSC_COUNT 0 1 := by
  have hevent := (s.classC rule arg).event_frame type data
  refine ⟨?_, ?_, ?_, ((s.classC_frame rule arg).mono ?_).trans (hevent.mono ?_), ?_⟩
  · rw [State.event_eq, State.classC_eq]
  · rw [State.event_eq, State.classC_eq]
  · rw [State.memories_event, State.memories_classC]
  · exact fun _ hx => List.mem_append_left _ hx
  · exact fun _ hx => List.mem_append_right _ hx
  · exact (hevent.rd _ 0 (by decide)).trans (s.classC_count rule arg)

/-! ### One takeover -/

theorem State.copy?_drop_same (s : State) (k : Nat) :
    (State.copy? { s with weft := { s.weft with copies := Tab.drop s.weft.copies k } } k) = none := by
  unfold copy?
  dsimp only
  rw [Tab.find?_drop_same]
  rfl

theorem State.copy?_drop_other (s : State) {k j : Nat} (h : j ≠ k) :
    (State.copy? { s with weft := { s.weft with copies := Tab.drop s.weft.copies k } } j) = s.copy? j := by
  unfold copy?
  dsimp only
  rw [Tab.find?_drop_other _ h]

/-- The registers of a slot say that its context is READY, not a copy and not shadowed. -/
def OwnRegs (s : State) (slot : Nat) : Prop :=
  s.rd F.CTX_STATE_STATE slot = 1 ∧ s.rd F.CTX_SHADOW_ROLE slot = 0 ∧ s.rd F.CTX_SHADOW_EN slot = 0

theorem OwnRegs.of_fields {s t : State} {slot : Nat} {l : List Fld} (h : OwnRegs s slot) (hst : SameButFields s t l)
    (hl : ∀ x ∈ l, F.CTX_STATE_STATE.id ≠ x.id ∧ F.CTX_SHADOW_ROLE.id ≠ x.id ∧ F.CTX_SHADOW_EN.id ≠ x.id) :
    OwnRegs t slot := by
  obtain ⟨hstate, hrole, hen⟩ := h
  refine ⟨?_, ?_, ?_⟩
  · rw [hst.rd _ _ fun x hx => (hl x hx).1, hstate]
  · rw [hst.rd _ _ fun x hx => (hl x hx).2.1, hrole]
  · rw [hst.rd _ _ fun x hx => (hl x hx).2.2, hen]

theorem State.ownRegs_unshadow_same (s : State) (slot status : Nat) : OwnRegs (s.unshadow slot status) slot := by
  have hrd (f : Fld) (i : Nat) : (s.unshadow slot status).rd f i = ((((s.wr F.CTX_STATE_STATE slot 1).wr
    F.CTX_SHADOW_EN slot 0).wr F.CTX_SHADOW_ROLE slot 0).wr F.CTX_SHADOW_STATUS_STATE slot status).rd f i := rfl
  refine ⟨?_, ?_, ?_⟩ <;> rw [hrd] <;> simp (disch := decide) only [rd_wr_id, rd_wr_same] <;> rfl

/-- A slot taken over stays so while another one is: the registers are given the same values. -/
theorem OwnRegs.unshadow {s : State} {slot : Nat} (h : OwnRegs s slot) (k status : Nat) :
    OwnRegs (s.unshadow k status) slot := by
  obtain ⟨hstate, hrole, hen⟩ := h
  have hrd (f : Fld) (i : Nat) : (s.unshadow k status).rd f i = ((((s.wr F.CTX_STATE_STATE k 1).wr
    F.CTX_SHADOW_EN k 0).wr F.CTX_SHADOW_ROLE k 0).wr F.CTX_SHADOW_STATUS_STATE k status).rd f i := rfl
  refine ⟨?_, ?_, ?_⟩ <;> rw [hrd]
  · simp (disch := decide) only [State.rd_wr_id]
    exact State.rd_wr_again (v := 1) k hstate
  · rw [State.rd_wr_id _ _ _ _ (by decide)]
    refine State.rd_wr_again (v := 0) k ?_
    simp (disch := decide) only [State.rd_wr_id]
    exact hrole
  · simp (disch := decide) only [State.rd_wr_id]
    refine State.rd_wr_again (v := 0) k ?_
    rw [State.rd_wr_id _ _ _ _ (by decide)]
    exact hen

def unshadowFields : List Fld :=
  [F.CTX_STATE_STATE, F.CTX_SHADOW_EN, F.CTX_SHADOW_ROLE, F.CTX_SHADOW_STATUS_STATE]

theorem State.unshadow_fields (s : State) (slot status : Nat) :
    SameButFields s (s.unshadow slot status) unshadowFields :=
  (((sameButFields_wr s _ _ _ (by decide)).wr _ _ _ (by decide)).wr _ _ _ (by decide)).wr _ _ _ (by decide)

/-- What the takeover of one slot leaves alone: the accepting spools, the other contexts and copies, the memories, and
a slot that has been taken over before. -/
structure TakeOverKeeps (s t : State) (slot : Nat) : Prop where
  accept : ∀ b, t.rd F.WEFT_ACCEPT_SPOOL b = s.rd F.WEFT_ACCEPT_SPOOL b
  own : ∀ k, OwnRegs s k → OwnRegs t k
  ctxs : ∀ j ≠ slot, t.ctx? j = s.ctx? j
  copies : ∀ j ≠ slot, t.copy? j = s.copy? j
  memories : t.memories = s.memories

theorem TakeOverKeeps.refl (s : State) (slot : Nat) : TakeOverKeeps s s slot :=
  ⟨fun _ => rfl, fun _ h => h, fun _ _ => rfl, fun _ _ => rfl, rfl⟩

theorem State.takeOver_eq_self {s : State} {slot : Nat} (h : s.copy? slot = none ∨ s.ctx? slot = none) :
    s.takeOver slot = s := by
  unfold takeOver
  split
  · next hx hc => rcases h with h | h <;> simp_all
  · rfl

/-- The takeover of a copy whose context is open. -/
theorem State.takeOver_spec {s : State} {slot : Nat} {x : Copy} {c : Ctx} (hx : s.copy? slot = some x)
    (hc : s.ctx? slot = some c) :
    TakeOverKeeps s (s.takeOver slot) slot ∧ TakenOver s (s.takeOver slot) slot x ∧
      Rises s (s.takeOver slot) F.FAULT_CLASSC_COUNT 0 1 := by
  obtain ⟨u, status, data, hu, heq⟩ := takeOver_of_copy hx hc
  have hown := u.ownRegs_unshadow_same slot status
  have hfields := u.unshadow_fields slot status
  have hctxs (j : Nat) : (u.unshadow slot status).ctx? j = u.ctx? j := rfl
  have hcopies (j : Nat) (hj : j ≠ slot) : (u.unshadow slot status).copy? j = s.copy? j := by
    have hweft : u.copy? j = s.copy? j := State.copy?_congr (congrArg (·.weft.copies) hu.only) j
    exact (u.copy?_drop_other hj).trans hweft
  have hgone : (u.unshadow slot status).copy? slot = none := u.copy?_drop_same slot
  have hmem : (u.unshadow slot status).memories = s.memories := (congrArg State.memories hu.only).trans rfl
  have hkeep (k : Nat) (h : OwnRegs s k) : OwnRegs (u.unshadow slot status) k :=
    (h.of_fields hu.fields (by decide)).unshadow slot status
  generalize u.unshadow slot status = v at *
  obtain ⟨hbnd, hweft, hmem', hreport, hrises⟩ := v.report_frame 249 slot 1 data
  rw [← heq] at hbnd hweft hmem' hreport hrises
  have hctxs' (j : Nat) : (s.takeOver slot).ctx? j = u.ctx? j :=
    (State.ctx?_congr (congrArg BndSt.ctxs hbnd) j).trans (hctxs j)
  have hcopies' (j : Nat) : (s.takeOver slot).copy? j = v.copy? j := State.copy?_congr (congrArg WeftSt.copies hweft) j
  refine ⟨⟨fun b => ?_, fun k hk => (hkeep k hk).of_fields hreport (by decide), fun j hj => ?_, fun j hj => ?_,
    hmem'.trans hmem⟩, ?_, ?_⟩
  · rw [hreport.rd _ _ (by decide), hfields.rd _ _ (by decide), hu.fields.rd _ _ (by decide)]
  · rw [hctxs', hu.others j hj]
  · rw [hcopies', hcopies j hj]
  · obtain ⟨hstate, hrole, hen⟩ := hown.of_fields hreport (by decide)
    refine ⟨(hcopies' slot).trans hgone, hstate, hrole, hen, ?_⟩
    rw [hctxs', hu.spool]
  · rw [Rises] at hrises ⊢
    rw [hrises, hfields.rd _ _ (by decide), hu.fields.rd _ _ (by decide)]

theorem State.takeOver_keeps (s : State) (slot : Nat) : TakeOverKeeps s (s.takeOver slot) slot := by
  cases hx : s.copy? slot with
  | none =>
    rw [takeOver_eq_self (.inl hx)]
    exact .refl s slot
  | some x =>
    cases hc : s.ctx? slot with
    | none =>
      rw [takeOver_eq_self (.inr hc)]
      exact .refl s slot
    | some c => exact (takeOver_spec hx hc).1

/-! ### Takeovers one after the other (`TWIN_TAKEOVER`) -/

/-- A copy is as it was in a state before, and so are the accepting spools. -/
structure CopyDue (s t : State) (slot : Nat) (x : Copy) : Prop where
  copy : t.copy? slot = some x
  ctx : t.ctx? slot = s.ctx? slot
  accept : ∀ b, t.rd F.WEFT_ACCEPT_SPOOL b = s.rd F.WEFT_ACCEPT_SPOOL b

theorem CopyDue.takeOver_other {s t : State} {slot k : Nat} {x : Copy} (h : CopyDue s t slot x) (hk : slot ≠ k) :
    CopyDue s (t.takeOver k) slot x :=
  have hkeep := t.takeOver_keeps k
  ⟨(hkeep.copies slot hk).trans h.copy, (hkeep.ctxs slot hk).trans h.ctx, fun b => (hkeep.accept b).trans (h.accept b)⟩

theorem CopyDue.takeOver_same {s t : State} {slot : Nat} {x : Copy} (h : CopyDue s t slot x)
    (hc : s.ctx? slot ≠ none) : TakenOver s (t.takeOver slot) slot x := by
  obtain ⟨c, hc⟩ := Option.ne_none_iff_exists'.1 hc
  obtain ⟨-, htaken, -⟩ := State.takeOver_spec h.copy (h.ctx.trans hc)
  unfold TakenOver at htaken ⊢
  rwa [← h.accept]

/-- A slot that has been taken over stays so. -/
theorem takenOver_takeOver {s t : State} {slot : Nat} {x : Copy} (h : TakenOver s t slot x) (k : Nat) :
    TakenOver s (t.takeOver k) slot x := by
  obtain ⟨hcopy, hstate, hrole, hen, hspool⟩ := h
  by_cases hk : slot = k
  · subst hk
    rw [State.takeOver_eq_self (.inl hcopy)]
    exact ⟨hcopy, hstate, hrole, hen, hspool⟩
  · have hkeep := t.takeOver_keeps k
    obtain ⟨hstate', hrole', hen'⟩ := hkeep.own slot ⟨hstate, hrole, hen⟩
    exact ⟨(hkeep.copies slot hk).trans hcopy, hstate', hrole', hen', by rw [hkeep.ctxs slot hk, hspool]⟩

/-- The copies of a node. -/
def State.copiesOf (s : State) (node : Nat) : List (Nat × Copy) := s.weft.copies.filter fun e => e.2.node == node

theorem exec_twinTakeover (node : Node) (s : State) :
    exec (.twinTakeover node) s = .next ((s.copiesOf node.val).foldl (fun s e => s.takeOver e.1) s) := rfl

theorem State.takeOvers_taken {s : State} {slot : Nat} {x : Copy} (hx : s.copy? slot = some x)
    (hc : s.ctx? slot ≠ none) {es : List (Nat × Copy)} (hes : (slot, x) ∈ es) :
    TakenOver s (es.foldl (fun s e => s.takeOver e.1) s) slot x := by
  obtain ⟨pre, post, rfl⟩ := List.append_of_mem hes
  rw [List.foldl_append, List.foldl_cons]
  have hpre : CopyDue s (pre.foldl (fun s e => s.takeOver e.1) s) slot x ∨
      TakenOver s (pre.foldl (fun s e => s.takeOver e.1) s) slot x := by
    refine List.foldlRecOn (motive := fun t : State => CopyDue s t slot x ∨ TakenOver s t slot x) pre _
      (.inl ⟨hx, rfl, fun _ => rfl⟩) fun t ht e _ => ?_
    rcases ht with hdue | htaken
    · by_cases he : slot = e.1
      · exact .inr (he ▸ hdue.takeOver_same hc)
      · exact .inl (hdue.takeOver_other he)
    · exact .inr (takenOver_takeOver htaken e.1)
  have hslot : TakenOver s ((pre.foldl (fun s e => s.takeOver e.1) s).takeOver slot) slot x :=
    hpre.elim (·.takeOver_same hc) (takenOver_takeOver · slot)
  exact List.foldlRecOn (motive := fun t : State => TakenOver s t slot x) post _ hslot
    fun t ht e _ => takenOver_takeOver ht e.1

theorem twinTakeover_spec (node : Node) (s : State) :
    ((∀ e ∈ s.weft.copies, e.2.node ≠ node.val) → exec (.twinTakeover node) s = .next s) ∧
    (Completes (.twinTakeover node) s fun t =>
      (∀ slot x, s.copy? slot = some x → x.node = node.val → s.ctx? slot ≠ none → TakenOver s t slot x) ∧
      SameMemories s t) := by
  refine ⟨fun hnone => ?_, _, exec_twinTakeover node s, fun slot x hx hnode hc => ?_, sameMemories_of_memories ?_⟩
  · have hempty : s.copiesOf node.val = [] := List.filter_eq_nil_iff.2 fun e he => by simpa using hnone e he
    rw [exec_twinTakeover, hempty]
    rfl
  · obtain ⟨⟨k, y⟩, hfind, rfl⟩ := Option.map_eq_some_iff.1 hx
    obtain rfl : k = slot := by simpa using List.find?_some hfind
    exact State.takeOvers_taken hx hc
      (List.mem_filter.2 ⟨List.mem_of_find?_eq_some hfind, beq_iff_eq.2 hnode⟩)
  · exact State.memories_foldl _ (fun s (e : Nat × Copy) => (s.takeOver_keeps e.1).memories) _ s

/-! ### `LAPSE_NOTICE` (R248, R249, R495) -/

theorem lapseNotice_spec {slot : CtxIx} {s : State} {x : Copy} (hx : s.copy? slot.val = some x) (reason : Fin 3) :
    (reason.val = 1 → Completes (.lapseNoticeMsg reason slot) s fun t =>
      t.rd F.CTX_SHADOW_STATUS_STATE slot.val = 5 ∧ OnlyRegs s t [(F.CTX_SHADOW_STATUS_STATE, slot.val)]) ∧
    (reason.val = 2 → s.ctx? slot.val ≠ none → Completes (.lapseNoticeMsg reason slot) s fun t =>
      TakenOver s t slot.val x ∧ Rises s t F.FAULT_CLASSC_COUNT 0 1 ∧ SameMemories s t) ∧
    (reason.val = 0 → Completes (.lapseNoticeMsg reason slot) s fun t => WeftViolation s t ∧ t.weft = s.weft) := by
  have hexec : exec (.lapseNoticeMsg reason slot) s = if reason.val = 1 then
      .next (s.wr F.CTX_SHADOW_STATUS_STATE slot.val 5)
      else if reason.val = 2 then .next (s.takeOver slot.val) else .next (s.weftViolation 229 slot.val) := by
    show execLapseNoticeMsg reason slot s = _
    rw [execLapseNoticeMsg, hx]
  refine ⟨fun h => ?_, fun h hc => ?_, fun h => ?_⟩
  · exact ⟨_, hexec.trans (if_pos h), State.rd_wr_same .., onlyRegs_wr ..⟩
  · obtain ⟨c, hc⟩ := Option.ne_none_iff_exists'.1 hc
    obtain ⟨hkeep, htaken, hrises⟩ := State.takeOver_spec hx hc
    refine ⟨_, hexec.trans ?_, htaken, hrises, sameMemories_of_memories hkeep.memories⟩
    rw [if_neg (by omega), if_pos h]
  · obtain ⟨hviol, hweft, -, -⟩ := s.weftViolation_spec 229 slot.val
    refine ⟨_, hexec.trans ?_, hviol, hweft⟩
    rw [if_neg (by omega), if_neg (by omega)]

/-- Settles O36: a copy is taken in (`State.takeCopy`), and a takeover restores its context and drops the copy
(`State.takeOver_spec`); takeovers of other slots leave a copy that is due, and one that has been taken over, alone. -/
theorem twinsHoldAndTakeOver : Obligations.TwinsHoldAndTakeOver := by
  unfold Obligations.TwinsHoldAndTakeOver
  refine ⟨fun node c m fp s => ⟨fun h => ?_, fun h hbs => ?_, fun h hbs hfull => ?_, fun b k slot x h hfind hk hslot
    hx => shadowRequest_taken (exec_shadowRequestMsg_taken h hfind hk hslot hx)⟩, fun slot st reason s => ⟨fun hnone => ?_,
    fun x hx => ?_⟩, fun node s => ⟨shadowRouteLost_spec node s, twinTakeover_spec node s⟩⟩
  · exact messages_only (exec_shadowRequestMsg_config node c m fp s h)
  · exact messages_only (exec_shadowRequestMsg_unknown h hbs)
  · exact messages_only (exec_shadowRequestMsg_full h hbs hfull)
  · obtain ⟨hfetch, hlapse, -⟩ := exec_noCopy hnone reason true st
    obtain ⟨hviol, hweft, hmem, -⟩ := s.weftViolation_spec 229 slot.val
    refine ⟨hfetch, hlapse, fun ok => ?_⟩
    obtain ⟨-, -, hupdate⟩ := exec_noCopy hnone reason ok st
    exact ⟨_, hupdate, hviol, hweft, hmem⟩
  · obtain ⟨hfetch, hempty⟩ := exec_fetchRequestMsg hx
    refine ⟨fun hg ok => ?_, fun hg => ⟨shadowUpdate_committed hx hg st, shadowUpdate_dropped hx hg st⟩,
      fun y hy => messages_only (hfetch y hy), hempty, lapseNotice_spec hx reason⟩
    rw [exec_shadowUpdateMsg hx, hg]
    rfl

end Sys2Proof.Machine

namespace Sys2Proof.Machine
/-! PROOFS. A completed frame that ends a close, and with it an owner (O30 refuted). -/

/-- Binding 0 runs a frame of context 5 on partition 0. -/
def closingBinding : Binding :=
  { owner := 1, handle := 1, parts := [0], bolts := [], leases := [], capacity := 1, decodeUnits := 0, grants := [],
    weftShare := 0, spill := 0, slowdown := 0, quadrant := 0, phase := .bound, running := some 5 }

/-- The running frame, of a job's follower. -/
def closingFrame : Frame :=
  { ctx := 5, spool := 0, ix := 2 ^ 17 + 5, opcode := 0, force := false, follower := true, payloadAddr := 0,
    payloadLen := 0, resultMax := 0, resultAddr := 0, userTag := 0, sealSeq := 0, arrived := 0, stage := .running }

/-- `CTX_CLOSE` of context 5 waits for its running frame (R184), and the close of its owner for the command (R163,
R164); a byte of partition 0's scratch is 1. -/
def closing : State :=
  { ((State.reset.wr F.HOST_STATUS_FW_UP 0 1).wr F.PART_STATE_STATE 0 3).wr F.CTX_STATE_STATE 5 5 with
    arr := { scratch := [(0, 1)] }
    bnd := { owners := [(1, { tenantFp := 0, key := 0, closing := true })]
             bindings := [(0, closingBinding)]
             ctxs := [(5, { owner := 1, handle := 1, binding := 0, spool := 0, place := 0 })]
             frames := [closingFrame]
             cmd := some (.closeCtx 5)
             toClose := [1] } }

/-- A frame's results, all empty. -/
def noResult : FrameResult := { cipher := [], inputs := [], dense := [], carried := [] }

/-- Beside the bindings that it drops, the close of an owner leaves the memories alone. -/
theorem State.memories_closeOwner (s : State) (o : Nat) : (s.closeOwner o).memories =
    ((s.bnd.bindings.filter fun x => x.2.owner == o).foldl (fun s x => s.dropBinding x.1) s).memories := by
  unfold closeOwner
  extract_lets s1 s2 s3 s4
  have h2 : s2.memories = s1.memories := memories_foldl _ (fun s (x : Nat × Ctx) => memories_freeCtx s x.1) _ s1
  have h3 : s3.memories = s2.memories := memories_foldl _ (fun s k => by split <;> rfl) _ s2
  have h4 : s4.memories = s3.memories := memories_foldl _ (fun s (x : Nat × Bundle) => memories_dropBundle s x.1) _ s3
  rw [memories_reapOwners, h4, h3, h2]

/-- The outcome of a command is shown and its message sent before the owners that wait for it close (R163, R174). -/
def State.outcomeShown (s : State) (reason : Nat) : State :=
  { s.showOutcome reason with bnd := { s.bnd with cmd := none, toClose := [] } }.msixSend 1024

theorem State.finishCmd_eq (s : State) (reason : Nat) :
    s.finishCmd reason = s.bnd.toClose.foldl closeOwner (s.outcomeShown reason) := rfl

/-- A command that ends with one owner's close waiting for it closes that owner. -/
theorem State.endCmd_closes {s : State} {o : Nat} (hfw : s.on F.HOST_STATUS_FW_UP 0 = true) (hc : s.bnd.toClose = [o])
    (reason : Nat) : s.endCmd reason = (s.outcomeShown reason).closeOwner o := by
  rw [endCmd, if_pos hfw, finishCmd_eq, hc, List.foldl_cons, List.foldl_nil]

/-- The close of a context ends when none of its frames is left. -/
theorem State.settle_closes {s : State} {c : Nat} (hcmd : s.bnd.cmd = some (.closeCtx c))
    (hframes : (s.framesOf c).isEmpty = true) : s.settle = ((s.freeCtx c).reapDisplaced).endCmd 0 := by
  simp only [settle, hcmd, hframes, if_true]

/-- The frame has ended; the close of its context has not. -/
def closingEnded : State :=
  (((closing.leavePartition 0 5 closingBinding).setFrame closingFrame).endFrame closingFrame 0).afterFrame 5

/-- The close of the context has ended; that of its owner has not. -/
def closingFreed : State := (closingEnded.freeCtx 5).reapDisplaced

theorem exec_frameComplete_closing : exec (.frameComplete 0 noResult) closing = .next closingEnded.settle := rfl

/-- The context and then the owner close, and the partition that the binding leaves is cleared (R45, R163, R179). -/
theorem scratch_closingEnded_settle : closingEnded.settle.arr.scratch = [] := by
  have hsettle : closingEnded.settle = closingFreed.endCmd 0 :=
    State.settle_closes (by decide +kernel) (by decide +kernel)
  rw [hsettle, State.endCmd_closes (o := 1) (by decide +kernel) (by decide +kernel)]
  obtain ⟨-, -, -, -, hscratch, -, -⟩ := sameMemories_of_memories ((closingFreed.outcomeShown 0).memories_closeOwner 1)
  exact hscratch.trans (by decide +kernel)

/-- Refutes O30: scratch does not keep every byte at `FRAME_COMPLETE`. In the state `closing` the frame that completes
is the last that `CTX_CLOSE` waited for; the command ends, the owner's close that waited for it drops the binding, and
the binding's partition is cleared: byte 0 of core 0, 1 before, reads 0. -/
theorem not_framesAreAdmittedAndCompleted : ¬ Obligations.FramesAreAdmittedAndCompleted := by
  unfold Obligations.FramesAreAdmittedAndCompleted
  intro h
  obtain ⟨-, -, -, hcomplete, -⟩ := h 0 closingBinding closing rfl
  obtain ⟨t, ht, -, -, -, -, -, hscratch, -⟩ := hcomplete closingFrame noResult rfl
  obtain rfl : closingEnded.settle = t := Host.Outcome.next.inj (exec_frameComplete_closing.symm.trans ht)
  exact absurd (scratch_closingEnded_settle.symm.trans hscratch) (by decide)

end Sys2Proof.Machine

namespace Sys2Proof.Machine
/-! PROOFS. Requests to the host (R259, R260, R284), and `CMD_GO` (O17). -/

/-! ### Requests to the host -/

/-- Nothing but requests to the host differs: what was sent out or held still is. -/
def AsksHost (s t : State) : Prop :=
  t = { s with out := t.out, host := { s.host with heldOut := t.host.heldOut } } ∧
  s.out ⊆ t.out ∧ s.host.heldOut ⊆ t.host.heldOut

theorem AsksHost.refl (s : State) : AsksHost s s := ⟨rfl, fun _ h => h, fun _ h => h⟩

theorem State.hostSend_asks (s : State) (o : Out) : AsksHost s (s.hostSend o) := by
  unfold hostSend
  split
  · exact .refl s
  split
  · exact ⟨rfl, List.subset_cons_self o s.out, fun _ h => h⟩
  · exact ⟨rfl, fun _ h => h, List.subset_append_left s.host.heldOut [o]⟩

theorem AsksHost.bnd {s t : State} (h : AsksHost s t) : t.bnd = s.bnd := by rw [h.1]

theorem AsksHost.regs {s t : State} (h : AsksHost s t) : t.regs = s.regs := by rw [h.1]

theorem AsksHost.rd {s t : State} (h : AsksHost s t) (f : Fld) (i : Nat) : t.rd f i = s.rd f i :=
  State.rd_congr h.regs f i

theorem AsksHost.spool {s t : State} (h : AsksHost s t) (k : Nat) : t.spool k = s.spool k := by
  rw [State.spool, h.bnd, State.spool]

theorem AsksHost.memories {s t : State} (h : AsksHost s t) : t.memories = s.memories := by
  rw [h.1]
  rfl

theorem AsksHost.sameBut {s t : State} (h : AsksHost s t) (l : List (Fld × Nat)) : SameBut s t l :=
  fun f i _ => h.rd f i

/-- A request is sent, held, or not carried at all. -/
theorem State.hostGets_hostSend (s : State) (o : Out) : HostGets s (s.hostSend o) o := by
  unfold HostGets hostSend
  split_ifs
  · exact List.mem_cons_self
  · exact List.mem_append_right _ (List.mem_singleton.2 rfl)

/-- `HostGets` looks at two registers of the state before. -/
theorem HostGets.of_rd {s u t : State} {o : Out} (h : HostGets u t o)
    (hmode : u.rd F.HOST_LINK_MODE 0 = s.rd F.HOST_LINK_MODE 0) (hbme : u.rd I.bme 0 = s.rd I.bme 0) :
    HostGets s t o := by
  unfold HostGets State.on at h ⊢
  rwa [hmode, hbme] at h

/-- A request stays sent or held while what was sent and held stays. -/
theorem HostGets.mono {s t u : State} {o : Out} (h : HostGets s t o) (hout : t.out ⊆ u.out)
    (hheld : t.host.heldOut ⊆ u.host.heldOut) : HostGets s u o := by
  unfold HostGets at h ⊢
  split_ifs at h ⊢
  · exact hout h
  · exact hheld h

/-! ### Power and thermal emergencies (R168) -/

/-- Fields that tell an emergency. -/
def emergencyFields : List Fld := [F.PWR_INPUT_FRONT, I.thrLevel, I.rorLevel]

theorem State.emergency_congr {s t : State} (h : ∀ f ∈ emergencyFields, ∀ i, t.rd f i = s.rd f i) :
    t.emergency = s.emergency := by
  have hthr (z : Nat) : t.rd I.thrLevel z = s.rd I.thrLevel z := h _ (by simp [emergencyFields]) z
  unfold emergency on
  rw [h F.PWR_INPUT_FRONT (by simp [emergencyFields]), h I.rorLevel (by simp [emergencyFields])]
  simp only [hthr]

theorem bit_mod_two (b : Bool) : bit b % 2 = bit b := by cases b <;> rfl

/-! ### The start of a command (R164, R168) -/

/-- The read of the descriptor of the registered command (R164). -/
def State.descRead (s : State) : Out := .hostRead (s.rd F.CMD_ADDR 0 / 64 * 64) 64

/-- The descriptor's read is asked of the host; the command is deferred no longer. -/
theorem State.readDesc_spec (s : State) :
    s.readDesc.rd I.cmdDeferred 0 = 0 ∧ HostGets s s.readDesc s.descRead ∧
    AsksHost (s.wr I.cmdDeferred 0 0) s.readDesc := by
  have hasks : AsksHost (s.wr I.cmdDeferred 0 0) s.readDesc := State.hostSend_asks ..
  refine ⟨(hasks.rd ..).trans (State.rd_wr_same ..), ?_, hasks⟩
  exact HostGets.of_rd (State.hostGets_hostSend ..) (s.rd_wr_id _ _ _ (by decide)) (s.rd_wr_id _ _ _ (by decide))

theorem State.readDesc_sameBut (s : State) : SameBut s s.readDesc [(I.cmdDeferred, 0)] :=
  (sameBut_wr s _ _ _ List.mem_cons_self).trans (s.readDesc_spec.2.2.sameBut _)

/-- A command that starts samples the emergency and asks for its descriptor. -/
theorem State.startCmd_spec (s : State) :
    s.startCmd.rd I.cmdDeferred 0 = 0 ∧ s.startCmd.rd I.cmdPaused 0 = bit s.emergency ∧
    HostGets s s.startCmd s.descRead ∧ SameBut s s.startCmd [(I.cmdDeferred, 0), (I.cmdPaused, 0)] ∧
    AsksHost ((s.wr I.cmdPaused 0 (bit s.emergency)).wr I.cmdDeferred 0 0) s.startCmd := by
  obtain ⟨hdef, hgets, hasks⟩ := (s.wr I.cmdPaused 0 (bit s.emergency)).readDesc_spec
  refine ⟨hdef, ?_, ?_, ?_, hasks⟩
  · calc s.startCmd.rd I.cmdPaused 0
        = (s.wr I.cmdPaused 0 (bit s.emergency)).rd I.cmdPaused 0 :=
          (hasks.rd ..).trans (State.rd_wr_id _ _ _ _ (by decide))
      _ = bit s.emergency := (State.rd_wr_same ..).trans (bit_mod_two _)
  · have haddr : (s.wr I.cmdPaused 0 (bit s.emergency)).descRead = s.descRead := by
      rw [descRead, State.rd_wr_id _ _ _ _ (by decide), descRead]
    exact haddr ▸ HostGets.of_rd hgets (s.rd_wr_id _ _ _ (by decide)) (s.rd_wr_id _ _ _ (by decide))
  · exact ((sameBut_wr s _ _ _ (by simp)).wr _ _ _ (by simp)).trans (hasks.sameBut _)

/-- A command that starts changes registers, and what it asks of the host. -/
theorem State.startCmd_frame (s : State) :
    s.startCmd.bnd = s.bnd ∧ s.startCmd.host.writeQueue = s.host.writeQueue ∧ SameMemories s s.startCmd := by
  obtain ⟨-, -, -, -, hasks⟩ := s.startCmd_spec
  refine ⟨hasks.bnd, ?_, sameMemories_of_memories hasks.memories⟩
  rw [hasks.1]
  rfl

/-! ### `CMD_GO` -/

/-- The command is registered: `BUSY` is 1 and it waits for its descriptor (R164). -/
def State.goBusy (s : State) : State := { s with bnd := { s.bnd with cmd := some .waiting } }.wr F.CMD_STATUS_BUSY 0 1

theorem State.goBusy_sameBut (s : State) : SameBut s s.goBusy [(F.CMD_STATUS_BUSY, 0)] :=
  sameBut_wr { s with bnd := { s.bnd with cmd := some .waiting } } _ _ _ List.mem_cons_self

theorem State.rd_goBusy (s : State) (f : Fld) (i : Nat) (hf : f.id ≠ F.CMD_STATUS_BUSY.id) :
    s.goBusy.rd f i = s.rd f i :=
  s.goBusy_sameBut f i fun _ hx => List.mem_singleton.1 hx ▸ regKey_inj_id hf

theorem State.busy_goBusy (s : State) : s.goBusy.rd F.CMD_STATUS_BUSY 0 = 1 :=
  State.rd_wr_same { s with bnd := { s.bnd with cmd := some .waiting } } F.CMD_STATUS_BUSY 0 1

theorem State.emergency_goBusy (s : State) : s.goBusy.emergency = s.emergency :=
  State.emergency_congr fun f hf i => s.rd_goBusy f i <| by
    simp only [emergencyFields, List.mem_cons, List.not_mem_nil, or_false] at hf
    rcases hf with rfl | rfl | rfl <;> decide

theorem exec_cmdGo_idle (path : Path) {s : State} (h : s.on F.CMD_STATUS_BUSY 0 = false) :
    exec (.cmdGo path) s = .next
      (if s.on F.HOST_STATUS_FW_UP 0 then s.goBusy.startCmd else s.goBusy.wr I.cmdDeferred 0 1) := by
  have hfw : s.goBusy.on F.HOST_STATUS_FW_UP 0 = s.on F.HOST_STATUS_FW_UP 0 := by
    rw [State.on, s.rd_goBusy _ _ (by decide), State.on]
  show execCmdGo path s = _
  rw [execCmdGo, h, if_neg (by decide), ← hfw]
  exact (apply_ite Host.Outcome.next _ _ _).symm

theorem cmdGo_starts (path : Path) {s : State} (hbusy : s.on F.CMD_STATUS_BUSY 0 = false)
    (hfw : s.on F.HOST_STATUS_FW_UP 0 = true) : Completes (.cmdGo path) s fun t =>
      t.rd F.CMD_STATUS_BUSY 0 = 1 ∧ t.bnd.cmd = some .waiting ∧ t.rd I.cmdDeferred 0 = 0 ∧
      HostGets s t s.descRead ∧ t.rd I.cmdPaused 0 = bit s.emergency ∧ SameMemories s t ∧
      SameBut s t [(F.CMD_STATUS_BUSY, 0), (I.cmdDeferred, 0), (I.cmdPaused, 0)] := by
  obtain ⟨hdef, hpaused, hgets, hsame, -⟩ := s.goBusy.startCmd_spec
  obtain ⟨hbnd, -, hmem⟩ := s.goBusy.startCmd_frame
  have haddr : s.goBusy.descRead = s.descRead := by
    rw [State.descRead, s.rd_goBusy _ _ (by decide), State.descRead]
  refine ⟨_, (exec_cmdGo_idle path hbusy).trans (congrArg _ (if_pos hfw)), ?_, by rw [hbnd]; rfl, hdef, ?_, ?_, hmem, ?_⟩
  · exact (hsame _ _ (by simp only [List.forall_mem_cons]; exact ⟨regKey_inj_id (by decide), regKey_inj_id (by decide),
      fun _ h => absurd h List.not_mem_nil⟩)).trans s.busy_goBusy
  · exact haddr ▸ HostGets.of_rd hgets (s.rd_goBusy _ _ (by decide)) (s.rd_goBusy _ _ (by decide))
  · rw [hpaused, s.emergency_goBusy]
  · exact SameBut.trans (s.goBusy_sameBut.mono (by simp)) (hsame.mono (by simp))

theorem cmdGo_deferred (path : Path) {s : State} (hbusy : s.on F.CMD_STATUS_BUSY 0 = false)
    (hfw : s.on F.HOST_STATUS_FW_UP 0 = false) : Completes (.cmdGo path) s fun t =>
      t.rd F.CMD_STATUS_BUSY 0 = 1 ∧ t.bnd.cmd = some .waiting ∧ t.rd I.cmdDeferred 0 = 1 ∧ t.out = s.out ∧
      t.host = s.host ∧ SameMemories s t ∧ SameBut s t [(F.CMD_STATUS_BUSY, 0), (I.cmdDeferred, 0)] := by
  refine ⟨_, (exec_cmdGo_idle path hbusy).trans (congrArg _ (if_neg (by rw [hfw]; decide))), ?_, rfl,
    State.rd_wr_same .., rfl, rfl, SameMemories.refl s, ?_⟩
  · exact (State.rd_wr_id _ _ _ _ (by decide)).trans s.busy_goBusy
  · exact (s.goBusy_sameBut.mono (by simp)).wr _ _ _ (by simp)

/-- A class C fault sends nothing, and leaves the bindings' and the host's state alone. -/
theorem State.classC_keeps (s : State) (rule arg : Nat) :
    (s.classC rule arg).bnd = s.bnd ∧ (s.classC rule arg).out = s.out ∧ (s.classC rule arg).host = s.host := by
  refine ⟨?_, ?_, ?_⟩ <;> rw [s.classC_eq]

theorem cmdGo_busy (path : Path) {s : State} (h : s.on F.CMD_STATUS_BUSY 0 = true) :
    exec (.cmdGo path) s = .next (s.classC 164 0) := if_pos h

/-! ### `CMD_DEFERRED_START` -/

theorem exec_cmdDeferredStart {s : State} (hdef : s.on I.cmdDeferred 0 = true)
    (hfw : s.on F.HOST_STATUS_FW_UP 0 = true) : exec .cmdDeferredStart s = .next
      (if s.goQueued then (s.wr I.cmdPaused 0 (bit s.emergency)).wr I.cmdDeferred 0 2 else s.startCmd) := by
  show execCmdDeferredStart s = _
  rw [execCmdDeferredStart, if_pos ⟨hdef, hfw⟩]
  exact (apply_ite Host.Outcome.next _ _ _).symm

theorem cmdDeferredStart_starts {s : State} (hdef : s.on I.cmdDeferred 0 = true)
    (hfw : s.on F.HOST_STATUS_FW_UP 0 = true) : Completes .cmdDeferredStart s fun t =>
      (if s.goQueued then t.rd I.cmdDeferred 0 = 2 ∧ t.out = s.out ∧ t.host = s.host
       else t.rd I.cmdDeferred 0 = 0 ∧ HostGets s t s.descRead) ∧
      t.rd I.cmdPaused 0 = bit s.emergency ∧ t.bnd = s.bnd ∧ SameMemories s t ∧
      SameBut s t [(I.cmdDeferred, 0), (I.cmdPaused, 0)] := by
  refine ⟨_, exec_cmdDeferredStart hdef hfw, ?_⟩
  cases hq : s.goQueued with
  | true =>
    refine ⟨⟨State.rd_wr_same .., rfl, rfl⟩, ?_, rfl, SameMemories.refl s,
      (sameBut_wr s _ _ _ (by simp)).wr _ _ _ (by simp)⟩
    exact ((State.rd_wr_id _ _ _ _ (by decide)).trans (State.rd_wr_same ..)).trans (bit_mod_two _)
  | false =>
    obtain ⟨hd, hp, hgets, hsame, -⟩ := s.startCmd_spec
    obtain ⟨hbnd, -, hmem⟩ := s.startCmd_frame
    exact ⟨⟨hd, hgets⟩, hp, hbnd, hmem, hsame⟩

theorem cmdDeferredStart_idle {s : State} (h : s.on I.cmdDeferred 0 = false ∨ s.on F.HOST_STATUS_FW_UP 0 = false) :
    exec .cmdDeferredStart s = .next s :=
  if_neg fun hc => by rcases h with h | h <;> simp [h] at hc

/-- Settles O17: a command registered (`State.goBusy`) starts (`State.startCmd_spec`) or is deferred, and one that
is busy makes `CMD_GO` a class C fault. -/
theorem commandGoRegistersOneCommand : Obligations.CommandGoRegistersOneCommand := by
  unfold Obligations.CommandGoRegistersOneCommand
  intro path s
  refine ⟨cmdGo_starts path, cmdGo_deferred path, fun h => ?_, cmdDeferredStart_starts, cmdDeferredStart_idle⟩
  obtain ⟨hrises, -, hmem, hsame⟩ := s.classC_spec 164 0
  obtain ⟨hbnd, hout, -⟩ := s.classC_keeps 164 0
  exact ⟨_, cmdGo_busy path h, hrises, hbnd, hout, hmem, hsame⟩

end Sys2Proof.Machine

namespace Sys2Proof.Machine
/-! PROOFS. The checks of a command of the window (O18). -/

/-! ### A command judged (R165) -/

theorem State.owner?_setOwner (s : State) (n : Nat) (o : Owner) : (s.setOwner n o).owner? n = some o := by
  unfold setOwner owner?
  rw [Tab.find?_insert_same]
  rfl

/-- The owner's last accepted `SEQ` is the descriptor's. -/
theorem State.owner?_acceptSeq {s : State} {x : Desc} {o : Owner} (h : s.owner? x.owner = some o) :
    (s.acceptSeq x).owner? x.owner = some { o with lastSeq := x.seq } := by
  rw [acceptSeq, h]
  exact s.owner?_setOwner ..

/-- The state in which a descriptor has been judged: an authentic one's `SEQ` is accepted (R165). -/
def State.judged (s : State) (x : Desc) (tagOk : Bool) : State := if s.authentic x tagOk then s.acceptSeq x else s

theorem State.judged_eq (s : State) (x : Desc) (tagOk : Bool) :
    s.judged x tagOk = { s with bnd := { s.bnd with owners := (s.judged x tagOk).bnd.owners } } := by
  unfold judged
  split
  · exact s.acceptSeq_eq x
  · rfl

section

variable {s : State} {desc : Unit64} {tagOk ok pausable : Bool} {body : Desc → State → State}

theorem State.command_not_ready (h : s.ready = false) : s.command desc tagOk ok pausable body = s := by
  rw [command, h, if_neg (by decide)]

theorem State.command_bad (h : s.ready = true) : s.command desc tagOk false pausable body =
    (s.judged (Desc.of desc) tagOk).endCmd 0x01 := by
  rw [command, if_pos h]
  rfl

theorem State.command_unauthentic (h : s.ready = true) (hauth : s.authentic (Desc.of desc) tagOk = false) :
    s.command desc tagOk true pausable body = (s.bump F.SEC_AUTH_CMD_FAILS 0).endCmd 0x02 := by
  simp only [command, h, hauth, if_true, Bool.false_eq_true, if_false, Bool.not_true, Bool.not_false]

theorem State.command_paused (h : s.ready = true) (hauth : s.authentic (Desc.of desc) tagOk = true)
    (hp : s.on I.cmdPaused 0 = true) : s.command desc tagOk true true body =
      (s.acceptSeq (Desc.of desc)).endCmd 0x14 := by
  have hp' : (s.acceptSeq (Desc.of desc)).on I.cmdPaused 0 = true := by
    rw [s.acceptSeq_eq]
    exact hp
  simp only [command, h, hauth, hp', if_true, Bool.true_and, Bool.not_true, Bool.false_eq_true, if_false]

end

/-! ### The commands of the window -/

/-- A command of the window is checked by `State.command`: its descriptor's ranges and its pause are those listed. -/
def IsChecked (c : (Unit64 → Bool → Instr) × (Desc → Bool) × Bool) : Prop :=
  ∀ (desc : Unit64) (tagOk : Bool) (s : State), s.on F.SEC_STATUS_DRBG_STOP 0 = false →
    ∃ body, exec (c.1 desc tagOk) s = .next (s.command desc tagOk (c.2.1 (Desc.of desc)) c.2.2 body)

theorem windowCommands_isChecked : ∀ c ∈ windowCommands, IsChecked c := by
  simp only [windowCommands, List.forall_mem_cons]
  refine ⟨?_, ?_, ?_, ?_, ?_, ?_, ?_, ?_, ?_, ?_, ?_, ?_, fun _ h => absurd h List.not_mem_nil⟩
  case refine_2 => exact fun desc tagOk s h => ⟨_, if_neg (by rw [h]; decide)⟩
  case refine_4 => exact fun desc tagOk s h => ⟨_, if_neg (by rw [h]; decide)⟩
  all_goals exact fun desc tagOk s _ => ⟨_, rfl⟩

/-! ### A command that ends at its checks -/

/-- A command that has changed owners and listed registers only, and ends. -/
theorem endCmd_checked {s v : State} {l : List (Fld × Nat)} {reason : Nat} (hc : s.bnd.toClose = [])
    (hv : v = { s with regs := v.regs, bnd := { s.bnd with owners := v.bnd.owners } }) (hsame : SameBut s v l)
    (hl : ∀ y ∈ l, y.1.id ≠ F.HOST_STATUS_FW_UP.id ∧ y.1.id ≠ F.CMD_STATUS_BUSY.id) (hr : reason < 256) :
    EndsWith s (v.endCmd reason) reason ∧ SameBytes s (v.endCmd reason) ∧
      SameBut s (v.endCmd reason) (l ++ cmdEnd) ∧ (v.endCmd reason).bnd.owners = v.bnd.owners := by
  have hc' : v.bnd.toClose = [] := by rw [hv]; exact hc
  obtain ⟨hends, hregs⟩ := endCmd_after hc' hr hsame hl
  have ht : v.endCmd reason = _ := State.endCmd_taken hc' reason
  refine ⟨hends, ?_, hregs, by rw [ht]⟩
  rw [ht, hv]
  exact ⟨rfl, rfl, rfl, rfl⟩

/-- A command that ends once its descriptor is judged. -/
theorem endCmd_judged {s : State} (hc : s.bnd.toClose = []) (x : Desc) (tagOk : Bool) {reason : Nat} (hr : reason < 256) :
    EndsWith s ((s.judged x tagOk).endCmd reason) reason ∧ SameBytes s ((s.judged x tagOk).endCmd reason) ∧
      SameBut s ((s.judged x tagOk).endCmd reason) cmdEnd ∧
      ∀ o, s.owner? x.owner = some o → s.authentic x tagOk = true →
        ((s.judged x tagOk).endCmd reason).owner? x.owner = some { o with lastSeq := x.seq } := by
  have hj := s.judged_eq x tagOk
  obtain ⟨hends, hbytes, hregs, howners⟩ := endCmd_checked (v := s.judged x tagOk) (l := []) hc (by rw [hj])
    (by rw [hj]; exact fun _ _ _ => rfl) (fun _ h => absurd h List.not_mem_nil) hr
  refine ⟨hends, hbytes, hregs, fun o ho hauth => ?_⟩
  rw [State.owner?, howners, State.judged, if_pos hauth]
  exact State.owner?_acceptSeq ho

/-- Settles O18: every command of the window goes through `State.command` (`windowCommands_isChecked`), whose
checks end it by `endCmd_judged` or with the failure counted. -/
theorem windowCommandsAreCheckedFirst : Obligations.WindowCommandsAreCheckedFirst := by
  unfold Obligations.WindowCommandsAreCheckedFirst
  intro c hmem desc tagOk s hdrbg hc
  obtain ⟨body, hexec⟩ := windowCommands_isChecked c hmem desc tagOk s hdrbg
  refine ⟨fun hready => ?_, fun hready hok => ?_, fun hready hok hauth => ?_, fun hready hok hauth hpause hp => ?_⟩
  · rw [hexec, State.command_not_ready hready]
  · rw [hok, State.command_bad hready] at hexec
    exact ⟨_, hexec, endCmd_judged hc _ tagOk (by decide)⟩
  · rw [hok, State.command_unauthentic hready hauth] at hexec
    obtain ⟨hends, hbytes, hregs, howners⟩ := endCmd_checked (v := s.bump F.SEC_AUTH_CMD_FAILS 0)
      (l := [(F.SEC_AUTH_CMD_FAILS, 0)]) (reason := 0x02) hc rfl (sameBut_wr s _ _ _ List.mem_cons_self)
      (by simp only [List.forall_mem_singleton]; decide) (by decide)
    have hcount : Rises s ((s.bump F.SEC_AUTH_CMD_FAILS 0).endCmd 0x02) F.SEC_AUTH_CMD_FAILS 0 1 :=
      (State.rd_endCmd (s := s.bump F.SEC_AUTH_CMD_FAILS 0) hc 0x02 _ 0 (by decide)).trans (s.rises_bump _ 0)
    exact ⟨_, hexec, hends, hcount, hbytes, howners, hregs⟩
  · rw [hok, hpause, State.command_paused hready hauth hp] at hexec
    have hj : s.judged (Desc.of desc) tagOk = s.acceptSeq (Desc.of desc) := if_pos hauth
    obtain ⟨hends, hbytes, hregs, howner⟩ := endCmd_judged hc (Desc.of desc) tagOk (reason := 0x14) (by decide)
    rw [hj] at hends hbytes hregs howner
    exact ⟨_, hexec, hends, hbytes, hregs, fun o ho => howner o ho hauth⟩

end Sys2Proof.Machine

namespace Sys2Proof.Machine
/-! PROOFS. Spools opened and closed (O23). -/

/-! ### The spools' table -/

theorem State.spool_setSpool_same (s : State) (k : Nat) (x : SpoolSt) : (s.setSpool k x).spool k = x :=
  Tab.get_put_same ..

theorem State.spool_setSpool_other (s : State) {k j : Nat} (x : SpoolSt) (h : j ≠ k) :
    (s.setSpool k x).spool j = s.spool j :=
  Tab.get_put_other _ (Ne.symm h) ..

theorem State.spool_congr {s t : State} (h : t.bnd.spools = s.bnd.spools) (k : Nat) : t.spool k = s.spool k := by
  rw [State.spool, h, State.spool]

/-! ### The two commands -/

/-- A spool opens for an owner, its indexes and energy at 0 (R187). -/
def State.openSpool (s : State) (k owner : Nat) : State :=
  (((((((s.wr F.SPOOL_SIZE_OPEN k 1).wr F.SPOOL_OWNER_OWNER k owner).wr F.SPOOL_HEAD_INDEX k 0).wr
    F.SPOOL_TAIL_INDEX k 0).wr F.SPOOL_CQ_HEAD_INDEX k 0).wr F.SPOOL_CQ_TAIL_INDEX k 0).wr F.SPOOL_ENERGY k 0).setSpool k {}

/-- A context of an open spool that is no twin's copy uses it (R174, R246). -/
def State.spoolUsed (s : State) (k : Nat) : Bool :=
  s.bnd.ctxs.any fun c => c.2.spool == k && s.rd F.CTX_STATE_STATE c.1 != 6

section

variable {s : State} {desc : Unit64} {x : Desc}

theorem exec_spoolOpen (h : Accepted s desc) (hx : Desc.of desc = x) (hok : (x.ownerOk && x.spoolOk) = true) :
    exec (.spoolOpen desc true) s = .next (if s.on F.SPOOL_SIZE_OPEN x.spool then (accepted s desc).endCmd 0x10
      else ((accepted s desc).openSpool x.spool x.owner).endCmd 0) := by
  subst hx
  have hopen : (accepted s desc).on F.SPOOL_SIZE_OPEN (Desc.of desc).spool = s.on F.SPOOL_SIZE_OPEN (Desc.of desc).spool := by
    rw [State.on, rd_accepted, State.on]
  rw [← hopen]
  exact congrArg Host.Outcome.next (command_of_accepted h hok false _)

theorem exec_spoolClose (h : Accepted s desc) (hx : Desc.of desc = x) (hok : (x.ownerOk && x.spoolOk) = true) :
    exec (.spoolClose desc true) s = .next (if !s.on F.SPOOL_SIZE_OPEN x.spool then (accepted s desc).endCmd 0x11
      else if s.rd F.SPOOL_OWNER_OWNER x.spool ≠ x.owner then (accepted s desc).endCmd 0x03
      else if s.spoolUsed x.spool then (accepted s desc).endCmd 0x05
      else ((accepted s desc).closeSpool x.spool).endCmd 0) := by
  subst hx
  refine congrArg Host.Outcome.next ((command_of_accepted h hok false _).trans ?_)
  obtain ⟨o, ho⟩ := accepted_eq s desc
  rw [ho]
  rfl

end

/-! ### What an opened or closed spool shows -/

/-- Registers that the opening of a spool writes. -/
def spoolOpenRegs (k : Nat) : List (Fld × Nat) :=
  [(F.SPOOL_SIZE_OPEN, k), (F.SPOOL_OWNER_OWNER, k), (F.SPOOL_HEAD_INDEX, k), (F.SPOOL_TAIL_INDEX, k),
    (F.SPOOL_CQ_HEAD_INDEX, k), (F.SPOOL_CQ_TAIL_INDEX, k), (F.SPOOL_ENERGY, k)]

theorem State.openSpool_sameBut (s : State) (k owner : Nat) : SameBut s (s.openSpool k owner) (spoolOpenRegs k) := by
  have h := ((((((sameBut_wr s F.SPOOL_SIZE_OPEN k 1 (l := spoolOpenRegs k) (by simp [spoolOpenRegs])).wr
    F.SPOOL_OWNER_OWNER k owner (by simp [spoolOpenRegs])).wr F.SPOOL_HEAD_INDEX k 0 (by simp [spoolOpenRegs])).wr
    F.SPOOL_TAIL_INDEX k 0 (by simp [spoolOpenRegs])).wr F.SPOOL_CQ_HEAD_INDEX k 0 (by simp [spoolOpenRegs])).wr
    F.SPOOL_CQ_TAIL_INDEX k 0 (by simp [spoolOpenRegs])).wr F.SPOOL_ENERGY k 0 (by simp [spoolOpenRegs])
  exact h

theorem State.rd_openSpool (s : State) (k owner : Nat) :
    let t := s.openSpool k owner
    t.rd F.SPOOL_SIZE_OPEN k = 1 ∧ t.rd F.SPOOL_OWNER_OWNER k = owner % 2 ^ 12 ∧ t.rd F.SPOOL_HEAD_INDEX k = 0 ∧
      t.rd F.SPOOL_TAIL_INDEX k = 0 ∧ t.rd F.SPOOL_CQ_HEAD_INDEX k = 0 ∧ t.rd F.SPOOL_CQ_TAIL_INDEX k = 0 ∧
      t.rd F.SPOOL_ENERGY k = 0 := by
  have hset (u : State) (f : Fld) : (u.setSpool k {}).rd f k = u.rd f k := rfl
  simp (disch := decide) only [openSpool, hset, rd_wr_id, rd_wr_same, Nat.zero_mod, and_true]
  exact ⟨rfl, rfl⟩

theorem State.closeSpool_spec (s : State) (k : Nat) :
    (s.closeSpool k).rd F.SPOOL_SIZE_OPEN k = 0 ∧ (s.closeSpool k).rd F.SPOOL_OWNER_OWNER k = 0 ∧
      SameBut s (s.closeSpool k) [(F.SPOOL_SIZE_OPEN, k), (F.SPOOL_OWNER_OWNER, k)] := by
  have hset (u : State) (f : Fld) : (u.setSpool k {}).rd f k = u.rd f k := rfl
  refine ⟨?_, ?_, (sameBut_wr s F.SPOOL_SIZE_OPEN k 0 (by simp)).wr F.SPOOL_OWNER_OWNER k 0 (by simp)⟩ <;>
    simp (disch := decide) only [closeSpool, hset, rd_wr_id, rd_wr_same, Nat.zero_mod]

/-- What the commands of a spool change beside registers: the spools, of them spool `k` alone, which holds nothing. -/
def SpoolCleared (k : Nat) (s t : State) : Prop :=
  t = { s with regs := t.regs, bnd := { s.bnd with spools := t.bnd.spools } } ∧ t.spool k = {} ∧
    ∀ j ≠ k, t.spool j = s.spool j

theorem State.setSpool_cleared {s u : State} (h : u = { s with regs := u.regs }) (k : Nat) :
    SpoolCleared k s (u.setSpool k {}) := by
  rw [h]
  exact ⟨rfl, State.spool_setSpool_same .., fun _ hj => State.spool_setSpool_other { s with regs := u.regs } _ hj⟩

theorem State.openSpool_cleared (s : State) (k owner : Nat) : SpoolCleared k s (s.openSpool k owner) :=
  setSpool_cleared rfl k

theorem State.closeSpool_cleared (s : State) (k : Nat) : SpoolCleared k s (s.closeSpool k) := setSpool_cleared rfl k

/-- Other spools, and everything beside the spools and the listed registers, stay through a command's end. -/
theorem spoolCommand_ends {s : State} {desc : Unit64} (h : Accepted s desc) {u : State} {k : Nat} {i : Instr}
    {l : List (Fld × Nat)} (hexec : exec i s = .next (u.endCmd 0))
    (hcleared : SpoolCleared k (accepted s desc) u) (hregs : SameBut (accepted s desc) u l)
    (hl : ∀ y ∈ l, y.1.id ≠ F.HOST_STATUS_FW_UP.id ∧ y.1.id ≠ F.CMD_STATUS_BUSY.id) :
    Completes i s fun t => t = u.endCmd 0 ∧ u.bnd.toClose = [] ∧ EndsWith s t 0 ∧ t.spool k = {} ∧
      ((∀ j ≠ k, t.spool j = s.spool j) ∧ t.bnd.ctxs = s.bnd.ctxs ∧ t.bnd.bindings = s.bnd.bindings ∧
        t.hbm = s.hbm ∧ t.beam = s.beam ∧ t.arr = s.arr ∧ t.stw = s.stw) ∧ SameBut s t (cmdEnd ++ l) := by
  obtain ⟨hu, hspool, hother⟩ := hcleared
  obtain ⟨o, ho⟩ := accepted_eq s desc
  have hc : u.bnd.toClose = [] := by
    rw [hu]
    exact accepted_toClose h
  have hsame : SameBut s u l := SameBut.trans (by rw [ho]; exact fun _ _ _ => rfl) hregs
  obtain ⟨hends, hafter⟩ := endCmd_after hc (show 0 < 256 by decide) hsame hl
  have ht : u.endCmd 0 = _ := State.endCmd_taken hc 0
  have hspools (j : Nat) : (u.endCmd 0).spool j = u.spool j := State.spool_congr (by rw [ht]) j
  refine ⟨_, hexec, rfl, hc, hends, (hspools k).trans hspool, ⟨fun j hj => ?_, ?_⟩, hafter.mono fun x hx => ?_⟩
  · rw [hspools, hother j hj, ho]
    rfl
  · rw [ht, hu, ho]
    exact ⟨rfl, rfl, rfl, rfl, rfl, rfl⟩
  · exact List.mem_append.2 (List.mem_append.1 hx).symm

section

variable {s : State} {desc : Unit64} {x : Desc} (h : Accepted s desc) (hx : Desc.of desc = x)
  (hok : (x.ownerOk && x.spoolOk) = true)

include h hx hok

theorem spoolOpen_opens (hopen : s.on F.SPOOL_SIZE_OPEN x.spool = false) :
    Completes (.spoolOpen desc true) s fun t =>
      EndsWith s t 0 ∧ t.rd F.SPOOL_SIZE_OPEN x.spool = 1 ∧ t.rd F.SPOOL_OWNER_OWNER x.spool = x.owner ∧
      t.rd F.SPOOL_HEAD_INDEX x.spool = 0 ∧ t.rd F.SPOOL_TAIL_INDEX x.spool = 0 ∧
      t.rd F.SPOOL_CQ_HEAD_INDEX x.spool = 0 ∧ t.rd F.SPOOL_CQ_TAIL_INDEX x.spool = 0 ∧
      t.rd F.SPOOL_ENERGY x.spool = 0 ∧ t.spool x.spool = {} ∧
      ((∀ j ≠ x.spool, t.spool j = s.spool j) ∧ t.bnd.ctxs = s.bnd.ctxs ∧ t.bnd.bindings = s.bnd.bindings ∧
        t.hbm = s.hbm ∧ t.beam = s.beam ∧ t.arr = s.arr ∧ t.stw = s.stw) ∧
      SameBut s t (cmdEnd ++ spoolOpenRegs x.spool) := by
  have howner : x.owner % 2 ^ 12 = x.owner := by
    have ho := (Bool.and_eq_true_iff.1 hok).1
    rw [Desc.ownerOk, decide_eq_true_eq] at ho
    omega
  have hexec := (exec_spoolOpen h hx hok).trans (congrArg _ (if_neg (by rw [hopen]; decide)))
  obtain ⟨t, ht, rfl, hc, hends, hspool, hkept, hregs⟩ := spoolCommand_ends h hexec
    ((accepted s desc).openSpool_cleared x.spool x.owner) ((accepted s desc).openSpool_sameBut x.spool x.owner)
    (by simp only [spoolOpenRegs, List.forall_mem_cons, List.not_mem_nil, false_implies, implies_true]; decide)
  obtain ⟨h1, h2, h3, h4, h5, h6, h7⟩ := (accepted s desc).rd_openSpool x.spool x.owner
  refine ⟨_, ht, hends, ?_, ?_, ?_, ?_, ?_, ?_, ?_, hspool, hkept, hregs⟩
  all_goals rw [State.rd_endCmd hc _ _ _ (by decide)]
  exacts [h1, h2.trans howner, h3, h4, h5, h6, h7]

theorem spoolClose_closes (hopen : s.on F.SPOOL_SIZE_OPEN x.spool = true)
    (howner : s.rd F.SPOOL_OWNER_OWNER x.spool = x.owner) (hused : s.spoolUsed x.spool = false) :
    Completes (.spoolClose desc true) s fun t =>
      EndsWith s t 0 ∧ t.rd F.SPOOL_SIZE_OPEN x.spool = 0 ∧ t.rd F.SPOOL_OWNER_OWNER x.spool = 0 ∧
      t.spool x.spool = {} ∧
      ((∀ j ≠ x.spool, t.spool j = s.spool j) ∧ t.bnd.ctxs = s.bnd.ctxs ∧ t.bnd.bindings = s.bnd.bindings ∧
        t.hbm = s.hbm ∧ t.beam = s.beam ∧ t.arr = s.arr ∧ t.stw = s.stw) ∧
      SameBut s t (cmdEnd ++ [(F.SPOOL_SIZE_OPEN, x.spool), (F.SPOOL_OWNER_OWNER, x.spool)]) := by
  have hexec := (exec_spoolClose h hx hok).trans (congrArg _ (by
    rw [if_neg (by rw [hopen]; decide), if_neg (not_not.2 howner), if_neg (by rw [hused]; decide)]))
  obtain ⟨hshut, hnobody, hregs⟩ := (accepted s desc).closeSpool_spec x.spool
  obtain ⟨t, ht, rfl, hc, hends, hspool, hkept, hsame⟩ := spoolCommand_ends h hexec
    ((accepted s desc).closeSpool_cleared x.spool) hregs
    (by simp only [List.forall_mem_cons, List.not_mem_nil, false_implies, implies_true]; decide)
  refine ⟨_, ht, hends, ?_, ?_, hspool, hkept, hsame⟩
  · rw [State.rd_endCmd hc _ _ _ (by decide), hshut]
  · rw [State.rd_endCmd hc _ _ _ (by decide), hnobody]

end

/-- Settles O23: each command refuses by its checks in their order (`exec_spoolOpen`, `exec_spoolClose`), or changes
one spool and ends (`spoolCommand_ends`). -/
theorem spoolsOpenAndClose : Obligations.SpoolsOpenAndClose := by
  unfold Obligations.SpoolsOpenAndClose
  intro desc s h hok
  generalize hx : Desc.of desc = x at hok ⊢
  have hclose := exec_spoolClose h hx hok
  refine ⟨spoolOpen_opens h hx hok, fun hopen => ?_, fun hopen => ?_, fun hopen howner => ?_,
    fun hopen howner hused => ?_, spoolClose_closes h hx hok⟩
  · exact refused h ((exec_spoolOpen h hx hok).trans (congrArg _ (if_pos hopen))) (by decide)
  · exact refused h (hclose.trans (congrArg _ (if_pos (by rw [hopen]; rfl)))) (by decide)
  · refine refused h (hclose.trans (congrArg _ ?_)) (by decide)
    rw [if_neg (by rw [hopen]; decide), if_pos howner]
  · refine refused h (hclose.trans (congrArg _ ?_)) (by decide)
    rw [if_neg (by rw [hopen]; decide), if_neg (not_not.2 howner)]
    exact if_pos hused

end Sys2Proof.Machine

namespace Sys2Proof.Machine
/-! PROOFS. The time of a spool's last message, which `SPOOL_IRQ_TIMER` moves (O27 refuted). -/

/-- `SPOOL_IRQ_TIMER` of a spool with an entry unsent: the message is sent, and its time is noted beside the count
(R271: a later entry of the same tick is covered by it). -/
theorem exec_spoolIrqTimer {k : SpoolIx} {s : State} (hen : s.on F.SPOOL_IRQ_EN k.val = true)
    (htime : s.rd F.SPOOL_IRQ_TIME_US k.val ≠ 0) (hunsent : (s.spool k.val).unsent ≠ 0) :
    exec (.spoolIrqTimer k) s = .next
      ((s.msixSend k.val).setSpool k.val { s.spool k.val with unsent := 0, msgAt := s.us + 1 }) :=
  if_pos ⟨hen, htime, hunsent⟩

/-- Spool 0 has an entry unsent and has sent no message yet; its timer is enabled. -/
def timerDue : State :=
  { (State.reset.wr F.SPOOL_IRQ_EN 0 1).wr F.SPOOL_IRQ_TIME_US 0 10 with bnd := { spools := [(0, { unsent := 1 })] } }

/-- Refutes O27: at `SPOOL_IRQ_TIMER` the spool changes in more than its count of unsent entries. In the state
`timerDue` the spool's last message was none (0), and after the command it is of model time 0 (1). -/
theorem not_doorbellsMoveTheRings : ¬ Obligations.DoorbellsMoveTheRings := by
  unfold Obligations.DoorbellsMoveTheRings
  intro h
  obtain ⟨-, -, -, -, -, -, -, htimer⟩ := h 0 0 timerDue
  obtain ⟨t, ht, hspool, -⟩ := htimer (by decide) (by decide) (by decide)
  obtain rfl := Host.Outcome.next.inj ((exec_spoolIrqTimer (by decide) (by decide) (by decide)).symm.trans ht)
  exact absurd (congrArg SpoolSt.msgAt ((State.spool_setSpool_same ..).symm.trans hspool)) (by decide)

end Sys2Proof.Machine

namespace Sys2Proof.Machine
/-! PROOFS. A close that waits for a frame whose completion nothing writes (O25 refuted). -/

/-- A close of a context waits while any of its frames is listed, running or not. -/
theorem State.settle_waits {s : State} {c : Nat} (hcmd : s.bnd.cmd = some (.closeCtx c))
    (hframes : (s.framesOf c).isEmpty = false) : s.settle = s := by
  simp only [settle, hcmd, hframes, Bool.false_eq_true, if_false]

theorem exec_ctxClose {s : State} {desc : Unit64} (h : Accepted s desc)
    (hok : ((Desc.of desc).ownerOk && (Desc.of desc).ctxOk) = true) {z : Ctx} (hz : s.ctx? (Desc.of desc).ctx = some z)
    (howner : z.owner = (Desc.of desc).owner) : exec (.ctxClose desc true) s = .next
      (((accepted s desc).stopCtx (Desc.of desc).ctx).setCmd (.closeCtx (Desc.of desc).ctx)).settle := by
  refine congrArg Host.Outcome.next ((command_of_accepted h hok false _).trans ?_)
  rw [ctx?_accepted, hz]
  exact if_neg (not_not.2 howner)

/-- A frame of context 5 that has ended, its completion entry not written. -/
def endedFrame : Frame :=
  { ctx := 5, spool := 0, ix := 0, opcode := 1, force := false, payloadAddr := 0, payloadLen := 0, resultMax := 0,
    resultAddr := 0, userTag := 0, sealSeq := 0, arrived := 0, stage := .done 0 }

/-- Context 5, of owner 1. -/
def endedCtx : Ctx := { owner := 1, handle := 0, binding := 0, spool := 0, place := 0 }

/-- Owner 1's context 5 holds the frame that has ended, and a command waits for its descriptor. -/
def endedWaits : State :=
  { State.reset.wr F.HOST_STATUS_FW_UP 0 1 with
    bnd := { owners := [(1, { tenantFp := 0, key := 0 })]
             ctxs := [(5, endedCtx)]
             frames := [endedFrame]
             cmd := some .waiting } }

/-- The descriptor of owner 1 (bytes 2-3), context 5 (bytes 8-11), `SEQ` 1 (bytes 40-47). -/
def closeDesc : Unit64 := BitVec.ofNat 512 (2 ^ 16 + 5 * 2 ^ 64 + 2 ^ 320)

theorem accepted_endedWaits : Accepted endedWaits closeDesc := by decide +kernel

/-- `CTX_CLOSE` of the context, before its end is looked for. -/
def closeBegun : State := ((accepted endedWaits closeDesc).stopCtx 5).setCmd (.closeCtx 5)

theorem exec_ctxClose_endedWaits : exec (.ctxClose closeDesc true) endedWaits = .next closeBegun := by
  have hctx : (Desc.of closeDesc).ctx = 5 := by decide +kernel
  have hwaits : closeBegun.settle = closeBegun := State.settle_waits rfl (by decide +kernel)
  refine (exec_ctxClose accepted_endedWaits (by decide +kernel) (z := endedCtx)
    (by rw [hctx]; rfl) (by decide +kernel)).trans ?_
  rw [hctx]
  exact congrArg _ hwaits

/-- Refutes O25: without a running frame a close need not end. In the state `endedWaits` the context's one frame
has ended already, so that the close ends no frame of it and flushes nothing; the frame stays, and the command waits
for it. (In a run of the device a frame that has ended leaves at once, or when an older one of its context ends; the
statement does not ask for that.) -/
theorem not_contextsCloseAndMove : ¬ Obligations.ContextsCloseAndMove := by
  unfold Obligations.ContextsCloseAndMove
  intro h
  have hctx : (Desc.of closeDesc).ctx = 5 := by decide +kernel
  obtain ⟨hclose, -⟩ := h closeDesc endedWaits accepted_endedWaits
  obtain ⟨-, hopen⟩ := hclose (by decide +kernel)
  obtain ⟨-, -, hidle⟩ := hopen endedCtx (by rw [hctx]; rfl)
  obtain ⟨t, ht, hends, -⟩ := hidle (by decide +kernel) (by decide +kernel)
  obtain rfl := Host.Outcome.next.inj (exec_ctxClose_endedWaits.symm.trans ht)
  obtain ⟨-, -, -, hcmd⟩ := hends
  exact absurd hcmd (by decide +kernel)

end Sys2Proof.Machine

namespace Sys2Proof.Machine
/-! PROOFS. The close of an owner whose table's entries are out of order (O40 refuted). -/

/-- A vendor message over DOE that is answered at once is answered in `State.answerMsg`. -/
theorem State.vendorMsg_doe {s : State} (h : AnsweredNow s .doe) (id : BitVec 32) (m : VendorMsg) :
    s.vendorMsg .doe id m = s.answerMsg .doe id m := by
  obtain h | ⟨hup, hheld, hclose, hfw⟩ := h
  · exact absurd rfl h
  · simp [vendorMsg, hup, hheld, hclose, hfw]

/-- `CLOSE_OWNER` of an open owner over DOE. -/
theorem exec_closeOwner_doe {s : State} (h : AnsweredNow s .doe) (id : BitVec 32) {o : Nat} (ho : s.owner? o ≠ none) :
    exec (.closeOwner .doe id o) s = .next
      ({ s with host := { s.host with doeClose := some (id, o) } }.beginClose o).reapOwners := by
  obtain ⟨y, hy⟩ := Option.ne_none_iff_exists'.1 ho
  refine congrArg Host.Outcome.next ((State.vendorMsg_doe h id _).trans ?_)
  simp [State.answerMsg, hy]

/-- An owner without bindings, contexts, bundles and with every spool closed holds nothing that its close ends. -/
theorem State.closeOwner_of_nothing {s : State} (hbindings : s.bnd.bindings = []) (hctxs : s.bnd.ctxs = [])
    (hbundles : s.bnd.bundles = []) (hspools : ∀ k, s.on F.SPOOL_SIZE_OPEN k = false) (o : Nat) :
    s.closeOwner o = s.reapOwners := by
  have hspool (ks : List Nat) : ks.foldl (fun s sp =>
      if s.on F.SPOOL_SIZE_OPEN sp ∧ s.rd F.SPOOL_OWNER_OWNER sp = o then s.closeSpool sp else s) s = s := by
    induction ks with
    | nil => rfl
    | cons k ks ih => rw [List.foldl_cons, if_neg (by simp [hspools]), ih]
  simp only [closeOwner, hbindings, hctxs, hbundles, List.filter_nil, List.foldl_nil, hspool]

/-- Without a command in progress an open owner is marked as closing and closes at once (R163, R164). -/
theorem State.beginClose_idle {s : State} {o : Nat} {y : Owner} (hy : s.owner? o = some y) (hcmd : s.bnd.cmd = none) :
    s.beginClose o = (s.setOwner o { y with closing := true }).closeOwner o := by
  simp only [beginClose, hy, hcmd, Option.isSome_none, Bool.false_eq_true, if_false, setOwner]

/-- Two open owners, 3 after 5 in the table; the die is up and firmware serves. -/
def ownersSwapped : State :=
  { (State.reset.wr I.dieUp 0 1).wr F.HOST_STATUS_FW_UP 0 1 with
    bnd := { owners := [(5, { tenantFp := 0, key := 0 }), (3, { tenantFp := 0, key := 1 })] } }

/-- Owner 3's close is asked for over DOE. -/
def ownerAsked : State := { ownersSwapped with host := { ownersSwapped.host with doeClose := some (0, 3) } }

/-- Owner 3's close begins: it is marked as closing, in an entry put before owner 5's. -/
def ownerClosing : State :=
  { ownerAsked with
    bnd := { owners := [(3, { tenantFp := 0, key := 1, closing := true }), (5, { tenantFp := 0, key := 0 }),
      (3, { tenantFp := 0, key := 1 })] } }

theorem beginClose_ownerAsked : ownerAsked.beginClose 3 = ownerClosing.reapOwners := by
  have hmark : ownerAsked.setOwner 3 { tenantFp := 0, key := 1, closing := true } = ownerClosing := by
    simp [State.setOwner, ownerClosing, ownerAsked, ownersSwapped, Tab.insert]
  have hopen : ownerAsked.owner? 3 = some { tenantFp := 0, key := 1 } := rfl
  rw [State.beginClose_idle hopen rfl, hmark]
  refine State.closeOwner_of_nothing rfl rfl rfl (fun k => ?_) 3
  have hregs : ownerClosing.regs = ((State.reset.wr I.dieUp 0 1).wr F.HOST_STATUS_FW_UP 0 1).regs := by
    simp only [ownerClosing, ownerAsked, ownersSwapped]
  have hreset : State.reset.rd F.SPOOL_SIZE_OPEN k = 0 := rfl
  rw [State.on, State.rd_congr hregs, State.rd_wr_id _ _ _ _ (by decide), State.rd_wr_id _ _ _ _ (by decide), hreset]
  rfl

/-- The entry marked as closing is reaped; the entry as it was is still there. -/
theorem owner?_ownerClosing : ownerClosing.reapOwners.reapOwners.owner? 3 = some { tenantFp := 0, key := 1 } := by
  decide +kernel

/-- Refutes O40: an owner closed without a command in progress can stay open. In the state `ownersSwapped` the table of
owners is out of order: the entry that marks owner 3 as closing is put before owner 5's, where an ordered table would
have it, and is reaped; the one entry that owner 3 had is left, open. (The device keeps the table in rising order; the
statement asks only that the owner has one entry.) -/
theorem not_messagesAreAnsweredAndOwnersOpen : ¬ Obligations.MessagesAreAnsweredAndOwnersOpen := by
  unfold Obligations.MessagesAreAnsweredAndOwnersOpen
  intro h
  have hnow : AnsweredNow ownersSwapped .doe := .inr ⟨by decide, rfl, rfl, by decide⟩
  have hopen : ownersSwapped.owner? 3 ≠ none := by decide
  obtain ⟨-, -, hmessages, -⟩ := h
  obtain ⟨-, -, hclose⟩ := hmessages 0 ownersSwapped hnow
  obtain ⟨-, -, hidle⟩ := hclose 3
  obtain ⟨t, ht, -, -, -, -, howner, -⟩ := hidle hopen rfl
  obtain rfl : ownerClosing.reapOwners.reapOwners = t := by
    rw [← beginClose_ownerAsked]
    exact Host.Outcome.next.inj ((exec_closeOwner_doe hnow 0 hopen).symm.trans ht)
  exact absurd (howner (by decide) _ owner?_ownerClosing) (by decide)

end Sys2Proof.Machine

namespace Sys2Proof.Machine
/-! PROOFS. The completion entry of a spool, and what follows it (R190, R191, R271). -/

/-! ### What follows a completion entry -/

/-- Registers that follow a completion entry, beside the ring's index: the counters of its context, its decode state,
the spool's message (R191, R196, R217, R271). -/
def signalFields : List Fld :=
  [F.CTX_LAST_AGE_AGE_US, F.CTX_FRAMES_DONE_COUNT, F.CTX_FRAMES_LATE_COUNT, F.CTX_FRAMES_FAILED_COUNT,
    F.CTX_DECODE_BROKEN, I.msixPending]

/-- What follows a completion entry of a spool keeps the frames, the entries that wait there, what was sent out or is
held, the memories, and the registers outside `signalFields`. -/
structure Signals (sp : Nat) (s t : State) : Prop where
  frames : t.bnd.frames = s.bnd.frames
  waiting : (t.spool sp).waiting = (s.spool sp).waiting
  out : s.out ⊆ t.out
  heldOut : s.host.heldOut ⊆ t.host.heldOut
  memories : t.memories = s.memories
  fields : SameButFields s t signalFields

theorem Signals.refl (sp : Nat) (s : State) : Signals sp s s := ⟨rfl, rfl, fun _ h => h, fun _ h => h, rfl, .refl s _⟩

theorem Signals.trans {sp : Nat} {s t u : State} (h : Signals sp s t) (h' : Signals sp t u) : Signals sp s u :=
  ⟨h'.frames.trans h.frames, h'.waiting.trans h.waiting, List.Subset.trans h.out h'.out,
    List.Subset.trans h.heldOut h'.heldOut, h'.memories.trans h.memories, h.fields.trans h'.fields⟩

theorem Signals.ite {sp : Nat} {s a b : State} {c : Prop} [Decidable c] (ha : Signals sp s a) (hb : Signals sp s b) :
    Signals sp s (if c then a else b) := by
  split <;> assumption

theorem Signals.of_onlyFields {sp : Nat} {s t : State} (h : OnlyFields s t signalFields) : Signals sp s t := by
  refine ⟨by rw [h.bnd], by rw [State.spool, h.bnd, State.spool], ?_, ?_, h.memories, h.2⟩ <;>
  · rw [h.1]
    exact fun _ hx => hx

theorem AsksHost.signals {s t : State} (h : AsksHost s t) (sp : Nat) : Signals sp s t :=
  ⟨by rw [h.bnd], by rw [h.spool], h.2.1, h.2.2, h.memories, .of_regs h.regs _⟩

theorem Signals.rd {sp : Nat} {s t : State} (h : Signals sp s t) (f : Fld) (i : Nat)
    (hf : ∀ x ∈ signalFields, f.id ≠ x.id) : t.rd f i = s.rd f i := h.fields.rd f i hf

theorem State.msixSend_signals (s : State) (v sp : Nat) : Signals sp s (s.msixSend v) := by
  unfold msixSend
  split
  · exact .of_onlyFields (onlyFields_wr _ _ _ _ (by decide))
  · exact (s.hostSend_asks _).signals sp

theorem State.setSpool_signals (s : State) (sp : Nat) {x : SpoolSt} (h : x.waiting = (s.spool sp).waiting) :
    Signals sp s (s.setSpool sp x) :=
  ⟨rfl, by rw [State.spool_setSpool_same, h], fun _ h => h, fun _ h => h, rfl, .of_regs rfl _⟩

theorem State.spoolMessage_signals (s : State) (sp : Nat) : Signals sp s (s.spoolMessage sp) := by
  have hdue (u : State) : Signals sp u (u.spoolDue sp) := by
    have hsend := u.msixSend_signals sp sp
    exact .ite (hsend.trans (State.setSpool_signals _ sp hsend.waiting.symm)) (.refl sp u)
  exact (s.setSpool_signals sp (x := { s.spool sp with
    unsent := if (s.spool sp).msgAt = s.us + 1 then (s.spool sp).unsent else (s.spool sp).unsent + 1 }) rfl).trans (hdue _)

theorem State.countEnd_signals (s : State) (f : Frame) (status age : Nat) (late : Bool) (sp : Nat) :
    Signals sp s (s.countEnd f status age late) := by
  refine .of_onlyFields ?_
  unfold countEnd
  extract_lets u v
  have hu : OnlyFields s u signalFields := onlyFields_wr _ _ _ _ (by decide)
  have hv : OnlyFields s v signalFields := hu.wr _ _ _ (by decide)
  exact .ite (.ite (hv.wr _ _ _ (by decide)) hv) (hu.wr _ _ _ (by decide))

theorem State.breakDecode_signals (s : State) (c sp : Nat) : Signals sp s (s.breakDecode c) :=
  .of_onlyFields (.ite (onlyFields_wr _ _ _ _ (by decide)) (.refl _ _))

theorem State.fetchNext_asks (s : State) (sp : Nat) : AsksHost s (s.fetchNext sp) := by
  unfold fetchNext
  split
  · exact s.hostSend_asks _
  · exact .refl s

/-! ### The completion entry -/

/-- The address of the entry that the completion ring of a spool takes next (R191). -/
def State.entryAddr (s : State) (sp : Nat) : Nat :=
  s.rd F.SPOOL_CQ_BASE sp / 4096 * 4096 + s.rd F.SPOOL_CQ_TAIL_INDEX sp % ringSize (s.rd F.SPOOL_SIZE_CQ_LOG2 sp) * 32

theorem completionBytes_length (f : Frame) (status flags bytes age seq : Nat) :
    (completionBytes f status flags bytes age seq).length = 32 := rfl

theorem completionBytes_status (f : Frame) (status flags bytes age seq : Nat) :
    (completionBytes f status flags bytes age seq)[10]? = some (BitVec.ofNat 8 status) := rfl

/-- A completion puts its entry into the ring; the rest follows the entry. -/
theorem State.complete_signals (s : State) (f : Frame) (status : Nat) (counts : Bool) :
    ∃ bs : List Byte, bs.length = 32 ∧ bs[10]? = some (BitVec.ofNat 8 status) ∧
      Signals f.spool (s.putEntry f.spool (.hostWrite (s.entryAddr f.spool) bs)) (s.complete f status counts) := by
  obtain ⟨flags, bytes, age, seq, late, h⟩ : ∃ flags bytes age seq late, s.complete f status counts =
      (if counts then (s.putEntry f.spool (.hostWrite (s.entryAddr f.spool)
          (completionBytes f status flags bytes age seq))).countEnd f status age late
        else s.putEntry f.spool (.hostWrite (s.entryAddr f.spool)
          (completionBytes f status flags bytes age seq))).spoolMessage f.spool := ⟨_, _, _, _, _, rfl⟩
  refine ⟨_, completionBytes_length f status flags bytes age seq, completionBytes_status f status flags bytes age seq, ?_⟩
  rw [h]
  exact (Signals.ite (State.countEnd_signals ..) (.refl ..)).trans (State.spoolMessage_signals ..)

/-- The entry is in the ring, and sent or held. -/
theorem State.putEntry_spec (s : State) (sp : Nat) (o : Out) :
    (s.putEntry sp o).rd F.SPOOL_CQ_TAIL_INDEX sp = (s.rd F.SPOOL_CQ_TAIL_INDEX sp + 1) % 2 ^ 17 ∧
    HostGets s (s.putEntry sp o) o ∧ (s.putEntry sp o).bnd.frames = s.bnd.frames ∧
    ((s.putEntry sp o).spool sp).waiting = (s.spool sp).waiting ∧ (s.putEntry sp o).memories = s.memories ∧
    SameBut s (s.putEntry sp o) [(F.SPOOL_CQ_TAIL_INDEX, sp)] := by
  have hasks := s.hostSend_asks o
  have hframes : (s.hostSend o).bnd.frames = s.bnd.frames := congrArg BndSt.frames hasks.bnd
  have hwaiting : ((s.hostSend o).spool sp).waiting = (s.spool sp).waiting := congrArg SpoolSt.waiting (hasks.spool sp)
  refine ⟨State.rd_wr_same (s.hostSend o) .., HostGets.mono (s.hostGets_hostSend o) (fun _ h => h) (fun _ h => h),
    hframes, ?_, hasks.memories, ?_⟩
  · rw [putEntry, State.spool_setSpool_same]
    exact hwaiting
  · exact (hasks.sameBut _).trans (sameBut_wr (s.hostSend o) F.SPOOL_CQ_TAIL_INDEX sp _ List.mem_cons_self)

end Sys2Proof.Machine

namespace Sys2Proof.Machine
/-! PROOFS. Submission entries taken in order (O28). -/

/-! ### An entry taken (R190) -/

/-- The head advances, the entry waits no longer, and a completion entry is reserved. -/
theorem State.takeEntry_spec (s : State) (sp : Nat) :
    (s.takeEntry sp).rd F.SPOOL_HEAD_INDEX sp = (s.rd F.SPOOL_HEAD_INDEX sp + 1) % 2 ^ 17 ∧
    ((s.takeEntry sp).spool sp).waiting = (s.spool sp).waiting.drop 1 ∧
    ((s.takeEntry sp).spool sp).reserved = (s.spool sp).reserved + 1 ∧
    SameBut s (s.takeEntry sp) [(F.SPOOL_HEAD_INDEX, sp)] := by
  refine ⟨State.rd_wr_same .., ?_, ?_, sameBut_wr s F.SPOOL_HEAD_INDEX sp _ List.mem_cons_self⟩ <;>
    rw [takeEntry, State.spool_setSpool_same]

theorem State.rd_takeEntry (s : State) (sp : Nat) (f : Fld) (i : Nat) (hf : f.id ≠ F.SPOOL_HEAD_INDEX.id) :
    (s.takeEntry sp).rd f i = s.rd f i :=
  (s.takeEntry_spec sp).2.2.2 f i fun _ hx => List.mem_singleton.1 hx ▸ regKey_inj_id hf

theorem State.entryAddr_takeEntry (s : State) (sp : Nat) : (s.takeEntry sp).entryAddr sp = s.entryAddr sp := by
  unfold entryAddr
  simp (disch := decide) only [rd_takeEntry]

/-! ### An entry answered at once (R184, R186, R189) -/

/-- The entry refused as bad is counted (R188, R201). -/
def State.countBad (s : State) (sp status : Nat) : State := if status = 9 then s.bump F.SPOOL_STATUS_BAD_ENTRIES sp else s

theorem State.countBad_spec (s : State) (sp status : Nat) :
    (if status = 9 then Rises s (s.countBad sp status) F.SPOOL_STATUS_BAD_ENTRIES sp 1
      else (s.countBad sp status).rd F.SPOOL_STATUS_BAD_ENTRIES sp = s.rd F.SPOOL_STATUS_BAD_ENTRIES sp) ∧
    OnlyRegs s (s.countBad sp status) [(F.SPOOL_STATUS_BAD_ENTRIES, sp)] := by
  unfold countBad
  split
  · exact ⟨s.rises_bump _ _, onlyRegs_wr ..⟩
  · exact ⟨rfl, .refl s _⟩

/-- An answer is a completion of the entry taken, the count of a bad one, and what follows. -/
theorem State.answer_signals (s : State) (f : Frame) (status : Nat) (counts : Bool) :
    Signals f.spool (((s.takeEntry f.spool).complete f status counts).countBad f.spool status)
      (s.answer f status counts) :=
  (Signals.ite (State.breakDecode_signals ..) (.refl ..)).trans ((State.fetchNext_asks ..).signals f.spool)

theorem State.answer_spec (s : State) (f : Frame) (status : Nat) (counts : Bool) :
    let t := s.answer f status counts
    t.rd F.SPOOL_HEAD_INDEX f.spool = (s.rd F.SPOOL_HEAD_INDEX f.spool + 1) % 2 ^ 17 ∧
    EntryWritten s t f.spool status ∧ (t.spool f.spool).waiting = (s.spool f.spool).waiting.drop 1 ∧
    t.bnd.frames = s.bnd.frames ∧
    (if status = 9 then Rises s t F.SPOOL_STATUS_BAD_ENTRIES f.spool 1
      else t.rd F.SPOOL_STATUS_BAD_ENTRIES f.spool = s.rd F.SPOOL_STATUS_BAD_ENTRIES f.spool) ∧ SameMemories s t := by
  intro t
  set sp := f.spool with hsp
  obtain ⟨hhead, hwaiting, -, -⟩ := s.takeEntry_spec sp
  obtain ⟨bs, hlen, hstatus, hv⟩ := (s.takeEntry sp).complete_signals f status counts
  rw [← hsp, s.entryAddr_takeEntry] at hv
  set p := (s.takeEntry sp).putEntry sp (.hostWrite (s.entryAddr sp) bs)
  set v := (s.takeEntry sp).complete f status counts
  obtain ⟨htail, hgets, hframes, hpwaiting, hpmem, hpregs⟩ :=
    (s.takeEntry sp).putEntry_spec sp (.hostWrite (s.entryAddr sp) bs)
  obtain ⟨hbad, hw⟩ := v.countBad_spec sp status
  have ht : Signals sp (v.countBad sp status) t := s.answer_signals f status counts
  have hrd (g : Fld) (hg : ∀ x ∈ signalFields, g.id ≠ x.id) (hne : g.id ≠ F.SPOOL_STATUS_BAD_ENTRIES.id) :
      t.rd g sp = p.rd g sp := by
    rw [ht.rd g sp hg, hw.2 g sp fun _ hx => List.mem_singleton.1 hx ▸ regKey_inj_id hne, hv.rd g sp hg]
  have hprd (g : Fld) (hg : g.id ≠ F.SPOOL_CQ_TAIL_INDEX.id) : p.rd g sp = (s.takeEntry sp).rd g sp :=
    hpregs g sp fun _ hx => List.mem_singleton.1 hx ▸ regKey_inj_id hg
  have hvbad : v.rd F.SPOOL_STATUS_BAD_ENTRIES sp = s.rd F.SPOOL_STATUS_BAD_ENTRIES sp := by
    rw [hv.rd _ _ (by decide), hprd _ (by decide), s.rd_takeEntry _ _ _ (by decide)]
  have hbnd : (v.countBad sp status).bnd = v.bnd := by rw [hw.1]
  refine ⟨?_, ⟨?_, bs, hlen, hstatus, ?_⟩, ?_, ?_, ?_, sameMemories_of_memories ?_⟩
  · rw [hrd _ (by decide) (by decide), hprd _ (by decide), hhead]
  · rw [hrd _ (by decide) (by decide), htail, s.rd_takeEntry _ _ _ (by decide)]
  · have hs : HostGets s p (.hostWrite (s.entryAddr sp) bs) :=
      HostGets.of_rd hgets (s.rd_takeEntry _ _ _ (by decide)) (s.rd_takeEntry _ _ _ (by decide))
    refine HostGets.mono hs (List.Subset.trans hv.out (List.Subset.trans ?_ ht.out))
      (List.Subset.trans hv.heldOut (List.Subset.trans ?_ ht.heldOut))
    all_goals rw [hw.1]; exact List.Subset.refl _
  · rw [ht.waiting, State.spool_congr (congrArg BndSt.spools hbnd), hv.waiting, hpwaiting, hwaiting]
  · rw [ht.frames, hbnd, hv.frames, hframes]
    rfl
  · rw [Rises, ht.rd _ _ (by decide), ← hvbad]
    exact hbad
  · rw [ht.memories, hw.1]
    exact hv.memories.trans hpmem

/-! ### The spool stalls (R185, R190, R212) -/

theorem State.stall_spec (s : State) (sp : Nat) :
    (s.stall sp).spool sp = { s.spool sp with stalled := true } := s.spool_setSpool_same ..

/-! ### A frame taken in (R212) -/

/-- The frame of an entry for an open context, with the context's codec. -/
def State.withCodec (s : State) (f : Frame) : Frame := { f with codec := s.codec f.ctx }

/-- Room in the intake buffer of a context's bundle (R206). -/
def State.intakeRoom (s : State) (c : Nat) : Nat := ((s.hdrOf c).map BundleHdr.intakeBytes).getD 0

/-- The state in which an entry has been taken and its frame listed. -/
def State.listed (s : State) (f : Frame) : State :=
  (s.takeEntry f.spool).setFrames ((s.takeEntry f.spool).bnd.frames ++ [f])

theorem State.takeFrame_bad {s : State} {f : Frame} (x : Ctx) (h : badLength f (s.intakeRoom f.ctx) = true) :
    s.takeFrame f x = ((s.listed (s.withCodec f)).failDecode (s.withCodec f) 1).fetchNext f.spool :=
  if_pos h

theorem State.takeFrame_fits {s : State} {f : Frame} {x : Ctx} (h : badLength f (s.intakeRoom f.ctx) = false)
    (hroom : s.intakeUsed x.binding + f.payloadLen ≤ s.intakeRoom f.ctx) : s.takeFrame f x =
      (((s.listed { s.withCodec f with intake := f.payloadLen }).syncCtx f.ctx).hostSend
        (.hostRead f.payloadAddr f.payloadLen)).fetchNext f.spool :=
  (if_neg (ne_true_of_eq_false h)).trans (if_neg (Nat.not_lt.2 hroom))

theorem State.takeFrame_full {s : State} {f : Frame} {x : Ctx} (h : badLength f (s.intakeRoom f.ctx) = false)
    (hroom : s.intakeRoom f.ctx < s.intakeUsed x.binding + f.payloadLen) : s.takeFrame f x = s.stall f.spool :=
  (if_neg (ne_true_of_eq_false h)).trans (if_pos hroom)

/-- A frame of a bad length fails, and the head advances (R212, R216). -/
theorem State.takeFrame_bad_spec {s : State} {f : Frame} (x : Ctx) (h : badLength f (s.intakeRoom f.ctx) = true) :
    DecodeFailed s (s.takeFrame f x) f 1 ∧
    (s.takeFrame f x).rd F.SPOOL_HEAD_INDEX f.spool = (s.rd F.SPOOL_HEAD_INDEX f.spool + 1) % 2 ^ 17 ∧
    SameMemories s (s.takeFrame f x) := by
  rw [s.takeFrame_bad x h]
  set g := s.withCodec f
  obtain ⟨⟨hrises, hcause, hended⟩, hmem⟩ := State.failDecode_spec (s := s) (u := s.listed g) (f := f) (g := g) (cause := 1)
    ((g.same_iff f).2 ⟨rfl, rfl, rfl⟩) (s.rd_takeEntry _ _ _ (by decide)) rfl (by decide)
  have hasks := ((s.listed g).failDecode g 1).fetchNext_asks f.spool
  refine ⟨⟨?_, ?_, ?_⟩, ?_, SameMemories.trans hmem (sameMemories_of_memories hasks.memories)⟩
  · rw [Rises, hasks.rd]
    exact hrises
  · rw [hasks.rd, hcause]
  · rw [FrameEnded, hasks.bnd]
    exact hended
  · rw [hasks.rd, SameButFields.rd ((s.listed g).failDecode_frame g 1) _ _ (by decide)]
    exact (s.takeEntry_spec f.spool).1

/-- A frame that the intake has room for is listed, and its payload asked of the host (R212, R213). -/
theorem State.takeFrame_fits_spec {s : State} {f : Frame} {x : Ctx} (h : badLength f (s.intakeRoom f.ctx) = false)
    (hroom : s.intakeUsed x.binding + f.payloadLen ≤ s.intakeRoom f.ctx) :
    let t := s.takeFrame f x
    t.bnd.frames = s.bnd.frames ++ [{ f with codec := s.codec f.ctx, intake := f.payloadLen }] ∧
    t.rd F.SPOOL_HEAD_INDEX f.spool = (s.rd F.SPOOL_HEAD_INDEX f.spool + 1) % 2 ^ 17 ∧
    (t.spool f.spool).reserved = (s.spool f.spool).reserved + 1 ∧
    HostGets s t (.hostRead f.payloadAddr f.payloadLen) ∧ SameMemories s t := by
  intro t
  have ht : t = _ := State.takeFrame_fits h hroom
  set g : Frame := { s.withCodec f with intake := f.payloadLen }
  obtain ⟨hhead, -, hreserved, -⟩ := s.takeEntry_spec f.spool
  have hsync := (s.listed g).syncCtx_onlyFields f.ctx
  set y := (s.listed g).syncCtx f.ctx with hy
  have hasks := y.hostSend_asks (.hostRead f.payloadAddr f.payloadLen)
  have hfetch := (y.hostSend (.hostRead f.payloadAddr f.payloadLen)).fetchNext_asks f.spool
  have hbnd : t.bnd = (s.listed g).bnd := by rw [ht, hfetch.bnd, hasks.bnd, hsync.bnd]
  have hrd (k : Fld) (i : Nat) (hk : ∀ z ∈ frameEndFields, k.id ≠ z.id) : y.rd k i = (s.takeEntry f.spool).rd k i :=
    hsync.rd k i hk
  refine ⟨by rw [hbnd]; rfl, ?_, ?_, ?_, sameMemories_of_memories ?_⟩
  · rw [ht, hfetch.rd, hasks.rd, hrd _ _ (by decide), hhead]
  · rw [State.spool, hbnd]
    exact hreserved
  · have hgets : HostGets s (y.hostSend (.hostRead f.payloadAddr f.payloadLen)) (.hostRead f.payloadAddr f.payloadLen) :=
      HostGets.of_rd (y.hostGets_hostSend _)
        ((hrd _ _ (by decide)).trans (s.rd_takeEntry _ _ _ (by decide)))
        ((hrd _ _ (by decide)).trans (s.rd_takeEntry _ _ _ (by decide)))
    rw [ht]
    exact HostGets.mono hgets hfetch.2.1 hfetch.2.2
  · rw [ht, hfetch.memories, hasks.memories, hsync.memories]
    rfl

/-! ### `SUBMISSION_ENTRY` -/

/-- The frame of the entry at the head of a spool's ring. -/
def State.headFrame (s : State) (e : Unit64) (sp : Nat) : Frame :=
  frameOf e sp (s.rd F.SPOOL_HEAD_INDEX sp) ((s.spool sp).waiting.headD s.us)

section

variable {k : SpoolIx} {e : Unit64} {s : State} {f : Frame}

theorem exec_submissionEntry_idle (h : s.canTake k.val = false) : exec (.submissionEntry k e) s = .next s :=
  if_pos (by rw [h]; rfl)

theorem exec_submissionEntry_noRoom (htake : s.canTake k.val = true) (hroom : s.cqRoom k.val = false) :
    exec (.submissionEntry k e) s = .next ((s.stall k.val).bump F.SPOOL_STATUS_CQ_STALLS k.val) :=
  (if_neg (by rw [htake]; decide)).trans (if_pos (by rw [hroom]; rfl))

variable (htake : s.canTake k.val = true) (hroom : s.cqRoom k.val = true) (hf : s.headFrame e k.val = f)

include htake hroom hf

theorem exec_submissionEntry_noop (hop : f.opcode = 3) : exec (.submissionEntry k e) s = .next (s.answer f 0 false) := by
  subst hf
  exact (if_neg (by rw [htake]; decide)).trans ((if_neg (by rw [hroom]; decide)).trans (if_pos hop))

theorem exec_submissionEntry_free (hop : f.opcode ≠ 3) (hc : s.ctx? f.ctx = none) :
    exec (.submissionEntry k e) s = .next
      (s.answer f (if (s.spool k.val).ended.any (·.1 == f.ctx) then 5 else 9) false) := by
  subst hf
  refine (if_neg (by rw [htake]; decide)).trans ((if_neg (by rw [hroom]; decide)).trans ((if_neg hop).trans ?_))
  rw [State.headFrame] at hc
  rw [hc]
  rfl

theorem exec_submissionEntry_ctx (hop : f.opcode ≠ 3) {x : Ctx} (hc : s.ctx? f.ctx = some x) :
    exec (.submissionEntry k e) s = .next
      (if x.spool ≠ k.val ∨ s.rd F.CTX_STATE_STATE f.ctx = 6 then s.answer f 9 false
      else if f.opcode ≠ 1 ∧ f.opcode ≠ 2 then s.answer f 9 true
      else if s.rd F.CTX_STATE_STATE f.ctx = 4 then s.answer f 6 true
      else if s.rd F.CTX_STATE_STATE f.ctx = 5 then
        if x.moving.isSome then s.stall k.val else s.answer f 5 true
      else s.takeFrame f x) := by
  subst hf
  refine (if_neg (by rw [htake]; decide)).trans ((if_neg (by rw [hroom]; decide)).trans ((if_neg hop).trans ?_))
  rw [State.headFrame] at hc ⊢
  rw [hc]
  simp only [apply_ite Host.Outcome.next]

end

/-- The spool stalls: in the words of O28. -/
theorem stalls {k : SpoolIx} {e : Unit64} {s : State} (h : exec (.submissionEntry k e) s = .next (s.stall k.val)) :
    Completes (.submissionEntry k e) s fun t =>
      t.spool k.val = { s.spool k.val with stalled := true } ∧
      t.rd F.SPOOL_HEAD_INDEX k.val = s.rd F.SPOOL_HEAD_INDEX k.val ∧ t.bnd.frames = s.bnd.frames ∧
      SameMemories s t ∧ SameButFields s t [F.SPOOL_STATUS_CQ_STALLS] :=
  ⟨_, h, s.stall_spec k.val, rfl, rfl, SameMemories.refl s, .of_regs rfl _⟩

/-- Without room in the completion ring the stall is counted (R190). -/
theorem submissionEntry_noRoom {k : SpoolIx} (e : Unit64) {s : State} (htake : s.canTake k.val = true)
    (hroom : s.cqRoom k.val = false) :
    (Completes (.submissionEntry k e) s fun t =>
      t.spool k.val = { s.spool k.val with stalled := true } ∧
      t.rd F.SPOOL_HEAD_INDEX k.val = s.rd F.SPOOL_HEAD_INDEX k.val ∧ t.bnd.frames = s.bnd.frames ∧
      SameMemories s t ∧ SameButFields s t [F.SPOOL_STATUS_CQ_STALLS]) ∧
    Completes (.submissionEntry k e) s fun t => Rises s t F.SPOOL_STATUS_CQ_STALLS k.val 1 := by
  have hexec := exec_submissionEntry_noRoom (e := e) htake hroom
  refine ⟨⟨_, hexec, s.stall_spec k.val, ?_, rfl, SameMemories.refl s, ?_⟩, _, hexec, ?_⟩
  · exact (s.stall k.val).rd_wr_id _ _ _ (by decide)
  · exact sameButFields_wr (s.stall k.val) _ _ _ List.mem_cons_self
  · exact (s.stall k.val).rises_bump _ _

/-- Settles O28: the engine's cases (`exec_submissionEntry_ctx` and the three before it) answer the entry at once
(`State.answer_spec`), stall, or take its frame in (`State.takeFrame_fits_spec`). -/
theorem submissionEntriesAreTakenInOrder : Obligations.SubmissionEntriesAreTakenInOrder := by
  unfold Obligations.SubmissionEntriesAreTakenInOrder
  intro k e s sp f st answered stalls'
  have hans {status : Nat} {counts : Bool} (h : exec (.submissionEntry k e) s = .next (s.answer f status counts)) :
      answered status := ⟨_, h, s.answer_spec f status counts⟩
  refine ⟨exec_submissionEntry_idle, submissionEntry_noRoom e, fun htake hroom => ?_⟩
  refine ⟨fun hop => hans (exec_submissionEntry_noop htake hroom rfl hop),
    fun hop hc => hans (exec_submissionEntry_free htake hroom rfl hop hc), fun x hop hc => ?_⟩
  have hexec := exec_submissionEntry_ctx htake hroom (f := f) rfl hop hc
  refine ⟨fun hbad => hans (hexec.trans (congrArg _ (if_pos hbad))), fun hsp hst h1 h2 => ?_, fun hsp hop' => ?_⟩
  · exact hans (hexec.trans (congrArg _ ((if_neg (by tauto)).trans (if_pos ⟨h1, h2⟩))))
  have hopen (hst : st ≠ 6) : exec (.submissionEntry k e) s = .next
      (if st = 4 then s.answer f 6 true
      else if st = 5 then if x.moving.isSome then s.stall k.val else s.answer f 5 true else s.takeFrame f x) :=
    hexec.trans (congrArg _ ((if_neg (by tauto)).trans (if_neg (by tauto))))
  refine ⟨fun h4 => ?_, fun h5 hmove => ?_, fun h5 hmove => ?_, fun h4 h5 h6 => ?_⟩
  · exact hans ((hopen (by omega)).trans (congrArg _ (if_pos h4)))
  · refine hans ((hopen (by omega)).trans (congrArg _ ((if_neg (by omega)).trans ((if_pos h5).trans (if_neg ?_)))))
    rw [hmove]
    decide
  · exact stalls ((hopen (by omega)).trans (congrArg _ ((if_neg (by omega)).trans
      ((if_pos h5).trans (if_pos (Option.isSome_iff_ne_none.2 hmove))))))
  have htakes := (hopen h6).trans (congrArg _ ((if_neg h4).trans (if_neg h5)))
  refine ⟨fun hbad => ⟨_, htakes, State.takeFrame_bad_spec x hbad⟩, fun hgood => ⟨fun hfits => ?_, fun hfull => ?_⟩⟩
  · exact ⟨_, htakes, State.takeFrame_fits_spec hgood hfits⟩
  · exact stalls (htakes.trans (congrArg _ (State.takeFrame_full hgood hfull)))

end Sys2Proof.Machine

namespace Sys2Proof.Machine
/-! PROOFS. The host's write queue and reads of the register window (O38). -/

/-! ### A counter and a class C fault -/

/-- A counter raised and a class C fault beside it. -/
theorem State.bump_classC_spec (s : State) {f : Fld} (i rule arg : Nat) (hf : ∀ x ∈ classCFields, f.id ≠ x.id) :
    let t := (s.bump f i).classC rule arg
    Rises s t f i 1 ∧ Rises s t F.FAULT_CLASSC_COUNT 0 1 ∧ t.bnd = s.bnd ∧ t.out = s.out ∧ t.host = s.host ∧
    SameMemories s t ∧ SameButFields s t (f :: classCFields) := by
  intro t
  have hbump : SameButFields s (s.bump f i) (f :: classCFields) := sameButFields_wr s f i _ List.mem_cons_self
  obtain ⟨hrises, -, hmem, hsame⟩ := (s.bump f i).classC_spec rule arg
  obtain ⟨hbnd, hout, hhost⟩ := (s.bump f i).classC_keeps rule arg
  refine ⟨(hsame.rd f i hf).trans (s.rises_bump f i), ?_, hbnd, hout, hhost, hmem,
    hbump.trans (hsame.mono fun x hx => List.mem_cons_of_mem f hx)⟩
  rw [Rises, ← State.rd_wr_id s (f := f) (g := F.FAULT_CLASSC_COUNT) i 0 _ (hf _ (by simp [classCFields]))]
  exact hrises

/-! ### `BAR0_WRITE` (R164, R265) -/

/-- `CMD_GO` of 1 in the queue: the command is registered; its descriptor is read when the write is applied. -/
theorem State.registerGo_spec (s : State) :
    s.registerGo.rd F.CMD_STATUS_BUSY 0 = 1 ∧ s.registerGo.bnd = { s.bnd with cmd := some .waiting } ∧
    s.registerGo.rd I.cmdDeferred 0 = (if s.on F.HOST_STATUS_FW_UP 0 then 2 else 1) ∧ s.registerGo.out = s.out ∧
    s.registerGo.host = s.host ∧ SameMemories s s.registerGo ∧
    SameBut s s.registerGo [(F.CMD_STATUS_BUSY, 0), (I.cmdPaused, 0), (I.cmdDeferred, 0)] := by
  have hfw : s.goBusy.on F.HOST_STATUS_FW_UP 0 = s.on F.HOST_STATUS_FW_UP 0 := by
    rw [State.on, s.rd_goBusy _ _ (by decide), State.on]
  have hgo : s.registerGo = if s.on F.HOST_STATUS_FW_UP 0
      then (s.goBusy.wr I.cmdPaused 0 (bit s.goBusy.emergency)).wr I.cmdDeferred 0 2
      else s.goBusy.wr I.cmdDeferred 0 1 := by
    rw [← hfw]
    rfl
  have hsame : SameBut s s.goBusy [(F.CMD_STATUS_BUSY, 0), (I.cmdPaused, 0), (I.cmdDeferred, 0)] :=
    s.goBusy_sameBut.mono (by simp)
  rw [hgo]
  cases s.on F.HOST_STATUS_FW_UP 0 with
  | true =>
    refine ⟨?_, rfl, State.rd_wr_same .., rfl, rfl, SameMemories.refl s,
      (hsame.wr _ _ _ (by simp)).wr _ _ _ (by simp)⟩
    exact (State.rd_wr_id _ _ _ _ (by decide)).trans ((State.rd_wr_id _ _ _ _ (by decide)).trans s.busy_goBusy)
  | false =>
    exact ⟨(State.rd_wr_id _ _ _ _ (by decide)).trans s.busy_goBusy, rfl, State.rd_wr_same .., rfl, rfl,
      SameMemories.refl s, hsame.wr _ _ _ (by simp)⟩

section

variable {r : Reg} {n : Nat} {v : Word} {s : State}

theorem exec_bar0Write_unreached (h : s.reaches .host r = false) : exec (.bar0Write r n v) s = .next s :=
  if_pos (by rw [h]; rfl)

variable (hr : s.reaches .host r = true)

include hr

theorem exec_bar0Write_full (hq : 256 ≤ s.host.writeQueue.length) :
    exec (.bar0Write r n v) s = .next ((s.bump F.HOST_STATUS_WQ_DROPS 0).classC 265 0) :=
  (if_neg (by rw [hr]; decide)).trans (if_pos hq)

variable (hq : s.host.writeQueue.length < 256)

include hq

theorem exec_bar0Write_plain (hgo : ¬ (r = .CMD_GO ∧ n = 0 ∧ v.getLsbD 0 = true)) :
    exec (.bar0Write r n v) s = .next (s.enqueue r n v) :=
  (if_neg (by rw [hr]; decide)).trans ((if_neg (Nat.not_le.2 hq)).trans (if_neg hgo))

theorem exec_bar0Write_go (hgo : r = .CMD_GO ∧ n = 0 ∧ v.getLsbD 0 = true) :
    exec (.bar0Write r n v) s = .next (if s.on F.CMD_STATUS_BUSY 0 then (s.classC 164 0).enqueue r n 0
      else s.registerGo.enqueue r n v) := by
  refine (if_neg (by rw [hr]; decide)).trans ((if_neg (Nat.not_le.2 hq)).trans ((if_pos hgo).trans ?_))
  exact (apply_ite Host.Outcome.next _ _ _).symm

theorem bar0Write_go_idle (hgo : r = .CMD_GO ∧ n = 0 ∧ v.getLsbD 0 = true) (hbusy : s.on F.CMD_STATUS_BUSY 0 = false) :
    Completes (.bar0Write r n v) s fun t =>
      t.rd F.CMD_STATUS_BUSY 0 = 1 ∧ t.bnd = { s.bnd with cmd := some .waiting } ∧
      t.host.writeQueue = s.host.writeQueue ++ [(r, n, v)] ∧
      t.rd I.cmdDeferred 0 = (if s.on F.HOST_STATUS_FW_UP 0 then 2 else 1) ∧ t.out = s.out ∧
      SameMemories s t ∧ SameBut s t [(F.CMD_STATUS_BUSY, 0), (I.cmdPaused, 0), (I.cmdDeferred, 0)] := by
  obtain ⟨hb, hbnd, hdef, hout, hhost, hmem, hsame⟩ := s.registerGo_spec
  refine ⟨_, (exec_bar0Write_go hr hq hgo).trans (congrArg _ (if_neg (by rw [hbusy]; decide))),
    hb, hbnd, ?_, hdef, hout, hmem, hsame⟩
  exact congrArg (fun h : HostSt => h.writeQueue ++ [(r, n, v)]) hhost

theorem bar0Write_go_busy (hgo : r = .CMD_GO ∧ n = 0 ∧ v.getLsbD 0 = true) (hbusy : s.on F.CMD_STATUS_BUSY 0 = true) :
    Completes (.bar0Write r n v) s fun t =>
      t.rd F.CMD_STATUS_BUSY 0 = 1 ∧ t.bnd = s.bnd ∧ Rises s t F.FAULT_CLASSC_COUNT 0 1 ∧ SameMemories s t := by
  obtain ⟨hrises, -, hmem, hsame⟩ := s.classC_spec 164 0
  obtain ⟨hbnd, -, -⟩ := s.classC_keeps 164 0
  refine ⟨_, (exec_bar0Write_go hr hq hgo).trans (congrArg _ (if_pos hbusy)), ?_, hbnd, hrises, hmem⟩
  exact (hsame.rd F.CMD_STATUS_BUSY 0 (by decide)).trans (beq_iff_eq.1 hbusy)

end

/-! ### Reads answered (R7, R266) -/

/-- `n` words have gone out, and latches of pairs have changed. -/
def Reads (n : Nat) (s t : State) : Prop :=
  t = { s with latches := t.latches, out := t.out } ∧ t.out.length = s.out.length + n

theorem Reads.trans {m n : Nat} {s t u : State} (h : Reads m s t) (h' : Reads n t u) : Reads (n + m) s u := by
  obtain ⟨hstate, hlen⟩ := h
  obtain ⟨hstate', hlen'⟩ := h'
  refine ⟨?_, by omega⟩
  rw [hstate] at hstate'
  exact hstate'

theorem State.readOn_latches (s : State) (p : Path) (r : Reg) (n : Nat) :
    (s.readOn p r n).2 = { s with latches := (s.readOn p r n).2.latches } := by
  unfold readOn
  split
  · rfl
  split
  · rfl
  unfold readReg
  dsimp only
  split
  · rfl
  · rfl
  · split <;> rfl

theorem State.answerRead_spec (s : State) (p : Path) (r : Reg) (n : Nat) :
    (s.answerRead p r n).out = .word p ((s.readOn p r n).1 % 2 ^ 32) :: s.out ∧ Reads 1 s (s.answerRead p r n) := by
  have hout : (s.readOn p r n).2.out = s.out := by rw [s.readOn_latches]
  have hword : (s.answerRead p r n).out = .word p ((s.readOn p r n).1 % 2 ^ 32) :: s.out := by
    rw [← hout, ← BitVec.toNat_ofNat]
    rfl
  refine ⟨hword, ?_, by rw [hword]; rfl⟩
  unfold answerRead
  dsimp only
  rw [s.readOn_latches]
  rfl

theorem State.reads_foldl (xs : List (Reg × Nat × Nat)) (s : State) :
    Reads xs.length s (xs.foldl (fun s x => s.answerRead .host x.1 x.2.1) s) := by
  induction xs generalizing s with
  | nil => exact ⟨rfl, rfl⟩
  | cons x xs ih => exact (s.answerRead_spec .host x.1 x.2.1).2.trans (ih _)

/-- The reads that waited for one write fewer: those that waited for it alone are answered (R266). -/
theorem State.answerDue_spec (s : State) :
    let t := s.answerDue
    t.host.pendingReads = (s.host.pendingReads.map fun x => (x.1, x.2.1, x.2.2 - 1)).filter (fun x => x.2.2 != 0) ∧
    t.out.length = s.out.length + s.host.pendingReads.countP (fun x => decide (x.2.2 ≤ 1)) ∧
    t = { s with host := { s.host with pendingReads := t.host.pendingReads }, latches := t.latches, out := t.out } := by
  have hcount : ((s.host.pendingReads.map fun x => (x.1, x.2.1, x.2.2 - 1)).filter fun x => x.2.2 == 0).length =
      s.host.pendingReads.countP fun x => decide (x.2.2 ≤ 1) := by
    rw [← List.countP_eq_length_filter, List.countP_map]
    refine List.countP_congr fun x _ => ?_
    simp only [Function.comp_apply, beq_iff_eq, decide_eq_true_eq]
    omega
  obtain ⟨hstate, hlen⟩ := State.reads_foldl
    ((s.host.pendingReads.map fun x => (x.1, x.2.1, x.2.2 - 1)).filter fun x => x.2.2 == 0)
    { s with host := { s.host with
      pendingReads := (s.host.pendingReads.map fun x => (x.1, x.2.1, x.2.2 - 1)).filter fun x => x.2.2 != 0 } }
  refine ⟨?_, by rw [← hcount]; exact hlen, ?_⟩
  · exact congrArg (fun t : State => t.host.pendingReads) hstate
  · exact hstate.trans (by rw [answerDue, hstate])

theorem State.answerDue_none {s : State} (h : s.host.pendingReads = []) : s.answerDue = s := by
  have hs : { s with host := { s.host with pendingReads := [] } } = s := by rw [← h]
  rw [answerDue, h]
  exact hs

/-! ### `BAR0_WRITE_APPLY` (R265, R290) -/

/-- The queue without the write at its head. -/
def State.dequeued (s : State) (rest : List (Reg × Nat × Word)) : State :=
  { s with host := { s.host with writeQueue := rest } }

section

variable {r : Reg} {n : Nat} {v : Word} {rest : List (Reg × Nat × Word)} {s : State}
  (hhead : s.host.writeQueue = (r, n, v) :: rest)

include hhead

theorem exec_bar0WriteApply : exec .bar0WriteApply s = .next
    (if hwHeld r || s.on F.HOST_STATUS_FW_UP 0 then ((s.dequeued rest).applyWrite r n v).answerDue else s) := by
  show execBar0WriteApply s = _
  rw [execBar0WriteApply, hhead]
  exact (apply_ite Host.Outcome.next _ _ _).symm

theorem bar0WriteApply_writes (hserved : hwHeld r = true ∨ s.on F.HOST_STATUS_FW_UP 0 = true) (hne : r ≠ .CMD_GO) :
    exec .bar0WriteApply s = .next ((s.dequeued rest).writeReg .host r n v).answerDue := by
  refine (exec_bar0WriteApply hhead).trans (congrArg _ ((if_pos (Bool.or_eq_true_iff.2 hserved)).trans ?_))
  exact congrArg State.answerDue (if_neg hne)

/-- A `CMD_GO` applied reads its descriptor, as one that was registered (2) or deferred (1). -/
theorem exec_bar0WriteApply_go (hfw : s.on F.HOST_STATUS_FW_UP 0 = true) (hgo : r = .CMD_GO)
    (hreads : s.host.pendingReads = []) (hv : v.getLsbD 0 = true) (hcmd : s.bnd.cmd = some .waiting)
    (hdef : s.rd I.cmdDeferred 0 = 1 ∨ s.rd I.cmdDeferred 0 = 2) : exec .bar0WriteApply s = .next
      (if s.rd I.cmdDeferred 0 = 2 then (s.dequeued rest).readDesc else (s.dequeued rest).startCmd) := by
  have happly : (s.dequeued rest).applyWrite r n v =
      if s.rd I.cmdDeferred 0 = 2 then (s.dequeued rest).readDesc else (s.dequeued rest).startCmd := by
    refine (if_pos hgo).trans ((if_pos ⟨hv, hcmd⟩).trans ?_)
    rcases hdef with h | h
    · exact (if_neg (by rw [show (s.dequeued rest).rd I.cmdDeferred 0 = 1 from h]; decide)).trans
        ((if_pos h).trans (if_neg (by omega)).symm)
    · exact (if_pos h).trans (if_pos h).symm
  refine (exec_bar0WriteApply hhead).trans (congrArg _ ((if_pos (by rw [hfw, Bool.or_true])).trans ?_))
  rw [happly, State.answerDue_none]
  split
  · rw [(s.dequeued rest).readDesc_spec.2.2.1]
    exact hreads
  · rw [(s.dequeued rest).startCmd_spec.2.2.2.2.1]
    exact hreads

theorem bar0WriteApply_go (hfw : s.on F.HOST_STATUS_FW_UP 0 = true) (hgo : r = .CMD_GO)
    (hreads : s.host.pendingReads = []) (hv : v.getLsbD 0 = true) (hcmd : s.bnd.cmd = some .waiting)
    (hdef : s.rd I.cmdDeferred 0 = 1 ∨ s.rd I.cmdDeferred 0 = 2) : Completes .bar0WriteApply s fun t =>
      t.rd I.cmdDeferred 0 = 0 ∧ HostGets s t s.descRead ∧ t.host.writeQueue = rest ∧ t.bnd = s.bnd ∧
      SameMemories s t ∧ SameBut s t [(I.cmdDeferred, 0), (I.cmdPaused, 0)] := by
  refine ⟨_, exec_bar0WriteApply_go hhead hfw hgo hreads hv hcmd hdef, ?_⟩
  split
  · obtain ⟨hd, hgets, hasks⟩ := (s.dequeued rest).readDesc_spec
    refine ⟨hd, HostGets.of_rd hgets rfl rfl, ?_, hasks.bnd, sameMemories_of_memories hasks.memories,
      (s.dequeued rest).readDesc_sameBut.mono (by simp)⟩
    rw [hasks.1]
    rfl
  · obtain ⟨hd, -, hgets, hsame, -⟩ := (s.dequeued rest).startCmd_spec
    obtain ⟨hbnd, hqueue, hmem⟩ := (s.dequeued rest).startCmd_frame
    exact ⟨hd, HostGets.of_rd hgets rfl rfl, hqueue, hbnd, hmem, hsame⟩

end

/-! ### `BAR0_READ` (R266) -/

section

variable {r : Reg} {s : State} (n : Nat) (hreach : s.hostReach = true)

include hreach

theorem exec_bar0Read_now (h : hwHeld r = true ∨ s.reaches .host r = false ∨ s.on F.HOST_STATUS_FW_UP 0 = false ∨
    s.host.writeQueue = []) : exec (.bar0Read r n) s = .next (s.answerRead .host r n) := by
  refine (if_neg (by rw [hreach]; decide)).trans (if_pos ?_)
  simpa only [Bool.not_eq_true', List.isEmpty_iff] using h

/-- A read answered at once answers what its path reads. -/
theorem bar0Read_now (h : hwHeld r = true ∨ s.reaches .host r = false ∨ s.on F.HOST_STATUS_FW_UP 0 = false ∨
    s.host.writeQueue = []) {x : Nat} (hx : (s.readOn .host r n).1 % 2 ^ 32 = x) :
    Completes (.bar0Read r n) s fun t =>
      t.out = .word .host x :: s.out ∧ t = { s with latches := t.latches, out := t.out } := by
  obtain ⟨hout, hstate, -⟩ := s.answerRead_spec .host r n
  exact ⟨_, exec_bar0Read_now n hreach h, hx ▸ hout, hstate⟩

theorem exec_bar0Read_waits (hheld : hwHeld r = false) (hr : s.reaches .host r = true)
    (hfw : s.on F.HOST_STATUS_FW_UP 0 = true) (hq : s.host.writeQueue ≠ []) :
    exec (.bar0Read r n) s = .next { s with host := { s.host with
      pendingReads := s.host.pendingReads ++ [(r, n, s.host.writeQueue.length)] } } := by
  refine (if_neg (by rw [hreach]; decide)).trans (if_neg ?_)
  simp only [hheld, hr, hfw, List.isEmpty_iff, hq, Bool.not_true, Bool.false_eq_true, or_self, not_false_eq_true]

end

theorem State.readOn_unreached {s : State} {p : Path} {r : Reg} (n : Nat) (h : s.reaches p r = false) :
    s.readOn p r n = (0, s) := if_pos (by rw [h]; rfl)

/-- A window that firmware holds reads all ones while it does not serve (R266). -/
theorem State.readOn_unserved {s : State} {r : Reg} (n : Nat) (h : s.reaches .host r = true) (hheld : hwHeld r = false)
    (hfw : s.on F.HOST_STATUS_FW_UP 0 = false) : s.readOn .host r n = (0xFFFFFFFF, s) :=
  (if_neg (by rw [h]; decide)).trans (if_pos ⟨rfl, by rw [hheld]; rfl, by rw [hfw]; rfl⟩)

theorem State.readOn_plain {s : State} {r : Reg} (n : Nat) (h : s.reaches .host r = true)
    (hplain : (regDesc r).half = .plain) (hserved : hwHeld r = true ∨ s.on F.HOST_STATUS_FW_UP 0 = true) :
    s.readOn .host r n = (s.regWord .host r n, s) := by
  rw [State.readOn_of_served n h (.inr hserved)]
  unfold readReg
  rw [hplain]

end Sys2Proof.Machine

namespace Sys2Proof.Machine
/-! PROOFS. Bad requests and failed reads of the host, and O38. -/

/-! ### `BAR_BAD_ACCESS` and `HOST_BAD_REQUEST` (R263, R282) -/

theorem exec_badAccess_unreached {s : State} (h : s.hostReach = false) (write : Bool) (k : BadRequest) :
    exec (.barBadAccess write) s = .next s ∧ exec (.hostBadRequest k) s = .next s :=
  ⟨if_pos (by rw [h]; rfl), if_pos (by rw [h]; rfl)⟩

theorem exec_barBadAccess {s : State} (h : s.hostReach = true) (write : Bool) :
    exec (.barBadAccess write) s = .next (if write then (s.bump F.HOST_ERR_CA 0).classC 263 0
      else ((s.bump F.HOST_ERR_CA 0).classC 263 0).send (.noData .host "completer abort")) :=
  if_neg (by rw [h]; decide)

theorem barBadAccess_spec {s : State} (h : s.hostReach = true) (write : Bool) :
    Completes (.barBadAccess write) s fun t =>
      Rises s t F.HOST_ERR_CA 0 1 ∧ Rises s t F.FAULT_CLASSC_COUNT 0 1 ∧
      t.out = (if write then s.out else .noData .host "completer abort" :: s.out) ∧ SameMemories s t ∧
      SameButFields s t (F.HOST_ERR_CA :: classCFields) := by
  obtain ⟨hca, hcount, -, hout, -, hmem, hsame⟩ := s.bump_classC_spec (f := F.HOST_ERR_CA) 0 263 0 (by decide)
  refine ⟨_, exec_barBadAccess h write, ?_⟩
  cases write with
  | true => exact ⟨hca, hcount, hout, hmem, hsame⟩
  | false => exact ⟨hca, hcount, congrArg _ hout, hmem, hsame⟩

/-- A bad request's counter and rule (R257, R279, R282). -/
def badRequestFault : BadRequest → Fld × Nat
  | .poisonedWrite => (F.HOST_ERR_POISON_IN, 282)
  | .doeError _ => (F.HOST_ERR_UR, 279)
  | _ => (F.HOST_ERR_UR, 282)

theorem badRequestFault_of_ne {k : BadRequest} (h : k ≠ .poisonedWrite) : (badRequestFault k).1 = F.HOST_ERR_UR := by
  cases k with
  | poisonedWrite => exact absurd rfl h
  | _ => rfl

theorem badRequestFault_id (k : BadRequest) : (badRequestFault k).1.id = F.HOST_ERR_POISON_IN.id ∨
    (badRequestFault k).1.id = F.HOST_ERR_UR.id := by
  by_cases h : k = .poisonedWrite
  · subst h
    exact .inl rfl
  · exact .inr (by rw [badRequestFault_of_ne h])

/-- A bad request counted, with its class C fault. -/
def State.countBadRequest (s : State) (k : BadRequest) : State := (s.bump (badRequestFault k).1 0).classC (badRequestFault k).2 0

theorem exec_hostBadRequest {s : State} (h : s.hostReach = true) (k : BadRequest) :
    exec (.hostBadRequest k) s = .next (match k with
      | .unsupportedNonPosted | .unadvertised => (s.countBadRequest k).send (.noData .host "unsupported request")
      | .doeError inst => (s.countBadRequest k).wr I.doeError inst.val 1
      | _ => s.countBadRequest k) := by
  refine (if_neg (by rw [h]; decide)).trans ?_
  cases k <;> rfl

theorem State.countBadRequest_spec (s : State) (k : BadRequest) :
    let t := s.countBadRequest k
    (if k = .poisonedWrite then Rises s t F.HOST_ERR_POISON_IN 0 1 else Rises s t F.HOST_ERR_UR 0 1) ∧
    Rises s t F.FAULT_CLASSC_COUNT 0 1 ∧ t.out = s.out ∧ SameMemories s t ∧
    SameButFields s t (F.HOST_ERR_POISON_IN :: F.HOST_ERR_UR :: classCFields) := by
  intro t
  have hfld : ∀ x ∈ classCFields, (badRequestFault k).1.id ≠ x.id := by
    rcases badRequestFault_id k with h | h <;> rw [h] <;> decide
  obtain ⟨hrises, hcount, -, hout, -, hmem, hsame⟩ := s.bump_classC_spec (f := (badRequestFault k).1) 0 (badRequestFault k).2 0 hfld
  refine ⟨?_, hcount, hout, hmem, hsame.mono ?_⟩
  · split
    · next hk =>
      subst hk
      exact hrises
    · next hk =>
      have : (badRequestFault k).1 = F.HOST_ERR_UR := badRequestFault_of_ne hk
      exact this ▸ hrises
  · intro x hx
    obtain rfl | hx := List.mem_cons.1 hx
    · by_cases hk : k = .poisonedWrite
      · subst hk
        exact List.mem_cons_self
      · rw [badRequestFault_of_ne hk]
        exact List.mem_cons_of_mem _ List.mem_cons_self
    · exact List.mem_cons_of_mem _ (List.mem_cons_of_mem _ hx)

theorem hostBadRequest_spec {s : State} (h : s.hostReach = true) (k : BadRequest) :
    Completes (.hostBadRequest k) s fun t =>
      (if k = .poisonedWrite then Rises s t F.HOST_ERR_POISON_IN 0 1 else Rises s t F.HOST_ERR_UR 0 1) ∧
      Rises s t F.FAULT_CLASSC_COUNT 0 1 ∧
      t.out = (if k = .unsupportedNonPosted ∨ k = .unadvertised
        then .noData .host "unsupported request" :: s.out else s.out) ∧ SameMemories s t ∧
      (∀ i : Fin 2, t.rd I.doeError i = if k = .doeError i then 1 else s.rd I.doeError i) ∧
      SameButFields s t (F.HOST_ERR_POISON_IN :: F.HOST_ERR_UR :: I.doeError :: classCFields) := by
  obtain ⟨hrises, hcount, hout, hmem, hsame⟩ := s.countBadRequest_spec k
  have hfields : SameButFields s (s.countBadRequest k)
      (F.HOST_ERR_POISON_IN :: F.HOST_ERR_UR :: I.doeError :: classCFields) :=
    hsame.mono fun x hx => by simp only [List.mem_cons] at hx ⊢; tauto
  have hdoe (i : Nat) : (s.countBadRequest k).rd I.doeError i = s.rd I.doeError i := hsame.rd _ i (by decide)
  refine ⟨_, exec_hostBadRequest h k, ?_⟩
  cases k with
  | unsupportedNonPosted =>
    exact ⟨hrises, hcount, congrArg _ hout, hmem, fun i => (hdoe i).trans (if_neg (by simp)).symm, hfields⟩
  | unadvertised =>
    exact ⟨hrises, hcount, congrArg _ hout, hmem, fun i => (hdoe i).trans (if_neg (by simp)).symm, hfields⟩
  | unsupportedPosted =>
    exact ⟨hrises, hcount, hout, hmem, fun i => (hdoe i).trans (if_neg (by simp)).symm, hfields⟩
  | poisonedWrite =>
    exact ⟨hrises, hcount, hout, hmem, fun i => (hdoe i).trans (if_neg (by simp)).symm, hfields⟩
  | doeError inst =>
    refine ⟨?_, ?_, hout, hmem, fun i => ?_, hfields.wr _ _ _ (by simp)⟩
    · exact (State.rd_wr_id _ _ _ _ (by decide)).trans hrises
    · exact (State.rd_wr_id _ _ _ _ (by decide)).trans hcount
    · by_cases hi : inst = i
      · subst hi
        exact (State.rd_wr_same ..).trans (if_pos rfl).symm
      · rw [if_neg (by simpa using hi), ← hdoe i]
        exact State.rd_wr_ix _ _ (by omega) (by omega) fun he => hi (Fin.ext he)

/-! ### Failed reads of the host (R283) -/

/-- Registers that count a failed read. -/
def readFailFields : List Fld := F.HOST_ERR_POISON_IN :: F.HOST_ERR_TIMEOUTS :: classCFields

/-- What the count of a failed read changes beside registers: the steward's queues. -/
def CountsOnly (s t : State) : Prop :=
  t = { s with regs := t.regs, stw := { s.stw with
    classC := t.stw.classC, records := t.stw.records, flashOps := t.stw.flashOps } } ∧
  SameButFields s t readFailFields

theorem State.countRead_spec (s : State) (how : ReadFail) :
    ReadFailCounted s (s.countRead how) how ∧ CountsOnly s (s.countRead how) := by
  have hbump : SameButFields s (s.bump F.HOST_ERR_TIMEOUTS 0) readFailFields :=
    sameButFields_wr s _ _ _ (by simp [readFailFields])
  cases how with
  | poison => exact ⟨s.rises_bump _ _, rfl, sameButFields_wr s _ _ _ (by simp [readFailFields])⟩
  | protocol =>
    obtain ⟨hrises, -, -, -, -, -, hsame⟩ := s.bump_classC_spec (f := F.HOST_ERR_TIMEOUTS) 0 282 0 (by decide)
    refine ⟨hrises, ?_, hsame.mono fun x hx => List.mem_cons_of_mem _ hx⟩
    show (s.bump F.HOST_ERR_TIMEOUTS 0).classC 282 0 = _
    exact (State.classC_eq (s.bump F.HOST_ERR_TIMEOUTS 0) 282 0)
  | error => exact ⟨s.rises_bump _ _, rfl, hbump⟩
  | timeout => exact ⟨s.rises_bump _ _, rfl, hbump⟩

section

variable {s t : State} (h : CountsOnly s t)

include h

theorem CountsOnly.rd (f : Fld) (i : Nat) (hf : ∀ x ∈ readFailFields, f.id ≠ x.id) : t.rd f i = s.rd f i :=
  h.2.rd f i hf

theorem CountsOnly.bnd : t.bnd = s.bnd := by rw [h.1]

theorem CountsOnly.hbm : t.hbm = s.hbm := by rw [h.1]

theorem CountsOnly.fw : t.fw = s.fw := by rw [h.1]

theorem CountsOnly.memories : t.memories = s.memories := by
  rw [h.1]
  rfl

end

/-- What has happened since leaves the counters of failed reads alone. -/
theorem ReadFailCounted.keeps {s u t : State} {how : ReadFail} (h : ReadFailCounted s u how)
    (hpoison : t.rd F.HOST_ERR_POISON_IN 0 = u.rd F.HOST_ERR_POISON_IN 0)
    (htime : t.rd F.HOST_ERR_TIMEOUTS 0 = u.rd F.HOST_ERR_TIMEOUTS 0) : ReadFailCounted s t how := by
  unfold ReadFailCounted Rises at h ⊢
  rwa [hpoison, htime]

theorem ReadFailCounted.keeps_of_fields {s u t : State} {how : ReadFail} {l : List Fld} (h : ReadFailCounted s u how)
    (hsame : SameButFields u t l) (hl : ∀ x ∈ l, F.HOST_ERR_POISON_IN.id ≠ x.id ∧ F.HOST_ERR_TIMEOUTS.id ≠ x.id) :
    ReadFailCounted s t how :=
  ReadFailCounted.keeps h (hsame.rd _ _ fun x hx => (hl x hx).1) (hsame.rd _ _ fun x hx => (hl x hx).2)

/-! ### A failed payload -/

theorem hostReadFail_payload {how : ReadFail} {c : CtxIx} {s : State} {f : Frame}
    (h : s.firstAt c.val (fun f => f.stage == .payload) = some f) :
    Completes (.hostReadFail how (.payload c)) s fun t =>
      ReadFailCounted s t how ∧ FrameEnded t f ∧ SameMemories s t := by
  obtain ⟨hcounted, honly⟩ := s.countRead_spec how
  refine ⟨(s.countRead how).endFrame f 0x0A, ?_, ?_, State.endFrame_frameEnded _ (f.same_self) _,
    State.endFrame_sameMemories honly.memories f _⟩
  · show execHostReadFail how (.payload c) s = _
    simp only [execHostReadFail, h]
  · exact ReadFailCounted.keeps_of_fields hcounted (State.endFrame_frame _ f _) (by decide)

theorem exec_hostReadFail_payload_none {how : ReadFail} {c : CtxIx} {s : State}
    (h : s.firstAt c.val (fun f => f.stage == .payload) = none) :
    exec (.hostReadFail how (.payload c)) s = .next s := by
  show execHostReadFail how (.payload c) s = _
  simp only [execHostReadFail, h]

/-! ### A failed descriptor, and a failed bundle -/

/-- A command that ends after the count of a failed read, its owners and the count of failed tags aside. -/
theorem endCmd_counted {s u v : State} {reason : Nat} (hc : s.bnd.toClose = []) (hu : CountsOnly s u)
    (hv : v = { u with regs := v.regs, bnd := { u.bnd with owners := v.bnd.owners } })
    (hregs : SameButFields u v [F.SEC_AUTH_CMD_FAILS]) (hr : reason < 256) :
    EndsWith s (v.endCmd reason) reason ∧ (v.endCmd reason).hbm = s.hbm ∧ SameMemories s (v.endCmd reason) := by
  have hc' : v.bnd.toClose = [] := by
    rw [hv]
    show u.bnd.toClose = []
    rw [hu.bnd, hc]
  have hmem : v.memories = s.memories := by
    rw [hv]
    exact hu.memories
  refine ⟨EndsWith.of_rd (State.endCmd_endsWith hc' hr) ?_ ?_, ?_, State.endCmd_sameMemories hc' hmem reason⟩
  · exact (hregs.rd _ _ (by decide)).trans (hu.rd _ _ (by decide))
  · exact (hregs.rd _ _ (by decide)).trans (hu.rd _ _ (by decide))
  · rw [(State.endCmd_taken hc' reason).keepsBytes.2.1, hv]
    exact hu.hbm

theorem hostReadFail_descriptor {how : ReadFail} {s : State} (hready : s.ready = true) (hc : s.bnd.toClose = []) :
    Completes (.hostReadFail how .descriptor) s fun t =>
      ReadFailCounted s t how ∧ EndsWith s t 0x01 ∧ SameMemories s t := by
  obtain ⟨hcounted, honly⟩ := s.countRead_spec how
  obtain ⟨hends, -, hmem⟩ := endCmd_counted (v := s.countRead how) (reason := 0x01) hc honly rfl (.refl _ _) (by decide)
  have hc' : (s.countRead how).bnd.toClose = [] := by rw [honly.bnd, hc]
  refine ⟨_, if_pos hready, ?_, hends, hmem⟩
  exact ReadFailCounted.keeps hcounted (State.rd_endCmd hc' _ _ _ (by decide)) (State.rd_endCmd hc' _ _ _ (by decide))

theorem State.ready_countRead (s : State) (how : ReadFail) : (s.countRead how).ready = s.ready := by
  obtain ⟨-, honly⟩ := s.countRead_spec how
  unfold ready on
  rw [honly.bnd, honly.rd _ _ (by decide), honly.rd _ _ (by decide)]

/-- The bundle's read has failed: the command ends with what its checks find, else with `AUTH` (R174, R283). -/
theorem hostReadFail_bundle {how : ReadFail} {s : State} (hready : s.ready = true) (hc : s.bnd.toClose = [])
    (desc : Unit64) (tagOk : Bool) : Completes (.hostReadFail how (.bundle desc tagOk)) s fun t =>
      EndsWith s t (if (Desc.of desc).ownerOk && (Desc.of desc).groupOk then 0x02 else 0x01) ∧ t.hbm = s.hbm ∧
      SameMemories s t := by
  set u := s.countRead how with hu
  obtain ⟨-, honly⟩ := s.countRead_spec how
  have hready' : u.ready = true := (s.ready_countRead how).trans hready
  have hexec : exec (.hostReadFail how (.bundle desc tagOk)) s = .next (u.command desc tagOk
      ((Desc.of desc).ownerOk && (Desc.of desc).groupOk) false fun _ s => s.endCmd 0x02) := if_pos hready
  cases hok : (Desc.of desc).ownerOk && (Desc.of desc).groupOk with
  | false =>
    rw [hok, State.command_bad hready'] at hexec
    have hj := u.judged_eq (Desc.of desc) tagOk
    exact ⟨_, hexec, endCmd_counted hc honly (by rw [hj]) (.of_regs (by rw [hj]) _) (by decide)⟩
  | true =>
    rw [hok] at hexec
    cases hauth : u.authentic (Desc.of desc) tagOk with
    | false =>
      rw [State.command_unauthentic hready' hauth] at hexec
      exact ⟨_, hexec, endCmd_counted hc honly rfl (sameButFields_wr u _ _ _ List.mem_cons_self) (by decide)⟩
    | true =>
      have hcmd : u.command desc tagOk true false (fun _ s => s.endCmd 0x02) =
          (u.acceptSeq (Desc.of desc)).endCmd 0x02 := by
        simp only [State.command, hready', hauth, if_true, Bool.not_true, Bool.false_eq_true, if_false, Bool.false_and]
      have ha := u.acceptSeq_eq (Desc.of desc)
      rw [hcmd] at hexec
      exact ⟨_, hexec, endCmd_counted hc honly (by rw [ha]) (.of_regs (by rw [ha]) _) (by decide)⟩

/-! ### A failed entry -/

/-- A failed entry read of an open spool that is not stopped: counted, or the third stops the spool (R283). -/
theorem State.entryFailed_spec {s : State} {sp : Nat} (hopen : s.on F.SPOOL_SIZE_OPEN sp = true)
    (hstopped : (s.spool sp).stopped = false) :
    let t := s.entryFailed sp
    t.spool sp = (if (s.spool sp).fails < 2 then { s.spool sp with fails := (s.spool sp).fails + 1 }
      else { s.spool sp with fails := 0, stopped := true }) ∧
    (∀ j ≠ sp, t.spool j = s.spool j) ∧ t.memories = s.memories ∧ SameButFields s t eventFields := by
  intro t
  have ht : t = if (s.spool sp).fails < 2 then s.setSpool sp { s.spool sp with fails := (s.spool sp).fails + 1 }
      else (s.setSpool sp { s.spool sp with fails := 0, stopped := true }).event 8 (le 2 sp) :=
    if_neg (by simp [hstopped, hopen])
  rw [ht]
  split
  · exact ⟨s.spool_setSpool_same .., fun j hj => s.spool_setSpool_other _ hj, rfl, .of_regs rfl _⟩
  · set u := s.setSpool sp { s.spool sp with fails := 0, stopped := true }
    have hbnd : (u.event 8 (le 2 sp)).bnd = u.bnd := by rw [u.event_eq]
    refine ⟨?_, fun j hj => ?_, u.memories_event .., SameButFields.trans (t := u) (.of_regs rfl _) (u.event_frame 8 (le 2 sp))⟩
    · rw [State.spool, hbnd]
      exact s.spool_setSpool_same ..
    · rw [State.spool, hbnd]
      exact s.spool_setSpool_other _ hj

theorem hostReadFail_entry {how : ReadFail} {sp : SpoolIx} {s : State} (h : s.canTake sp.val = true) :
    Completes (.hostReadFail how (.entry sp)) s fun t =>
      ReadFailCounted s t how ∧ (∀ j ≠ sp.val, t.spool j = s.spool j) ∧ SameMemories s t ∧
      t.spool sp.val = (if (s.spool sp.val).fails < 2
        then { s.spool sp.val with fails := (s.spool sp.val).fails + 1 }
        else { s.spool sp.val with fails := 0, stopped := true }) := by
  obtain ⟨hcounted, honly⟩ := s.countRead_spec how
  have hspool (j : Nat) : (s.countRead how).spool j = s.spool j := State.spool_congr (by rw [honly.bnd]) j
  obtain ⟨hopen, hstopped⟩ : s.on F.SPOOL_SIZE_OPEN sp.val = true ∧ (s.spool sp.val).stopped = false := by
    simp only [State.canTake, Bool.and_eq_true, Bool.not_eq_true'] at h
    exact ⟨h.1.1.1.1, h.1.1.2⟩
  obtain ⟨hat, hother, hmem, hsame⟩ := State.entryFailed_spec (s := s.countRead how) (sp := sp.val)
    (by rw [State.on, honly.rd _ _ (by decide)]; exact hopen) (by rw [hspool]; exact hstopped)
  refine ⟨_, if_pos h, ReadFailCounted.keeps_of_fields hcounted hsame (by decide), fun j hj => ?_,
    sameMemories_of_memories (hmem.trans honly.memories), ?_⟩
  · rw [hother j hj, hspool]
  · rw [hat, hspool]

/-! ### A failed firmware image -/

/-- The image is not read any further: the load is refused, or the stage ends (R283, R297, R308). -/
theorem State.imageReadFailed_spec {s : State} (h : s.fw.reading ≠ none) :
    let t := s.imageReadFailed
    t.fw.reading = none ∧ t.rd F.FW_RESULT_REASON 0 = 9 ∧
    (s.fw.reading = some false → t.rd F.FW_STATE_STATE 0 = 6) ∧ t.memories = s.memories ∧
    SameButFields s t [F.FW_STATE_STATE, F.FW_RESULT_REASON] := by
  intro t
  obtain ⟨stage, hstage⟩ := Option.ne_none_iff_exists'.1 h
  cases stage with
  | false =>
    set u : State := { s with fw := { s.fw with reading := none, slotA := none } }
    have ht : t = (u.wr F.FW_STATE_STATE 0 6).wr F.FW_RESULT_REASON 0 9 := by
      simp only [t, imageReadFailed, hstage, refuseLoad, u]
    rw [ht]
    refine ⟨rfl, State.rd_wr_same .., fun _ => ?_, rfl, ?_⟩
    · exact (State.rd_wr_id _ _ _ _ (by decide)).trans (State.rd_wr_same ..)
    · exact SameButFields.wr (sameButFields_wr u _ _ _ (by simp)) _ _ _ (by simp)
  | true =>
    set u : State := { s with fw := { s.fw with reading := none } }
    have ht : t = u.wr F.FW_RESULT_REASON 0 9 := by
      simp only [t, imageReadFailed, hstage, u]
    rw [ht]
    refine ⟨rfl, State.rd_wr_same .., fun hfalse => absurd (hstage.symm.trans hfalse) (by decide), rfl, ?_⟩
    exact sameButFields_wr u _ _ _ (by simp)

theorem hostReadFail_image {how : ReadFail} {s : State} (h : s.fw.reading ≠ none) :
    Completes (.hostReadFail how .fwImage) s fun t =>
      ReadFailCounted s t how ∧ t.fw.reading = none ∧ t.rd F.FW_RESULT_REASON 0 = 9 ∧
      (s.fw.reading = some false → t.rd F.FW_STATE_STATE 0 = 6) ∧ SameMemories s t := by
  obtain ⟨hcounted, honly⟩ := s.countRead_spec how
  obtain ⟨hreading, hreason, hstate, hmem, hsame⟩ :=
    State.imageReadFailed_spec (s := s.countRead how) (by rw [honly.fw]; exact h)
  rw [honly.fw] at hstate
  exact ⟨_, if_pos (Option.isSome_iff_ne_none.2 h), ReadFailCounted.keeps_of_fields hcounted hsame (by decide), hreading,
    hreason, hstate, sameMemories_of_memories (hmem.trans honly.memories)⟩

/-! ### `BAR0_READ_TIMEOUT` (R289) -/

theorem bar0ReadTimeout_spec {s : State} {x : Reg × Nat × Nat} {rest : List (Reg × Nat × Nat)}
    (h : s.host.pendingReads = x :: rest) : Completes .bar0ReadTimeout s fun t =>
      t.host = { s.host with pendingReads := rest } ∧ t.out = .word .host (2 ^ 32 - 1) :: s.out ∧
      Rises s t F.FW_RESTARTS_READ_TIMEOUTS 0 1 ∧ SameMemories s t ∧ SameBut s t [(F.FW_RESTARTS_READ_TIMEOUTS, 0)] := by
  set u : State := { s with host := { s.host with pendingReads := rest } }
  refine ⟨(u.bump F.FW_RESTARTS_READ_TIMEOUTS 0).send (.word .host 0xFFFFFFFF), ?_, rfl, rfl, u.rises_bump _ _,
    SameMemories.refl s, sameBut_wr u _ _ _ List.mem_cons_self⟩
  show execBar0ReadTimeout s = _
  rw [execBar0ReadTimeout, h]

theorem exec_bar0ReadTimeout_none {s : State} (h : s.host.pendingReads = []) : exec .bar0ReadTimeout s = .next s := by
  show execBar0ReadTimeout s = _
  rw [execBar0ReadTimeout, h]

/-! ### The obligation -/

/-- Settles O38: writes queue and are applied (`bar0WriteApply_writes`, `bar0WriteApply_go`), reads are answered or
wait (`bar0Read_now`, `exec_bar0Read_waits`), and what fails is counted (`State.countRead_spec`) and ends its user. -/
theorem hostWindowIsQueuedAndServed : Obligations.HostWindowIsQueuedAndServed := by
  unfold Obligations.HostWindowIsQueuedAndServed
  refine ⟨fun r n v s => ⟨exec_bar0Write_unreached, fun hr => ⟨fun hq => ?_, fun hq hgo => ?_, fun hq hgo hbusy => ?_,
    fun hq hgo hbusy => ?_⟩, fun rest hhead => ⟨fun hheld hfw => ?_, fun hserved => ⟨fun hne => ?_, ?_⟩⟩,
    fun hq => ?_, fun h => if_pos (by rw [h]; rfl), fun hreach => ⟨fun hr => ?_, fun ⟨hheld, hr⟩ hfw => ?_,
    fun hr hplain hserved => ?_, fun ⟨hheld, hr⟩ hfw hq => ?_⟩⟩,
    fun write k s => ⟨exec_bar0ReadTimeout_none, fun x rest => bar0ReadTimeout_spec,
      fun h => exec_badAccess_unreached h write k, fun h => ⟨barBadAccess_spec h write, hostBadRequest_spec h k⟩⟩,
    fun how s => ⟨fun c => ?_, fun desc ok h => ⟨if_neg (by rw [h]; decide), if_neg (by rw [h]; decide)⟩,
      fun hready hc => ⟨hostReadFail_descriptor hready hc, hostReadFail_bundle hready hc⟩,
      fun sp => ⟨fun h => if_neg (by rw [h]; decide), hostReadFail_entry⟩,
      fun h => if_neg (by rw [h]; decide), hostReadFail_image⟩⟩
  · obtain ⟨hdrops, hcount, hbnd, -, hhost, hmem, -⟩ :=
      s.bump_classC_spec (f := F.HOST_STATUS_WQ_DROPS) 0 265 0 (by decide)
    exact ⟨_, exec_bar0Write_full hr hq, hdrops, hcount, hhost, hbnd, hmem⟩
  · exact ⟨_, exec_bar0Write_plain hr hq hgo, rfl⟩
  · exact bar0Write_go_idle hr hq hgo hbusy
  · exact bar0Write_go_busy hr hq hgo hbusy
  · exact (exec_bar0WriteApply hhead).trans (congrArg _ (if_neg (by rw [hheld, hfw]; decide)))
  · exact ⟨_, rfl, _, bar0WriteApply_writes hhead hserved hne, State.answerDue_spec _⟩
  · intro hgo hreads hv hcmd hdef
    have hheld : ¬ hwHeld r = true := by rw [hgo]; decide
    exact bar0WriteApply_go hhead (hserved.resolve_left hheld) hgo hreads hv hcmd hdef
  · show execBar0WriteApply s = _
    rw [execBar0WriteApply, hq]
  · exact bar0Read_now n hreach (.inr (.inl hr)) (by rw [State.readOn_unreached n hr]; rfl)
  · exact bar0Read_now n hreach (.inr (.inr (.inl hfw))) (by rw [State.readOn_unserved n hr hheld hfw]; rfl)
  · refine bar0Read_now n hreach ?_ (by rw [State.readOn_plain n hr hplain (hserved.imp_right And.left)])
    exact hserved.imp_right fun h => .inr (.inr h.2)
  · exact ⟨_, exec_bar0Read_waits n hreach hheld hr hfw hq, rfl⟩
  · split
    · next f hf => exact hostReadFail_payload hf
    · next hnone => exact exec_hostReadFail_payload_none hnone

end Sys2Proof.Machine
